-- ==== Sys2Proof/Word.lean ====
section
/-! DEFINITION. The widths of what the links carry (Section 12.8 of the spec). -/

namespace Sys2Proof

/-- A byte of a frame. -/
abbrev Byte := BitVec 8

/-- A two-byte field of a frame, and a reported quantity (4.3). -/
abbrev Half := BitVec 16

/-- A four-byte field of a frame. -/
abbrev Quad := BitVec 32

/-- The serial of a tool node (R110, R128). -/
abbrev Serial := BitVec 32

/-- A tool line address, 0 (the master) to 15 (unassigned) (R110). -/
abbrev Addr := BitVec 4

end Sys2Proof
end

