-- ==== Sys2Proof/Syntax.lean ====
section
/-! DEFINITION. The commands of the block: one constructor for each row of the table, with the
operands its rule says the event brings. Enumerations and indices that a host request carries stand
here as the raw byte of the frame, because refusing an unknown one is part of the request's effect. -/

namespace Sys2Proof

/-- The tool slots of the Arbiter's table (R27). -/
inductive ToolSlot
  | head | lamp | aux
deriving DecidableEq, Repr

/-- The coarse class read from the idle level of DSIG (R143). -/
inductive CoarseClass
  | low | mid | high
deriving DecidableEq, Repr

/-- What one measurement round reads (R2, R3): raw cell taps 1 to 7, the pack shunt in mA, the tool
supply current in mA, three raw thermistors and the die temperature in °C. -/
structure Readings where
  taps  : Vector (BitVec 12) 7
  shunt : Int
  tool  : Nat
  th1   : BitVec 12
  th2   : BitVec 12
  th3   : BitVec 12
  die   : Int
deriving DecidableEq, Repr

/-- An offer as a dock frame carries it: voltage in mV and maximum current in mA (R194). -/
structure OfferFields where
  volts : Half
  amps  : Half
deriving DecidableEq, Repr

/-- The payload of PROFILE_WRITE (R63). -/
structure ProfileFields where
  enabled    : Bool
  selectable : Bool
  hard       : Half
  carpet     : Half
  floor      : Half
  auto       : Bool
  gain       : Byte
  brush      : Byte
  ramp       : Byte
deriving DecidableEq, Repr

/-- The payload of DIRT_CONFIG with settings (R107). -/
structure DirtFields where
  large    : Half
  t1       : Half
  t2       : Half
  t3       : Half
  capacity : Quad
  fullPct  : Byte
deriving DecidableEq, Repr

/-- The readings of PZI that come with the end of an impact: its peak in mV, and whether it was in progress when a
window was discarded (R96; log entry 66). -/
structure Impact where
  amplitude : Nat
  crossed   : Bool
deriving DecidableEq, Repr

/-- The payload of TOOL_LOAD (R135). -/
structure ToolFields where
  serial   : Serial
  kind     : Byte
  airflow  : Byte
  s1       : Half
  s2       : Half
  s3       : Half
  s4       : Half
  brush    : Half
  floor    : Half
  yielding : Bool
  lamp     : Half
  pinned   : Bool
deriving DecidableEq, Repr

/-- The payload of WATCH_SET after the index (R178). -/
structure WatchFields where
  quantity  : Byte
  threshold : Half
  conds     : Byte
  n         : Byte
  mode      : Byte
  action    : Byte
  p         : Byte
deriving DecidableEq, Repr

/-- The commands. The first operand of a host request is its tag (R183). -/
inductive Instr
  /- resets -/
  | powerOnReset
  | lineResetEnd
  /- pack and allotment -/
  | packRound (r : Readings)
  | ocvCorrection
  | cutoffDeclare
  | shutdownEntry
  | toolOvercurrent
  | settleDeadlineExpiry (slot : ToolSlot)
  | offerDeadlineExpiry (slot : ToolSlot)
  | toolHoldoffExpiry
  /- motor drive -/
  | trigEdge (pressed : Bool)
  | triggerDebounceExpiry
  | armingTimerExpiry
  | gateTestFail
  | alignTimerExpiry
  | spinupLock
  | startFail
  | commutation (crossing : Bool) (power current : Nat)
  | motorOvercurrent
  | stallTimerExpiry
  | syncMiss
  | rotorAtRest
  | coastTimerExpiry
  | faultTimerExpiry
  /- governor, load monitor and dirt monitor -/
  | governorStep (current period : Nat)
  | pulseTimerExpiry
  | waitTimerExpiry
  | piezoEcho
  | echoTimerExpiry
  | impactEnd (impact : Impact)
  | windowEnd
  /- tool line -/
  | toolMasterSend
  | arbitrationLoss
  | masterLossLimit
  | announce (sender : Addr) (serial : Serial) (descs : List Byte)
  | status (sender : Addr) (brush : Half) (floor : BitVec 2) (jam lamp fault : Bool)
  | ack (sender : Addr) (seq limit : Byte)
  | notice (sender : Addr) (jam : Bool) (floor : BitVec 2)
  | replyWindowClose
  | pollTimerExpiry (addr : Addr)
  | quarantineExpiry (addr : Addr)
  /- dock -/
  | chginRise
  | chginDrop
  | attachDebounceDone (level : CoarseClass)
  | detach
  | dockRequestSend
  | dockCollision
  | dockDeadlineExpiry
  | dockIdent (kind support count : Byte)
  | dockOffers (offers : List OfferFields)
  | dockAccept
  | dockReady
  | dockReject (reason : Byte)
  | dockWait (ms : Half)
  | offersChanged (offers : List OfferFields)
  | evacStatus (status reason : Byte)
  | evacCompletionExpiry
  | chargeCheck (chgin : Nat)
  | prechargeTimeout
  | totalTimeout
  /- host link -/
  | hostByteReceived (b : Byte) (stopBit : Bool)
  | hostByteGap
  | replySent
  | softReset
  | fenceTimeout
  | ident (tag : Byte)
  | eventsRead (tag : Byte)
  | eventMask (tag : Byte) (mask : Option Quad)
  | fence (tag : Byte)
  | ready (tag : Byte)
  | reset (tag : Byte)
  /- requests of the blocks -/
  | packConfig (tag : Byte) (count : Byte) (capacity inom : Half)
  | ocvTable (tag : Byte) (points : List Half)
  | packRead (tag : Byte)
  | gaugeSet (tag : Byte) (soc : Half)
  | sleep (tag : Byte)
  | reserveSet (tag : Byte) (ma : Half)
  | allotRead (tag : Byte)
  | profileWrite (tag : Byte) (index : Byte) (f : ProfileFields)
  | profileRead (tag : Byte) (index : Byte)
  | profileLock (tag : Byte) (index : Byte)
  | modeSet (tag : Byte) (index : Byte)
  | modePush (tag : Byte) (index : Byte)
  | modePop (tag : Byte)
  | motorRead (tag : Byte)
  | faultClear (tag : Byte)
  | blockConfig (tag : Byte) (settings : Option (Byte × Half))
  | dirtConfig (tag : Byte) (settings : Option DirtFields)
  | dirtRead (tag : Byte)
  | binReset (tag : Byte)
  | toolLoad (tag : Byte) (f : ToolFields)
  | toolDrop (tag : Byte) (serial : Serial)
  | toolRead (tag : Byte) (index : Byte)
  | toolMissRead (tag : Byte)
  | toolList (tag : Byte)
  | chargeConfig (tag : Byte) (settings : Option (Half × Half × Byte))
  | chargeRead (tag : Byte)
  | dockRead (tag : Byte)
  | chargeForceDisable (tag : Byte)
  | chargeForceEnable (tag : Byte)
  | chargeForceRecover (tag : Byte)
  | chargeForceRenegotiate (tag : Byte)
  | evacConfig (tag : Byte) (settings : Option (Byte × Byte))
  | evacStart (tag : Byte) (duration : Byte)
  | watchSet (tag : Byte) (index : Byte) (f : WatchFields)
  | watchArmArm (tag : Byte) (index : Byte)
  | watchArmDisarm (tag : Byte) (index : Byte)
  | watchRead (tag : Byte) (index : Byte)
  | watchClear (tag : Byte) (index : Byte)
  /- events added at the end of the table -/
  | lossOfBackEmfLock
  | openLoopRampStep
  | dockRequestLastByte
  | dockCollisionResend
  | toolMasterFrameEnd
deriving DecidableEq, Repr

end Sys2Proof
end

