-- ==== Sys2Proof/Decode.lean ====
section
/-! DEFINITION. The command a table word spells. No row of spec/opcode_table.json gives bits, so no word
spells a command; the frames of the links are read in Machine/HostOps.lean and Machine/Wire.lean. -/

namespace Sys2Proof

/-- The command of a word in the table's bits: none. -/
def decodeTableWord (_nbits _w : Nat) : Option Instr := none

end Sys2Proof
end

