-- ==== Sys2Proof/Config.lean ====
section
/-! DEFINITION. What the spec leaves open and the part fixes: free values without a body, so that a
claim about the model is true whatever they are. -/

namespace Sys2Proof

/-- The revision letter of the IDENT reply, counted from A (R191: "one capital letter"). Log entry 11. -/
opaque Config.revision : Fin 26

/-- Whether PACK is the cause taken first when a cut-off's own stop order and the governor's STARVED
order arrive together (R51: "either may be taken first"), at each use of the counter. Log entry 7. -/
opaque Config.packStopFirst : Nat → Bool

/-- V_pack that a block reads while there is no pack record and the spec names no value. Log entry 9. -/
opaque Config.earlyVpack : Nat

/-- V_min read while there is no pack record. Log entry 9. -/
opaque Config.earlyVmin : Nat

/-- V_max read while there is no pack record. Log entry 9. -/
opaque Config.earlyVmax : Nat

/-- The cell voltages read while there is no pack record. Log entry 9. -/
opaque Config.earlyCells : List Nat

/-- T_max read while there is no pack record. Log entry 9. -/
opaque Config.earlyTmax : Option Int

/-- The die temperature read while there is no pack record. Log entry 9. -/
opaque Config.earlyDie : Int

/-- The quotient of R150 and R154 when V_pack is 0, as a function of the dividend. Log entry 10. -/
opaque Config.chargeOverZero : Nat → Nat

end Sys2Proof
end

