-- ==== Sys2Proof/Machine/State.lean ====
section
/-! DEFINITION. The state of the 6240: one structure a block, as the block's chapter lists it, and the
state after a power-on reset. A timer is the time left in ms, `none` when it is not running. -/

namespace Sys2Proof.Machine

/-! ## Why a step can stop -/

/-- Faults. The rules give every command an effect, so no meaning raises one. -/
inductive Fault
  /-- Raised by no command: the part's own trips and faults are state (R54, R160). Safe. -/
  | notRaised
deriving DecidableEq, Repr

/-- Refusals. -/
inductive Refusal
  /-- Raised by an arm of exec whose command has no meaning yet. Safe. -/
  | notModelled (mnemonic : String)
deriving DecidableEq, Repr

/-! ## Pins and small shared types -/

/-- The input levels that outlive an event. -/
structure Pins where
  /-- TRIG is at its pressed level (R42). -/
  trig  : Bool
  /-- CHGIN is above 5 V (R143). -/
  chgin : Bool
deriving DecidableEq, Repr

/-- Power states (R18 to R20). -/
inductive Power
  | active | standby | shutdown
deriving DecidableEq, Repr

/-- Floor classes of a tool node (R119). -/
inductive FloorClass
  | hard | carpet | unknown
deriving DecidableEq, Repr

/-- A speed curve: expected speeds at 100, 250, 400 and 550 W (R81, R128). -/
structure Curve where
  s1 : Nat
  s2 : Nat
  s3 : Nat
  s4 : Nat
deriving DecidableEq, Repr

/-- The built-in open-inlet curve (5.1). -/
def Curve.openInlet : Curve := ⟨900, 1080, 1190, 1270⟩

/-! ## Pack Monitor (Chapter 1) -/

/-- The pack record of one round (R8, R23). -/
structure PackRecord where
  cells   : List Nat
  vpack   : Nat
  vmin    : Nat
  vmax    : Nat
  current : Int
  itool   : Nat
  th1     : Option Int
  th2     : Option Int
  th3     : Option Int
  tmax    : Option Int
  die     : Int
  fT      : Nat
  fV      : Nat
deriving DecidableEq, Repr

/-- The Pack Monitor's state (R25). -/
structure Pack where
  power     : Power
  round     : Option Nat
  count     : Nat
  capacity  : Nat
  inom      : Nat
  ocv       : List Nat
  record    : Option PackRecord
  vf        : Option Int
  reseed    : Bool
  gauge     : Nat
  clip      : Bool
  rest      : Nat
  computed  : Nat
  published : Nat
  low       : Bool
  cutoff    : Bool
  overvolt  : Bool
  cutTimer  : Nat
  shutdown  : Option Nat
  hadTemp   : Bool
  lastFT    : Nat
deriving DecidableEq, Repr

/-! ## Current Allotment Arbiter (Chapter 2) -/

/-- The outcome of the chain for a slot (2.1). -/
inductive SlotState
  | idle | granted | partly | inhibited | passed
deriving DecidableEq, Repr

/-- A slot of the allotment table (2.1). The last five fields belong to the tool slots; `news` says that the
slot's grant or offer has changed since the value was last handed on (R37). -/
structure Slot where
  request   : Nat
  floor     : Nat
  yielding  : Bool
  target    : Nat
  grant     : Nat
  held      : Nat
  state     : SlotState
  settling  : Bool
  waiting   : Bool
  concerned : List Addr
  members   : List Addr
  offer     : Option Nat
  settleDl  : Option Nat
  offerDl   : Option Nat
  news      : Bool
deriving DecidableEq, Repr

/-- The cause of the last forced release (R34). -/
inductive ReleaseCause
  | none | timeout | overcurrent | power
deriving DecidableEq, Repr

/-- The Arbiter's state (R41). -/
structure Arb where
  reserve  : Slot
  head     : Slot
  lamp     : Slot
  aux      : Slot
  suction  : Slot
  active   : Bool
  starved  : Bool
  holdoff  : Option Nat
  supCount : Nat
  cause    : ReleaseCause
deriving DecidableEq, Repr

/-! ## Motor Drive (Chapter 3) -/

/-- Motor states, in the order of the table of 3.2. -/
inductive MotorState
  | off | arming | align | spinup | run | stopping | fault | locked
deriving DecidableEq, Repr

/-- Refusal causes of a start (R43, R58). -/
inductive StartRefusal
  | none | notOff | notReady | docked | watch | starved
deriving DecidableEq, Repr

/-- Stop causes (R51, R58). -/
inductive StopCause
  | none | trigger | starved | blocked | docked | watch | pack | reset
deriving DecidableEq, Repr

/-- Trip causes (R53, R58). -/
inductive TripCause
  | none | overcurrent | stall | sync | thermal | gateTest | startFail
deriving DecidableEq, Repr

/-- What the bridge does (the table of 3.2). -/
inductive Bridge
  | off | testing | driving | braking
deriving DecidableEq, Repr

/-- An entry of the trip history (R54). -/
structure Trip where
  cause : TripCause
  time  : BitVec 32
  state : MotorState
deriving DecidableEq, Repr

/-- The Motor Drive's state (R60). `driven` is the sum over `drivenMs` milliseconds of the open-loop rate since
the last measurement record (R49; log entry 52). -/
structure Drive where
  trig         : Bool
  debounce     : Option Nat
  settlingIn   : Bool
  state        : MotorState
  bridge       : Bridge
  pset         : Nat
  ceiling      : Nat
  iMotor       : Option Nat
  pMeas        : Option Nat
  speed        : Option Nat
  startPending : Bool
  refused      : StartRefusal
  stopCause    : StopCause
  tripCause    : TripCause
  armTimer     : Option Nat
  alignTimer   : Option Nat
  spinTimer    : Option Nat
  rampTimer    : Option Nat
  stallTimer   : Option Nat
  coastTimer   : Option Nat
  faultTimer   : Option Nat
  rampRate     : Nat
  driven       : Nat
  drivenMs     : Nat
  crossings    : Nat
  level        : Int
  trips        : List Trip
  tripCount    : Nat
  clock        : BitVec 32
deriving DecidableEq, Repr

/-! ## Suction Governor (Chapter 4) -/

/-- An entry of the profile table (R61). -/
structure Profile where
  enabled    : Bool
  selectable : Bool
  hard       : Nat
  carpet     : Nat
  floor      : Nat
  auto       : Bool
  gain       : Nat
  brush      : Nat
  ramp       : Nat
  locked     : Bool
deriving DecidableEq, Repr

/-- Origins of a mode stack entry (4.2). -/
inductive Origin
  | base | host | clear
deriving DecidableEq, Repr

/-- An entry of the mode stack (4.2). -/
structure StackEntry where
  profile : Fin 16
  origin  : Origin
deriving DecidableEq, Repr

/-- The Suction Governor's state (R80). The mode stack is listed from bottom to top. -/
structure Gov where
  profiles    : Vector Profile 16
  stack       : List StackEntry
  floor       : FloorClass
  factor      : Nat
  curve       : Curve
  boost       : Nat
  grant       : Nat
  pBase       : Nat
  boostPct    : Nat
  pReq        : Nat
  claimReq    : Nat
  claimFloor  : Nat
  delivered   : Bool
  pCap        : Nat
  pEff        : Nat
  pset        : Nat
  ceiling     : Nat
  ramping     : Bool
  stopStarved : Bool
  step        : Option Nat
deriving DecidableEq, Repr

/-! ## Airflow Load Monitor (Chapter 5) -/

/-- Blockage classes (5.2). -/
inductive BlockClass
  | clear | restricted | blocked
deriving DecidableEq, Repr

/-- Episode phases (5.3). -/
inductive Phase
  | none | pulse | wait
deriving DecidableEq, Repr

/-- The Airflow Load Monitor's state (R93). -/
structure LoadMon where
  cls      : BlockClass
  rise     : Nat
  block    : Nat
  release  : Nat
  attempts : Nat
  phase    : Phase
  timer    : Option Nat
  pushMade : Bool
  ratio    : Option Nat
  expected : Option Int
  blockPct : Nat
  blockMs  : Nat
deriving DecidableEq, Repr

/-! ## Dirt Monitor (Chapter 6) -/

/-- Sensor status (R94). -/
inductive SensorStatus
  | untested | present | absent
deriving DecidableEq, Repr

/-- The running window (R97). -/
structure Window where
  timer : Nat
  small : Nat
  large : Nat
deriving DecidableEq, Repr

/-- The Dirt Monitor's state (R109). `pulses` counts the test pulses sent on PZT (R94; log entry 49). -/
structure Dirt where
  status    : SensorStatus
  echo      : Option Nat
  window    : Option Window
  lastSmall : Nat
  lastLarge : Nat
  lastW     : Nat
  lastF     : Nat
  rate      : Option Nat
  level     : Nat
  rise      : Nat
  cand      : Nat
  fall      : Nat
  heldLevel : Bool
  bin       : Nat
  sat       : Bool
  full      : Bool
  pulses    : Nat
  large     : Nat
  t1        : Nat
  t2        : Nat
  t3        : Nat
  capacity  : Nat
  fullPct   : Nat
deriving DecidableEq, Repr

/-! ## Tool records (Chapter 8) and the tool line (Chapter 7) -/

/-- Tool kinds (R128). -/
inductive ToolKind
  | floorHead | miniHead | crevice | lightWand | unknown
deriving DecidableEq, Repr

/-- A tool record (R128). Its recency rank is its place in the table's recency order. -/
structure ToolRecord where
  serial   : Serial
  kind     : ToolKind
  airflow  : Nat
  curve    : Curve
  brush    : Nat
  floor    : Nat
  yielding : Bool
  lamp     : Nat
  pinned   : Bool
deriving DecidableEq, Repr

/-- The applied record of a node (R130, R131). -/
inductive Applied
  | none
  | slot (i : Fin 8)
  | default (r : ToolRecord)
deriving DecidableEq, Repr

/-- Node states (the table of 7.5); an entry that becomes GONE leaves the list. -/
inductive NodeState
  | assigning | active | silent
deriving DecidableEq, Repr

/-- The contents of a CAP, without its sequence number (R123). -/
structure CapBody where
  limit : Nat
  brush : Nat
  lamp  : Bool
deriving DecidableEq, Repr

/-- A pending cap: the contents sent, with their number (R123). -/
structure Cap where
  body : CapBody
  seq  : Byte
deriving DecidableEq, Repr

/-- An entry of the node list (R115). -/
structure Node where
  addr      : Addr
  serial    : Serial
  descs     : List Byte
  state     : NodeState
  completed : Bool
  missed    : Nat
  seq       : Byte
  pending   : Option Cap
  ackLimit  : Nat
  jam       : Bool
  lamp      : Bool
  fault     : Bool
  floor     : FloorClass
  brushMa   : Option Nat
  poll      : Nat
  applied   : Applied
  mismatch  : Bool
deriving DecidableEq, Repr

/-- A master frame that is due (R114). A CAP to be sent again carries its number (R123, R124). -/
inductive TxFrame
  | assign (addr : Addr) (serial : Serial)
  | cap (addr : Addr) (body : CapBody) (seq : Option Byte)
  | poll (addr : Addr)
deriving DecidableEq, Repr

/-- An open reply window (R111). -/
inductive Await
  | poll (addr : Addr)
  | cap (addr : Addr)
deriving DecidableEq, Repr

/-- Tool power levels (7.8). -/
inductive Tpwr
  | off | signal | full
deriving DecidableEq, Repr

/-- A quarantined address with the time it still stays (R118). -/
structure Quarantined where
  addr  : Addr
  timer : Nat
deriving DecidableEq, Repr

/-- The Tool Line Controller's state (R127). `resetting` counts the bit periods of dominant drive that are left,
`bits` are those of the frame on the line that are still to be sent (R110). -/
structure ToolLine where
  idle       : Nat
  resetting  : Option Nat
  queue      : List TxFrame
  lost       : Option TxFrame
  wire       : Option TxFrame
  bits       : List Bool
  await      : Option Await
  losses     : Nat
  nodes      : List Node
  quarantine : List Quarantined
  tpwr       : Tpwr
  floor      : FloorClass
  brush      : Nat
deriving DecidableEq, Repr

/-- The Tool Record Table's state (R141). The recency order lists slots, most recent first. -/
structure ToolTable where
  slots  : Vector (Option ToolRecord) 8
  order  : List (Fin 8)
  miss   : List Serial
  nozzle : Option Addr
deriving DecidableEq, Repr

/-! ## Dock Link and Charge Controller (Chapter 9) -/

/-- Attach states (R143). -/
inductive Attach
  | detached | debouncing | attached
deriving DecidableEq, Repr

/-- Dock kinds (R149). -/
inductive DockKind
  | basic | evac
deriving DecidableEq, Repr

/-- The dock identity of an IDENT (R149). -/
structure DockIdentity where
  kind    : DockKind
  support : Bool
  count   : Nat
deriving DecidableEq, Repr

/-- An offer with its rejected mark (R149). -/
structure Offer where
  volts    : Nat
  amps     : Nat
  rejected : Bool
deriving DecidableEq, Repr

/-- The agreement: offer index, V_off, I_off and agreed I_in (R151). -/
structure Agreement where
  index : Nat
  volts : Nat
  amps  : Nat
  input : Nat
deriving DecidableEq, Repr

/-- Handle requests on the dock line (R147). -/
inductive DockReq
  | hello
  | chargeReq (index input : Nat)
  | evacReq (duration : Nat)
  | halt
deriving DecidableEq, Repr

/-- What an exchange awaits (R147). -/
inductive ExPhase
  | first | offers | ready
deriving DecidableEq, Repr

/-- Where the sending of an exchange's request stands (R146). -/
inductive ExSend
  | sending | collided | sent
deriving DecidableEq, Repr

/-- The exchange record (R147). -/
structure Exchange where
  req        : DockReq
  attempts   : Nat
  deadline   : Option Nat
  waits      : Nat
  waiting    : Bool
  phase      : ExPhase
  send       : ExSend
  collisions : Nat
deriving DecidableEq, Repr

/-- Charge states, in the order of the table of 9.1. -/
inductive ChargeState
  | detached | attachWait | identify | negotiate | coarse | precharge | bulk | taper | topped
  | paused | disabled | fault
deriving DecidableEq, Repr

/-- Causes of PAUSED (R159). -/
inductive PauseCause
  | temp | watch | offerChange | noOffer
deriving DecidableEq, Repr

/-- Causes of FAULT (R160). -/
inductive ChargeFault
  | none | thermal | inputOv | totalTimeout | prechargeTimeout | cellOv
deriving DecidableEq, Repr

/-- The charging phases an agreement can enter (R150). -/
inductive ChargePhase
  | precharge | bulk | taper
deriving DecidableEq, Repr

/-- The Charge Controller's state (R164). `iTerm` 0 is AUTO; `attachMs` is the debounce time of the present
attach, which a later CHARGE_CONFIG leaves alone (R162). -/
structure Dock where
  attach        : Attach
  attachMs      : Nat
  debounce      : Option Nat
  drop          : Option Nat
  coarse        : Option CoarseClass
  identity      : Option DockIdentity
  identTaken    : Bool
  offers        : List Offer
  agreement     : Option Agreement
  exch          : Option Exchange
  dueHalt       : Bool
  dueCharge     : Option DockReq
  dueEvac       : Option Nat
  state         : ChargeState
  pause         : PauseCause
  lastFault     : ChargeFault
  iTgt          : Nat
  iChg          : Nat
  want          : Nat
  taper         : Option Nat
  resume        : Option ChargePhase
  plan          : ChargePhase
  precharge     : Nat
  total         : Nat
  period        : Option Nat
  lastFullLimit : Bool
  csw           : Bool
  bleed         : List Nat
  disabled      : Bool
  iMax          : Nat
  iTerm         : Nat
  debounceMs    : Nat
deriving DecidableEq, Repr

/-! ## Evacuation Sequencer (Chapter 10) -/

/-- States of the evacuation record (R165). -/
inductive EvacState
  | idle | requested | running | done | failed | aborted
deriving DecidableEq, Repr

/-- Who started an evacuation (R165). -/
inductive EvacTrigger
  | none | auto | host
deriving DecidableEq, Repr

/-- Outcomes of an evacuation (R165). -/
inductive EvacOutcome
  | none | done | rejected | noAccept | clog | door | timeout | noReply | detach | reset
deriving DecidableEq, Repr

/-- The Evacuation Sequencer's state (R172). -/
structure Evac where
  state     : EvacState
  trigger   : EvacTrigger
  duration  : Nat
  binPct    : Nat
  outcome   : EvacOutcome
  reason    : Option Byte
  confirmed : Bool
  timer     : Option Nat
  auto      : Bool
  pct       : Nat
  setting   : Nat
deriving DecidableEq, Repr

/-! ## Watch Unit (Chapter 11) -/

/-- Quantities a watch can select, in the order of the table of R174. -/
inductive Quantity
  | packMv | cellMinMv | cellMaxMv | cellSpreadMv | packMa | tempMaxC | dieTempC | socPm | limitMa
  | motorW | motorSpeed | loadPct | dirtRate | binPct | brushMa | chargeMa
deriving DecidableEq, Repr

/-- Modes of a watch (R173). -/
inductive WatchMode
  | latch | level
deriving DecidableEq, Repr

/-- Actions of a watch (R173). -/
inductive WatchAction
  | notify
  | derate (p : Nat)
  | stopMotor
  | pauseCharge
deriving DecidableEq, Repr

/-- States of a watch (R173). -/
inductive WatchState
  | disarmed | armed | counting | fired
deriving DecidableEq, Repr

/-- A set watch record (R173). The conditions are LT, GT, EQ, ULT, UGT from bit 0 upward. -/
structure WatchRec where
  quantity   : Quantity
  threshold  : Half
  conds      : BitVec 5
  n          : Nat
  mode       : WatchMode
  action     : WatchAction
  state      : WatchState
  trueCount  : Nat
  falseCount : Nat
  last       : Half
deriving DecidableEq, Repr

/-- The Watch Unit's state (R182). -/
structure WatchUnit where
  recs       : Vector (Option WatchRec) 8
  derate     : Nat
  pauseOrder : Bool
deriving DecidableEq, Repr

/-! ## Host Link (Chapter 12) -/

/-- The receive assembly (R183): hunting, the bytes of a partial frame after its opening byte, or
discarding until a gap. -/
inductive Rx
  | hunting
  | frame (bytes : List Byte)
  | discarding
deriving DecidableEq, Repr

/-- A request that has been acted on and whose reply is not yet sent (R185). -/
structure PendingReq where
  kind : Byte
  tag  : Byte
deriving DecidableEq, Repr

/-- The status and payload of a formed reply (R183). -/
structure ReplyBody where
  status  : Byte
  payload : List Byte
deriving DecidableEq, Repr

/-- A queued reply: formed, or deferred with no body (R185). `forRequest` says that its request stands
in the pending list; `forReset` marks the reply of a RESET (R190). -/
structure Reply where
  kind       : Byte
  tag        : Byte
  body       : Option ReplyBody
  forRequest : Bool
  forReset   : Bool
deriving DecidableEq, Repr

/-- A deferred FENCE with the time left on its timer (R186). -/
structure Fence where
  tag   : Byte
  timer : Nat
deriving DecidableEq, Repr

/-- The Host Link's state (R192). -/
structure HostLink where
  rx         : Rx
  stopped    : Bool
  requests   : List PendingReq
  replies    : List Reply
  sent       : List Byte
  resetDue   : Bool
  fence      : Option Fence
  events     : BitVec 28
  mask       : BitVec 28
  ready      : Bool
  configured : Bool
deriving DecidableEq, Repr

/-! ## The machine -/

/-- A hand-over from one block to another that is still to be taken inside the present event
(00_scope.md 2.3). Log entry 5. -/
inductive Signal
  /-- a recompute of the allotment table (R28) -/
  | recompute
  /-- one update of a watched quantity (R174) -/
  | update (q : Quantity) (v : Half)
  /-- a stop order to the Motor Drive (R51) -/
  | stop (c : StopCause)
  /-- the stop order of a pack cut-off, which meets the governor's own (R15, R51) -/
  | cutoffStop
  /-- the repeated start check of a pending press (R44) -/
  | startCheck
deriving DecidableEq, Repr

/-- The state of the 6240 with its queue of commands. `beat` counts the bit periods of 50 µs that have passed in
the present millisecond (log entry 1). -/
structure State where
  pending : List Instr
  signals : List Signal
  free    : Nat
  beat    : Nat
  pins    : Pins
  pack    : Pack
  arb     : Arb
  drive   : Drive
  gov     : Gov
  load    : LoadMon
  dirt    : Dirt
  line    : ToolLine
  tools   : ToolTable
  dock    : Dock
  evac    : Evac
  watch   : WatchUnit
  host    : HostLink
deriving DecidableEq, Repr

/-! ## Power-on values -/

/-- The default OCV table (R11). -/
def defaultOcv : List Nat := [3000, 3450, 3550, 3620, 3680, 3740, 3820, 3900, 3990, 4080, 4180]

/-- R25. The gauge holds 0 until the first round sets it (log entry 8). -/
def Pack.reset : Pack where
  power := .active
  round := some 10
  count := 6
  capacity := 2500
  inom := 15000
  ocv := defaultOcv
  record := none
  vf := none
  reseed := true
  gauge := 0
  clip := false
  rest := 0
  computed := 0
  published := 0
  low := false
  cutoff := false
  overvolt := false
  cutTimer := 0
  shutdown := none
  hadTemp := true
  lastFT := 100

/-- An IDLE slot with no claim (R41). -/
def Slot.empty : Slot where
  request := 0
  floor := 0
  yielding := false
  target := 0
  grant := 0
  held := 0
  state := .idle
  settling := false
  waiting := false
  concerned := []
  members := []
  offer := none
  settleDl := none
  offerDl := none
  news := false

/-- R41, with the given RESERVE request. -/
def Arb.fresh (reserve : Nat) : Arb where
  reserve := { Slot.empty with request := reserve, floor := reserve }
  head := Slot.empty
  lamp := Slot.empty
  aux := Slot.empty
  suction := Slot.empty
  active := false
  starved := false
  holdoff := none
  supCount := 0
  cause := .none

/-- R60. -/
def Drive.reset : Drive where
  trig := false
  debounce := some 20
  settlingIn := true
  state := .off
  bridge := .off
  pset := 0
  ceiling := 0
  iMotor := none
  pMeas := none
  speed := none
  startPending := false
  refused := .none
  stopCause := .none
  tripCause := .none
  armTimer := none
  alignTimer := none
  spinTimer := none
  rampTimer := none
  stallTimer := none
  coastTimer := none
  faultTimer := none
  rampRate := 0
  driven := 0
  drivenMs := 0
  crossings := 0
  level := 0
  trips := []
  tripCount := 0
  clock := 0

/-- Entries 3 to 14 of the default profile table (R62). -/
def Profile.unused : Profile where
  enabled := false
  selectable := false
  hard := 20
  carpet := 20
  floor := 20
  auto := false
  gain := 0
  brush := 0
  ramp := 5
  locked := false

/-- The default profile table (R62): ECO, AUTO, MAX, twelve unused entries, CLEAR. -/
def defaultProfiles : Vector Profile 16 :=
  ⟨#[⟨true, true, 120, 150, 60, false, 0, 1, 20, false⟩,
     ⟨true, true, 200, 300, 120, true, 3, 2, 20, false⟩,
     ⟨true, true, 550, 550, 200, false, 0, 3, 30, false⟩,
     .unused, .unused, .unused, .unused, .unused, .unused,
     .unused, .unused, .unused, .unused, .unused, .unused,
     ⟨true, false, 600, 600, 200, false, 0, 0, 100, false⟩], rfl⟩

/-- R80. -/
def Gov.reset : Gov where
  profiles := defaultProfiles
  stack := [⟨1, .base⟩]
  floor := .hard
  factor := 100
  curve := .openInlet
  boost := 0
  grant := 0
  pBase := 0
  boostPct := 0
  pReq := 0
  claimReq := 0
  claimFloor := 0
  delivered := false
  pCap := 0
  pEff := 0
  pset := 0
  ceiling := 0
  ramping := false
  stopStarved := false
  step := some 10

/-- R93, after either kind of reset. -/
def LoadMon.reset : LoadMon where
  cls := .clear
  rise := 0
  block := 0
  release := 0
  attempts := 0
  phase := .none
  timer := none
  pushMade := false
  ratio := none
  expected := none
  blockPct := 118
  blockMs := 400

/-- R109. -/
def Dirt.reset : Dirt where
  status := .untested
  echo := none
  window := none
  lastSmall := 0
  lastLarge := 0
  lastW := 0
  lastF := 0
  rate := some 0
  level := 0
  rise := 0
  cand := 0
  fall := 0
  heldLevel := false
  bin := 0
  sat := false
  full := false
  pulses := 0
  large := 600
  t1 := 20
  t2 := 50
  t3 := 120
  capacity := 200000
  fullPct := 90

/-- R127: the line reset sent at the end of a power-on reset is being driven. The brush level is that
of AUTO, the active profile (4.2.1). -/
def ToolLine.reset : ToolLine where
  idle := 0
  resetting := some 40
  queue := []
  lost := none
  wire := none
  bits := []
  await := none
  losses := 0
  nodes := []
  quarantine := []
  tpwr := .signal
  floor := .hard
  brush := 2

/-- R141. -/
def ToolTable.reset : ToolTable where
  slots := Vector.replicate 8 none
  order := []
  miss := []
  nozzle := none

/-- R164. -/
def Dock.reset : Dock where
  attach := .detached
  attachMs := 150
  debounce := none
  drop := none
  coarse := none
  identity := none
  identTaken := false
  offers := []
  agreement := none
  exch := none
  dueHalt := false
  dueCharge := none
  dueEvac := none
  state := .detached
  pause := .temp
  lastFault := .none
  iTgt := 0
  iChg := 0
  want := 0
  taper := none
  resume := none
  plan := .bulk
  precharge := 0
  total := 0
  period := none
  lastFullLimit := false
  csw := false
  bleed := []
  disabled := false
  iMax := 1000
  iTerm := 0
  debounceMs := 150

/-- R172. -/
def Evac.reset : Evac where
  state := .idle
  trigger := .none
  duration := 0
  binPct := 0
  outcome := .none
  reason := none
  confirmed := false
  timer := none
  auto := false
  pct := 60
  setting := 8

/-- R182, after either kind of reset. -/
def WatchUnit.reset : WatchUnit where
  recs := Vector.replicate 8 none
  derate := 100
  pauseOrder := false

/-- R192, after either kind of reset: the event set is RESET_DONE (event code 0). -/
def HostLink.reset : HostLink where
  rx := .hunting
  stopped := false
  requests := []
  replies := []
  sent := []
  resetDue := false
  fence := none
  events := 1
  mask := 0
  ready := false
  configured := false

/-- The machine right after a power-on reset, the trigger released and CHGIN low (log entry 8). -/
def State.reset : State where
  pending := []
  signals := []
  free := 0
  beat := 0
  pins := { trig := false, chgin := false }
  pack := .reset
  arb := .fresh 300
  drive := .reset
  gov := .reset
  load := .reset
  dirt := .reset
  line := .reset
  tools := .reset
  dock := .reset
  evac := .reset
  watch := .reset
  host := .reset

end Sys2Proof.Machine
end

