-- ==== Sys2Proof/Machine/Operands.lean ====
section
/-! DEFINITION. The arithmetic of Section 4 (clamping, rounding, reported quantities) and the byte
encodings of Section 12.8: how operands are read from a frame and written into one. -/

namespace Sys2Proof.Machine

/-! ## Numbers -/

/-- A number clamped to a range (4.4). -/
def clampNat (lo hi n : Nat) : Nat := if n < lo then lo else if hi < n then hi else n

/-- A signed number clamped to a range of naturals (4.4): a two-byte setting is two's complement. -/
def clampInt (lo hi : Nat) (n : Int) : Nat := clampNat lo hi n.toNat

/-- A two-byte setting clamped to its range (4.4, 12.8). -/
def clampHalf (lo hi : Nat) (h : Half) : Nat := clampInt lo hi h.toInt

/-- A one-byte setting clamped to its range (4.4, 12.8). -/
def clampByte (lo hi : Nat) (b : Byte) : Nat := clampNat lo hi b.toNat

/-- Rounded down to a multiple (4.2). -/
def floorTo (m n : Nat) : Nat := n / m * m

/-- A quotient rounded up (4.2). -/
def ceilDiv (n d : Nat) : Nat := (n + d - 1) / d

/-- A count that saturates. -/
def bump (limit n : Nat) : Nat := if n < limit then n + 1 else limit

/-! ## Reported quantities (4.3) -/

/-- The marker NONE, −32768. -/
def noneMark : Half := 0x8000

/-- A quantity as it is reported: saturated to −32767 and +32767, NONE where there is no value. -/
def report : Option Int → Half
  | none => noneMark
  | some v => BitVec.ofInt 16 (if v < -32767 then -32767 else if 32767 < v then 32767 else v)

/-- A natural quantity as it is reported. -/
def reportNat (v : Option Nat) : Half := report (v.map Int.ofNat)

/-! ## Bytes (12.8) -/

/-- One byte. -/
def u8 (n : Nat) : List Byte := [BitVec.ofNat 8 n]

/-- Two bytes, least significant first. -/
def u16 (n : Nat) : List Byte := [BitVec.ofNat 8 n, BitVec.ofNat 8 (n / 256)]

/-- A two-byte field, least significant byte first. -/
def half (h : Half) : List Byte := u16 h.toNat

/-- Four bytes, least significant first. -/
def u32 (n : Nat) : List Byte := u16 n ++ u16 (n / 65536)

/-- A flag: 0 no, 1 yes. -/
def flag (b : Bool) : List Byte := [if b then 1 else 0]

/-- A natural quantity as two bytes; saturates at 32,767 (4.3). -/
def q16 (n : Nat) : List Byte := half (report (some (Int.ofNat n)))

/-- A signed quantity as two bytes, possibly NONE. -/
def i16 (v : Option Int) : List Byte := half (report v)

/-- A list: a count byte, then the items. -/
def listOf {α : Type} (enc : α → List Byte) (l : List α) : List Byte :=
  u8 l.length ++ l.flatMap enc

/-- An address, 0 for none (log entry 15). -/
def optAddr : Option Addr → List Byte
  | none => [0]
  | some a => u8 a.toNat

/-- A two-byte field from its bytes. -/
def toHalf (lo hi : Byte) : Half := hi ++ lo

/-- A four-byte field from its bytes. -/
def toQuad (b0 b1 b2 b3 : Byte) : Quad := b3 ++ b2 ++ b1 ++ b0

/-- A flag byte: 0 no, anything else yes (log entry 14). -/
def toFlag (b : Byte) : Bool := b != 0

/-! ## The check (R183, R193) -/

/-- One bit of the CRC with the polynomial x^8 + x^2 + x + 1, most significant bit first. -/
def crcBit (crc : Byte) (bit : Bool) : Byte :=
  if crc.msb != bit then (crc <<< 1) ^^^ 0x07 else crc <<< 1

/-- The bits of a number, most significant first. -/
def bitsOf : Nat → Nat → List Bool
  | 0, _ => []
  | w + 1, n => n.testBit w :: bitsOf w n

/-- The CRC over a list of bits, initial value 0, no final inversion (R183). -/
def crcBits (bits : List Bool) : Byte := bits.foldl crcBit 0

/-- The CRC over bytes (R183). -/
def crc8 (bytes : List Byte) : Byte := crcBits (bytes.flatMap fun b => bitsOf 8 b.toNat)

/-- The closing byte of a dock line frame: the sum of the bytes before it, modulo 256 (R146). -/
def sumByte (bytes : List Byte) : Byte := bytes.foldl (· + ·) 0

/-! ## Tables of fixed size -/

/-- A table with a function applied to each entry. -/
def mapTable {α β : Type} {n : Nat} (f : α → β) (v : Vector α n) : Vector β n :=
  ⟨⟨v.toList.map f⟩, by simp⟩

/-- The index of a byte into a table, where it is in range. -/
def index? (n : Nat) (b : Byte) : Option (Fin n) :=
  if h : b.toNat < n then some ⟨b.toNat, h⟩ else none

end Sys2Proof.Machine
end

