-- ==== Sys2Proof/Machine/Flags.lean ====
section
/-! DEFINITION. The event set, its mask and ATTNn (R187), the status codes (R184), and the readers of
the state that many rules share. -/

namespace Sys2Proof.Machine

/-! ## Events -/

/-- The named events, in the order of their codes (12.8.1). -/
inductive Event
  | resetDone | frameDropped | packLow | packCutoff | cellOvervolt | tempLimit | tempSensor
  | gaugeClipped | allotStarved | motorStarted | motorStopped | motorFault | motorLocked | blockage
  | dirtLevel | dirtSensor | binFull | toolAttach | toolDetach | toolMiss | brushJam
  | toolOvercurrent | dockAttach | dockDetach | chargeState | chargeFault | evacEnd | watchFired
deriving DecidableEq, Repr

/-- The bit of an event in the event set (12.8.1). -/
def eventBit (e : Event) : BitVec 28 := BitVec.twoPow 28 e.ctorIdx

/-- Raising an event: adding it to the event set (R187). -/
def raise (e : Event) (s : State) : State :=
  { s with host := { s.host with events := s.host.events ||| eventBit e } }

/-- Raising an event when a condition holds. -/
def raiseIf (c : Bool) (e : Event) (s : State) : State := if c then raise e s else s

/-- The event stands in the set. -/
def hasEvent (e : Event) (s : State) : Bool := s.host.events.getLsbD e.ctorIdx

/-- ATTNn is driven low: an unmasked event stands in the set and the part is not in SHUTDOWN (R187). -/
def attnLow (s : State) : Bool :=
  s.pack.power != .shutdown && (s.host.events &&& ~~~s.host.mask) != 0

/-! ## Status codes (R184) -/

/-- The statuses of a reply. -/
inductive Status
  | ok | badFrame | unknownKind | badArg | refusedState | busy | notFound | locked | full | empty
  | overrun | fenceTimeout | aborted
deriving DecidableEq, Repr

/-- The code of a status. -/
def Status.code (st : Status) : Byte := BitVec.ofNat 8 st.ctorIdx

/-! ## Readers of the state -/

/-- The motor is at rest: OFF, FAULT or LOCKED (R18, R152). -/
def MotorState.atRest : MotorState → Bool
  | .off | .fault | .locked => true
  | .arming | .align | .spinup | .run | .stopping => false

/-- The driving states ARMING, ALIGN, SPINUP and RUN (3.2). -/
def MotorState.drives : MotorState → Bool
  | .arming | .align | .spinup | .run => true
  | .off | .stopping | .fault | .locked => false

/-- The charging states PRECHARGE, BULK, TAPER and COARSE (R142). -/
def ChargeState.charges : ChargeState → Bool
  | .coarse | .precharge | .bulk | .taper => true
  | .detached | .attachWait | .identify | .negotiate | .topped | .paused | .disabled | .fault => false

/-- An evacuation is in progress (R165). -/
def evacInProgress (s : State) : Bool := s.evac.state == .requested || s.evac.state == .running

/-- G_full (R9). -/
def fullCharge (p : Pack) : Nat := p.capacity * 360000

/-- The state of charge in permille (R9). -/
def stateOfCharge (p : Pack) : Nat := p.gauge * 1000 / fullCharge p

/-- bin_pct (R104). -/
def binPct (d : Dirt) : Nat := d.bin * 100 / d.capacity

/-- V_pack of the latest pack record. -/
def packVolts (s : State) : Nat := (s.pack.record.map (·.vpack)).getD Config.earlyVpack

/-- V_min of the latest pack record. -/
def packVmin (s : State) : Nat := (s.pack.record.map (·.vmin)).getD Config.earlyVmin

/-- V_max of the latest pack record. -/
def packVmax (s : State) : Nat := (s.pack.record.map (·.vmax)).getD Config.earlyVmax

/-- The cell voltages of the latest pack record. -/
def packCells (s : State) : List Nat := (s.pack.record.map (·.cells)).getD Config.earlyCells

/-- T_max of the latest pack record. -/
def packTmax (s : State) : Option Int := (s.pack.record.map (·.tmax)).getD Config.earlyTmax

/-- The die temperature of the latest pack record. -/
def packDie (s : State) : Int := (s.pack.record.map (·.die)).getD Config.earlyDie

/-- The active profile's index: that of the top of the mode stack (R66). -/
def activeIndex (g : Gov) : Fin 16 := (g.stack.getLast?.map (·.profile)).getD 0

/-- The active profile (R66). -/
def activeProfile (g : Gov) : Profile := g.profiles[activeIndex g]

end Sys2Proof.Machine
end

