-- ==== Sys2Proof/Machine/Ops.lean ====
section
/-! DEFINITION. The named operations the blocks share: hand-overs to the work list, access to the slots
of the allotment table and to the node list, applied records, and the forming of an outcome. -/

namespace Sys2Proof.Machine

/-! ## Hand-overs (00_scope.md 2.3; log entry 5) -/

/-- A hand-over put at the end of the work list. -/
def emit (sig : Signal) (s : State) : State := { s with signals := s.signals ++ [sig] }

/-- A recompute asked for, once: a recompute uses the latest values (R28). -/
def askRecompute (s : State) : State :=
  if .recompute ∈ s.signals then s else emit .recompute s

/-- One update of a quantity delivered to the Watch Unit (R174). -/
def deliver (q : Quantity) (v : Half) (s : State) : State := emit (.update q v) s

/-! ## Slots -/

/-- A tool slot of the table. -/
def Arb.tool (a : Arb) : ToolSlot → Slot
  | .head => a.head
  | .lamp => a.lamp
  | .aux => a.aux

/-- The table with a tool slot replaced. -/
def Arb.setTool (a : Arb) (k : ToolSlot) (sl : Slot) : Arb :=
  match k with
  | .head => { a with head := sl }
  | .lamp => { a with lamp := sl }
  | .aux => { a with aux := sl }

/-- The table with a function applied to each tool slot. -/
def Arb.mapTools (f : Slot → Slot) (a : Arb) : Arb :=
  { a with head := f a.head, lamp := f a.lamp, aux := f a.aux }

/-- The value of a tool slot that its nodes are to use: the outstanding offer, otherwise the grant
(R37, R123). -/
def Slot.value (sl : Slot) : Nat := sl.offer.getD sl.grant

/-! ## Nodes -/

/-- The entry of an address in the node list. -/
def nodeAt (s : State) (a : Addr) : Option Node := s.line.nodes.find? (·.addr == a)

/-- The entry of an address changed. -/
def setNode (a : Addr) (f : Node → Node) (s : State) : State :=
  { s with line := { s.line with
      nodes := s.line.nodes.map fun n => if n.addr == a then f n else n } }

/-- The attached nodes: those that have completed assignment (Chapter 8), in address order. -/
def attachedNodes (s : State) : List Node := s.line.nodes.filter (·.completed)

/-- The applied record of a node (R130). -/
def appliedRecord (s : State) (n : Node) : Option ToolRecord :=
  match n.applied with
  | .none => none
  | .slot i => s.tools.slots[i]
  | .default r => some r

/-- The node's applied record declares a brush (R128). -/
def declaresBrush (s : State) (n : Node) : Bool :=
  match appliedRecord s n with
  | some r => 0 < r.brush
  | none => false

/-- The node's applied record declares a lamp (R128). -/
def declaresLamp (s : State) (n : Node) : Bool :=
  match appliedRecord s n with
  | some r => 0 < r.lamp
  | none => false

/-! ## Sustain counts -/

/-- The sustain counts restart; everything else of the monitor is kept (R91). -/
def restartSustain (s : State) : State :=
  { s with load := { s.load with rise := 0, block := 0, release := 0 } }

end Sys2Proof.Machine
end

