-- ==== Sys2Proof/Machine/Arbiter.lean ====
section
/-! DEFINITION. The Current Allotment Arbiter (Chapter 2): the recompute of the table, settlement,
forced release, offers and slot membership. -/

namespace Sys2Proof.Machine

/-! ## Amounts -/

/-- The committed amount of a slot (2.1). -/
def Slot.committed (sl : Slot) : Nat := max sl.grant sl.held

/-- The budget (2.1). -/
def Arb.budget (a : Arb) (limit : Nat) : Nat := max limit a.reserve.request

/-- The sum of the grants of the five slots. -/
def Arb.grants (a : Arb) : Nat :=
  a.reserve.grant + a.head.grant + a.lamp.grant + a.aux.grant + a.suction.grant

/-- The sum of the committed amounts of the five slots. -/
def Arb.committed (a : Arb) : Nat :=
  a.reserve.committed + a.head.committed + a.lamp.committed + a.aux.committed
    + a.suction.committed

/-- The free amount F, 0 when the difference is negative (R35). -/
def Arb.freeAmount (a : Arb) (limit : Nat) : Nat := a.budget limit - a.committed

/-- The set-aside S (R29). -/
def Arb.setAside (a : Arb) : Nat := if a.active then a.suction.floor else 0

/-! ## Targets (R29, R30) -/

/-- Target and state of a tool slot from the available amount A and the set-aside S (R29). -/
def chainTool (sl : Slot) (avail aside : Nat) : Nat × SlotState :=
  if sl.request = 0 then (0, .idle)
  else
    let usable := if sl.yielding then avail - aside else avail
    if sl.request ≤ usable then (sl.request, .granted)
    else if 0 < usable ∧ sl.floor ≤ usable then (usable, .partly)
    else if sl.yielding ∧ sl.floor ≤ avail then (0, .inhibited)
    else (0, .passed)

/-- Target and state of the SUCTION slot from the available amount (R29). -/
def chainSuction (sl : Slot) (avail : Nat) : Nat × SlotState :=
  if sl.request = 0 then (0, .idle)
  else
    let candidate := min sl.request avail
    if sl.floor ≤ candidate ∧ 0 < candidate then
      (candidate, if candidate = sl.request then .granted else .partly)
    else (0, .passed)

/-- A slot with the target and state the chain gives it. -/
def Slot.aim (sl : Slot) (t : Nat × SlotState) : Slot := { sl with target := t.1, state := t.2 }

/-- A slot other than RESERVE in the starved case (R30). -/
def Slot.starve (sl : Slot) : Slot :=
  sl.aim (0, if sl.request = 0 then .idle else .passed)

/-- Every target and state of the chain, and the starved flag (R29, R30). -/
def Arb.aimAll (a : Arb) (limit : Nat) : Arb :=
  let reserve := a.reserve.aim (a.reserve.request, .granted)
  if limit < a.reserve.request then
    { a with
      reserve := reserve, head := a.head.starve, lamp := a.lamp.starve, aux := a.aux.starve
      suction := a.suction.starve, starved := true }
  else
    let aside := a.setAside
    let a0 := limit - a.reserve.request
    let head := a.head.aim (chainTool a.head a0 aside)
    let a1 := a0 - head.target
    let lamp := a.lamp.aim (chainTool a.lamp a1 aside)
    let a2 := a1 - lamp.target
    let aux := a.aux.aim (chainTool a.aux a2 aside)
    let a3 := a2 - aux.target
    { a with
      reserve := reserve, head := head, lamp := lamp, aux := aux
      suction := a.suction.aim (chainSuction a.suction a3), starved := false }

/-! ## Decreases (R31) -/

/-- Addresses of two lists without repeats. -/
def addrUnion (a b : List Addr) : List Addr := a ++ b.filter (fun x => !a.contains x)

/-- A decrease of RESERVE or SUCTION, settled at once (R31). -/
def Slot.lowerPlain (sl : Slot) : Slot := { sl with grant := min sl.grant sl.target }

/-- A decrease of a tool slot. While TPWR is FULL it is settled by the slot's nodes, with the deadline of R33, which a
slot that is settling keeps; with no node concerned it is settled at once (R31, R32). -/
def Slot.lowerTool (full : Bool) (sl : Slot) : Slot :=
  if sl.target < sl.grant then
    if full then
      let nodes := addrUnion sl.concerned sl.members
      if nodes.isEmpty then
        { sl with
          grant := sl.target, held := 0, settling := false, settleDl := none, news := true }
      else
        { sl with
          grant := sl.target, held := max sl.held sl.grant, settling := true, concerned := nodes
          news := true
          settleDl := some (if sl.settling then sl.settleDl.getD 20 else 20) }
    else { sl with grant := sl.target, news := true }
  else sl

/-- The decreases of a recompute (R31). -/
def Arb.lowerAll (a : Arb) (full : Bool) : Arb :=
  { a.mapTools (Slot.lowerTool full) with
    reserve := a.reserve.lowerPlain, suction := a.suction.lowerPlain }

/-! ## Increases (R35, R36) -/

/-- The raise of a slot with the free amount F (R35). -/
def Slot.raiseBy (sl : Slot) (free : Nat) : Nat :=
  min (sl.target - sl.grant) ((sl.held - sl.grant) + free)

/-- The waiting mark (R35). -/
def Slot.markWaiting (sl : Slot) : Slot := { sl with waiting := sl.grant < sl.target }

/-- The increase of RESERVE or SUCTION (R35). -/
def Slot.raisePlain (sl : Slot) (free : Nat) : Slot :=
  Slot.markWaiting { sl with grant := sl.grant + sl.raiseBy free }

/-- A new offer (R36). -/
def Slot.makeOffer (sl : Slot) (v : Nat) : Slot :=
  { sl with
    offer := some v, held := v, settling := true, concerned := sl.members, offerDl := some 20
    news := true }

/-- An outstanding offer replaced by the raise for the new target; held keeps the larger (R36). -/
def Slot.replaceOffer (sl : Slot) (old v : Nat) : Slot :=
  { sl with
    offer := some v, held := max sl.held (max old v)
    concerned := addrUnion sl.concerned sl.members, news := true }

/-- The increase of a tool slot: a grant while TPWR is FULL, an offer otherwise (R35, R36). An outstanding offer
is replaced when the slot's target changes, and one that exceeds the target, as one moved with its node can
(R27), is lowered to it (R31). -/
def Slot.raiseTool (full mayOffer : Bool) (oldTarget free : Nat) (sl : Slot) : Slot :=
  let r := sl.raiseBy free
  Slot.markWaiting <|
    if full then { sl with grant := sl.grant + r, news := sl.news || decide (0 < r) }
    else
      match sl.offer with
      | some old => if sl.target = oldTarget ∧ old ≤ sl.target then sl else sl.replaceOffer old r
      | none =>
        if mayOffer && !sl.settling && sl.grant == 0 && 0 < r then sl.makeOffer r else sl

/-- The increases in chain order, the free amount recalculated after each slot (R35). -/
def Arb.raiseAll (a : Arb) (old : Arb) (limit : Nat) (full mayOffer : Bool) : Arb :=
  let a := { a with reserve := a.reserve.raisePlain (a.freeAmount limit) }
  let a := { a with head := a.head.raiseTool full mayOffer old.head.target (a.freeAmount limit) }
  let a := { a with lamp := a.lamp.raiseTool full mayOffer old.lamp.target (a.freeAmount limit) }
  let a := { a with aux := a.aux.raiseTool full mayOffer old.aux.target (a.freeAmount limit) }
  { a with suction := a.suction.raisePlain (a.freeAmount limit) }

/-- One whole recompute of the table (R28): targets, decreases, increases. -/
def Arb.recompute (a : Arb) (limit : Nat) (full mayOffer : Bool) : Arb :=
  ((a.aimAll limit).lowerAll full).raiseAll a limit full mayOffer

/-- The Arbiter may make offers: no hold-off, TPWR not OFF, link READY (R36). -/
def mayOffer (s : State) : Bool :=
  s.arb.holdoff.isNone && s.line.tpwr != .off && s.host.ready

/-! ## Settlement (R32), forced release (R34) and offers (R36) -/

/-- The end of a slot's settling by an acknowledgement (R32): an acknowledged offer becomes the grant. -/
def Slot.settled (sl : Slot) : Slot :=
  { sl with
    held := 0, settling := false, settleDl := none, offerDl := none
    grant := sl.offer.getD sl.grant, offer := none }

/-- A slot's offer or settling ended without an acknowledgement (R32, R36); a withdrawn offer is a change to
hand on (R37). -/
def Slot.withdraw (sl : Slot) : Slot :=
  { sl with
    held := 0, settling := false, settleDl := none, offerDl := none, concerned := []
    offer := none, news := sl.news || sl.offer.isSome }

/-- An acknowledgement of a node at a slot (R32). -/
def Slot.ack (a : Addr) (sl : Slot) : Slot :=
  if sl.concerned.contains a then
    let rest := sl.concerned.filter (· != a)
    let sl' := { sl with concerned := rest }
    if rest.isEmpty then sl'.settled else sl'
  else sl

/-- A reported acknowledgement: the node leaves every concerned set, and a slot left with none ends its
settling, which starts a recompute (R32). -/
def reportAck (a : Addr) (s : State) : State :=
  let arb := s.arb.mapTools (Slot.ack a)
  let ended := fun k => (s.arb.tool k).settling && !(arb.tool k).settling
  let s' := { s with arb := arb }
  if ended .head || ended .lamp || ended .aux then askRecompute s' else s'

/-- The departure of a node at a slot (R32): its own current ends with it. -/
def Slot.depart (a : Addr) (sl : Slot) : Slot :=
  let rest := sl.concerned.filter (· != a)
  let sl' := if sl.concerned.contains a && rest.isEmpty then
      { sl.withdraw with grant := if sl.offer.isSome then 0 else sl.grant }
    else { sl with concerned := rest }
  sl'

/-- A slot in a forced release (R34). -/
def Slot.release (sl : Slot) : Slot :=
  { sl.withdraw with grant := 0, news := sl.withdraw.news || decide (0 < sl.grant) }

/-- A forced release of the tool slots with its cause; a recompute follows (R34). -/
def forcedRelease (c : ReleaseCause) (s : State) : State :=
  askRecompute { s with arb := { s.arb.mapTools Slot.release with cause := c } }

/-- The tool hold-off timer started, or restarted, at 1 s (R33, R34, R36). -/
def startHoldoff (s : State) : State := { s with arb := { s.arb with holdoff := some 1000 } }

/-- A slot as TPWR becomes FULL. An offer still outstanding is withdrawn; what the slot is then granted goes out in a
new CAP (R36, R37). A slot left settling for a departed member has the deadline of R33 from here (log entry 29). -/
def Slot.toFull (sl : Slot) : Slot :=
  if sl.offer.isSome then sl.withdraw
  else if sl.settling then { sl with settleDl := some (sl.settleDl.getD 20) }
  else sl

/-! ## Slot membership (R27) -/

/-- What a brush slot takes over when membership is derived again: the content of the new member, moved
from the slot it stood in, and what a departing node still holds (R27).
`old` is the slot before, `oldM` and `newM` are its members before and after, `departs` says that the old one
leaves for no slot with current still committed, `from?` is the slot the new member stood in. An outstanding offer
of a departing node ends with its deadline; what is left settling below FULL has none until TPWR is FULL (R33,
log entry 29). -/
def Slot.reseat (old : Slot) (oldM newM : Option Addr) (departs : Bool) (from? : Option Slot)
    (full : Bool) : Slot :=
  let left := old.concerned.filter (fun a => some a != oldM)
  let extra := left ++ (if departs then oldM.toList else [])
  let extraHeld := if departs then old.committed else if left.isEmpty then 0 else old.held
  let base := { old with members := newM.toList }
  match newM, from? with
  | some y, some c =>
    let entry := if c.concerned.contains y then [y] else []
    let nodes := addrUnion entry extra
    { base with
      grant := c.grant
      held := if extra.isEmpty then c.held else c.committed + extraHeld
      concerned := nodes
      settling := !nodes.isEmpty
      offer := c.offer
      offerDl := c.offerDl
      settleDl :=
        if nodes.isEmpty then none
        else c.settleDl <|> old.settleDl <|> (if full then some 20 else none)
      news := c.news }
  | _, _ =>
    { base with
      grant := 0
      held := extraHeld
      concerned := extra
      settling := !extra.isEmpty
      offer := none
      offerDl := none
      settleDl :=
        if extra.isEmpty then none else old.settleDl <|> (if full then some 20 else none)
      news := false }

/-- The slot an address is the brush member of, if any. -/
def Arb.brushSlotOf (a : Arb) (x : Addr) : Option Slot :=
  if a.head.members.contains x then some a.head
  else if a.aux.members.contains x then some a.aux
  else none

/-- The brush slots with new members (R27). `listed` are the addresses of the attached nodes. -/
def Arb.reseatBrushes (a : Arb) (newH newA : Option Addr) (listed : List Addr) (full : Bool) : Arb :=
  let oldH := a.head.members.head?
  let oldA := a.aux.members.head?
  let departs := fun (old : Slot) (m : Option Addr) =>
    match m with
    | some x => listed.contains x && some x != newH && some x != newA && 0 < old.committed
    | none => false
  let head :=
    if oldH = newH then a.head
    else a.head.reseat oldH newH (departs a.head oldH) (newH.bind a.brushSlotOf) full
  let aux :=
    if oldA = newA then a.aux
    else a.aux.reseat oldA newA (departs a.aux oldA) (newA.bind a.brushSlotOf) full
  { a with head := head, aux := aux }

/-! ## Tool supply supervision (R38) -/

/-- The permitted tool supply current (R38). -/
def permitted (a : Arb) : Nat := (a.head.grant + a.lamp.grant + a.aux.grant + 50) * 5 / 4

end Sys2Proof.Machine
end

