-- ==== Sys2Proof/Machine/LineBits.lean ====
section
/-! DEFINITION. The tool line in bit periods (R110, R193): stuffing, the bits of a frame, read-back and
arbitration, and the sample of one bit period. -/

namespace Sys2Proof.Machine

/-! ## Stuffing (R193). A bit is `true` when it is recessive. -/

/-- The bits after stuffing; `run` counts the dominant bits just before. -/
def stuff : Nat → List Bool → List Bool
  | _, [] => []
  | run, b :: bs =>
    if b then true :: false :: stuff 1 bs
    else if run + 1 = 8 then false :: true :: false :: stuff 1 bs
    else false :: stuff (run + 1) bs

/-- The bits with the stuff bits removed, or `none` where a stuff bit is missing. -/
def unstuff : Nat → List Bool → Option (List Bool)
  | _, [] => some []
  | run, false :: bs =>
    if run + 1 = 8 then
      match bs with
      | true :: false :: rest => (unstuff 1 rest).map (false :: ·)
      | _ => none
    else (unstuff (run + 1) bs).map (false :: ·)
  | _, true :: false :: bs => (unstuff 1 bs).map (true :: ·)
  | _, true :: _ => none

/-- A frame on the line from its field bits: start bit, fields and check stuffed, end bit (R193). -/
def lineBits (fields : List Bool) : List Bool :=
  false :: stuff 1 (fields ++ bitsOf 8 (crcBits fields).toNat) ++ [true]

/-- The field bits of a received frame, or `none` where it is cut short or its check fails (R112). -/
def fieldsOf (line : List Bool) : Option (List Bool) :=
  match line with
  | false :: body =>
    match unstuff 1 body.dropLast with
    | some bits =>
      let n := bits.length - 8
      if body.getLastD false = true ∧ 8 ≤ bits.length
          ∧ bits.drop n = bitsOf 8 (crcBits (bits.take n)).toNat then some (bits.take n)
      else none
    | none => none
  | _ => none

/-! ## Master frames (R193) -/

/-- The field bits of a master frame; a CAP carries the number given at sending. -/
def TxFrame.fields : TxFrame → List Bool
  | .poll a => bitsOf 4 0 ++ bitsOf 4 0x1 ++ bitsOf 4 a.toNat
  | .cap a b n =>
    bitsOf 4 0 ++ bitsOf 4 0x2 ++ bitsOf 4 a.toNat ++ bitsOf 8 b.limit ++ bitsOf 2 b.brush ++ [b.lamp]
      ++ bitsOf 8 ((n.map BitVec.toNat).getD 0)
  | .assign a serial =>
    bitsOf 4 0 ++ bitsOf 4 0x3 ++ bitsOf 4 15 ++ bitsOf 32 serial.toNat ++ bitsOf 4 a.toNat

/-- The bits of a master frame on the line. -/
def TxFrame.bits (f : TxFrame) : List Bool := lineBits f.fields

/-! ## Read-back and arbitration (R110) -/

/-- The bits on the open-drain line when two transmitters begin in one bit period: at the first bit in which they
differ the line is dominant, and the one that sent it recessive has lost the line and sends nothing more. -/
def onLine : List Bool → List Bool → List Bool
  | a :: as, b :: bs => if a = b then a :: onLine as bs else false :: (if a then bs else as)
  | as, [] => as
  | [], bs => bs

/-- The bit at which a transmitter that reads back the line has lost it: the first one it sends recessive and
reads dominant; `none` where it keeps the line to its end. -/
def lostAt : List Bool → List Bool → Option Nat
  | mine :: ms, line :: ls =>
    if mine && !line then some 0 else (lostAt ms ls).map (· + 1)
  | _, _ => none

/-- Of two frames begun in one bit period, the first stands on the line whole and the second has lost it. -/
def winsLine (a b : List Bool) : Bool :=
  onLine a b == a && (lostAt a (onLine a b)).isNone && (lostAt b (onLine a b)).isSome

/-! ## One bit period (R110) -/

/-- The level in this bit period, `true` when recessive: dominant while a line reset is driven, the next bit of
the master's frame while one is sent, recessive otherwise. -/
def ToolLine.level (l : ToolLine) : Bool := l.resetting.isNone && l.bits.headD true

/-- The sample of a bit period: a dominant one sets the idle count to 0, a recessive one advances it by 1. -/
def ToolLine.sample (l : ToolLine) : ToolLine :=
  { l with
    idle := if l.level then l.idle + 1 else 0
    bits := l.bits.tail
    resetting := l.resetting.map (· - 1) }

end Sys2Proof.Machine
end

