-- ==== Sys2Proof/Machine/Records.lean ====
section
/-! DEFINITION. The Tool Record Table (Chapter 8): lookup, recency order, miss list, default records,
and the nozzle source. -/

namespace Sys2Proof.Machine

/-! ## Descriptors (R131) -/

/-- The rated current of a brush code, in mA. -/
def brushCode (b : Byte) : Option Nat :=
  if 0x11 ≤ b.toNat ∧ b.toNat ≤ 0x18 then some ((b.toNat - 0x10) * 500) else none

/-- The rated current of the first brush code. -/
def ratedBrush (descs : List Byte) : Option Nat := descs.findSome? brushCode

/-- A nozzle. -/
inductive Nozzle
  | narrow | wide
deriving DecidableEq, Repr

/-- The nozzle of a nozzle code. -/
def nozzleCode (b : Byte) : Option Nozzle :=
  if b = 0x41 then some .narrow else if b = 0x42 then some .wide else none

/-- The deciding nozzle: that of the first nozzle code. -/
def nozzleOf (descs : List Byte) : Option Nozzle := descs.findSome? nozzleCode

/-- A lamp code is among the descriptors. -/
def lampCode (descs : List Byte) : Bool := descs.contains 0x21

/-- The kind derived from the descriptors: the first row that fits (R131). -/
def derivedKind (descs : List Byte) : ToolKind :=
  match ratedBrush descs, nozzleOf descs with
  | some _, some .wide => .floorHead
  | some _, some .narrow => .miniHead
  | none, some .narrow => .crevice
  | none, none => if lampCode descs then .lightWand else .unknown
  | _, _ => .unknown

/-- The default record of a node (R131). -/
def defaultRecord (serial : Serial) (descs : List Byte) : ToolRecord :=
  let brush := (ratedBrush descs).getD 0 / 2
  { serial := serial
    kind := derivedKind descs
    airflow := if nozzleOf descs = some .narrow then 70 else 100
    curve := .openInlet
    brush := brush
    floor := brush
    yielding := true
    lamp := if lampCode descs then 150 else 0
    pinned := false }

/-! ## The table (R128, R129) -/

/-- The slot indices, lowest first. -/
def slotIndices : List (Fin 8) := [0, 1, 2, 3, 4, 5, 6, 7]

/-- The slot holds a valid record of the serial. -/
def ToolTable.holds (t : ToolTable) (serial : Serial) (i : Fin 8) : Bool :=
  match t.slots[i] with
  | some r => r.serial == serial
  | none => false

/-- The slot of a serial among the valid records (R130). -/
def ToolTable.find (t : ToolTable) (serial : Serial) : Option (Fin 8) :=
  slotIndices.find? (t.holds serial)

/-- A record becomes most recent (R129). -/
def touch (i : Fin 8) (order : List (Fin 8)) : List (Fin 8) := i :: order.filter (· != i)

/-- A record leaves the order (R129). -/
def leave (i : Fin 8) (order : List (Fin 8)) : List (Fin 8) := order.filter (· != i)

/-- A slot made invalid: its record leaves the order (R129). -/
def ToolTable.invalidate (t : ToolTable) (i : Fin 8) : ToolTable :=
  { t with slots := t.slots.set i none, order := leave i t.order }

/-- A slot written: its record becomes most recent, and its serial leaves the miss list (R135). -/
def ToolTable.write (t : ToolTable) (i : Fin 8) (r : ToolRecord) : ToolTable :=
  { t with
    slots := t.slots.set i (some r), order := touch i t.order
    miss := t.miss.filter (· != r.serial) }

/-- The unpinned valid record with the highest recency rank (R135). -/
def ToolTable.victim (t : ToolTable) : Option (Fin 8) :=
  t.order.reverse.find? fun i => match t.slots[i] with
    | some r => !r.pinned
    | none => false

/-- A placement: the slot, the row of R135 that was taken, and the slot evicted, if any. -/
structure Placement where
  slot  : Fin 8
  row   : Nat
  evict : Bool
deriving DecidableEq, Repr

/-- Where a loaded record goes: the first rule of R135 that applies; `none` is the refusal FULL. -/
def ToolTable.place (t : ToolTable) (serial : Serial) : Option Placement :=
  match t.find serial with
  | some i => some ⟨i, 1, false⟩
  | none =>
    match slotIndices.find? (fun i => (t.slots[i]).isNone) with
    | some i => some ⟨i, 2, false⟩
    | none =>
      match t.victim with
      | some i => some ⟨i, 3, true⟩
      | none => none

/-! ## The miss list (R132) -/

/-- The miss list with a miss recorded. -/
def addMiss (serial : Serial) (l : List Serial) : List Serial :=
  if l.contains serial then l else (if 4 ≤ l.length then l.tail else l) ++ [serial]

/-- A miss recorded; TOOL_MISS is raised in every case (R132). -/
def recordMiss (serial : Serial) (s : State) : State :=
  raise .toolMiss { s with tools := { s.tools with miss := addMiss serial s.tools.miss } }

/-! ## The nozzle source (R134) -/

/-- The nozzle source: the attached node of lowest address with a nozzle code. -/
def nozzleSource (s : State) : Option Addr :=
  ((attachedNodes s).find? (fun n => (nozzleOf n.descs).isSome)).map (·.addr)

/-- The airflow factor and speed curve of the source's applied record (R134). -/
def nozzleInputs (s : State) : Nat × Curve :=
  match (s.tools.nozzle.bind (nodeAt s)).bind (appliedRecord s) with
  | some r => (r.airflow, r.curve)
  | none => (100, .openInlet)

/-- A delivery of the governor's nozzle inputs; the sustain counts restart (R134, R91). -/
def deliverNozzle (s : State) : State :=
  let v := nozzleInputs s
  restartSustain { s with gov := { s.gov with factor := v.1, curve := v.2 } }

/-- The nozzle source derived again, and delivered when it is another (R134). -/
def deriveNozzle (s : State) : State :=
  let src := nozzleSource s
  if src = s.tools.nozzle then s
  else deliverNozzle { s with tools := { s.tools with nozzle := src } }

/-! ## Applying a record to a node (R130, R136) -/

/-- The kind check of a hit (R130). -/
def kindMismatch (r : ToolRecord) (descs : List Byte) : Bool :=
  r.kind != .unknown && r.kind != derivedKind descs

/-- A table record becomes the applied record of a node (R130, R136). -/
def applySlot (a : Addr) (i : Fin 8) (r : ToolRecord) (s : State) : State :=
  setNode a (fun n => { n with applied := .slot i, mismatch := kindMismatch r n.descs }) s

/-- A node turns to a default record built from its descriptors (R131, R137). -/
def applyDefault (a : Addr) (s : State) : State :=
  setNode a (fun n => { n with
    applied := .default (defaultRecord n.serial n.descs), mismatch := false }) s

/-- The lookup at a first completed assignment (R130). -/
def lookupRecord (a : Addr) (serial : Serial) (s : State) : State :=
  match s.tools.find serial with
  | some i =>
    match s.tools.slots[i] with
    | some r =>
      applySlot a i r { s with tools := { s.tools with order := touch i s.tools.order } }
    | none => s
  | none => recordMiss serial (applyDefault a s)

/-- The attached node to which the record of a slot applies. -/
def userOf (s : State) (i : Fin 8) : Option Node :=
  (attachedNodes s).find? (fun n => n.applied == .slot i)

/-- The attached node of a serial. -/
def attachedSerial (s : State) (serial : Serial) : Option Node :=
  (attachedNodes s).find? (fun n => n.serial == serial)

/-- The flags of a node whose applied record no longer declares them are cleared (R133). -/
def clearStaleFlags (a : Addr) (s : State) : State :=
  setNode a (fun n => { n with
    jam := n.jam && declaresBrush s n, lamp := n.lamp && declaresLamp s n }) s

end Sys2Proof.Machine
end

