-- ==== Sys2Proof/Machine/ToolLine.lean ====
section
/-! DEFINITION. The Tool Line Controller (Chapter 7): the transmit queue, CAP contents, membership and
claims, the removal of nodes, tool power and the line reset. -/

namespace Sys2Proof.Machine

/-! ## The transmit queue (R114) -/

/-- The address a master frame is for. -/
def TxFrame.addr : TxFrame → Addr
  | .assign a _ => a
  | .cap a _ _ => a
  | .poll a => a

/-- The order of the kinds: ASSIGN, CAP, POLL (R114). -/
def TxFrame.rank : TxFrame → Nat
  | .assign _ _ => 0
  | .cap _ _ _ => 1
  | .poll _ => 2

/-- Two frames of one kind for one address. -/
def TxFrame.sameSlot (f g : TxFrame) : Bool := f.rank == g.rank && f.addr == g.addr

/-- The first frame goes before the second (R114). -/
def TxFrame.before (f g : TxFrame) : Bool :=
  f.rank < g.rank || (f.rank == g.rank && f.addr.toNat < g.addr.toNat)

/-- The frame that is sent next from the queue (R114). -/
def nextFrame : List TxFrame → Option TxFrame
  | [] => none
  | f :: fs =>
    match nextFrame fs with
    | none => some f
    | some g => if g.before f then some g else some f

/-- An unsent frame of this kind and address stands in the queue, or waits at its head after a loss. -/
def queued (f : TxFrame) (s : State) : Bool :=
  s.line.queue.any (·.sameSlot f) || s.line.lost.any (·.sameSlot f)

/-- A frame that becomes due, in the place of an unsent one of its kind and address (R114). While the
line is silent no frame becomes due (R126). -/
def putFrame (f : TxFrame) (s : State) : State :=
  if s.line.tpwr = .off then s
  else
    { s with line := { s.line with
        queue := s.line.queue.filter (fun g => !g.sameSlot f) ++ [f]
        lost := if s.line.lost.any (·.sameSlot f) then none else s.line.lost } }

/-! ## CAP contents (R123) -/

/-- The brush limit of a node in mA: the value of the brush slot it is the member of, else 0 (R123). -/
def brushLimit (s : State) (a : Addr) : Nat := ((s.arb.brushSlotOf a).map Slot.value).getD 0

/-- The LAMP value turns the lamps on: it equals the LAMP request and is above 0 (R37, R123). -/
def lampsOn (s : State) : Bool :=
  s.arb.lamp.value == s.arb.lamp.request && 0 < s.arb.lamp.value

/-- The contents of a CAP for a node, the limit in units of 50 mA (R123). -/
def capBody (s : State) (n : Node) : CapBody where
  limit := brushLimit s n.addr / 50
  brush := s.line.brush
  lamp := n.lamp && lampsOn s

/-- A CAP queued for a node with its present contents (R123). -/
def queueCap (a : Addr) (s : State) : State :=
  match nodeAt s a with
  | some n => putFrame (.cap a (capBody s n) none) s
  | none => s

/-- CAPs queued for several nodes. -/
def queueCaps (l : List Addr) (s : State) : State := l.foldl (fun s a => queueCap a s) s

/-- A brush level handed over by the governor: a CAP for every node that declares a brush (R66, R123). -/
def handBrush (level : Nat) (s : State) : State :=
  let s := { s with line := { s.line with brush := level } }
  queueCaps ((s.line.nodes.filter (declaresBrush s)).map (·.addr)) s

/-! ## Membership, floor class in use and claims (R27, R121, R122) -/

/-- The attached nodes whose applied record declares a brush, in address order. -/
def brushNodes (s : State) : List Addr := ((attachedNodes s).filter (declaresBrush s)).map (·.addr)

/-- The attached nodes whose applied record declares a lamp, in address order. -/
def lampNodes (s : State) : List Addr := ((attachedNodes s).filter (declaresLamp s)).map (·.addr)

/-- Slot membership derived again from the node list (R27). A change of it starts a recompute; a node
that has left the brush slots is sent a brush limit of 0, one that has left LAMP alone is sent nothing (log entry
56). A HEAD member that leaves HEAD and stays listed brings no update of BRUSH_MA (log entry 71). -/
def deriveMembers (s : State) : State :=
  let newH := (brushNodes s)[0]?
  let newA := (brushNodes s)[1]?
  let lamps := lampNodes s
  let old := s.arb.head.members ++ s.arb.aux.members
  if s.arb.head.members = newH.toList ∧ s.arb.aux.members = newA.toList
      ∧ s.arb.lamp.members = lamps then s
  else
    let listed := (attachedNodes s).map (·.addr)
    let arb := s.arb.reseatBrushes newH newA listed (s.line.tpwr == .full)
    let arb := { arb with lamp := { arb.lamp with members := lamps } }
    let left := old.filter fun a => some a != newH && some a != newA
    askRecompute (queueCaps left { s with arb := arb })

/-- The HEAD member's entry. -/
def headNode (s : State) : Option Node := s.arb.head.members.head?.bind (nodeAt s)

/-- The floor class in use (R121): UNKNOWN, or no HEAD member, gives HARD. -/
def floorInUse (s : State) : FloorClass :=
  match headNode s with
  | some n => if n.floor = .carpet then .carpet else .hard
  | none => .hard

/-- The floor class derived again, and delivered to the governor when it differs (R121). -/
def deriveFloor (s : State) : State :=
  let f := floorInUse s
  if f = s.line.floor then s
  else { s with line := { s.line with floor := f }, gov := { s.gov with floor := f } }

/-- A claim: request, floor, yielding (R26). -/
structure Claim where
  request  : Nat
  floor    : Nat
  yielding : Bool
deriving DecidableEq, Repr

/-- A claim with request 0, as for a slot with no member; its yielding field is then no (log entry 48). -/
def Claim.withdrawn : Claim := ⟨0, 0, false⟩

/-- The claim of a brush member (R122): withdrawn while its jam or fault flag is set. -/
def brushClaim (s : State) (m : Option Addr) : Claim :=
  match m.bind (nodeAt s) with
  | some n =>
    match appliedRecord s n with
    | some r =>
      if n.jam || n.fault then { Claim.withdrawn with yielding := r.yielding }
      else ⟨r.brush, min r.floor r.brush, r.yielding⟩
    | none => .withdrawn
  | none => .withdrawn

/-- The lamp current a node asks for (R122). -/
def lampWanted (s : State) (n : Node) : Nat :=
  if n.lamp && !n.fault then ((appliedRecord s n).map (·.lamp)).getD 0 else 0

/-- The LAMP claim (R122): the sum over the lamp nodes whose lamp is requested on. -/
def lampClaim (s : State) : Claim :=
  let r := ((s.arb.lamp.members.filterMap (nodeAt s)).map (lampWanted s)).sum
  ⟨r, r, false⟩

/-- A claim delivered to a slot; the floor is lowered to the request (R26). -/
def Slot.take (c : Claim) (sl : Slot) : Slot :=
  { sl with request := c.request, floor := min c.floor c.request, yielding := c.yielding }

/-- The tool claims formed again; one that differs is delivered, which starts a recompute (R122, R26). -/
def deliverClaims (s : State) : State :=
  let arb := { s.arb with
    head := s.arb.head.take (brushClaim s s.arb.head.members.head?)
    aux := s.arb.aux.take (brushClaim s s.arb.aux.members.head?)
    lamp := s.arb.lamp.take (lampClaim s) }
  if arb = s.arb then s else askRecompute { s with arb := arb }

/-- Membership, floor class and claims after a change of the node list, of an applied record or of a
stored field. -/
def refreshTools (s : State) : State := deliverClaims (deriveFloor (deriveMembers s))

/-- An applied record handed on after a change of its content or source (R133, R134). -/
def handRecord (a : Addr) (s : State) : State :=
  let s := clearStaleFlags a s
  let s := if s.tools.nozzle = some a then deliverNozzle s else s
  refreshTools s

/-! ## Nodes that leave the list (R118) -/

/-- A frame of an address dropped from the line's queue; one that is on the line runs on (log entry 53). -/
def dropFrames (a : Addr) (s : State) : State :=
  { s with line := { s.line with
      queue := s.line.queue.filter (fun f => f.addr != a)
      lost := s.line.lost.filter (fun f => f.addr != a) } }

/-- An entry becomes GONE (R118). `quiet` leaves TOOL_DETACH out, within a soft reset (R113). The queued frames for
its address are dropped also where it never completed assignment (log entry 62). BRUSH_MA with NONE is delivered where
it was the HEAD member, and nowhere else (log entry 71). -/
def nodeGone (quiet : Bool) (a : Addr) (s : State) : State :=
  match nodeAt s a with
  | none => s
  | some n =>
    let wasHead := s.arb.head.members.contains a
    let s := dropFrames a { s with line := { s.line with
      nodes := s.line.nodes.filter (fun m => m.addr != a)
      quarantine := s.line.quarantine ++ [⟨a, 250⟩] } }
    if n.completed then
      let s := askRecompute { s with arb := s.arb.mapTools (Slot.depart a) }
      let s := refreshTools (deriveNozzle s)
      let s := if wasHead then deliver .brushMa noneMark s else s
      raiseIf (!quiet) .toolDetach s
    else s

/-- Every entry removed, one by one, lowest address first (R113, R126; log entry 48). -/
def removeNodes (quiet : Bool) (s : State) : State :=
  (s.line.nodes.map (·.addr)).foldl (fun s a => nodeGone quiet a s) s

/-- A missed poll of an entry (R117). -/
def pollMissed (a : Addr) (s : State) : State :=
  match nodeAt s a with
  | none => s
  | some n =>
    if 3 ≤ n.missed + 1 then nodeGone false a s
    else setNode a (fun n => { n with
      missed := n.missed + 1
      state := if n.state = .assigning then .assigning else .silent }) s

/-- A POLL that becomes due; one that replaces an unsent POLL counts the replaced one as missed
(R114, R117). -/
def queuePoll (a : Addr) (s : State) : State :=
  let s := if queued (.poll a) s then pollMissed a s else s
  if (nodeAt s a).isSome then putFrame (.poll a) s else s

/-! ## Tool power (R125, R126) -/

/-- Every pending cap discarded, with the CAPs that were to be sent again (R124); a CAP on the line runs on (log
entry 27). -/
def discardCaps (s : State) : State :=
  { s with line := { s.line with
      nodes := s.line.nodes.map (fun n => { n with pending := none })
      queue := s.line.queue.filter (fun f => match f with
        | .cap _ _ (some _) => false
        | _ => true)
      lost := s.line.lost.filter (fun f => f.rank != 1) } }

/-- A change of TPWR level (R125): away from FULL the Arbiter performs its forced release; at FULL the
outstanding offers are withdrawn (R36); every change starts a recompute (R28). -/
def setTpwr (l : Tpwr) (c : ReleaseCause) (s : State) : State :=
  if s.line.tpwr = l then s
  else
    let was := s.line.tpwr
    let s := discardCaps { s with line := { s.line with tpwr := l } }
    let s :=
      if was = .full then
        forcedRelease c { s with arb := { s.arb with supCount := 0 } }
      else s
    let s := if l = .full then { s with arb := s.arb.mapTools Slot.toFull } else s
    askRecompute s

/-- The holds of TPWR: a standing cut-off, or a power state other than ACTIVE (R125, R126). -/
def powerHeld (s : State) : Bool := s.pack.cutoff || s.pack.power != .active

/-- The line's queue, the frame on the line and the reply window dropped. -/
def clearTraffic (s : State) : State :=
  { s with line := { s.line with queue := [], lost := none, wire := none, bits := [], await := none } }

/-- A line reset (R113): its three steps. The dominant drive lasts 2 ms, which is 40 bit periods. -/
def lineReset (quiet : Bool) (s : State) : State :=
  let s := if s.line.tpwr = .full then setTpwr .signal .power s else s
  let s := clearTraffic (removeNodes quiet s)
  { s with line := { s.line with quarantine := [], resetting := some 40, idle := 0 } }

/-- TPWR switched OFF and held there, at a cut-off or at STANDBY entry (R126). A line reset that is being driven
runs on to its end (log entry 55). -/
def holdPower (s : State) : State :=
  let s := clearTraffic (setTpwr .off .power s)
  let s := clearTraffic (removeNodes false s)
  deriveFloor { s with line := { s.line with quarantine := [] } }

/-- The hold released: TPWR becomes SIGNAL and a line reset follows, unless another hold stands (R126). -/
def releasePower (s : State) : State :=
  if powerHeld s || s.line.tpwr != .off then s
  else lineReset false (setTpwr .signal .power s)

/-- The TPWR rule after a hand-over from the Arbiter (R125). -/
def powerRule (s : State) : State :=
  let granted := 0 < s.arb.head.grant + s.arb.lamp.grant + s.arb.aux.grant
  if s.line.tpwr = .full ∧ ¬ granted then setTpwr .signal .power s
  else if s.line.tpwr = .signal ∧ granted ∧ powerHeld s = false then setTpwr .full .power s
  else s

/-- The tool side of a recompute's hand-over (R37): CAPs for the members and the concerned nodes of each
tool slot whose grant or offer changed, then the TPWR rule. -/
def handTools (s : State) : State :=
  let nodesOf := fun (sl : Slot) => if sl.news then addrUnion sl.members sl.concerned else []
  let nodes := addrUnion (addrUnion (nodesOf s.arb.head) (nodesOf s.arb.lamp)) (nodesOf s.arb.aux)
  let mark := fun (sl : Slot) => { sl with news := false }
  powerRule (queueCaps nodes { s with arb := s.arb.mapTools mark })

end Sys2Proof.Machine
end

