-- ==== Sys2Proof/Machine/Governor.lean ====
section
/-! DEFINITION. The Suction Governor (Chapter 4): power request, suction claim, set point and ceiling,
and the operations on the mode stack. -/

namespace Sys2Proof.Machine

/-! ## The power request (R73) -/

/-- The boost percentage (R73). -/
def boostPercent (s : State) : Nat :=
  let p := activeProfile s.gov
  if !p.auto || s.dirt.status == .absent || s.load.cls == .blocked then 0
  else p.gain * s.gov.boost * 5

/-- P_base (R73). -/
def basePower (g : Gov) : Nat :=
  if g.floor = .carpet then (activeProfile g).carpet else (activeProfile g).hard

/-- P_req from P_base, the boost percentage, the airflow factor and floor_power (R73). -/
def requestPower (base boost factor floor : Nat) : Nat :=
  min 600 (max (base * (100 + boost) / 100 * factor / 100) floor)

/-! ## The suction claim (R74) -/

/-- The voltage of the claim: at least 10,000 mV, and 10,000 mV with no record (R74). -/
def claimVolts (s : State) : Nat :=
  match s.pack.record with
  | some r => max r.vpack 10000
  | none => 10000

/-- A power as a current at a voltage, rounded up (R74). -/
def powerToCurrent (watts volts : Nat) : Nat := ceilDiv (watts * 1000000) volts

/-- The request formed by a step: P_base, boost, P_req (R73). -/
def formRequest (s : State) : State :=
  let base := basePower s.gov
  let boost := boostPercent s
  { s with gov := { s.gov with
      pBase := base, boostPct := boost
      pReq := requestPower base boost s.gov.factor (activeProfile s.gov).floor } }

/-- The claim is active from ARMING until the drive is at rest again (R26). -/
def claimActive (d : Drive) : Bool := !d.state.atRest

/-- The claim formed from P_req, delivered to the SUCTION slot when it differs from the one last
delivered (R74, R26); the first delivery after a reset is in full, with the active flag (R80, R41; log entry
44). A changed floor is passed on to a pending start after the recompute (R44, R76). -/
def deliverSuction (s : State) : State :=
  let v := claimVolts s
  let req := powerToCurrent s.gov.pReq v
  let floor := powerToCurrent (activeProfile s.gov).floor v
  if s.gov.delivered ∧ req = s.gov.claimReq ∧ floor = s.gov.claimFloor then s
  else
    let s' := askRecompute { s with
      gov := { s.gov with claimReq := req, claimFloor := floor, delivered := true }
      arb := { s.arb with
        active := if s.gov.delivered then s.arb.active else claimActive s.drive
        suction := { s.arb.suction with request := req, floor := min floor req } } }
    if s.drive.startPending && s.arb.suction.floor != min floor req then emit .startCheck s' else s'

/-! ## Set point and ceiling (R75 to R78) -/

/-- P_cap (R75). -/
def powerCap (grant volts : Nat) : Nat := grant * volts / 1000000

/-- The set point after a ramp step (R75). -/
def rampStep (pset peff ramp : Nat) : Nat :=
  if peff < pset then peff else pset + min ramp (peff - pset)

/-- P_cap, P_eff and the ceiling from the grant and the derate in force (R75 stages 1, 2 and 4), with P_req as
the last step formed it (R76; log entry 46). -/
def formLimits (s : State) : State :=
  let cap := powerCap s.gov.grant (packVolts s)
  { s with gov := { s.gov with
      pCap := cap
      pEff := min s.gov.pReq (cap * s.watch.derate / 100)
      ceiling := s.gov.grant * s.watch.derate / 100 } }

/-- The ceiling alone (R75 stage 4). -/
def formCeiling (s : State) : State :=
  { s with gov := { s.gov with ceiling := s.gov.grant * s.watch.derate / 100 } }

/-- Set point and ceiling handed to the Motor Drive (R48, R72). -/
def handSetPoint (s : State) : State :=
  { s with drive := { s.drive with pset := s.gov.pset, ceiling := s.gov.ceiling } }

/-- SPINUP or RUN (R75). -/
def tracking (s : State) : Bool := s.drive.state == .spinup || s.drive.state == .run

/-- The set point of a step (R75, R78). -/
def stepSetPoint (s : State) : State :=
  if tracking s then
    let s := formLimits s
    let p := rampStep s.gov.pset s.gov.pEff (activeProfile s.gov).ramp
    handSetPoint { s with gov := { s.gov with pset := p, ramping := p < s.gov.pEff } }
  else
    let s := formCeiling s
    handSetPoint { s with gov := { s.gov with pset := 0 } }

/-- A change of grant or derate between steps: the set point falls at once and never rises here, and
the ceiling is handed over (R76 stages 3 and 4, R77). -/
def limitSetPoint (s : State) : State :=
  if tracking s then
    let s := formLimits s
    let p := min s.gov.pset s.gov.pEff
    handSetPoint { s with gov := { s.gov with pset := p, ramping := p < s.gov.pEff } }
  else
    let s := formCeiling s
    { s with drive := { s.drive with ceiling := s.gov.ceiling } }

/-- The boost level a step takes: the dirt level in RUN, otherwise the one held (R79). -/
def takeBoost (s : State) : State :=
  if s.drive.state = .run then { s with gov := { s.gov with boost := s.dirt.level } } else s

/-- The governor's part of a step, in the order of R72. -/
def governorWork (s : State) : State := stepSetPoint (deliverSuction (formRequest (takeBoost s)))

/-- Leaving the driving states for STOPPING, FAULT, LOCKED or OFF (R78). -/
def zeroSetPoint (s : State) : State :=
  { s with
    gov := { s.gov with pset := 0, ramping := false }
    drive := { s.drive with pset := 0 } }

/-- The suction claim's active flag set or cleared; a change is delivered (R26). -/
def setActive (b : Bool) (s : State) : State :=
  if s.arb.active = b then s else askRecompute { s with arb := { s.arb with active := b } }

/-! ## The mode stack (R66 to R71) -/

/-- The stack replaced. When the profile index of the top changes, the new profile's brush level is
handed to the Tool Line Controller (R66). -/
def setStack (st : List StackEntry) (s : State) : State :=
  let old := activeIndex s.gov
  let s := { s with gov := { s.gov with stack := st } }
  if activeIndex s.gov = old then s else handBrush (activeProfile s.gov).brush s

/-- The origin of the top entry. -/
def topOrigin (g : Gov) : Option Origin := g.stack.getLast?.map (·.origin)

/-- A CLEAR entry stands on the stack. -/
def hasClear (st : List StackEntry) : Bool := st.any (·.origin == .clear)

/-- The clear push is made: depth 1 to 3 with no CLEAR entry present (R70). -/
def clearPushAllowed (g : Gov) : Bool := g.stack.length < 4 && !hasClear g.stack

/-- The clear push asked for by the load monitor; its report is the push-made flag (R70, R86). -/
def clearPush (s : State) : State :=
  if clearPushAllowed s.gov then
    let s := setStack (s.gov.stack ++ [⟨15, .clear⟩]) s
    { s with load := { s.load with pushMade := true } }
  else { s with load := { s.load with pushMade := false } }

/-- The clear pop (R70). -/
def clearPop (s : State) : State :=
  if topOrigin s.gov = some .clear then setStack s.gov.stack.dropLast s else s

/-- The collapse of the stack to its BASE entry at a trigger release; a clearing pulse or wait ends
(R71, R89). -/
def collapseStack (s : State) : State :=
  let s' := setStack (s.gov.stack.take 1) s
  { s' with load := { s'.load with phase := .none, timer := none } }

/-- The BASE entry's profile replaced (R67). -/
def setBase (p : Fin 16) : List StackEntry → List StackEntry
  | [] => []
  | e :: es => { e with profile := p } :: es

/-- The highest HOST entry removed from a list given from top to bottom. -/
def dropFirstHost : List StackEntry → List StackEntry
  | [] => []
  | e :: es => if e.origin = .host then es else e :: dropFirstHost es

/-- The stack without its highest HOST entry (R69). -/
def dropHost (st : List StackEntry) : List StackEntry := (dropFirstHost st.reverse).reverse

/-- The stack holds a HOST entry. -/
def hasHost (st : List StackEntry) : Bool := st.any (·.origin == .host)

end Sys2Proof.Machine
end

