-- ==== Sys2Proof/Machine/Airflow.lean ====
section
/-! DEFINITION. The Airflow Load Monitor (Chapter 5): expected speed, load ratio, classes and clearing
episodes. -/

namespace Sys2Proof.Machine

/-! ## Expected speed and load ratio (R81, R82) -/

/-- A point between two power points, the quotient rounded down (R81). -/
def between (sa sb pa p : Nat) : Int :=
  (sa : Int) + ((p : Int) - pa) * ((sb : Int) - sa) / 150

/-- The expected speed n_exp for a power (R81). -/
def expectedSpeed (c : Curve) (p : Nat) : Int :=
  if p ≤ 100 then c.s1
  else if 550 ≤ p then c.s4
  else if p < 250 then between c.s1 c.s2 100 p
  else if p < 400 then between c.s2 c.s3 250 p
  else between c.s3 c.s4 400 p

/-- The distance of two powers. -/
def distance (a b : Nat) : Nat := (a - b) + (b - a)

/-- The load ratio L of a step, or NONE (R82): `pset` and `ramping` as the step takes them. -/
def loadRatio (state : MotorState) (pset : Nat) (ramping : Bool) (pMeas speed : Option Nat)
    (nExp : Int) : Option Nat :=
  match pMeas, speed with
  | some pm, some sp =>
    if state = .run ∧ 0 < pset ∧ ramping = false ∧ distance pm pset ≤ pset / 10 ∧ 0 < nExp then
      some (min 32767 (sp * 100 / nExp.toNat))
    else none
  | _, _ => none

/-! ## Classes (R84, R85) -/

/-- The three sustain counts. -/
structure Sustain where
  rise    : Nat
  block   : Nat
  release : Nat
deriving DecidableEq, Repr

/-- A count advanced, saturating at 255, or set to 0 (R84). -/
def sustain (qualifies : Bool) (n : Nat) : Nat := if qualifies then bump 255 n else 0

/-- The sustain counts after a counted step in a class (R84). -/
def sustainStep (cls : BlockClass) (blockPct l : Nat) (c : Sustain) : Sustain :=
  match cls with
  | .clear => ⟨sustain (blockPct - 8 ≤ l) c.rise, sustain (blockPct ≤ l) c.block, 0⟩
  | .restricted => ⟨0, sustain (blockPct ≤ l) c.block, sustain (l < blockPct - 8 - 4) c.release⟩
  | .blocked => ⟨0, 0, sustain (l < blockPct - 6) c.release⟩

/-- The class a counted step decides: the first row of R85 that holds. -/
def decideClass (cls : BlockClass) (blockPct blockMs l : Nat) (c : Sustain) : BlockClass :=
  match cls with
  | .clear =>
    if blockMs / 10 ≤ c.block then .blocked else if 20 ≤ c.rise then .restricted else .clear
  | .restricted =>
    if blockMs / 10 ≤ c.block then .blocked else if 30 ≤ c.release then .clear else .restricted
  | .blocked =>
    if 30 ≤ c.release then (if l < blockPct - 8 - 4 then .clear else .restricted) else .blocked

/-! ## Clearing episodes (R86 to R90) -/

/-- An attempt starts: the count advances, a clear push is asked for, the pulse timer starts (R86). -/
def startAttempt (s : State) : State :=
  let s := { s with load := { s.load with attempts := s.load.attempts + 1 } }
  let s := clearPush s
  { s with load := { s.load with phase := .pulse, timer := some 600 } }

/-- The episode has failed: a stop order with cause BLOCKED, BLOCKAGE, phase NONE (R88). -/
def failEpisode (s : State) : State :=
  let s := { s with load := { s.load with phase := .none, timer := none } }
  raise .blockage (emit (.stop .blocked) s)

/-- The next attempt, or the failure of the third (R86, R88). -/
def attemptOrFail (s : State) : State :=
  if s.load.attempts < 3 then startAttempt s else failEpisode s

/-- The block count after a change of class: it keeps running from CLEAR to RESTRICTED, and is 0 after any
other change (R84, Section 5.8; log entry 43). -/
def blockAfter (new : BlockClass) (block : Nat) : Nat := if new = .restricted then block else 0

/-- What a change of class does (R85, R86, R88). -/
def classChanged (new : BlockClass) (s : State) : State :=
  let s := { s with load := { s.load with
    cls := new, rise := 0, block := blockAfter new s.load.block, release := 0 } }
  match new with
  | .blocked => if s.load.phase = .pulse then s else attemptOrFail s
  | .clear | .restricted =>
    let s := if new = .clear then { s with load := { s.load with attempts := 0 } } else s
    if s.load.phase = .wait then { s with load := { s.load with phase := .none, timer := none } }
    else s

/-- A counted step: the counts, then the class (R84, R85). -/
def countedStep (l : Nat) (s : State) : State :=
  let m := s.load
  let c := sustainStep m.cls m.blockPct l ⟨m.rise, m.block, m.release⟩
  let s := { s with load := { m with rise := c.rise, block := c.block, release := c.release } }
  let new := decideClass m.cls m.blockPct m.blockMs l c
  if new = m.cls then s else classChanged new s

/-- The monitor's part of a governor step (R81 to R85): `pset` and `ramping` as the step took them. -/
def loadStep (pset : Nat) (ramping : Bool) (s : State) : State :=
  let nExp := if s.drive.state = .run then some (expectedSpeed s.gov.curve pset) else none
  let l := match nExp with
    | some n => loadRatio s.drive.state pset ramping s.drive.pMeas s.drive.speed n
    | none => none
  let s := { s with load := { s.load with ratio := l, expected := nExp } }
  let s := deliver .loadPct (reportNat l) s
  match l with
  | some v => countedStep v s
  | none => s

/-- The monitor's resting values when the motor leaves RUN (R90); the report of the last push stays (log entry
47). -/
def loadRest (s : State) : State :=
  let s := if s.load.phase = .pulse ∧ s.load.pushMade then clearPop s else s
  { s with load := { s.load with
      phase := .none, timer := none, cls := .clear, rise := 0, block := 0, release := 0
      attempts := 0, ratio := none, expected := none } }

end Sys2Proof.Machine
end

