-- ==== Sys2Proof/Machine/DirtOps.lean ====
section
/-! DEFINITION. The Dirt Monitor (Chapter 6): the self-test, windows, the dirt level and the bin. -/

namespace Sys2Proof.Machine

/-! ## Self-test and leaving RUN (R94, R95) -/

/-- The sensor self-test begins: one test pulse on PZT, and the echo timer; a running test is stopped without
a result (R94; log entry 49). -/
def startSelfTest (s : State) : State :=
  { s with dirt := { s.dirt with echo := some 2, pulses := s.dirt.pulses + 1 } }

/-- The detection level on PZI in mV (R94, R96). -/
def detectionLevel : Nat := 40

/-- The window starts at RUN entry (R97). -/
def openWindow (s : State) : State := { s with dirt := { s.dirt with window := some ⟨100, 0, 0⟩ } }

/-- The level, its counters and the rate zeroed; DIRT_LEVEL if the level was above 0 (R95). -/
def zeroLevel (rate : Option Nat) (s : State) : State :=
  raiseIf (0 < s.dirt.level) .dirtLevel
    { s with dirt := { s.dirt with level := 0, rise := 0, cand := 0, fall := 0, rate := rate } }

/-- The motor leaves RUN: the window is discarded, level and rate are zeroed, and one update of
DIRT_RATE is delivered (R95). -/
def dirtRunExit (s : State) : State :=
  let rate := if s.dirt.status = .absent then none else some 0
  let s := zeroLevel rate { s with dirt := { s.dirt with window := none } }
  deliver .dirtRate (reportNat rate) s

/-! ## Window results (R98) -/

/-- The weighted count W (R98). -/
def weighted (small large : Nat) : Nat := small + 4 * large

/-- The flow index F (R98). -/
def flowIndex (pset : Nat) : Nat := clampNat 10 100 (pset * 100 / 500)

/-- The rate R of a window for a status that forms one (R98). -/
def rateOf (w f : Nat) : Nat := min 32767 (w * 100 / f)

/-! ## The dirt level (R99, R100) -/

/-- The candidate of a rate (R99). -/
def candidate (d : Dirt) (r : Nat) : Nat :=
  if d.t3 ≤ r then 3 else if d.t2 ≤ r then 2 else if d.t1 ≤ r then 1 else 0

/-- The fall threshold of a level (R100). -/
def fallThreshold (d : Dirt) (level : Nat) : Nat :=
  (if level = 1 then d.t1 else if level = 2 then d.t2 else d.t3) * 3 / 4

/-- The fall rule, for a level above 0 (R100). -/
def fallRule (r : Nat) (d : Dirt) : Dirt :=
  if d.level = 0 then d
  else if r < fallThreshold d d.level then
    if 10 ≤ d.fall + 1 then { d with level := d.level - 1, fall := 0 }
    else { d with fall := d.fall + 1 }
  else { d with fall := 0 }

/-- Level classification at a window end with the airflow CLEAR: the rise rule, then the fall rule for
a window that did not raise the level (R99, R100). -/
def classify (r : Nat) (d : Dirt) : Dirt :=
  let c := candidate d r
  if d.level < c then
    if d.rise = 0 then fallRule r { d with rise := 1, cand := c }
    else { d with level := min d.cand c, rise := 0, cand := 0, fall := 0 }
  else fallRule r { d with rise := 0, cand := 0 }

/-! ## The bin (R103 to R105) -/

/-- The full flag evaluated again; BIN_FULL when it becomes set (R104). -/
def evalFull (s : State) : State :=
  let f := decide (s.dirt.fullPct ≤ binPct s.dirt)
  raiseIf (f && !s.dirt.full) .binFull { s with dirt := { s.dirt with full := f } }

/-- A window's W joins the bin counter, held at the capacity, where BIN_SAT is set (R103). -/
def accumulate (w : Nat) (d : Dirt) : Dirt :=
  let b := min (d.bin + w) d.capacity
  { d with bin := b, sat := d.sat || b == d.capacity }

/-- One update of BIN_PCT (R102). -/
def deliverBin (s : State) : State := deliver .binPct (report (some (binPct s.dirt))) s

/-- The bin counter emptied (R105). -/
def emptyBin (s : State) : State :=
  deliverBin (evalFull { s with dirt := { s.dirt with bin := 0 } })

/-! ## The window end (R98 to R104) -/

/-- A window end with its counts (R98 to R104). -/
def windowEnd (w : Window) (s : State) : State :=
  let wc := weighted w.small w.large
  let f := flowIndex s.gov.pset
  let absent := s.dirt.status == .absent
  let rate := if absent then none else some (rateOf wc f)
  let heldNow := s.load.cls != .clear
  let d : Dirt := { s.dirt with
    window := some ⟨100, 0, 0⟩, lastSmall := w.small, lastLarge := w.large, lastW := wc, lastF := f
    rate := rate, heldLevel := heldNow }
  let d : Dirt := match rate with
    | some r => if heldNow then d else classify r d
    | none => { d with level := 0, rise := 0, cand := 0, fall := 0 }
  let moved := d.level != s.dirt.level
  let d : Dirt := if d.status = .present then accumulate wc d else d
  let s := raiseIf moved .dirtLevel { s with dirt := d }
  deliverBin (deliver .dirtRate (reportNat rate) (evalFull s))

end Sys2Proof.Machine
end

