-- ==== Sys2Proof/Machine/EvacOps.lean ====
section
/-! DEFINITION. The transitions of the evacuation record (Chapter 10). -/

namespace Sys2Proof.Machine

/-- An ending: state and outcome are written, the completion timer stops, EVAC_END is raised (R165). -/
def endEvac (st : EvacState) (o : EvacOutcome) (s : State) : State :=
  raise .evacEnd { s with evac := { s.evac with state := st, outcome := o, timer := none } }

/-- The EVAC_REQ was accepted: RUNNING, the completion timer at duration + 5 s (R168). -/
def evacAccepted (s : State) : State :=
  if s.evac.state = .requested then
    { s with evac := { s.evac with
        state := .running, outcome := .none, timer := some ((s.evac.duration + 5) * 1000) } }
  else s

/-- The EVAC_REQ was rejected (R168). -/
def evacRejected (reason : Byte) (s : State) : State :=
  if s.evac.state = .requested then
    endEvac .failed .rejected { s with evac := { s.evac with reason := some reason } }
  else s

/-- The EVAC_REQ exchange failed (R168). -/
def evacNoAccept (s : State) : State :=
  if s.evac.state = .requested then endEvac .failed .noAccept s else s

/-- A detach or a soft reset ends an evacuation in progress (R170). -/
def abortEvac (o : EvacOutcome) (s : State) : State :=
  if evacInProgress s then endEvac .aborted o s else s

/-- The fields a start writes (R165). -/
def evacStartRecord (t : EvacTrigger) (duration : Nat) (s : State) : State :=
  { s with evac := { s.evac with
      state := .requested, trigger := t, duration := duration, binPct := binPct s.dirt
      outcome := .none, reason := none, confirmed := false } }

/-- The conditions of an automatic start (R166). -/
def autoConditions (s : State) : Bool :=
  0 < s.evac.pct
    && (s.dock.identity.any (·.support))
    && s.evac.pct ≤ binPct s.dirt
    && (s.dock.state != .detached && s.dock.state != .attachWait && s.dock.state != .fault)
    && !evacInProgress s
    && !s.evac.auto

/-- The dock's report of an evacuation (R169, R194). -/
inductive EvacReport
  | running
  | done
  | failed (o : EvacOutcome)
deriving DecidableEq, Repr

/-- A report from its status and reason bytes; `none` is a frame R194 discards. -/
def evacReport (status reason : Byte) : Option EvacReport :=
  if status = 0 then some .running
  else if status = 1 then some .done
  else if status = 2 then
    if reason = 1 then some (.failed .clog)
    else if reason = 2 then some (.failed .door)
    else if reason = 3 then some (.failed .timeout)
    else none
  else none

/-- A report taken while the record is RUNNING; in any other state it is discarded (R169). -/
def evacReported (r : EvacReport) (s : State) : State :=
  if s.evac.state = .running then
    match r with
    | .running => { s with evac := { s.evac with confirmed := true } }
    | .done => emptyBin (endEvac .done .done s)
    | .failed o => endEvac .failed o s
  else s

end Sys2Proof.Machine
end

