-- ==== Sys2Proof/Machine/DockOps.lean ====
section
/-! DEFINITION. The Dock Link and Charge Controller (Chapter 9): charge states, exchanges, offer
selection, the charge check and the charge switch. -/

namespace Sys2Proof.Machine

/-! ## Changes of charge state (R142, R152, R156) -/

/-- A change of charge state: CHARGE_STATE is raised, CSW opens at an exit from the charging states,
and the bleed set empties outside TAPER and TOPPED. -/
def setCharge (new : ChargeState) (s : State) : State :=
  if s.dock.state = new then s
  else
    raise .chargeState { s with dock := { s.dock with
      state := new
      csw := s.dock.csw && new.charges
      iChg := if new.charges then s.dock.iChg else 0
      bleed := if new = .taper ∨ new = .topped then s.dock.bleed else [] } }

/-- CSW opens; the regulator is off (R152). -/
def openSwitch (s : State) : State := { s with dock := { s.dock with csw := false, iChg := 0 } }

/-- CSW closes at entry to a charging state, only with the motor at rest (R152). -/
def closeSwitch (s : State) : State :=
  { s with dock := { s.dock with csw := s.drive.state.atRest } }

/-! ## Due requests and exchanges (R147, R148) -/

/-- An exchange starts: its request is being sent (R147). -/
def startExchange (r : DockReq) (s : State) : State :=
  { s with dock := { s.dock with exch := some {
      req := r, attempts := 1, deadline := none, waits := 0, waiting := false
      phase := .first, send := .sending, collisions := 0 } } }

/-- A due request is sent when the record is free, in the order HALT, HELLO, CHARGE_REQ, EVAC_REQ
(R148). A CHARGE_REQ sent in a pause for changed offers makes the state NEGOTIATE (R157, R159). -/
def trySend (s : State) : State :=
  if s.dock.exch.isSome then s
  else if s.dock.dueHalt then
    startExchange .halt { s with dock := { s.dock with dueHalt := false } }
  else
    match s.dock.dueCharge, s.dock.dueEvac with
    | some r, _ =>
      let s := startExchange r { s with dock := { s.dock with dueCharge := none } }
      if s.dock.state = .paused ∧ s.dock.pause = .offerChange then setCharge .negotiate s else s
    | none, some d => startExchange (.evacReq d) { s with dock := { s.dock with dueEvac := none } }
    | none, none => s

/-- A HALT becomes due, only while the IDENT-taken flag is set (R148). -/
def makeHaltDue (s : State) : State :=
  { s with dock := { s.dock with dueHalt := s.dock.dueHalt || s.dock.identTaken } }

/-- The request belongs to the charging side: HELLO or CHARGE_REQ. -/
def DockReq.isCharge : DockReq → Bool
  | .hello => true
  | .chargeReq _ _ => true
  | .evacReq _ => false
  | .halt => false

/-- A HELLO or CHARGE_REQ in progress ends as CANCELLED, and a due one is no longer due (R159, R160). -/
def cancelCharge (s : State) : State :=
  { s with dock := { s.dock with
      dueCharge := none
      exch := s.dock.exch.filter (fun e => !e.req.isCharge) } }

/-- The entry steps that PAUSED for TEMP or WATCH, FAULT and DISABLED share: requests cancelled, the
agreement ended, a HALT due (R159, R160, R161). -/
def abandonCharge (s : State) : State :=
  makeHaltDue (cancelCharge { s with dock := { s.dock with agreement := none } })

/-! ## Entries to the states -/

/-- Entry to PAUSED with cause TEMP or WATCH (R159). -/
def enterPause (c : PauseCause) (s : State) : State :=
  let s := openSwitch (setCharge .paused s)
  trySend (abandonCharge { s with dock := { s.dock with pause := c } })

/-- Entry to PAUSED with cause NO_OFFER (R150, R158); a request that is due beside it is sent if the record is
free (R148). -/
def enterNoOffer (s : State) : State :=
  let s := openSwitch (setCharge .paused s)
  trySend { s with dock := { s.dock with pause := .noOffer, dueCharge := none } }

/-- Entry to FAULT (R160). -/
def enterChargeFault (c : ChargeFault) (s : State) : State :=
  let s := openSwitch (setCharge .fault s)
  trySend (raise .chargeFault (abandonCharge { s with dock := { s.dock with lastFault := c } }))

/-- Entry to DISABLED by CHARGE_FORCE (R161). -/
def enterDisabled (s : State) : State := trySend (abandonCharge (openSwitch (setCharge .disabled s)))

/-- Entry to IDENTIFY, taken as PAUSED with cause WATCH while the pause order is set (R149, R157, R159). The resume
phase and the taper target are cleared in both cases (R157; log entry 64). -/
def enterIdentify (s : State) : State :=
  let s := { s with dock := { s.dock with resume := none, taper := none } }
  if s.watch.pauseOrder then enterPause .watch s
  else
    let s := setCharge .identify s
    trySend { s with dock := { s.dock with dueCharge := some .hello } }

/-- The voltage an eligible offer needs (R150). -/
def neededVolts (s : State) : Nat := s.pack.count * 4200 + 1000

/-- The voltage of the COARSE offer (R158). -/
def coarseVolts : Nat := 30000

/-- The current of a coarse class (R143). -/
def CoarseClass.amps : CoarseClass → Nat
  | .low => 500
  | .mid => 1000
  | .high => 2000

/-- Entry to COARSE, or to PAUSED with cause NO_OFFER where its offer is not eligible (R158). The precharge timer
starts there from 0 (log entry 63). -/
def enterCoarse (s : State) : State :=
  let s := openSwitch s
  let s := { s with dock := { s.dock with
    resume := none, taper := none, agreement := none, dueCharge := none, precharge := 0 } }
  if neededVolts s ≤ coarseVolts then closeSwitch (setCharge .coarse s) else enterNoOffer s

/-- Entry to TOPPED; the Pack Monitor receives the full-mark (R155, R13). A due re-request is dropped and one in
progress runs on (log entry 30). -/
def enterTopped (s : State) : State :=
  let fromCoarse := s.dock.state == .coarse
  let s := openSwitch (setCharge .topped s)
  let s := { s with
    dock := { s.dock with agreement := none, total := 0, dueCharge := none }
    pack := { s.pack with gauge := fullCharge s.pack } }
  trySend (if fromCoarse then s else makeHaltDue s)

/-! ## Currents (R150, R153, R154) -/

/-- I_max in use (R150). -/
def iMaxInUse (s : State) : Nat := if s.host.ready then s.dock.iMax else min s.dock.iMax 1000

/-- The temperature bands of the temperature limit (R153). -/
inductive Band
  | barred | half | full
deriving DecidableEq, Repr

/-- The band of a T_max (R153). -/
def band : Option Int → Band
  | none => .barred
  | some t => if t < 0 ∨ 45 < t then .barred else if t ≤ 9 then .half else .full

/-- The temperature limit (R153). -/
def tempLimit (s : State) : Nat :=
  match band (packTmax s) with
  | .barred => 0
  | .half => iMaxInUse s / 2
  | .full => iMaxInUse s

/-- I_tgt (R150). -/
def chargeTarget (s : State) : Nat := floorTo 25 (min (iMaxInUse s) (tempLimit s))

/-- A dividend over ten times V_pack, rounded down; open where V_pack is 0 (log entry 10). -/
def overPack (n vpack : Nat) : Nat :=
  if vpack = 0 then Config.chargeOverZero n else n / (10 * vpack)

/-- The capacity of an offer (R150). -/
def offerCapacity (volts amps vpack : Nat) : Nat := overPack (volts * amps * 9) vpack

/-- The current an agreed input covers (R154). -/
def cover (a : Agreement) (vpack : Nat) : Nat := floorTo 25 (overPack (a.input * 9 * a.volts) vpack)

/-- I_in for a charge current from an offer (R150). -/
def inputFor (iChg vpack volts amps : Nat) : Nat :=
  let i := ceilDiv (iChg * vpack * 10) (9 * volts * 25) * 25
  if amps < i then floorTo 25 amps else i

/-- The target of a phase (R150). -/
def phaseTarget (d : Dock) (iTgt : Nat) : ChargePhase → Nat
  | .bulk => iTgt
  | .precharge => min 300 iTgt
  | .taper => min (d.taper.getD iTgt) iTgt

/-- I_chg of a phase from an offer (R150). -/
def phaseCurrent (s : State) (ph : ChargePhase) (iTgt volts amps : Nat) : Nat :=
  floorTo 25 (min (offerCapacity volts amps (packVolts s)) (phaseTarget s.dock iTgt ph))

/-- The charge state of a phase. -/
def ChargePhase.state : ChargePhase → ChargeState
  | .precharge => .precharge
  | .bulk => .bulk
  | .taper => .taper

/-! ## Offer selection (R150) -/

/-- The better of two indexed offers: the higher power, a tie to the lower index. -/
def betterOffer (a b : Nat × Offer) : Nat × Offer :=
  if a.2.volts * a.2.amps < b.2.volts * b.2.amps then b else a

/-- The best of a list of indexed offers. -/
def bestOffer : List (Nat × Offer) → Option (Nat × Offer)
  | [] => none
  | o :: os =>
    match bestOffer os with
    | none => some o
    | some b => some (betterOffer o b)

/-- The offers with their indices, from 1 (R149). -/
def indexed : Nat → List Offer → List (Nat × Offer)
  | _, [] => []
  | k, o :: os => (k, o) :: indexed (k + 1) os

/-- The chosen offer: the best of the eligible ones (R150). -/
def chooseOffer (s : State) : Option (Nat × Offer) :=
  bestOffer ((indexed 1 s.dock.offers).filter fun o =>
    !o.2.rejected && neededVolts s ≤ o.2.volts)

/-- The phase to be entered on READY (R150, R157). -/
def chosenPhase (s : State) : ChargePhase :=
  s.dock.resume.getD (if packVmin s < 3000 then .precharge else .bulk)

/-- Offer selection (R150). In a pause for OFFER_CHANGE or NO_OFFER the state stays PAUSED until the
CHARGE_REQ is sent (R157). -/
def selectOffer (s : State) : State :=
  let tgt := chargeTarget s
  let s := { s with dock := { s.dock with iTgt := tgt } }
  match chooseOffer s with
  | none => enterNoOffer s
  | some (i, o) =>
    let ph := chosenPhase s
    let want := phaseCurrent s ph tgt o.volts o.amps
    let input := inputFor want (packVolts s) o.volts o.amps
    let s := { s with dock := { s.dock with
      plan := ph, want := want, dueCharge := some (.chargeReq i input) } }
    let s :=
      if s.dock.state = .paused then { s with dock := { s.dock with pause := .offerChange } }
      else setCharge .negotiate s
    trySend s

/-! ## Agreement and re-request (R151, R154) -/

/-- READY of the first CHARGE_REQ: the agreement, the phase, CSW (R151). -/
def makeAgreement (i input : Nat) (s : State) : State :=
  match (indexed 1 s.dock.offers).find? (fun o => o.1 == i) with
  | none => s
  | some (_, o) =>
    let ph := s.dock.plan
    let s := { s with dock := { s.dock with
      agreement := some ⟨i, o.volts, o.amps, input⟩, resume := none
      precharge := if ph = .precharge then 0 else s.dock.precharge } }
    let s := closeSwitch (setCharge ph.state s)
    { s with dock := { s.dock with iChg := if s.dock.csw then s.dock.want else 0 } }

/-- The applied charge current: the smaller of the formed I_chg and the cover (R154). -/
def applyCurrent (s : State) : State :=
  match s.dock.agreement with
  | some a =>
    { s with dock := { s.dock with
        iChg := if s.dock.csw then min s.dock.want (cover a (packVolts s)) else 0 } }
  | none => s

/-- READY of a re-request: the agreement's I_in, and the cover at once (R154). -/
def raiseAgreement (input : Nat) (s : State) : State :=
  applyCurrent { s with dock := { s.dock with
    agreement := s.dock.agreement.map (fun a => { a with input := input }) } }

/-- The recompute of a check in PRECHARGE, BULK or TAPER (R154). -/
def recomputeCurrent (ph : ChargePhase) (s : State) : State :=
  match s.dock.agreement with
  | none => s
  | some a =>
    let tgt := chargeTarget s
    let want := phaseCurrent s ph tgt a.volts a.amps
    let input := inputFor want (packVolts s) a.volts a.amps
    let due := if 100 ≤ distance input a.input then some (.chargeReq a.index input)
      else s.dock.dueCharge
    trySend (applyCurrent { s with dock := { s.dock with
      iTgt := tgt, want := want, dueCharge := due } })

/-! ## The charge check (R153 to R158) -/

/-- I_term in use (R155). -/
def iTermInUse (s : State) : Nat :=
  if s.dock.iTerm = 0 then clampNat 50 1000 (s.pack.capacity / 20) else s.dock.iTerm

/-- A taper target lowered (R155). -/
def lowerTaper (t : Nat) : Nat := floorTo 25 (t * 9 / 10)

/-- V_off of the agreed or coarse offer (R160). -/
def offerVolts (s : State) : Nat := (s.dock.agreement.map (·.volts)).getD coarseVolts

/-- The fault conditions of a check in a charging state, the first that holds (R160). -/
def checkFaults (chgin : Nat) (s : State) : State :=
  if s.dock.state.charges then
    let s := { s with dock := { s.dock with total := s.dock.total + 1 } }
    if 110 < packDie s then enterChargeFault .thermal s
    else if offerVolts s * 11 < chgin * 10 then enterChargeFault .inputOv s
    else if 21600 ≤ s.dock.total then enterChargeFault .totalTimeout s
    else s
  else s

/-- The states in which a check pauses for temperature (R153). -/
def ChargeState.tempPauses : ChargeState → Bool
  | .identify | .negotiate | .coarse | .precharge | .bulk | .taper => true
  | .detached | .attachWait | .topped | .paused | .disabled | .fault => false

/-- T_max permits the resume of a pause for temperature (R153). -/
def resumesTemp : Option Int → Bool
  | some t => 4 ≤ t && t ≤ 41
  | none => false

/-- The temperature part of a check: pause, resume and cold halving (R153). -/
def checkTemp (s : State) : State :=
  let b := band (packTmax s)
  let wasFull := s.dock.lastFullLimit
  let s := { s with dock := { s.dock with lastFullLimit := b == .full } }
  if s.dock.state.tempPauses ∧ b = .barred then enterPause .temp (raise .tempLimit s)
  else if s.dock.state = .paused ∧ s.dock.pause = .temp then
    if resumesTemp (packTmax s) then enterIdentify s else s
  else raiseIf (s.dock.state.charges && b == .half && wasFull) .tempLimit s

/-- TOPPED once the taper target is at or below I_term, otherwise the recompute (R155, R154). -/
def taperOrTop (s : State) : State :=
  if s.dock.taper.getD 0 ≤ iTermInUse s then enterTopped s else recomputeCurrent .taper s

/-- The phase work of COARSE (R158): its target is 300 mA with V_min below 3,000 mV, whatever I_tgt is. The precharge
timer is 0 at a check with V_min at 3,000 mV or above (log entry
63). -/
def coarseWork (s : State) : State :=
  let amps := (s.dock.coarse.map CoarseClass.amps).getD 0
  let tgt := chargeTarget s
  let low := decide (packVmin s < 3000)
  let pre := if low then s.dock.precharge + 1 else 0
  let base := if low then 300 else tgt
  let cap := offerCapacity coarseVolts amps (packVolts s)
  let formed := floorTo 25 (min cap (min base (s.dock.taper.getD base)))
  let taper :=
    if 4200 ≤ packVmax s then some (lowerTaper (s.dock.taper.getD formed)) else s.dock.taper
  let s := { s with dock := { s.dock with iTgt := tgt, precharge := pre, taper := taper } }
  if 1800 ≤ pre then enterChargeFault .prechargeTimeout s
  else
    match taper with
    | some t =>
      if t ≤ iTermInUse s then enterTopped s
      else { s with dock := { s.dock with iChg := if s.dock.csw then min formed t else 0 } }
    | none => { s with dock := { s.dock with iChg := if s.dock.csw then formed else 0 } }

/-- The phase work of a check (R154, R155, R158). A check that makes PRECHARGE BULK leaves the entry to TAPER to the
next (log entry 67). -/
def checkPhase (s : State) : State :=
  match s.dock.state with
  | .precharge =>
    let s := { s with dock := { s.dock with precharge := s.dock.precharge + 1 } }
    if (packCells s).all (fun v => 3100 ≤ v) then
      recomputeCurrent .bulk (setCharge .bulk { s with dock := { s.dock with precharge := 0 } })
    else if 1800 ≤ s.dock.precharge then enterChargeFault .prechargeTimeout s
    else recomputeCurrent .precharge s
  | .bulk =>
    if 4200 ≤ packVmax s then
      taperOrTop (setCharge .taper { s with dock := { s.dock with
        taper := some (lowerTaper s.dock.iChg) } })
    else recomputeCurrent .bulk s
  | .taper =>
    if 4200 ≤ packVmax s then
      taperOrTop { s with dock := { s.dock with taper := s.dock.taper.map lowerTaper } }
    else taperOrTop s
  | .coarse => coarseWork s
  | .topped => if packVolts s / s.pack.count < 4100 then enterIdentify s else s
  | .detached | .attachWait | .identify | .negotiate | .paused | .disabled | .fault => s

/-- The highest of numbered voltages, a tie to the lower number. -/
def highestCell : List (Nat × Nat) → Option (Nat × Nat)
  | [] => none
  | c :: cs =>
    match highestCell cs with
    | none => some c
    | some d => if c.2 < d.2 then some d else some c

/-- The numbers of the `k` highest cells. -/
def highestCells : Nat → List (Nat × Nat) → List Nat
  | 0, _ => []
  | k + 1, cs =>
    match highestCell cs with
    | none => []
    | some c => c.1 :: highestCells k (cs.filter (fun d => d.1 != c.1))

/-- Cells numbered from a number. -/
def numbered : Nat → List Nat → List (Nat × Nat)
  | _, [] => []
  | k, v :: vs => (k, v) :: numbered (k + 1) vs

/-- The bleed set formed again (R156). -/
def bleedSet (old : List Nat) (cells : List Nat) (low : Nat) (die : Int) : List Nat :=
  if 85 < die then []
  else
    let wanting := (numbered 1 (cells.take 6)).filter fun c =>
      if old.contains c.1 then low + 5 < c.2 else low + 20 ≤ c.2
    let chosen := highestCells 3 wanting
    [1, 2, 3, 4, 5, 6].filter (fun k => chosen.contains k)

/-- The balancing part of a check (R156). -/
def checkBalance (s : State) : State :=
  if s.dock.state = .taper ∨ s.dock.state = .topped then
    { s with dock := { s.dock with
        bleed := bleedSet s.dock.bleed (packCells s) (packVmin s) (packDie s) } }
  else s

/-- The charge check (R153). -/
def chargeCheck (chgin : Nat) (s : State) : State :=
  if s.dock.period.isNone then s
  else
    let s := { s with dock := { s.dock with period := some 1000 } }
    let s := checkBalance (checkPhase (checkTemp (checkFaults chgin s)))
    deliver .chargeMa (report (some (if s.dock.csw then s.dock.iChg else 0))) s

/-! ## Attach, ATTACH_WAIT and detach (R143 to R145) -/

/-- The attach debounce starts from 0, with the time set at this moment (R143, R162). The pack's shutdown timer is
stopped as the charge state leaves DETACHED (R16). -/
def startAttach (s : State) : State :=
  let s := setCharge .attachWait s
  { s with
    dock := { s.dock with
      attach := .debouncing, attachMs := s.dock.debounceMs, debounce := some s.dock.debounceMs
      drop := none }
    pack := { s.pack with shutdown := none } }

/-- ATTACH_WAIT is left when the debounce is complete and the motor is at rest (R144). No check before it counts
as the previous one for the cold halving (log entry 57). -/
def leaveAttachWait (s : State) : State :=
  if s.dock.state = .attachWait ∧ s.dock.attach = .attached ∧ s.drive.state.atRest then
    let s := { s with dock := { s.dock with period := some 1000, total := 0, lastFullLimit := false } }
    if s.dock.disabled then setCharge .disabled s
    else if s.pack.overvolt then enterChargeFault .cellOv s
    else if s.watch.pauseOrder then enterPause .watch s
    else enterIdentify s
  else s

/-- The dock state cleared at a detach (R145). -/
def clearDock (s : State) : State :=
  { s with dock := { s.dock with
      attach := .detached, debounce := none, drop := none, coarse := none, identity := none
      identTaken := false, offers := [], agreement := none, exch := none, dueHalt := false
      dueCharge := none, dueEvac := none, taper := none, resume := none, precharge := 0, total := 0
      period := none, csw := false, iChg := 0, bleed := [] } }

/-- A detach (R145), with the end of an evacuation (R170) and the shutdown timer of a standing cut-off
(R16). During a debounce that a soft reset has restarted no DOCK_DETACH is raised (log entry 68). -/
def detachNow (s : State) : State :=
  if s.dock.state = .detached then { s with dock := { s.dock with drop := none } }
  else
    let raised := s.dock.attach == .attached
    let s := clearDock (setCharge .detached s)
    let s := raiseIf raised .dockDetach s
    let s := abortEvac .detach s
    { s with
      evac := { s.evac with auto := false }
      pack := { s.pack with
        shutdown := if s.pack.cutoff && s.pack.shutdown.isNone then some 2000
          else s.pack.shutdown } }

/-! ## Outcomes of exchanges (R148) -/

/-- The exchange record becomes free. -/
def freeRecord (s : State) : State := { s with dock := { s.dock with exch := none } }

/-- The outcome FAILED handed to the request's owner (R148, R149, R151, R154, R168). -/
def exchangeFailed (r : DockReq) (s : State) : State :=
  let s := freeRecord s
  let s := match r with
    | .hello => if s.dock.state = .identify then enterCoarse s else s
    | .chargeReq _ _ =>
      match s.dock.state with
      | .negotiate | .precharge | .bulk | .taper => enterCoarse s
      | .detached | .attachWait | .identify | .coarse | .topped | .paused | .disabled | .fault => s
    | .evacReq _ => evacNoAccept s
    | .halt => s
  trySend s

/-- The request of an exchange sent again with a number of attempts (R147). -/
def resend (attempts : Nat) (s : State) : State :=
  { s with dock := { s.dock with exch := s.dock.exch.map fun e => { e with
      attempts := attempts, deadline := none, waiting := false, send := .sending
      collisions := 0 } } }

/-- What follows an attempt that received no reply while awaiting the first reply (R147). -/
def attemptMissed (e : Exchange) (s : State) : State :=
  if e.attempts < 3 then resend (e.attempts + 1) s else exchangeFailed e.req s

/-- The deadline of the exchange expires (R147). -/
def deadlineExpired (e : Exchange) (s : State) : State :=
  match e.phase with
  | .first => if e.waiting then resend 1 s else attemptMissed e s
  | .offers | .ready => exchangeFailed e.req s

/-- In COARSE a notice or a taken reply shows that the dock talks: CSW opens, IDENTIFY (R158). -/
def dockTalks (s : State) : State :=
  if s.dock.state = .coarse then enterIdentify (openSwitch s) else s

/-- The evacuation starts: the record is written and an EVAC_REQ becomes due (R165). -/
def startEvac (t : EvacTrigger) (duration : Nat) (s : State) : State :=
  let s := evacStartRecord t duration s
  trySend { s with dock := { s.dock with dueEvac := some duration } }

/-- The automatic decision (R166). -/
def autoDecision (s : State) : State :=
  if autoConditions s then
    startEvac .auto s.evac.setting { s with evac := { s.evac with auto := true } }
  else s

/-! ## Offer lists (R149, R157) -/

/-- An offer list as received, no offer rejected. -/
def offersOf (l : List OfferFields) : List Offer :=
  l.map fun o => ⟨o.volts.toNat, o.amps.toNat, false⟩

/-- Among offers at the agreed voltage that cover the agreed input, the one with the highest maximum, a
tie to the lowest index (R157). -/
def coveringOffer (a : Agreement) (l : List Offer) : Option (Nat × Offer) :=
  bestOffer ((indexed 1 l).filter fun o => o.2.volts == a.volts && a.input ≤ o.2.amps)

/-- The present charging phase, in a charging state other than COARSE. -/
def ChargeState.phase : ChargeState → Option ChargePhase
  | .precharge => some .precharge
  | .bulk => some .bulk
  | .taper => some .taper
  | .detached | .attachWait | .identify | .negotiate | .coarse | .topped | .paused | .disabled
  | .fault => none

/-- A CHARGE_REQ in progress ends as SUPERSEDED (R148, R157); one that is due refers to the old list and
is no longer due (log entry 30). -/
def supersede (s : State) : State :=
  let isReq := fun (r : DockReq) => match r with
    | .chargeReq _ _ => true
    | .hello | .evacReq _ | .halt => false
  { s with dock := { s.dock with
      exch := s.dock.exch.filter (fun e => !isReq e.req)
      dueCharge := s.dock.dueCharge.filter (fun r => !isReq r) } }

/-- What a new offer list does (R157). -/
def newOffers (l : List OfferFields) (s : State) : State :=
  let s := supersede { s with dock := { s.dock with offers := offersOf l } }
  match s.dock.state.phase, s.dock.agreement with
  | some ph, some a =>
    match coveringOffer a s.dock.offers with
    | some (i, o) =>
      trySend { s with dock := { s.dock with
        agreement := some { a with index := i, amps := o.amps } } }
    | none =>
      let s := openSwitch (setCharge .paused s)
      selectOffer { s with dock := { s.dock with
        pause := .offerChange, agreement := none, resume := some ph } }
  | _, _ =>
    if s.dock.state = .negotiate
        ∨ (s.dock.state = .paused ∧ (s.dock.pause = .noOffer ∨ s.dock.pause = .offerChange)) then
      selectOffer s
    else trySend (dockTalks s)

/-! ## Orders to the controller (R17, R159, R161) -/

/-- The Pack Monitor's over-voltage order (R17, R160). -/
def overvoltOrder (s : State) : State :=
  if s.dock.state = .detached ∨ s.dock.state = .attachWait then s else enterChargeFault .cellOv s

/-- The states a pause order acts on (R159). -/
def pausable (d : Dock) : Bool :=
  match d.state with
  | .identify | .negotiate | .coarse | .precharge | .bulk | .taper => true
  | .paused => d.pause != .watch
  | .detached | .attachWait | .topped | .disabled | .fault => false

/-- A change of the pause order (R159, R177). -/
def pauseOrderChanged (on : Bool) (s : State) : State :=
  if on then (if pausable s.dock then enterPause .watch s else s)
  else if s.dock.state = .paused ∧ s.dock.pause = .watch then enterIdentify s
  else s

end Sys2Proof.Machine
end

