-- ==== Sys2Proof/Machine/DriveOps.lean ====
section
/-! DEFINITION. The Motor Drive's transitions (Chapter 3): entries to the motor states with their
hand-overs, stop orders, trips, release and the start check. -/

namespace Sys2Proof.Machine

/-! ## Changes of motor state (R57) -/

/-- Every timer of a motor state stopped. -/
def Drive.stopTimers (d : Drive) : Drive :=
  { d with
    armTimer := none, alignTimer := none, spinTimer := none, rampTimer := none
    stallTimer := none, coastTimer := none, faultTimer := none }

/-- What the Airflow Load Monitor and the Dirt Monitor do when the motor leaves RUN (R90, R95). -/
def leaveRun (s : State) : State := dirtRunExit (loadRest s)

/-- A change of motor state: the timers of the old state stop, and a leaving of RUN is handed over. -/
def changeState (new : MotorState) (s : State) : State :=
  let was := s.drive.state
  let s := { s with drive := { s.drive.stopTimers with state := new } }
  if was = .run then leaveRun s else s

/-- An entry to OFF, FAULT or LOCKED: the bridge is off, one record with NONE is delivered (R49), the
set point is 0 (R78), the suction claim is not active (R26), and ATTACH_WAIT may be left (R144). -/
def enterRest (new : MotorState) (s : State) : State :=
  let s := zeroSetPoint (changeState new s)
  let s := { s with drive := { s.drive with
    bridge := .off, iMotor := none, pMeas := none, speed := none } }
  let s := deliver .motorSpeed noneMark (deliver .motorW noneMark s)
  leaveAttachWait (setActive false s)

/-- OFF is reached from STOPPING: MOTOR_STOPPED, then the pending start check (R52, R44). -/
def reachOff (s : State) : State :=
  let s := raise .motorStopped (enterRest .off s)
  if s.drive.startPending then emit .startCheck s else s

/-- Entry to STOPPING with its cause. From ARMING or ALIGN the rotor is still, so that STOPPING ends at
its entry (R52). -/
def enterStopping (c : StopCause) (s : State) : State :=
  let was := s.drive.state
  let s := zeroSetPoint (changeState .stopping { s with drive := { s.drive with stopCause := c } })
  if was = .arming ∨ was = .align then reachOff s
  else { s with drive := { s.drive with bridge := .braking } }

/-- A stop order (R51). -/
def stopOrder (c : StopCause) (s : State) : State :=
  if s.drive.state.drives then enterStopping c s else s

/-! ## The way into RUN (R45 to R48) -/

/-- Entry to ARMING (R43, R45). -/
def enterArming (s : State) : State :=
  let s := changeState .arming { s with drive := { s.drive with startPending := false } }
  setActive true { s with drive := { s.drive with bridge := .testing, armTimer := some 50 } }

/-- Entry to ALIGN (R46). -/
def enterAlign (s : State) : State :=
  let s := changeState .align s
  { s with drive := { s.drive with bridge := .driving, alignTimer := some 30 } }

/-- The alignment current (R46). -/
def alignCurrent (d : Drive) : Nat := min 6000 d.ceiling

/-- The phase current of the open-loop ramp (R47). -/
def rampCurrent (d : Drive) : Nat := min 8000 d.ceiling

/-- Entry to SPINUP: the ramp begins at 30 speed units, and the sensor self-test starts (R47, R94). -/
def enterSpinup (s : State) : State :=
  let s := changeState .spinup s
  startSelfTest { s with drive := { s.drive with
    bridge := .driving, spinTimer := some 400, rampTimer := some 10, rampRate := 30
    driven := 0, drivenMs := 0, crossings := 0 } }

/-- Entry to RUN: MOTOR_STARTED, and the first window starts (R47, R48, R97). The drive level is the one the
last run left (log entry 45). -/
def enterRun (s : State) : State := raise .motorStarted (openWindow (changeState .run s))

/-- Back-EMF lock is reached (R47). -/
def lockReached (d : Drive) : Bool := 24 ≤ d.crossings && 300 ≤ d.rampRate

/-- RUN is entered when lock is reached (R47). -/
def runIfLocked (s : State) : State := if lockReached s.drive then enterRun s else s

/-- The drive level after a commutation in RUN (R48). -/
def trackLevel (d : Drive) (power current : Nat) : Int :=
  if power < d.pset ∧ current < d.ceiling then d.level + 1
  else if d.pset < power ∨ d.ceiling ≤ current then d.level - 1
  else d.level

/-! ## Trips (R53, R54) -/

/-- The trip history with an entry appended: at most 3, the oldest removed (R54). -/
def addTrip (t : Trip) (l : List Trip) : List Trip := (if 3 ≤ l.length then l.tail else l) ++ [t]

/-- The lock decision: three entries within 10,000 ms, modulo 2^32 (R54). -/
def locks : List Trip → Bool
  | [a, _, c] => (c.time - a.time).toNat ≤ 10000
  | _ => false

/-- A trip (R54). -/
def trip (c : TripCause) (s : State) : State :=
  let l := addTrip ⟨c, s.drive.clock, s.drive.state⟩ s.drive.trips
  let s := { s with drive := { s.drive with
    bridge := .off, tripCause := c, trips := l, tripCount := bump 65535 s.drive.tripCount
    startPending := false } }
  let s := raiseIf (locks l) .motorLocked (raise .motorFault s)
  if locks l then enterRest .locked s
  else
    let s := enterRest .fault s
    { s with drive := { s.drive with faultTimer := some 500 } }

/-- OVERCURRENT is checked in the driving states and in STOPPING with the bridge on (R53). -/
def overcurrentChecked (d : Drive) : Bool :=
  d.state.drives || (d.state == .stopping && d.bridge != .off)

/-- The THERMAL check at the delivery of a pack record (R53). -/
def thermalCheck (die : Int) (s : State) : State :=
  if 125 < die ∧ (s.drive.state.drives ∨ s.drive.state = .stopping) then trip .thermal s else s

/-! ## Press and release (R43, R44, R50) -/

/-- A STOP_MOTOR watch stands FIRED (R177). -/
def stopFired (w : WatchUnit) : Bool :=
  w.recs.toList.any fun r => match r with
    | some r => r.state == .fired && r.action == .stopMotor
    | none => false

/-- The start check: the first condition that fails (R43). -/
def startRefusal (s : State) : StartRefusal :=
  if s.drive.state ≠ .off then .notOff
  else if !s.host.ready then .notReady
  else if s.dock.state ≠ .detached then .docked
  else if stopFired s.watch then .watch
  else if s.arb.suction.grant = 0 ∨ s.arb.suction.grant < s.arb.suction.floor then .starved
  else .none

/-- The refusal leaves a press pending (R43, R44). -/
def staysPending (c : StartRefusal) (d : Drive) : Bool :=
  c == .starved || (c == .notOff && d.state == .stopping && d.stopCause == .trigger)

/-- A press (R43). -/
def press (s : State) : State :=
  let c := startRefusal s
  if c = .none then enterArming s
  else { s with drive := { s.drive with refused := c, startPending := staysPending c s.drive } }

/-- The repeated check of a pending start (R44); a check that leaves the flag set records no cause (log entry
45). -/
def repeatCheck (s : State) : State :=
  if s.drive.startPending then
    let c := startRefusal s
    if c = .none then enterArming s
    else if staysPending c s.drive then s
    else { s with drive := { s.drive with refused := c, startPending := false } }
  else s

/-- A release in a start under way: the start is aborted (R50). -/
def abortStart (s : State) : State :=
  raise .motorStopped (enterRest .off { s with drive := { s.drive with stopCause := .trigger } })

/-- FAULT is left for OFF (R55). The entry's updates are delivered in STANDBY as well (log entry 65). -/
def leaveFault (s : State) : State := enterRest .off s

/-- A release (R50), handed to the governor in every state (R71). -/
def releaseTrigger (s : State) : State :=
  let s := collapseStack { s with drive := { s.drive with startPending := false } }
  match s.drive.state with
  | .off | .stopping | .locked => s
  | .arming | .align | .spinup => abortStart s
  | .run => enterStopping .trigger s
  | .fault => if s.drive.faultTimer.isNone then leaveFault s else s

/-- The debounce timer's expiry (R42): the first settling after a power-on reset is no press. -/
def debounceExpired (s : State) : State :=
  let level := s.pins.trig
  let was := s.drive.trig
  let first := s.drive.settlingIn
  let s := { s with drive := { s.drive with debounce := none, settlingIn := false, trig := level } }
  if first ∨ level = was then s
  else if level then press s
  else releaseTrigger s

/-! ## The measurement record (R49) -/

/-- Motor current of a record: at most 40,000 mA, NONE with the bridge off. -/
def recordCurrent (d : Drive) (current : Nat) : Option Nat :=
  if d.bridge = .off then none else some (min 40000 current)

/-- Power of a record: NONE outside SPINUP and RUN. -/
def recordPower (d : Drive) (volts : Nat) (current : Option Nat) : Option Nat :=
  if d.state = .spinup ∨ d.state = .run then current.map (fun i => volts * i / 1000000) else none

/-- The speed of the mean period driven open-loop since the last record: the mean of the rate over that time, the
present rate where no millisecond of it has passed (R47, R49; log entry 52). -/
def drivenSpeed (d : Drive) : Nat := if d.drivenMs = 0 then d.rampRate else d.driven / d.drivenMs

/-- Speed of a record (R49): in SPINUP that of the period driven open-loop, in RUN and in braking that of the
period read from the back-EMF; NONE in the states that read none, and where no commutation gives a period
(log entry 45). -/
def recordSpeed (d : Drive) (period : Nat) : Option Nat :=
  if d.state = .spinup then some (drivenSpeed d)
  else
    let reads := d.state == .run || (d.state == .stopping && d.bridge != .off)
    if reads ∧ 0 < period then some (100000 / period) else none

/-- The stall timer after a measurement of speed (R53); a record with no speed leaves it as it is (log entry
45). -/
def stallTimer (d : Drive) (speed : Option Nat) : Option Nat :=
  if d.state = .run then
    match speed with
    | some v => if v < 300 then (d.stallTimer <|> some 100) else none
    | none => d.stallTimer
  else none

/-- The measurement record of a governor step, delivered to the Watch Unit (R49). -/
def measure (current period : Nat) (s : State) : State :=
  let i := recordCurrent s.drive current
  let p := recordPower s.drive (packVolts s) i
  let v := recordSpeed s.drive period
  let s := { s with drive := { s.drive with
    iMotor := i, pMeas := p, speed := v, stallTimer := stallTimer s.drive v
    driven := 0, drivenMs := 0 } }
  deliver .motorSpeed (reportNat v) (deliver .motorW (reportNat p) s)

end Sys2Proof.Machine
end

