-- ==== Sys2Proof/Machine/WatchOps.lean ====
section
/-! DEFINITION. The Watch Unit (Chapter 11): evaluation of an update, firing, return, and the combined
results handed on. -/

namespace Sys2Proof.Machine

/-- The update is true for a record: any of its chosen conditions holds (R175). -/
def WatchRec.holds (r : WatchRec) (v : Half) : Bool :=
  (r.conds.getLsbD 0 && v.slt r.threshold) || (r.conds.getLsbD 1 && r.threshold.slt v)
    || (r.conds.getLsbD 2 && v == r.threshold) || (r.conds.getLsbD 3 && v.ult r.threshold)
    || (r.conds.getLsbD 4 && r.threshold.ult v)

/-- A record after an update that is true or false for it (R176). -/
def WatchRec.move (r : WatchRec) (holds : Bool) : WatchRec :=
  match r.state with
  | .disarmed => r
  | .armed | .counting =>
    if holds then
      if r.n ≤ r.trueCount + 1 then
        { r with state := .fired, trueCount := r.trueCount + 1, falseCount := 0 }
      else { r with state := .counting, trueCount := r.trueCount + 1 }
    else { r with state := .armed, trueCount := 0 }
  | .fired =>
    match r.mode with
    | .latch => r
    | .level =>
      if holds then { r with falseCount := 0 }
      else if r.n ≤ r.falseCount + 1 then
        { r with state := .armed, trueCount := 0, falseCount := 0 }
      else { r with falseCount := r.falseCount + 1 }

/-- A record after an update of a quantity: its last value is stored whatever its state (R173). -/
def WatchRec.take (q : Quantity) (v : Half) (r : WatchRec) : WatchRec :=
  if r.quantity = q then { r.move (r.holds v) with last := v } else r

/-- A record stands FIRED. -/
def isFired : Option WatchRec → Bool
  | some r => r.state == .fired
  | none => false

/-- A record stands FIRED with an action. -/
def firedWith (a : WatchAction) : Option WatchRec → Bool
  | some r => r.state == .fired && r.action == a
  | none => false

/-- The percentage of a FIRED DERATE record, else 100. -/
def derateOf : Option WatchRec → Nat
  | some r =>
    match r.state, r.action with
    | .fired, .derate p => p
    | _, _ => 100
  | none => 100

/-- The derate in force: the smallest p among the FIRED DERATE records, or 100 (R177). -/
def derateInForce (l : List (Option WatchRec)) : Nat := (l.map derateOf).foldl min 100

/-- The pause order: any PAUSE_CHARGE record is FIRED (R177). -/
def pauseOrdered (l : List (Option WatchRec)) : Bool := l.any (firedWith .pauseCharge)

/-- The combined results formed again, each handed on if it has changed (R177). -/
def handWatch (s : State) : State :=
  let d := derateInForce s.watch.recs.toList
  let p := pauseOrdered s.watch.recs.toList
  let s' := { s with watch := { s.watch with derate := d, pauseOrder := p } }
  let s' := if d = s.watch.derate then s' else limitSetPoint s'
  if p = s.watch.pauseOrder then s' else pauseOrderChanged p s'

/-- Records that are FIRED now and were not before. -/
def newlyFired (old new : List (Option WatchRec)) : List (Option WatchRec) :=
  ((old.zip new).filter (fun p => isFired p.2 && !isFired p.1)).map (·.2)

/-- An update of a quantity evaluated (R175 to R177). -/
def watchUpdate (q : Quantity) (v : Half) (s : State) : State :=
  let new := mapTable (Option.map (WatchRec.take q v)) s.watch.recs
  let fired := newlyFired s.watch.recs.toList new.toList
  let s := { s with watch := { s.watch with recs := new } }
  let s := raiseIf (!fired.isEmpty) .watchFired s
  let s := if fired.any (firedWith .stopMotor) then stopOrder .watch s else s
  handWatch s

/-- A record replaced by a request; an action that was in force ends (R178 to R180). -/
def setWatch (i : Fin 8) (r : Option WatchRec) (s : State) : State :=
  handWatch { s with watch := { s.watch with recs := s.watch.recs.set i r } }

/-- The quantities in the order of R174. -/
def quantities : List Quantity :=
  [.packMv, .cellMinMv, .cellMaxMv, .cellSpreadMv, .packMa, .tempMaxC, .dieTempC, .socPm, .limitMa,
   .motorW, .motorSpeed, .loadPct, .dirtRate, .binPct, .brushMa, .chargeMa]

/-- The mode of a byte (R173). -/
def watchMode (b : Byte) : Option WatchMode :=
  if b = 0 then some .latch else if b = 1 then some .level else none

/-- The action of a byte, with the percentage clamped for DERATE (R173, R178). -/
def watchAction (b p : Byte) : Option WatchAction :=
  if b = 0 then some .notify
  else if b = 1 then some (.derate (clampByte 10 100 p))
  else if b = 2 then some .stopMotor
  else if b = 3 then some .pauseCharge
  else none

/-- The record a WATCH_SET writes, ARMED; `none` where the request is refused (R178). -/
def watchRecord (f : WatchFields) : Option WatchRec :=
  match quantities[f.quantity.toNat]?, watchMode f.mode, watchAction f.action f.p with
  | some q, some m, some a =>
    if f.conds = 0 ∨ 32 ≤ f.conds.toNat then none
    else some {
      quantity := q, threshold := f.threshold, conds := f.conds.setWidth 5
      n := clampByte 1 255 f.n, mode := m, action := a, state := .armed
      trueCount := 0, falseCount := 0, last := noneMark }
  | _, _, _ => none

/-- A record armed or disarmed by WATCH_ARM (R179). -/
def WatchRec.rearm (r : WatchRec) (arm : Bool) : WatchRec :=
  { r with state := if arm then .armed else .disarmed, trueCount := 0, falseCount := 0 }

end Sys2Proof.Machine
end

