-- ==== Sys2Proof/Machine/PackOps.lean ====
section
/-! DEFINITION. The Pack Monitor (Chapter 1): conversions, the discharge limit, the gauge, protection and
the stages of a measurement round; the tool supply supervision of Chapter 2. -/

namespace Sys2Proof.Machine

/-! ## Conversions (R2, R3) -/

/-- A cell voltage: raw × 5,000 / 4,096, rounded half up (R2). -/
def cellVolts (raw : BitVec 12) : Nat := (raw.toNat * 5000 + 2048) / 4096

/-- The pack current, saturated at ±32,000 mA (R2). -/
def packCurrent (i : Int) : Int := if i < -32000 then -32000 else if 32000 < i then 32000 else i

/-- The points of the thermistor curve (R3). -/
def thermistorCurve : List (Int × Int) :=
  [(4000, -40), (3800, -20), (3500, 0), (3100, 15), (2600, 30), (2100, 45), (1700, 55), (1300, 65),
   (900, 80), (500, 100), (200, 125), (40, 150)]

/-- The temperature of a raw value along a curve (R3). -/
def alongCurve (raw : Int) : List (Int × Int) → Option Int
  | (ra, ta) :: (rb, tb) :: rest =>
    if rb ≤ raw then some (ta + (ra - raw) * (tb - ta) / (ra - rb))
    else alongCurve raw ((rb, tb) :: rest)
  | [_] => none
  | [] => none

/-- A thermistor in °C; an open or shorted sensor gives NONE (R3). -/
def thermistor (raw : BitVec 12) : Option Int :=
  if 4000 < raw.toNat ∨ raw.toNat < 40 then none
  else alongCurve (Int.ofNat raw.toNat) thermistorCurve

/-- The higher of two readings that may be NONE. -/
def higher : Option Int → Option Int → Option Int
  | some a, some b => some (max a b)
  | some a, none => some a
  | none, b => b

/-- The die temperature, limited to −40 to 150 °C (R3). -/
def dieTemp (t : Int) : Int := if t < -40 then -40 else if 150 < t then 150 else t

/-- The lowest of the cell voltages. -/
def lowest : List Nat → Nat
  | [] => 0
  | v :: vs => vs.foldl min v

/-- The highest of the cell voltages. -/
def highest (l : List Nat) : Nat := l.foldl max 0

/-! ## The discharge limit (R4 to R7) -/

/-- The filter step: one eighth of the way, truncated toward zero (R4). -/
def filterStep (vf vmin : Int) : Int := vf + (vmin - vf).tdiv 8

/-- V_f of a round (R4). -/
def filtered (p : Pack) (vmin : Int) : Int :=
  match p.vf, p.reseed with
  | some v, false => filterStep v vmin
  | _, _ => vmin

/-- The temperature factor (R5). -/
def tempFactor : Option Int → Nat
  | none => 50
  | some t => if t ≤ 50 then 100 else if t ≤ 64 then ((65 - t) * 100 / 15).toNat else 0

/-- The voltage factor (R5). -/
def voltFactor (vf : Int) : Nat :=
  if 3300 ≤ vf then 100 else if 3000 ≤ vf then (20 + (vf - 3000) * 80 / 300).toNat else 0

/-- The computed limit without a cut-off (R6). -/
def limitOf (inom fT fV : Nat) : Nat := floorTo 50 (inom * fT * fV / 10000)

/-- The publication rule (R7). -/
def publish (first : Bool) (computed published : Nat) : Nat :=
  if first ∨ computed < published ∨ published + 250 ≤ computed then computed else published

/-! ## The gauge (R9 to R12) -/

/-- The open-circuit lookup from a point on, in permille (R11). -/
def ocvAlong (base : Nat) (v : Nat) : List Nat → Nat
  | a :: b :: rest =>
    if v < b then base + (v - a) * 100 / (b - a) else ocvAlong (base + 100) v (b :: rest)
  | [_] => base
  | [] => base

/-- SoC_ocv of a mean cell voltage, in permille (R11). -/
def ocvLookup (table : List Nat) (v : Nat) : Nat :=
  if v ≤ table.headD 0 then 0 else ocvAlong 0 v table

/-- The period of a round in ms (R1). -/
def roundPeriod : Power → Nat
  | .active => 10
  | .standby => 1000
  | .shutdown => 0

/-- G after the count of a current, before clamping (R9): 100 times the current in STANDBY. -/
def countedGauge (p : Pack) (current : Int) : Int :=
  (p.gauge : Int) - current * (if p.power = .standby then 100 else 1)

/-- G set from the open-circuit lookup of a mean cell voltage (R9, R12). -/
def gaugeFromOcv (p : Pack) (mean : Nat) : Nat := ocvLookup p.ocv mean * fullCharge p / 1000

/-- A rest round (R12). -/
def isRestRound (current : Int) (charges : Bool) : Bool := -50 < current && current < 50 && !charges

/-! ## The stages of a round (R1) -/

/-- Stages 1 and 2: the pack record without its factors (R2, R3). -/
def convert (count : Nat) (r : Readings) : PackRecord :=
  let cells := (r.taps.toList.take count).map cellVolts
  let t1 := thermistor r.th1
  let t2 := thermistor r.th2
  let t3 := thermistor r.th3
  { cells := cells, vpack := cells.sum, vmin := lowest cells, vmax := highest cells
    current := packCurrent r.shunt, itool := min 32000 r.tool
    th1 := t1, th2 := t2, th3 := t3, tmax := higher t1 (higher t2 t3)
    die := dieTemp r.die, fT := 0, fV := 0 }

/-- The low flag (R14). -/
def lowFlag (was : Bool) (vmin : Nat) : Bool :=
  if vmin < 3300 then true else if 3350 ≤ vmin then false else was

/-- The over-voltage flag (R17). -/
def overFlag (was : Bool) (vmax : Nat) : Bool :=
  if 4250 < vmax then true else if vmax ≤ 4200 then false else was

/-- Stages 3 and 4: V_f, the low flag, the cut-off timer, a declaration or an end of the cut-off, and the
over-voltage flag (R4, R14 to R17). -/
def protect (docked : Bool) (r : PackRecord) (p : Pack) : Pack :=
  let vf := filtered p r.vmin
  let t := if vf < 3000 then p.cutTimer + roundPeriod p.power else 0
  let declared := !p.cutoff && 500 ≤ t
  let ended := p.cutoff && docked && 3100 ≤ vf
  { p with
    vf := some vf, reseed := false
    low := lowFlag p.low r.vmin
    overvolt := overFlag p.overvolt r.vmax
    cutTimer := if ended then 0 else t
    cutoff := (p.cutoff || declared) && !ended
    shutdown := if declared && !docked then some 2000 else p.shutdown }

/-- Stage 5: the gauge counter and the rest timer (R9 to R12). -/
def gaugeStage (charges : Bool) (r : PackRecord) (p : Pack) : Pack :=
  let mean := r.vpack / p.count
  let g := countedGauge p r.current
  let clipped := p.record.isSome && (g < 0 || (fullCharge p : Int) < g)
  let counted := if p.record.isNone then gaugeFromOcv p mean else min g.toNat (fullCharge p)
  let rest := if isRestRound r.current charges then p.rest + roundPeriod p.power else 0
  if 1800000 ≤ rest then
    { p with gauge := gaugeFromOcv p mean, rest := 0, clip := p.clip || clipped }
  else { p with gauge := counted, rest := rest, clip := p.clip || clipped }

/-- Stages 6 and 7: the limit, its publication, and the record (R5 to R8). -/
def limitStage (r : PackRecord) (p : Pack) : Pack :=
  let fT := tempFactor r.tmax
  let fV := voltFactor (p.vf.getD 0)
  let c := if p.cutoff then 0 else limitOf p.inom fT fV
  { p with
    computed := c, published := publish p.record.isNone c p.published
    record := some { r with fT := fT, fV := fV }
    hadTemp := r.tmax.isSome, lastFT := fT
    round := some (roundPeriod p.power) }

/-- TEMP_LIMIT is raised by the discharge limit's temperature factor (R5). -/
def tempLimitRaised (p : Pack) (tmax : Option Int) : Bool :=
  tmax.isSome && ((p.lastFT == 100 && tempFactor tmax < 100) || (0 < p.lastFT && tempFactor tmax == 0))

/-- The whole Pack Monitor's part of a round. -/
def roundOf (docked charges : Bool) (r : PackRecord) (p : Pack) : Pack :=
  limitStage r (gaugeStage charges r (protect docked r p))

/-! ## Hand-overs of a round (R8, R15 to R17, R38) -/

/-- The hand-overs of a declared cut-off: the motor's stop order and TPWR OFF (R15). -/
def cutoffOrders (s : State) : State := holdPower (emit .cutoffStop s)

/-- A cut-off declared outside a round's own stages (R15). As in a round, the stop order stands before the
recompute, so that the cause is the free choice of R51 (log entry 7). -/
def declareCutoff (s : State) : State :=
  let docked := s.dock.state != .detached
  let s := raise .packCutoff { s with pack := { s.pack with
    cutoff := true, computed := 0, published := 0
    shutdown := if docked then s.pack.shutdown else some 2000 } }
  askRecompute (cutoffOrders s)

/-- The nine updates of a round, in the order of R8. -/
def packUpdates (p : Pack) (r : PackRecord) : List (Quantity × Half) :=
  [(.packMv, reportNat (some r.vpack)), (.cellMinMv, reportNat (some r.vmin)),
   (.cellMaxMv, reportNat (some r.vmax)), (.cellSpreadMv, reportNat (some (r.vmax - r.vmin))),
   (.packMa, report (some r.current)), (.tempMaxC, report r.tmax), (.dieTempC, report (some r.die)),
   (.socPm, reportNat (some (stateOfCharge p))), (.limitMa, reportNat (some p.published))]

/-- Several updates delivered in order. -/
def deliverAll (l : List (Quantity × Half)) (s : State) : State :=
  l.foldl (fun s u => deliver u.1 u.2 s) s

/-- The trip of the tool supply supervision (R38). -/
def overcurrentTrip (s : State) : State :=
  let s := startHoldoff (setTpwr .signal .overcurrent (raise .toolOvercurrent s))
  { s with arb := { s.arb with supCount := 0 } }

/-- The tool supply supervision of a round (R38). -/
def supervise (itool : Nat) (s : State) : State :=
  if s.line.tpwr = .full ∧ permitted s.arb < itool then
    if 5 ≤ s.arb.supCount + 1 then overcurrentTrip s
    else { s with arb := { s.arb with supCount := s.arb.supCount + 1 } }
  else { s with arb := { s.arb with supCount := 0 } }

/-- A measurement round (R1). -/
def packRound (readings : Readings) (s : State) : State :=
  let old := s.pack
  let r := convert old.count readings
  let p := roundOf (s.dock.state != .detached) s.dock.state.charges r old
  let s := { s with pack := p }
  let s := raiseIf (r.tmax.isNone && old.hadTemp) .tempSensor s
  let s := raiseIf (tempLimitRaised old r.tmax) .tempLimit s
  let s := raiseIf (p.low && !old.low) .packLow s
  let s := raiseIf (p.clip && !old.clip) .gaugeClipped s
  let s := raiseIf (p.overvolt && !old.overvolt) .cellOvervolt s
  let s := if p.overvolt && !old.overvolt then overvoltOrder s else s
  let s := if p.cutoff && !old.cutoff then cutoffOrders (raise .packCutoff s) else s
  let s := if old.cutoff && !p.cutoff then releasePower s else s
  let s := supervise r.itool s
  let s := if p.published ≠ old.published ∨ old.record.isNone then askRecompute s else s
  thermalCheck r.die (deliverAll (packUpdates p r) s)

end Sys2Proof.Machine
end

