-- ==== Sys2Proof/Machine/Handover.lean ====
section
/-! DEFINITION. The taking of hand-overs inside one event (00_scope.md 2.3; log entry 5), the deferred
FENCE (R186), and the frame of every command. -/

namespace Sys2Proof.Machine

/-! ## What a hand-over does -/

/-- The governor takes a changed SUCTION grant (R76). -/
def grantArrives (g : Nat) (s : State) : State :=
  let s := { s with gov := { s.gov with grant := g } }
  let s := if s.drive.startPending then emit .startCheck s else s
  if g = 0 ∧ s.drive.state.drives then
    stopOrder .starved { s with gov := { s.gov with stopStarved := true, pset := 0 } }
  else limitSetPoint s

/-- A recompute taken whole, with what it hands on (R28, R30, R37). -/
def recomputeNow (s : State) : State :=
  let arb := s.arb.recompute s.pack.published (s.line.tpwr == .full) (mayOffer s)
  let s' := raiseIf (arb.starved && !s.arb.starved) .allotStarved { s with arb := arb }
  let s' := handTools s'
  if s'.arb.suction.grant = s'.gov.grant then s' else grantArrives s'.arb.suction.grant s'

/-- The stop order of a cut-off, which meets the governor's STARVED order: either may be the first, and
the first gives the cause (R51). The choice is a free value (log entry 7). STARVED is first where the grant
of 0 arrives at the governor first, which then takes no later stage of R76. -/
def cutoffStopNow (s : State) : State :=
  if s.drive.state.drives ∧ s.gov.grant ≠ 0 then
    let first := Config.packStopFirst s.free
    let s := { s with free := s.free + 1 }
    if first then stopOrder .pack s
    else grantArrives 0 s
  else stopOrder .pack s

/-- A hand-over taken by its block. -/
def take : Signal → State → State
  | .recompute, s => recomputeNow s
  | .update q v, s => watchUpdate q v s
  | .stop c, s => stopOrder c s
  | .cutoffStop, s => cutoffStopNow s
  | .startCheck, s => repeatCheck s

/-- Hand-overs taken one by one, first in, first out, at most `fuel` of them. -/
def drain : Nat → State → State
  | 0, s => s
  | fuel + 1, s =>
    match s.signals with
    | [] => s
    | sig :: rest => drain fuel (take sig { s with signals := rest })

/-- All hand-overs of an event taken (log entry 5). -/
def settle (s : State) : State := drain 400 s

/-! ## The deferred FENCE (R186) -/

/-- The FENCE conditions. -/
structure Outstanding where
  allot  : Bool
  ramp   : Bool
  dock   : Bool
  assign : Bool
  cap    : Bool
deriving DecidableEq, Repr

/-- A slot is settling or waiting. -/
def Slot.unsettled (sl : Slot) : Bool := sl.settling || sl.waiting

/-- An entry holds a pending cap, or a CAP is queued (R186). -/
def capOutstanding (l : ToolLine) : Bool :=
  l.nodes.any (·.pending.isSome) || l.queue.any (·.rank == 1) || l.lost.any (·.rank == 1)

/-- The FENCE conditions as they stand (R186). -/
def outstanding (s : State) : Outstanding where
  allot := s.arb.reserve.unsettled || s.arb.head.unsettled || s.arb.lamp.unsettled
    || s.arb.aux.unsettled || s.arb.suction.unsettled
  ramp := s.gov.ramping
  dock := s.dock.exch.isSome
  assign := s.line.nodes.any (·.state == .assigning)
  cap := capOutstanding s.line

/-- A condition is outstanding. -/
def Outstanding.any (o : Outstanding) : Bool := o.allot || o.ramp || o.dock || o.assign || o.cap

/-- The outstanding set as a byte: ALLOT, RAMP, DOCK, ASSIGN, CAP from bit 0 upward (12.8.1). -/
def Outstanding.code (o : Outstanding) : Nat :=
  (if o.allot then 1 else 0) + (if o.ramp then 2 else 0) + (if o.dock then 4 else 0)
    + (if o.assign then 8 else 0) + (if o.cap then 16 else 0)

/-- The deferred reply formed; the FENCE record becomes free (R186). -/
def formFence (st : Status) (payload : List Byte) (s : State) : State :=
  { s with host := { s.host with
      fence := none
      replies := s.host.replies.map fun r =>
        if r.body.isNone then { r with body := some ⟨st.code, payload⟩ } else r } }

/-- The payload of a FENCE reply: the time waited and the outstanding set (12.8.1). -/
def fencePayload (f : Fence) (o : Outstanding) : List Byte := u16 (2000 - f.timer) ++ u8 o.code

/-- The conditions evaluated again at the end of an event (R186; log entry 38). -/
def finish (s : State) : State :=
  match s.host.fence with
  | none => s
  | some f =>
    let o := outstanding s
    if o.any then s else formFence .ok (fencePayload f o) s

/-! ## Power and commands -/

/-- What follows the blocks' own work in every event. -/
def conclude (s : State) : State := finish (settle s)

/-- The frame of a command: in SHUTDOWN nothing runs (R20); otherwise the command's own work, its
hand-overs, and the FENCE conditions. -/
def event (work : State → State) (s : State) : Host.Outcome State Fault Refusal :=
  if s.pack.power = .shutdown then .next s else .next (conclude (work s))

/-- A wake from STANDBY (R19): ACTIVE, the periods start again, and TPWR is released. -/
def wake (s : State) : State :=
  if s.pack.power = .standby then
    releasePower { s with
      pack := { s.pack with power := .active, round := some 10 }
      gov := { s.gov with step := some 10 } }
  else s

end Sys2Proof.Machine
end

