-- ==== Sys2Proof/Machine/Payloads.lean ====
section
/-! DEFINITION. The payloads of the replies: the fields in the order the serving rules list them, in the
encodings of Section 12.8. A field that may be absent is a flag byte, followed by the field only when it
is present (log entry 15). -/

namespace Sys2Proof.Machine

/-! ## Enumerations (12.8.1) -/

/-- A debounced trigger state: PRESSED, RELEASED in the order of R42. -/
def triggerCode (pressed : Bool) : Nat := if pressed then 0 else 1

/-- An attach state, in the order of R143: DEBOUNCING, ATTACHED, DETACHED. -/
def Attach.code : Attach → Nat
  | .debouncing => 0
  | .attached => 1
  | .detached => 2

/-- A field that may be absent. -/
def optional {α : Type} (enc : α → List Byte) : Option α → List Byte
  | none => [0]
  | some a => 1 :: enc a

/-- A cell voltage that may be missing from the record. -/
def cellField (l : List Nat) (k : Nat) : List Byte := half (reportNat l[k]?)

/-! ## Pack Monitor -/

/-- PACK_READ (R23, R1). The two factors are NONE before the first round and so take two bytes (log entry 15). After
a PACK_CONFIG that changes N and before the next round, the new N stands beside the cells of the old record (log
entry 59). -/
def packReadPayload (p : Pack) : List Byte :=
  let r := p.record
  let cells := (r.map (·.cells)).getD []
  u8 p.count ++ [0, 1, 2, 3, 4, 5, 6].flatMap (cellField cells)
    ++ half (reportNat (r.map (·.vpack))) ++ half (reportNat (r.map (·.vmin)))
    ++ half (reportNat (r.map (·.vmax))) ++ i16 p.vf
    ++ i16 (r.map (·.current)) ++ half (reportNat (r.map (·.itool)))
    ++ i16 (r.bind (·.th1)) ++ i16 (r.bind (·.th2)) ++ i16 (r.bind (·.th3)) ++ i16 (r.bind (·.tmax))
    ++ i16 (r.map (·.die)) ++ half (reportNat (r.map (·.fT))) ++ half (reportNat (r.map (·.fV)))
    ++ half (reportNat (r.map fun _ => p.computed)) ++ q16 p.published
    ++ half (reportNat (r.map fun _ => stateOfCharge p)) ++ q16 p.capacity
    ++ flag p.clip ++ flag p.low ++ flag p.cutoff ++ flag p.overvolt
    ++ q16 (p.rest / 1000) ++ u8 p.power.ctorIdx

/-! ## Arbiter -/

/-- A slot of ALLOT_READ (R40). -/
def slotFields (sl : Slot) : List Byte :=
  q16 sl.request ++ q16 sl.floor ++ flag sl.yielding ++ q16 sl.target ++ q16 sl.grant ++ q16 sl.held
    ++ u8 sl.state.ctorIdx ++ flag sl.settling ++ flag sl.waiting

/-- A tool slot of ALLOT_READ (R40). -/
def toolSlotFields (sl : Slot) : List Byte :=
  slotFields sl ++ listOf (fun a => u8 a.toNat) sl.members ++ listOf (fun a => u8 a.toNat) sl.concerned
    ++ flag sl.offer.isSome

/-- ALLOT_READ (R40). -/
def allotReadPayload (s : State) : List Byte :=
  let a := s.arb
  let l := s.pack.published
  q16 l ++ q16 a.reserve.request ++ q16 (a.budget l)
    ++ i16 (some ((l : Int) - a.reserve.request)) ++ q16 a.setAside ++ flag a.active
    ++ q16 (a.freeAmount l) ++ q16 a.grants ++ q16 a.committed ++ flag a.starved
    ++ q16 (a.holdoff.getD 0) ++ u8 a.cause.ctorIdx ++ u8 a.supCount ++ u8 s.line.tpwr.ctorIdx
    ++ slotFields a.reserve ++ toolSlotFields a.head ++ toolSlotFields a.lamp ++ toolSlotFields a.aux
    ++ slotFields a.suction

/-! ## Motor Drive -/

/-- A trip history entry (R58). Its cause has the code of the last trip cause, 0 of which is NONE (log entry 15). -/
def tripFields (t : Trip) : List Byte :=
  u8 t.cause.ctorIdx ++ u32 t.time.toNat ++ u8 t.state.ctorIdx

/-- MOTOR_READ (R58). -/
def motorReadPayload (d : Drive) : List Byte :=
  u8 d.state.ctorIdx ++ u8 (triggerCode d.trig) ++ flag d.startPending ++ u8 d.refused.ctorIdx
    ++ u8 d.stopCause.ctorIdx ++ u8 d.tripCause.ctorIdx ++ q16 d.pset ++ q16 d.ceiling
    ++ half (reportNat d.iMotor) ++ half (reportNat d.pMeas) ++ half (reportNat d.speed)
    ++ q16 (d.faultTimer.getD 0) ++ listOf tripFields d.trips ++ u16 d.tripCount
    ++ u32 d.clock.toNat

/-! ## Governor and load monitor -/

/-- A profile entry (R63 to R65). -/
def profileFields (p : Profile) : List Byte :=
  flag p.enabled ++ flag p.selectable ++ q16 p.hard ++ q16 p.carpet ++ q16 p.floor ++ flag p.auto
    ++ u8 p.gain ++ u8 p.brush ++ u8 p.ramp ++ flag p.locked

/-- A mode stack entry. -/
def stackFields (e : StackEntry) : List Byte := u8 e.profile.val ++ u8 e.origin.ctorIdx

/-- The mode stack, bottom to top. -/
def stackPayload (st : List StackEntry) : List Byte := listOf stackFields st

/-- The governor record of PROFILE_READ (R65). -/
def governorFields (s : State) : List Byte :=
  let g := s.gov
  stackPayload g.stack ++ u8 (activeIndex g).val ++ u8 g.floor.ctorIdx ++ u8 g.factor ++ u8 g.boost
    ++ q16 g.pBase ++ u8 g.boostPct ++ q16 g.pReq ++ q16 g.claimReq ++ q16 g.claimFloor ++ q16 g.grant
    ++ q16 g.pCap ++ u8 s.watch.derate ++ q16 g.pEff ++ q16 g.pset ++ q16 g.ceiling ++ flag g.ramping
    ++ flag g.stopStarved

/-- PROFILE_READ (R65). -/
def profileReadPayload (i : Fin 16) (s : State) : List Byte :=
  let here := s.gov.stack.filter (·.profile == i)
  profileFields s.gov.profiles[i] ++ flag (!here.isEmpty)
    ++ listOf (fun (e : StackEntry) => u8 e.origin.ctorIdx) here ++ governorFields s

/-- BLOCK_CONFIG (R92). With no attempt present the push field is that of the last attempt (log entry 47). -/
def blockPayload (m : LoadMon) : List Byte :=
  u8 m.blockPct ++ u8 (m.blockPct - 8) ++ q16 m.blockMs ++ u8 m.cls.ctorIdx ++ u8 m.rise ++ u8 m.block
    ++ u8 m.release ++ u8 m.attempts ++ u8 m.phase.ctorIdx ++ q16 (m.timer.getD 0) ++ flag m.pushMade
    ++ half (reportNat m.ratio) ++ i16 m.expected

/-! ## Dirt Monitor -/

/-- The six settings (R107). -/
def dirtSettings (d : Dirt) : List Byte :=
  q16 d.large ++ q16 d.t1 ++ q16 d.t2 ++ q16 d.t3 ++ u32 d.capacity ++ u8 d.fullPct

/-- DIRT_CONFIG (R107). -/
def dirtConfigPayload (d : Dirt) : List Byte :=
  dirtSettings d ++ u32 d.bin ++ u8 (binPct d) ++ flag d.sat ++ flag d.full

/-- DIRT_READ (R108). With no window running, its elapsed time and counts are sent as 0 (log entry 15). -/
def dirtReadPayload (d : Dirt) : List Byte :=
  let elapsed := (d.window.map fun w => 100 - w.timer).getD 0
  u8 d.status.ctorIdx ++ flag d.echo.isSome ++ u8 d.level ++ u8 d.rise ++ u8 d.cand ++ u8 d.fall
    ++ flag d.heldLevel ++ flag d.window.isSome ++ u8 elapsed
    ++ u16 ((d.window.map (·.small)).getD 0) ++ u16 ((d.window.map (·.large)).getD 0)
    ++ u16 d.lastSmall ++ u16 d.lastLarge ++ u32 d.lastW ++ u8 d.lastF ++ half (reportNat d.rate)
    ++ u32 d.bin ++ u8 (binPct d) ++ flag d.sat ++ flag d.full ++ dirtSettings d

/-- BIN_RESET (R106). -/
def binResetPayload (d : Dirt) : List Byte := u32 d.bin ++ u8 (binPct d) ++ flag d.sat

/-! ## Tool records and the tool line -/

/-- A speed curve. -/
def curveFields (c : Curve) : List Byte := q16 c.s1 ++ q16 c.s2 ++ q16 c.s3 ++ q16 c.s4

/-- A tool record (R128). -/
def recordFields (r : ToolRecord) : List Byte :=
  u32 r.serial.toNat ++ u8 r.kind.ctorIdx ++ u8 r.airflow ++ curveFields r.curve ++ q16 r.brush
    ++ q16 r.floor ++ flag r.yielding ++ q16 r.lamp ++ flag r.pinned

/-- The recency rank of a slot (R129). -/
def rankOf (t : ToolTable) (i : Fin 8) : Nat := t.order.findIdx (· == i)

/-- TOOL_READ (R138). -/
def toolReadPayload (i : Fin 8) (s : State) : List Byte :=
  optional (fun r => recordFields r ++ u8 (rankOf s.tools i)
    ++ optAddr ((userOf s i).map (·.addr))) s.tools.slots[i]

/-- TOOL_MISS_READ (R139). -/
def toolMissPayload (s : State) : List Byte :=
  listOf (fun (x : Serial) => u32 x.toNat) s.tools.miss
    ++ s.tools.miss.flatMap (fun x => optAddr ((attachedSerial s x).map (·.addr)))

/-- The source of an applied record: a slot index, 8 for DEFAULT, 9 for NONE (R140). -/
def Applied.code : Applied → Nat
  | .slot i => i.val
  | .default _ => 8
  | .none => 9

/-- A pending cap (R123), its brush limit in mA (log entry 15). -/
def capFields (c : Cap) : List Byte :=
  q16 (c.body.limit * 50) ++ u8 c.body.brush ++ flag c.body.lamp ++ [c.seq]

/-- The brush slot of an address: HEAD, AUX or neither. -/
def brushMembership (a : Arb) (x : Addr) : Nat :=
  if a.head.members.contains x then 0 else if a.aux.members.contains x then 1 else 2

/-- A node list entry of TOOL_LIST (R140). An entry with no applied record sends UNKNOWN, 0, 0, no and 0 for its
fields (log entry 15). -/
def nodeFields (s : State) (n : Node) : List Byte :=
  let r := appliedRecord s n
  u8 n.addr.toNat ++ u32 n.serial.toNat ++ u8 n.state.ctorIdx ++ listOf (fun b => [b]) n.descs
    ++ u8 n.missed ++ [n.seq] ++ optional capFields n.pending ++ q16 (n.ackLimit * 50)
    ++ flag n.jam ++ flag n.lamp ++ flag n.fault ++ u8 n.floor.ctorIdx ++ half (reportNat n.brushMa)
    ++ u8 n.applied.code ++ u8 ((r.map ToolRecord.kind).getD ToolKind.unknown).ctorIdx
    ++ u8 (derivedKind n.descs).ctorIdx ++ flag n.mismatch
    ++ q16 ((r.map (·.brush)).getD 0) ++ q16 ((r.map (·.floor)).getD 0)
    ++ flag ((r.map (·.yielding)).getD false) ++ q16 ((r.map (·.lamp)).getD 0)
    ++ u8 (brushMembership s.arb n.addr) ++ flag (s.arb.lamp.members.contains n.addr)

/-- TOOL_LIST (R140); the quarantined addresses stand in the order in which they were quarantined (log entry 15). -/
def toolListPayload (s : State) : List Byte :=
  listOf (nodeFields s) s.line.nodes ++ u8 s.line.tpwr.ctorIdx ++ u8 s.line.floor.ctorIdx
    ++ optAddr s.tools.nozzle ++ u8 s.gov.factor ++ curveFields s.gov.curve
    ++ listOf (fun (q : Quarantined) => u8 q.addr.toNat) s.line.quarantine

/-! ## Dock and charging -/

/-- CHARGE_CONFIG (R162). -/
def chargeConfigPayload (s : State) : List Byte :=
  q16 s.dock.iMax ++ q16 s.dock.iTerm ++ u8 s.dock.debounceMs ++ q16 (iTermInUse s)

/-- A cause of FAULT as its place in R160's table, CELL_OV, which stands after it, as the next (12.8.1; log entry
15). -/
def ChargeFault.code : ChargeFault → Option Nat
  | .none => Option.none
  | .thermal => some 0
  | .inputOv => some 1
  | .totalTimeout => some 2
  | .prechargeTimeout => some 3
  | .cellOv => some 4

/-- The cause of the charge state, where it has one (R163). -/
def stateCause (d : Dock) : Option Nat :=
  match d.state with
  | .paused => some d.pause.ctorIdx
  | .fault => d.lastFault.code
  | .detached | .attachWait | .identify | .negotiate | .coarse | .precharge | .bulk | .taper
  | .topped | .disabled => none

/-- CHARGE_READ (R163). The bleed set is a list of cell numbers, and the resume phase is PRECHARGE 0, BULK 1, TAPER 2
(log entry 15). -/
def chargeReadPayload (s : State) : List Byte :=
  let d := s.dock
  u8 d.state.ctorIdx ++ optional u8 (stateCause d) ++ optional u8 d.lastFault.code
    ++ flag d.disabled
    ++ q16 (iMaxInUse s) ++ q16 (tempLimit s) ++ q16 d.iTgt ++ q16 d.iChg ++ half (reportNat d.taper)
    ++ optional (fun (p : ChargePhase) => u8 p.ctorIdx) d.resume ++ q16 d.precharge ++ q16 d.total
    ++ listOf u8 d.bleed ++ q16 (iTermInUse s)

/-- The kind byte of a request on the dock line (R194). -/
def DockReq.kind : DockReq → Nat
  | .hello => 1
  | .chargeReq _ _ => 2
  | .evacReq _ => 3
  | .halt => 4

/-- The due requests in the order they are sent (R148). -/
def dueKinds (d : Dock) : List Nat :=
  (if d.dueHalt then [4] else []) ++ (d.dueCharge.map DockReq.kind).toList
    ++ (d.dueEvac.map fun _ => 3).toList

/-- An offer (R163). -/
def offerFields (o : Offer) : List Byte := u16 o.volts ++ u16 o.amps ++ flag o.rejected

/-- A dock identity (R163). -/
def identityFields (i : DockIdentity) : List Byte := u8 i.kind.ctorIdx ++ flag i.support ++ u8 i.count

/-- An agreement (R163). -/
def agreementFields (a : Agreement) : List Byte :=
  u8 a.index ++ u16 a.volts ++ u16 a.amps ++ u16 a.input

/-- The phase of an exchange: awaiting ACCEPT, or the first reply of another request, 0, and awaiting READY, or
OFFERS, 1 (R147; log entry 15). -/
def ExPhase.code : ExPhase → Nat
  | .first => 0
  | .offers | .ready => 1

/-- An exchange record (R163). With no deadline running the time to it is sent as 0 (log entry 15). -/
def exchangeFields (e : Exchange) : List Byte :=
  u8 e.req.kind ++ u8 e.attempts ++ u8 e.phase.code ++ u8 e.waits ++ q16 (e.deadline.getD 0)

/-- The debounce time elapsed in ms, of the debounce time of this attach (R163, R162), 0 while the timer is not
running (log entry 15). -/
def debounceElapsed (d : Dock) : Nat := (d.debounce.map fun t => d.attachMs - t).getD 0

/-- DOCK_READ (R163). The due requests are a list of their kinds (log entry 15). -/
def dockReadPayload (d : Dock) : List Byte :=
  u8 d.attach.code ++ u8 (debounceElapsed d)
    ++ optional (fun (c : CoarseClass) => u8 c.ctorIdx) d.coarse ++ optional identityFields d.identity
    ++ listOf offerFields d.offers ++ optional agreementFields d.agreement
    ++ optional exchangeFields d.exch ++ listOf u8 (dueKinds d)

/-! ## Evacuation -/

/-- Who started an evacuation, where one was started. -/
def triggerFields : EvacTrigger → List Byte
  | .none => [0]
  | .auto => [1, 0]
  | .host => [1, 1]

/-- The evacuation record (R165). -/
def evacRecord (e : Evac) : List Byte :=
  u8 e.state.ctorIdx ++ triggerFields e.trigger ++ u8 e.duration ++ u8 e.binPct ++ u8 e.outcome.ctorIdx
    ++ optional (fun b => [b]) e.reason ++ flag e.confirmed

/-- EVAC_CONFIG (R171). -/
def evacConfigPayload (s : State) : List Byte :=
  u8 s.evac.pct ++ u8 s.evac.setting ++ flag s.evac.auto ++ evacRecord s.evac
    ++ q16 (s.evac.timer.getD 0) ++ flag s.dock.dueEvac.isSome

/-! ## Watches -/

/-- The code of an action and its p (R173); an action other than DERATE has a 0 in the place of p (log entry 15). -/
def actionFields : WatchAction → List Byte
  | .notify => [0, 0]
  | .derate p => 1 :: u8 p
  | .stopMotor => [2, 0]
  | .pauseCharge => [3, 0]

/-- The code of an action alone. -/
def actionCode (a : WatchAction) : List Byte := (actionFields a).take 1

/-- A watch record (R178, R181). -/
def watchFields (r : WatchRec) : List Byte :=
  u8 r.quantity.ctorIdx ++ half r.threshold ++ u8 r.conds.toNat ++ u8 r.n ++ u8 r.mode.ctorIdx
    ++ actionFields r.action ++ u8 r.state.ctorIdx ++ u8 r.trueCount ++ u8 r.falseCount ++ half r.last

/-- The FIRED records with their actions, from an index on: the code of each alone, without p (log entry 15). -/
def firedFields : Nat → List (Option WatchRec) → List (List Byte)
  | _, [] => []
  | i, some r :: l =>
    if r.state = .fired then (u8 i ++ actionCode r.action) :: firedFields (i + 1) l
    else firedFields (i + 1) l
  | i, none :: l => firedFields (i + 1) l

/-- WATCH_READ (R181). -/
def watchReadPayload (i : Fin 8) (w : WatchUnit) : List Byte :=
  let fired := firedFields 0 w.recs.toList
  optional watchFields w.recs[i] ++ u8 w.derate ++ flag w.pauseOrder ++ listOf id fired

/-! ## Host Link -/

/-- IDENT (R191). -/
def identPayload : List Byte :=
  u16 0x0C52 ++ u16 0x6240 ++ u8 (65 + Config.revision.val)
    ++ [4, 0x01, 5, 7, 0x02, 1, 4, 0x03, 16, 16, 0x04, 8, 8]

/-- A set of events as four bytes, bits 28 to 31 read 0 (12.8.1). -/
def eventBytes (e : BitVec 28) : List Byte := u32 e.toNat

end Sys2Proof.Machine
end

