-- ==== Sys2Proof/Machine/Requests.lean ====
section
/-! DEFINITION. What each host request does and answers, checks 4 to 8 of R184, block by block. A refused
request changes nothing and carries no payload. -/

namespace Sys2Proof.Machine

/-- The state after a request, with its reply's status and payload. -/
structure Answer where
  state   : State
  status  : Status
  payload : List Byte
deriving DecidableEq, Repr

/-- An accepted request (R184). -/
def accept (s : State) (payload : List Byte) : Answer := ⟨s, .ok, payload⟩

/-- A refused request (R184). -/
def refuse (st : Status) (s : State) : Answer := ⟨s, st, []⟩

/-! ## Pack Monitor -/

/-- The states in which a change of the cell count is refused (R21). -/
def countLocked (s : State) : Bool := !s.drive.state.atRest || s.dock.state.charges

/-- The settings of a PACK_CONFIG stored (R21). -/
def storePack (count capacity inom : Nat) (s : State) : State :=
  let p := s.pack
  { s with
    pack := { p with
      count := count, capacity := capacity, inom := inom
      reseed := p.reseed || count != p.count
      gauge := if capacity = p.capacity then p.gauge
        else p.gauge * (capacity * 360000) / fullCharge p }
    host := { s.host with configured := true } }

/-- PACK_CONFIG (R21). -/
def servePackConfig (count : Byte) (capacity inom : Half) (s : State) : Answer :=
  let n := clampByte 5 7 count
  let c := clampHalf 1000 8000 capacity
  let i := clampHalf 10000 32000 inom
  if n ≠ s.pack.count ∧ countLocked s then refuse .refusedState s
  else accept (storePack n c i s) (u8 n ++ q16 c ++ q16 i)

/-- Strictly increasing. -/
def increasing : List Nat → Bool
  | a :: b :: l => a < b && increasing (b :: l)
  | [_] => true
  | [] => true

/-- OCV_TABLE (R22). -/
def serveOcvTable (points : List Half) (s : State) : Answer :=
  let t := points.map (clampHalf 2500 4500)
  if t.length = 11 ∧ increasing t then
    accept { s with pack := { s.pack with ocv := t } } (t.flatMap q16)
  else refuse .badArg s

/-- PACK_READ (R23). -/
def servePackRead (s : State) : Answer := accept s (packReadPayload s.pack)

/-- GAUGE_SET (R24). -/
def serveGaugeSet (soc : Half) (s : State) : Answer :=
  let v := clampHalf 0 1000 soc
  accept { s with pack := { s.pack with gauge := v * fullCharge s.pack / 1000, clip := false } } (q16 v)

/-- The conditions of a SLEEP (R18). -/
def maySleep (s : State) : Bool :=
  s.drive.state.atRest && !s.drive.trig && s.dock.state == .detached && !evacInProgress s

/-- STANDBY entry (R18, R72, R126). -/
def enterStandby (s : State) : State :=
  holdPower { s with
    pack := { s.pack with power := .standby, round := some 1000 }
    gov := { s.gov with step := none } }

/-- SLEEP (R18). -/
def serveSleep (s : State) : Answer :=
  if maySleep s then accept (enterStandby s) [] else refuse .refusedState s

/-! ## Arbiter -/

/-- RESERVE_SET (R39). -/
def serveReserveSet (ma : Half) (s : State) : Answer :=
  let v := clampHalf 100 1000 ma
  let arb := { s.arb with reserve := { s.arb.reserve with request := v, floor := v } }
  accept (if arb = s.arb then s else askRecompute { s with arb := arb }) (q16 v)

/-- ALLOT_READ (R40). -/
def serveAllotRead (s : State) : Answer := accept s (allotReadPayload s)

/-! ## Governor -/

/-- The entry stands in the mode stack as a BASE or HOST entry (R63). -/
def standsSelected (st : List StackEntry) (i : Fin 16) : Bool :=
  st.any fun e => e.profile == i && e.origin != .clear

/-- The entry as a PROFILE_WRITE stores it, every number clamped (R63). -/
def writtenProfile (f : ProfileFields) (locked : Bool) : Profile :=
  let hard := clampHalf 20 600 f.hard
  let carpet := clampHalf 20 600 f.carpet
  { enabled := f.enabled, selectable := f.selectable, hard := hard, carpet := carpet
    floor := clampHalf 20 (min hard carpet) f.floor, auto := f.auto
    gain := clampByte 0 4 f.gain, brush := clampByte 0 3 f.brush, ramp := clampByte 5 100 f.ramp
    locked := locked }

/-- An entry of the profile table replaced; a changed brush level of the active entry is handed on
(R63, R66). -/
def storeProfile (i : Fin 16) (p : Profile) (s : State) : State :=
  let old := activeProfile s.gov
  let s := { s with gov := { s.gov with profiles := s.gov.profiles.set i p } }
  if activeIndex s.gov = i ∧ p.brush ≠ old.brush then handBrush p.brush s else s

/-- PROFILE_WRITE (R63). -/
def serveProfileWrite (index : Byte) (f : ProfileFields) (s : State) : Answer :=
  match index? 16 index with
  | none => refuse .badArg s
  | some i =>
    if (!f.enabled || !f.selectable) && standsSelected s.gov.stack i then refuse .refusedState s
    else if s.gov.profiles[i].locked then refuse .locked s
    else
      let p := writtenProfile f false
      accept (storeProfile i p s) (profileFields p)

/-- PROFILE_READ (R65). -/
def serveProfileRead (index : Byte) (s : State) : Answer :=
  match index? 16 index with
  | none => refuse .badArg s
  | some i => accept s (profileReadPayload i s)

/-- PROFILE_LOCK (R64). -/
def serveProfileLock (index : Byte) (s : State) : Answer :=
  match index? 16 index with
  | none => refuse .badArg s
  | some i =>
    let p := { s.gov.profiles[i] with locked := true }
    accept { s with gov := { s.gov with profiles := s.gov.profiles.set i p } } (profileFields p)

/-- The host may select the profile (R61, R67, R68). -/
def selects (g : Gov) (i : Fin 16) : Bool := g.profiles[i].enabled && g.profiles[i].selectable

/-- MODE_SET (R67). -/
def serveModeSet (index : Byte) (s : State) : Answer :=
  match index? 16 index with
  | none => refuse .badArg s
  | some i =>
    if selects s.gov i then
      let st := setBase i s.gov.stack
      accept (setStack st s) (stackPayload st)
    else refuse .refusedState s

/-- MODE_PUSH (R68). -/
def serveModePush (index : Byte) (s : State) : Answer :=
  if topOrigin s.gov = some .clear then refuse .busy s
  else
    match index? 16 index with
    | none => refuse .badArg s
    | some i =>
      if !selects s.gov i then refuse .refusedState s
      else if 4 ≤ s.gov.stack.length then refuse .full s
      else
        let st := s.gov.stack ++ [⟨i, .host⟩]
        accept (setStack st s) (stackPayload st)

/-- MODE_POP (R69). -/
def serveModePop (s : State) : Answer :=
  if hasHost s.gov.stack then
    let st := dropHost s.gov.stack
    accept (setStack st s) (stackPayload st)
  else refuse .empty s

/-! ## Motor Drive and load monitor -/

/-- MOTOR_READ (R58). -/
def serveMotorRead (s : State) : Answer := accept s (motorReadPayload s.drive)

/-- The effect of a FAULT_CLEAR (R59). -/
def clearFaults (s : State) : State :=
  let s := { s with drive := { s.drive with trips := [], tripCause := .none } }
  if s.drive.state = .locked then enterRest .off s else s

/-- FAULT_CLEAR (R59). -/
def serveFaultClear (s : State) : Answer :=
  if s.drive.trig || !s.drive.state.atRest then refuse .refusedState s
  else
    let s' := clearFaults s
    accept s' (u8 s'.drive.state.ctorIdx)

/-- The settings of a BLOCK_CONFIG stored (R92, R91). -/
def storeBlock (pct ms : Nat) (s : State) : State :=
  let s' := { s with load := { s.load with blockPct := pct, blockMs := ms } }
  if pct = s.load.blockPct ∧ ms = s.load.blockMs then s' else restartSustain s'

/-- BLOCK_CONFIG (R92). -/
def serveBlockConfig (settings : Option (Byte × Half)) (s : State) : Answer :=
  let s' := match settings with
    | some (p, m) => storeBlock (clampByte 105 150 p) (floorTo 10 (clampHalf 200 2000 m)) s
    | none => s
  accept s' (blockPayload s'.load)

/-! ## Dirt Monitor -/

/-- The Dirt Monitor with the six settings stored (R107). -/
def storeDirt (large t1 t2 t3 capacity fullPct : Nat) (d : Dirt) : Dirt :=
  let kept := decide (t1 = d.t1 ∧ t2 = d.t2 ∧ t3 = d.t3)
  let bin := min d.bin capacity
  { d with
    large := large, t1 := t1, t2 := t2, t3 := t3, capacity := capacity, fullPct := fullPct
    rise := if kept then d.rise else 0, cand := if kept then d.cand else 0
    fall := if kept then d.fall else 0
    bin := bin, sat := d.sat || bin == capacity }

/-- What follows the storing of the settings: the full flag and BIN_PCT (R104, R102). -/
def dirtStored (d : Dirt) (s : State) : State :=
  let moved := decide (d.capacity ≠ s.dirt.capacity ∨ d.fullPct ≠ s.dirt.fullPct)
  let s' := { s with dirt := d }
  let s' := if moved then evalFull s' else s'
  if binPct d = binPct s.dirt then s' else deliverBin s'

/-- DIRT_CONFIG (R107). -/
def serveDirtConfig (settings : Option DirtFields) (s : State) : Answer :=
  match settings with
  | none => accept s (dirtConfigPayload s.dirt)
  | some f =>
    let t1 := clampHalf 1 5000 f.t1
    let t2 := clampHalf 1 5000 f.t2
    let t3 := clampHalf 1 5000 f.t3
    if t1 < t2 ∧ t2 < t3 then
      let s' := dirtStored (storeDirt (clampHalf 100 2000 f.large) t1 t2 t3
        (clampNat 1000 1000000 f.capacity.toNat) (clampByte 50 100 f.fullPct) s.dirt) s
      accept s' (dirtConfigPayload s'.dirt)
    else refuse .badArg s

/-- DIRT_READ (R108). -/
def serveDirtRead (s : State) : Answer := accept s (dirtReadPayload s.dirt)

/-- BIN_RESET (R106). -/
def serveBinReset (s : State) : Answer :=
  let s' := emptyBin { s with dirt := { s.dirt with sat := false } }
  accept s' (binResetPayload s'.dirt)

/-! ## Tool Record Table -/

/-- The kinds in the order of R128. -/
def toolKinds : List ToolKind := [.floorHead, .miniHead, .crevice, .lightWand, .unknown]

/-- The record a TOOL_LOAD stores, every number clamped; `none` for an unknown kind (R135). -/
def loadedRecord (f : ToolFields) : Option ToolRecord :=
  (toolKinds[f.kind.toNat]?).map fun k =>
    let brush := clampHalf 0 4000 f.brush
    { serial := f.serial, kind := k, airflow := clampByte 50 150 f.airflow
      curve := ⟨clampHalf 100 2000 f.s1, clampHalf 100 2000 f.s2, clampHalf 100 2000 f.s3,
        clampHalf 100 2000 f.s4⟩
      brush := brush, floor := clampHalf 0 brush f.floor, yielding := f.yielding
      lamp := clampHalf 0 1000 f.lamp, pinned := f.pinned }

/-- A record invalidated; a node to which it applied turns to a default record, and a miss is recorded
(R135, R137). -/
def dropRecord (i : Fin 8) (s : State) : State :=
  let user := userOf s i
  let s := { s with tools := s.tools.invalidate i }
  match user with
  | some n => handRecord n.addr (recordMiss n.serial (applyDefault n.addr s))
  | none => s

/-- A record written into its slot and applied to the attached node of its serial (R135, R136). -/
def placeRecord (i : Fin 8) (r : ToolRecord) (s : State) : State :=
  let s := { s with tools := s.tools.write i r }
  match attachedSerial s r.serial with
  | some n => handRecord n.addr (applySlot n.addr i r s)
  | none => s

/-- The reply of a TOOL_LOAD (R135). The evicted serial and its node follow where the row is 3, with no flag of
their own (log entry 15). -/
def toolLoadPayload (p : Placement) (r : ToolRecord) (before : State) : List Byte :=
  let evicted := if p.evict then
      match before.tools.slots[p.slot] with
      | some old => u32 old.serial.toNat ++ optAddr ((userOf before p.slot).map (·.addr))
      | none => []
    else []
  u8 p.slot.val ++ recordFields r ++ u8 p.row ++ evicted
    ++ optAddr ((attachedSerial before r.serial).map (·.addr))

/-- TOOL_LOAD (R135). -/
def serveToolLoad (f : ToolFields) (s : State) : Answer :=
  match loadedRecord f with
  | none => refuse .badArg s
  | some r =>
    match s.tools.place r.serial with
    | none => refuse .full s
    | some p =>
      let s' := if p.evict then dropRecord p.slot s else s
      accept (placeRecord p.slot r s') (toolLoadPayload p r s)

/-- TOOL_DROP (R137). -/
def serveToolDrop (serial : Serial) (s : State) : Answer :=
  match s.tools.find serial with
  | none => refuse .notFound s
  | some i => accept (dropRecord i s) (u8 i.val ++ optAddr ((userOf s i).map (·.addr)))

/-- TOOL_READ (R138). -/
def serveToolRead (index : Byte) (s : State) : Answer :=
  match index? 8 index with
  | none => refuse .badArg s
  | some i => accept s (toolReadPayload i s)

/-- TOOL_MISS_READ (R139). -/
def serveToolMissRead (s : State) : Answer := accept s (toolMissPayload s)

/-- TOOL_LIST (R140). -/
def serveToolList (s : State) : Answer := accept s (toolListPayload s)

/-! ## Charge Controller -/

/-- A stored I_term: AUTO for 0 and below, else within 50 to 1,000 mA (R162; log entry 16). -/
def clampTerm (h : Half) : Nat := if h.toInt ≤ 0 then 0 else clampHalf 50 1000 h

/-- The currents lowered at once to a new I_tgt; a raise waits for the next check (R162). So is a current of COARSE
below 3,000 mV; an I_tgt that is not lowered leaves it (log entry 72). -/
def lowerTarget (s : State) : State :=
  let t := min s.dock.iTgt (chargeTarget s)
  { s with dock := { s.dock with
      iTgt := t, want := min s.dock.want t
      iChg := if s.dock.state.charges ∧ t < s.dock.iTgt then min s.dock.iChg t else s.dock.iChg } }

/-- CHARGE_CONFIG (R162). -/
def serveChargeConfig (settings : Option (Half × Half × Byte)) (s : State) : Answer :=
  let s' := match settings with
    | some (m, t, d) => lowerTarget { s with dock := { s.dock with
        iMax := clampHalf 300 4000 m, iTerm := clampTerm t
        debounceMs := floorTo 25 (clampByte 100 250 d) } }
    | none => s
  accept s' (chargeConfigPayload s')

/-- CHARGE_READ (R163). -/
def serveChargeRead (s : State) : Answer := accept s (chargeReadPayload s)

/-- DOCK_READ (R163). -/
def serveDockRead (s : State) : Answer := accept s (dockReadPayload s.dock)

/-- The states DISABLE acts on (R161). -/
def ChargeState.disables : ChargeState → Bool
  | .identify | .negotiate | .coarse | .precharge | .bulk | .taper | .topped | .paused => true
  | .detached | .attachWait | .disabled | .fault => false

/-- CHARGE_FORCE DISABLE (R161). -/
def serveForceDisable (s : State) : Answer :=
  let s' := { s with dock := { s.dock with disabled := true } }
  accept (if s.dock.state.disables then enterDisabled s' else s') (u8 0)

/-- CHARGE_FORCE ENABLE (R161). -/
def serveForceEnable (s : State) : Answer :=
  let s' := { s with dock := { s.dock with disabled := false } }
  accept (if s.dock.state = .disabled then enterIdentify s' else s') (u8 1)

/-- CHARGE_FORCE RECOVER (R161). -/
def serveForceRecover (s : State) : Answer :=
  if s.dock.state = .fault then
    let s' := setCharge .attachWait s
    accept (leaveAttachWait { s' with dock := { s'.dock with attach := .attached, total := 0 } }) (u8 2)
  else refuse .refusedState s

/-- The states RENEGOTIATE acts on (R161). -/
def ChargeState.renegotiates : ChargeState → Bool
  | .coarse | .precharge | .bulk | .taper | .topped | .paused => true
  | .detached | .attachWait | .identify | .negotiate | .disabled | .fault => false

/-- CHARGE_FORCE RENEGOTIATE (R161). -/
def serveForceRenegotiate (s : State) : Answer :=
  if !s.dock.state.renegotiates then refuse .refusedState s
  else if s.dock.exch.isSome then refuse .busy s
  else
    let s' := openSwitch s
    let s' := makeHaltDue { s' with dock := { s'.dock with agreement := none, dueCharge := none } }
    accept (enterIdentify s') (u8 3)

/-! ## Evacuation Sequencer -/

/-- EVAC_CONFIG (R171). -/
def serveEvacConfig (settings : Option (Byte × Byte)) (s : State) : Answer :=
  let s' := match settings with
    | some (p, d) => autoDecision { s with evac := { s.evac with
        pct := clampByte 0 100 p, setting := clampByte 3 15 d } }
    | none => s
  accept s' (evacConfigPayload s')

/-- The duration an EVAC_START asks for (R167). -/
def evacDuration (e : Evac) (d : Byte) : Nat := if d = 0 then e.setting else clampByte 3 15 d

/-- EVAC_START (R167). -/
def serveEvacStart (duration : Byte) (s : State) : Answer :=
  if s.dock.state = .detached ∨ s.dock.state = .attachWait then refuse .refusedState s
  else if !(s.dock.identity.any (·.support)) then refuse .refusedState s
  else if evacInProgress s then refuse .busy s
  else if s.dock.exch.isSome then refuse .busy s
  else
    let s' := startEvac .host (evacDuration s.evac duration) s
    accept s' (evacRecord s'.evac)

/-! ## Watch Unit -/

/-- WATCH_SET (R178). -/
def serveWatchSet (index : Byte) (f : WatchFields) (s : State) : Answer :=
  match index? 8 index, watchRecord f with
  | some i, some r => accept (setWatch i (some r) s) (watchFields r)
  | _, _ => refuse .badArg s

/-- WATCH_ARM with a choice (R179). -/
def serveWatchArm (arm : Bool) (index : Byte) (s : State) : Answer :=
  match index? 8 index with
  | none => refuse .badArg s
  | some i =>
    match s.watch.recs[i] with
    | none => refuse .notFound s
    | some r =>
      let r' := r.rearm arm
      accept (setWatch i (some r') s) (watchFields r')

/-- WATCH_READ (R181). -/
def serveWatchRead (index : Byte) (s : State) : Answer :=
  match index? 8 index with
  | none => refuse .badArg s
  | some i => accept s (watchReadPayload i s.watch)

/-- WATCH_CLEAR (R180). -/
def serveWatchClear (index : Byte) (s : State) : Answer :=
  match index? 8 index with
  | none => refuse .badArg s
  | some i => accept (setWatch i none s) ([index] ++ flag false)

/-! ## Host Link -/

/-- IDENT (R191). -/
def serveIdent (s : State) : Answer := accept s identPayload

/-- EVENTS_READ (R188). -/
def serveEventsRead (s : State) : Answer :=
  accept { s with host := { s.host with events := 0 } }
    (eventBytes s.host.events ++ eventBytes s.host.mask)

/-- EVENT_MASK (R188). -/
def serveEventMask (mask : Option Quad) (s : State) : Answer :=
  let s' := match mask with
    | some m => { s with host := { s.host with mask := m.setWidth 28 } }
    | none => s
  accept s' (eventBytes s'.host.mask ++ eventBytes s'.host.events)

/-- READY (R189). -/
def serveReady (s : State) : Answer :=
  if !s.host.configured then refuse .refusedState s
  else if s.host.ready then accept s []
  else accept (askRecompute { s with host := { s.host with ready := true } }) []

end Sys2Proof.Machine
end

