-- ==== Sys2Proof/Machine/HostOps.lean ====
section
/-! DEFINITION. The Host Link (Chapter 12): admission of requests, the reply queue, FENCE and RESET, the
receive assembly, and the soft reset of every block. -/

namespace Sys2Proof.Machine

/-! ## The reply queue (R185) -/

/-- A reply appended to the queue. -/
def queueReply (r : Reply) (s : State) : State :=
  { s with host := { s.host with replies := s.host.replies ++ [r] } }

/-- The kind of a request's reply: its own plus 0x80 (R183). -/
def replyKind (kind : Byte) : Byte := kind + 0x80

/-- A request appended to the pending list. -/
def pend (kind tag : Byte) (s : State) : State :=
  { s with host := { s.host with requests := s.host.requests ++ [⟨kind, tag⟩] } }

/-- An answered request: it is pending, and its formed reply is queued (R185). -/
def answered (kind tag : Byte) (a : Answer) : State :=
  queueReply ⟨replyKind kind, tag, some ⟨a.status.code, a.payload⟩, true, false⟩
    (pend kind tag a.state)

/-- A frame that finds the reply queue full is dropped (R185). -/
def dropFrame (s : State) : State := raise .frameDropped s

/-- The reply of a request that is not acted on because the pending list is full (R185). -/
def overrun (kind tag : Byte) (s : State) : State :=
  queueReply ⟨replyKind kind, tag, some ⟨Status.overrun.code, []⟩, false, false⟩ s

/-- The admission of an arriving request that is not a RESET (R185). -/
def admitted (kind tag : Byte) (act : State → State) (s : State) : State :=
  if 8 ≤ s.host.replies.length then dropFrame s
  else if 4 ≤ s.host.requests.length then overrun kind tag s
  else act s

/-- A request served by its block. -/
def serve (kind tag : Byte) (f : State → Answer) (s : State) : State :=
  admitted kind tag (fun s => answered kind tag (f s)) s

/-- The arrival of a request frame as a command: the part wakes from STANDBY at the frame's first byte
(R19), and between a RESET and its soft reset no frame is taken (R190). -/
def arrive (act : State → State) (s : State) : State :=
  if s.host.stopped then s else act (wake s)

/-- A BAD_FRAME reply (R183, R185). -/
def badFrame (tag : Byte) (s : State) : State :=
  if 8 ≤ s.host.replies.length then dropFrame s
  else queueReply ⟨0xFF, tag, some ⟨Status.badFrame.code, []⟩, false, false⟩ s

/-! ## FENCE and RESET (R186, R190) -/

/-- The kind byte of FENCE. -/
def kindFence : Byte := 0x04

/-- The kind byte of RESET. -/
def kindReset : Byte := 0x06

/-- A FENCE that is acted on (R186). -/
def fenceArrives (tag : Byte) (s : State) : State :=
  if s.host.fence.isSome then answered kindFence tag (refuse .busy s)
  else
    let o := outstanding s
    if o.any then
      let s := queueReply ⟨replyKind kindFence, tag, none, true, false⟩ (pend kindFence tag s)
      { s with host := { s.host with fence := some ⟨tag, 2000⟩ } }
    else answered kindFence tag (accept s (fencePayload ⟨tag, 2000⟩ o))

/-- The deferred FENCE ended by its timer (R186). -/
def fenceTimedOut (s : State) : State :=
  match s.host.fence with
  | some f => formFence .fenceTimeout (fencePayload { f with timer := 0 } (outstanding s)) s
  | none => s

/-- A deferred FENCE ended by a RESET (R190). -/
def abortFence (s : State) : State :=
  if s.host.fence.isSome then formFence .aborted [] s else s

/-- A RESET that is acted on (R190): it needs a free place in the reply queue only (R185). -/
def resetArrives (tag : Byte) (s : State) : State :=
  if 8 ≤ s.host.replies.length then dropFrame s
  else
    let s := queueReply ⟨replyKind kindReset, tag, some ⟨Status.ok.code, []⟩, true, true⟩
      (pend kindReset tag (abortFence s))
    { s with host := { s.host with stopped := true, rx := .hunting } }

/-! ## The request catalogue (12.7) -/

/-- A request without payload. -/
def bare (f : State → Answer) : List Byte → Option (State → Answer)
  | [] => some f
  | _ => none

/-- A request with a payload of one byte. -/
def oneByte (f : Byte → State → Answer) : List Byte → Option (State → Answer)
  | [a] => some (f a)
  | _ => none

/-- A request with a payload of one two-byte number. -/
def oneHalf (f : Half → State → Answer) : List Byte → Option (State → Answer)
  | [a, b] => some (f (toHalf a b))
  | _ => none

/-- Two-byte numbers from a payload of an even number of bytes. -/
def halves : List Byte → Option (List Half)
  | a :: b :: l => (halves l).map (toHalf a b :: ·)
  | [_] => none
  | [] => some []

/-- PACK_CONFIG's payload. -/
def parsePackConfig : List Byte → Option (State → Answer)
  | [n, c0, c1, i0, i1] => some (servePackConfig n (toHalf c0 c1) (toHalf i0 i1))
  | _ => none

/-- OCV_TABLE's payload. -/
def parseOcvTable (p : List Byte) : Option (State → Answer) :=
  if p.length = 22 then (halves p).map serveOcvTable else none

/-- PROFILE_WRITE's payload. -/
def parseProfileWrite : List Byte → Option (State → Answer)
  | [i, en, se, h0, h1, c0, c1, f0, f1, au, ga, br, ra] => some (serveProfileWrite i
      { enabled := toFlag en, selectable := toFlag se, hard := toHalf h0 h1, carpet := toHalf c0 c1
        floor := toHalf f0 f1, auto := toFlag au, gain := ga, brush := br, ramp := ra })
  | _ => none

/-- BLOCK_CONFIG's payload. -/
def parseBlockConfig : List Byte → Option (State → Answer)
  | [] => some (serveBlockConfig none)
  | [p, m0, m1] => some (serveBlockConfig (some (p, toHalf m0 m1)))
  | _ => none

/-- DIRT_CONFIG's payload. -/
def parseDirtConfig : List Byte → Option (State → Answer)
  | [] => some (serveDirtConfig none)
  | [l0, l1, a0, a1, b0, b1, c0, c1, q0, q1, q2, q3, f] => some (serveDirtConfig (some
      { large := toHalf l0 l1, t1 := toHalf a0 a1, t2 := toHalf b0 b1, t3 := toHalf c0 c1
        capacity := toQuad q0 q1 q2 q3, fullPct := f }))
  | _ => none

/-- TOOL_LOAD's payload. -/
def parseToolLoad : List Byte → Option (State → Answer)
  | [n0, n1, n2, n3, k, a, s0, s1, u0, u1, v0, v1, w0, w1, b0, b1, f0, f1, y, l0, l1, p] =>
    some (serveToolLoad
      { serial := toQuad n0 n1 n2 n3, kind := k, airflow := a, s1 := toHalf s0 s1
        s2 := toHalf u0 u1, s3 := toHalf v0 v1, s4 := toHalf w0 w1, brush := toHalf b0 b1
        floor := toHalf f0 f1, yielding := toFlag y, lamp := toHalf l0 l1, pinned := toFlag p })
  | _ => none

/-- TOOL_DROP's payload. -/
def parseToolDrop : List Byte → Option (State → Answer)
  | [a, b, c, d] => some (serveToolDrop (toQuad a b c d))
  | _ => none

/-- EVENT_MASK's payload. -/
def parseEventMask : List Byte → Option (State → Answer)
  | [] => some (serveEventMask none)
  | [a, b, c, d] => some (serveEventMask (some (toQuad a b c d)))
  | _ => none

/-- CHARGE_CONFIG's payload. -/
def parseChargeConfig : List Byte → Option (State → Answer)
  | [] => some (serveChargeConfig none)
  | [m0, m1, t0, t1, d] => some (serveChargeConfig (some (toHalf m0 m1, toHalf t0 t1, d)))
  | _ => none

/-- CHARGE_FORCE's option set: the first option present (R161). -/
def serveChargeForce (options : Byte) (s : State) : Answer :=
  if 16 ≤ options.toNat then refuse .badArg s
  else if options.getLsbD 0 then serveForceDisable s
  else if options.getLsbD 1 then serveForceEnable s
  else if options.getLsbD 2 then serveForceRecover s
  else if options.getLsbD 3 then serveForceRenegotiate s
  else refuse .badArg s

/-- EVAC_CONFIG's payload. -/
def parseEvacConfig : List Byte → Option (State → Answer)
  | [] => some (serveEvacConfig none)
  | [p, d] => some (serveEvacConfig (some (p, d)))
  | _ => none

/-- WATCH_SET's payload. -/
def parseWatchSet : List Byte → Option (State → Answer)
  | [i, q, t0, t1, c, n, m, a, p] => some (serveWatchSet i
      { quantity := q, threshold := toHalf t0 t1, conds := c, n := n, mode := m, action := a, p := p })
  | _ => none

/-- WATCH_ARM with its choice byte: ARM 0, DISARM 1 (R179); another choice is refused before an empty record is (log
entry 70). -/
def serveWatchArmByte (index choice : Byte) (s : State) : Answer :=
  if choice = 0 then serveWatchArm true index s
  else if choice = 1 then serveWatchArm false index s
  else refuse .badArg s

/-- WATCH_ARM's payload. -/
def parseWatchArm : List Byte → Option (State → Answer)
  | [i, c] => some (serveWatchArmByte i c)
  | _ => none

/-- A row of the catalogue: a kind, and the request of a payload of a listed length. -/
structure CatalogueRow where
  kind  : Byte
  parse : List Byte → Option (State → Answer)

/-- The catalogue but for FENCE and RESET, which the Host Link takes itself (12.7). -/
def catalogue : List CatalogueRow :=
  [⟨0x01, bare serveIdent⟩, ⟨0x02, bare serveEventsRead⟩, ⟨0x03, parseEventMask⟩,
   ⟨0x05, bare serveReady⟩, ⟨0x10, parsePackConfig⟩, ⟨0x11, parseOcvTable⟩, ⟨0x12, bare servePackRead⟩,
   ⟨0x13, oneHalf serveGaugeSet⟩, ⟨0x14, bare serveSleep⟩]
  ++ [⟨0x18, oneHalf serveReserveSet⟩, ⟨0x19, bare serveAllotRead⟩, ⟨0x20, parseProfileWrite⟩,
   ⟨0x21, oneByte serveProfileRead⟩, ⟨0x22, oneByte serveProfileLock⟩, ⟨0x23, oneByte serveModeSet⟩,
   ⟨0x24, oneByte serveModePush⟩, ⟨0x25, bare serveModePop⟩, ⟨0x26, bare serveMotorRead⟩,
   ⟨0x27, bare serveFaultClear⟩, ⟨0x28, parseBlockConfig⟩]
  ++ [⟨0x30, parseDirtConfig⟩, ⟨0x31, bare serveDirtRead⟩, ⟨0x32, bare serveBinReset⟩,
   ⟨0x38, parseToolLoad⟩, ⟨0x39, parseToolDrop⟩, ⟨0x3A, oneByte serveToolRead⟩,
   ⟨0x3B, bare serveToolMissRead⟩, ⟨0x3C, bare serveToolList⟩, ⟨0x40, parseChargeConfig⟩,
   ⟨0x41, bare serveChargeRead⟩, ⟨0x42, bare serveDockRead⟩, ⟨0x43, oneByte serveChargeForce⟩]
  ++ [⟨0x48, parseEvacConfig⟩, ⟨0x49, oneByte serveEvacStart⟩, ⟨0x50, parseWatchSet⟩,
   ⟨0x51, parseWatchArm⟩, ⟨0x52, oneByte serveWatchRead⟩, ⟨0x53, oneByte serveWatchClear⟩]

/-- The request of a kind and payload, or the refusal of steps 2 and 3 of R184. -/
def request (kind : Byte) (payload : List Byte) : State → Answer :=
  match catalogue.find? (·.kind == kind) with
  | some row => (row.parse payload).getD (refuse .badArg)
  | none => refuse (if kind = kindFence ∨ kind = kindReset then .badArg else .unknownKind)

/-- A RESET with a payload (R185, R184 step 3): it is acted on, and so refused, also with the pending list
full, unless a request beyond the four stands in it already (log entry 50). -/
def badReset (tag : Byte) (s : State) : State :=
  if 8 ≤ s.host.replies.length then dropFrame s
  else if 5 ≤ s.host.requests.length then overrun kindReset tag s
  else answered kindReset tag (refuse .badArg s)

/-- A complete frame whose CRC agrees arrives (R183 to R186, R190). -/
def frameArrives (kind tag : Byte) (payload : List Byte) (s : State) : State :=
  if kind = kindReset then if payload = [] then resetArrives tag s else badReset tag s
  else if kind = kindFence ∧ payload = [] then admitted kind tag (fenceArrives tag) s
  else serve kind tag (request kind payload) s

/-! ## The receive assembly (R183) -/

/-- The assembly outside a frame. -/
def setRx (r : Rx) (s : State) : State := { s with host := { s.host with rx := r } }

/-- The frame assembled so far, with its newest byte, is taken further (R183): `bytes` are the length,
the kind, the tag, the payload and the CRC as far as they have come. -/
def assemble (bytes : List Byte) (s : State) : State :=
  match bytes with
  | len :: kind :: tag :: rest =>
    if 60 < len.toNat then badFrame tag (setRx .discarding s)
    else if rest.length = len.toNat + 1 then
      let s := setRx .hunting s
      if crc8 bytes.dropLast = bytes.getLastD 0 then frameArrives kind tag rest.dropLast s
      else badFrame tag s
    else setRx (.frame bytes) s
  | _ => setRx (.frame bytes) s

/-- A partial frame is discarded (R183). -/
def breakFrame (s : State) : State := raise .frameDropped (setRx .hunting s)

/-- A byte on HRX (R183, R19, R190). -/
def byteReceived (b : Byte) (stopBit : Bool) (s : State) : State :=
  if s.host.stopped then s
  else
    match s.host.rx with
    | .hunting => if stopBit ∧ b = 0xA5 then setRx (.frame []) (wake s) else s
    | .frame bytes => if stopBit then assemble (bytes ++ [b]) s else breakFrame s
    | .discarding => s

/-- A gap of more than 5 ms (R183). -/
def byteGap (s : State) : State :=
  match s.host.rx with
  | .hunting => s
  | .frame _ => breakFrame s
  | .discarding => setRx .hunting s

/-! ## Sending (R183, R185) -/

/-- The bytes of a reply frame (R183, 12.8.1). -/
def replyBytes (r : Reply) (b : ReplyBody) : List Byte :=
  let body := u8 b.payload.length ++ [r.kind, r.tag, b.status] ++ b.payload
  0x5A :: body ++ [crc8 body]

/-- The last byte of the reply at the head has been sent (R185, R190). -/
def replySent (s : State) : State :=
  match s.host.replies with
  | [] => s
  | r :: rest =>
    match r.body with
    | none => s
    | some b =>
      { s with host := { s.host with
          replies := rest
          requests := if r.forRequest then s.host.requests.tail else s.host.requests
          sent := replyBytes r b
          resetDue := s.host.resetDue || r.forReset } }

/-! ## Resets (R25, R41, R60, R80, R93, R109, R127, R141, R164, R172, R182, R192) -/

/-- The Motor Drive at a soft reset (R60). -/
def softDrive (s : State) : State :=
  let s := stopOrder .reset { s with drive := { s.drive with startPending := false } }
  if s.drive.state = .fault then enterRest .off s else s

/-- The governor and its load monitor at a soft reset (R80, R93). -/
def softGov (s : State) : State :=
  let s := collapseStack s
  { s with
    gov := { s.gov with
      floor := .hard, factor := 100, curve := .openInlet, boost := 0, grant := 0, delivered := false
      pset := 0, ramping := false, ceiling := 0 }
    load := .reset }

/-- The Dirt Monitor at a soft reset (R109). -/
def softDirt (d : Dirt) : Dirt :=
  { Dirt.reset with
    bin := d.bin, sat := d.sat, full := d.full, pulses := d.pulses, large := d.large, t1 := d.t1, t2 := d.t2, t3 := d.t3
    capacity := d.capacity, fullPct := d.fullPct }

/-- The tool line and the record table at a soft reset (R127, R141). -/
def softLine (s : State) : State :=
  let s := lineReset true s
  { s with
    line := { s.line with losses := 0, floor := .hard }
    tools := { s.tools with miss := [], nozzle := none } }

/-- The charge controller's state at a soft reset (R164); the debounce restarts with the time then set (log
entry 51), with CHGIN below 5 V too, where the 10 ms of a detach run on (log entry 69). -/
def softDock (d : Dock) : Dock :=
  let docked := d.state != .detached
  { d with
    attach := if docked then .debouncing else .detached
    attachMs := if docked then d.debounceMs else d.attachMs
    debounce := if docked then some d.debounceMs else none
    identity := none, identTaken := false, offers := [], agreement := none, exch := none
    dueHalt := d.identTaken, dueCharge := none, dueEvac := none
    state := if docked then .attachWait else .detached
    iChg := 0, taper := none, resume := none, precharge := 0, total := 0, period := none
    csw := false, bleed := [], disabled := false }

/-- The evacuation record at a soft reset (R170, R172). -/
def softEvac (e : Evac) : Evac :=
  let running := e.state == .requested || e.state == .running
  { e with state := .idle, outcome := if running then .reset else e.outcome, timer := none }

/-- The Watch Unit at a soft reset: every record empty, and the ended actions handed on (R182). -/
def softWatch (s : State) : State :=
  handWatch { s with watch := { s.watch with recs := Vector.replicate 8 none } }

/-- The soft reset of every block (R190); the Arbiter recomputes at once (R41). Its hand-overs are taken
inside it, and the event set restarts at the end. The Watch Unit comes first, so that a derate of 100 (R182) reaches
the governor before the drive stops and the grant becomes 0 (log entry 60). -/
def softReset (s : State) : State :=
  let s := { s with
    host := { s.host with ready := false, configured := false }
    dock := softDock s.dock, evac := softEvac s.evac }
  let s := softLine (softGov (softDrive (softWatch s)))
  let s := { s with arb := .fresh s.arb.reserve.request, dirt := softDirt s.dirt }
  let s := settle (askRecompute (trySend s))
  { s with signals := [], host := .reset }

/-- The power-on reset of every block, from the levels on its pins (R25; log entry 8). With CHGIN above
5 V the attach debounce starts at the end of the reset (R164). -/
def powerOn (s : State) : State :=
  let t := { State.reset with pending := s.pending, free := s.free, pins := s.pins }
  if s.pins.chgin then
    { t with dock := { t.dock with
        state := .attachWait, attach := .debouncing, attachMs := t.dock.debounceMs
        debounce := some t.dock.debounceMs } }
  else t

/-- SHUTDOWN: every piece of state is lost and every output is off (R20; log entry 20). -/
def shutdownState (s : State) : State :=
  { State.reset with
    pending := s.pending, free := s.free, pins := s.pins
    pack := { Pack.reset with power := .shutdown, round := none }
    drive := { Drive.reset with debounce := none }
    gov := { Gov.reset with step := none }
    line := { ToolLine.reset with tpwr := .off, resetting := none }
    host := { HostLink.reset with events := 0 } }

/-- The shutdown timer expires (R16, R20): with CHGIN above 5 V the power-on reset follows at once. -/
def shutDown (s : State) : State := if s.pins.chgin then powerOn s else shutdownState s

end Sys2Proof.Machine
end

