-- ==== Sys2Proof/Machine/Wire.lean ====
section
/-! DEFINITION. Received frames of the tool line and of the dock line, as bits and bytes, turned into the commands
of this model or discarded, and the dock frames the part sends (R112, R146, R193, R194). -/

namespace Sys2Proof.Machine

/-! ## Tool line frames (R193) -/

/-- A number from its bits, most significant first. -/
def bitsToNat (bits : List Bool) : Nat := bits.foldl (fun n b => 2 * n + b.toNat) 0

/-- Descriptors from their bits, eight each. -/
def descsOf : Nat → List Bool → List Byte
  | 0, _ => []
  | n + 1, bits => BitVec.ofNat 8 (bitsToNat (bits.take 8)) :: descsOf n (bits.drop 8)

/-- The command of a received node frame, from its field bits; `none` for a kind that a node does not
send, or a payload of another length (R112). -/
def nodeFrame (bits : List Bool) : Option Instr :=
  let sender := BitVec.ofNat 4 (bitsToNat (bits.take 4))
  let kind := bitsToNat ((bits.drop 4).take 4)
  let p := bits.drop 8
  if kind = 0x8 then
    let count := bitsToNat ((p.drop 32).take 2) + 1
    if p.length = 34 + 8 * count then
      some (.announce sender (BitVec.ofNat 32 (bitsToNat (p.take 32))) (descsOf count (p.drop 34)))
    else none
  else if kind = 0x9 ∧ p.length = 21 then
    some (.status sender (BitVec.ofNat 16 (bitsToNat (p.take 16)))
      (BitVec.ofNat 2 (bitsToNat ((p.drop 16).take 2))) (p.getD 18 false) (p.getD 19 false)
      (p.getD 20 false))
  else if kind = 0xA ∧ p.length = 16 then
    some (.ack sender (BitVec.ofNat 8 (bitsToNat (p.take 8)))
      (BitVec.ofNat 8 (bitsToNat (p.drop 8))))
  else if kind = 0xB ∧ p.length = 3 then
    some (.notice sender (p.getD 0 false) (BitVec.ofNat 2 (bitsToNat (p.drop 1))))
  else none

/-- The command of the bits of a frame on the tool line (R112, R193). -/
def toolCommand (line : List Bool) : Option Instr := (fieldsOf line).bind nodeFrame

/-! ## Dock line frames (R146, R194) -/

/-- The payload of a handle request; the input current in 25 mA steps. -/
def DockReq.payload : DockReq → List Byte
  | .hello => []
  | .chargeReq i input => u8 i ++ u8 (input / 25)
  | .evacReq d => u8 d
  | .halt => []

/-- A handle request as bytes: kind, length, payload, sum. -/
def DockReq.bytes (r : DockReq) : List Byte :=
  let body := u8 r.kind ++ u8 r.payload.length ++ r.payload
  body ++ [sumByte body]

/-- A byte on the dock line: one start bit, eight data bits, least significant first, one stop bit (R146). -/
def byteBits (b : Byte) : List Bool := false :: (bitsOf 8 b.toNat).reverse ++ [true]

/-- A handle request as the bits on the dock line (R146). -/
def DockReq.bits (r : DockReq) : List Bool := r.bytes.flatMap byteBits

/-- Offers from a payload of four bytes each. -/
def offersFrom : List Byte → Option (List OfferFields)
  | v0 :: v1 :: a0 :: a1 :: l => (offersFrom l).map (⟨toHalf v0 v1, toHalf a0 a1⟩ :: ·)
  | [] => some []
  | _ => none

/-- An offer list with its count within a range (R194). -/
def offerList (lo : Nat) (p : List Byte) : Option (List OfferFields) :=
  match p with
  | n :: l =>
    match offersFrom l with
    | some os => if os.length = n.toNat ∧ lo ≤ n.toNat ∧ n.toNat ≤ 5 then some os else none
    | none => none
  | [] => none

/-- The command of a dock frame from its kind and payload; `none` where R194 discards it. -/
def dockFrame (kind : Byte) (p : List Byte) : Option Instr :=
  match kind.toNat, p with
  | 0x41, [k, sup, n] => if k.toNat ≤ 1 ∧ n.toNat ≤ 5 then some (.dockIdent k sup n) else none
  | 0x42, p => (offerList 1 p).map .dockOffers
  | 0x43, [] => some .dockAccept
  | 0x44, [r] => some (.dockReject r)
  | 0x45, [a, b] => some (.dockWait (toHalf a b))
  | 0x46, [] => some .dockReady
  | 0x81, p => (offerList 0 p).map .offersChanged
  | 0x82, [st, r] => (evacReport st r).map (fun _ => .evacStatus st r)
  | _, _ => none

/-- The command of the bytes of a frame on the dock line: length at most 24, and a right sum (R146). -/
def dockCommand (bytes : List Byte) : Option Instr :=
  match bytes with
  | kind :: len :: rest =>
    if len.toNat ≤ 24 ∧ rest.length = len.toNat + 1 ∧ sumByte bytes.dropLast = bytes.getLastD 0 then
      dockFrame kind rest.dropLast
    else none
  | _ => none

/-- The bytes read from the bits on the dock line, ten for each byte; `none` where a start bit or a stop bit
is wrong (R146). -/
def bytesOfBits : List Bool → Option (List Byte)
  | [] => some []
  | s0 :: d0 :: d1 :: d2 :: d3 :: d4 :: d5 :: d6 :: d7 :: s1 :: rest =>
    if s0 = false ∧ s1 = true then
      (bytesOfBits rest).map (BitVec.ofNat 8 (bitsToNat [d7, d6, d5, d4, d3, d2, d1, d0]) :: ·)
    else none
  | _ => none

/-- The command of the bits of a frame on the dock line (R146, R194). -/
def dockBitsCommand (bits : List Bool) : Option Instr := (bytesOfBits bits).bind dockCommand

end Sys2Proof.Machine
end

