-- ==== Sys2Proof/Machine/PowerEvents.lean ====
section
/-! DEFINITION. Meanings: resets, the Pack Monitor's and the Arbiter's events (Chapters 1 and 2). -/

namespace Sys2Proof.Machine

/-- POWER_ON_RESET: a supply rise, RSTn low, or CHGIN rising in SHUTDOWN (R25, R20). -/
def execPowerOnReset (s : State) : Host.Outcome State Fault Refusal := .next (powerOn s)

/-- PACK_ROUND: the round period expires (R1). -/
def execPackRound (r : Readings) (s : State) : Host.Outcome State Fault Refusal :=
  event (packRound r) s

/-- The correction of a rest timer that has reached 30 minutes (R12): it needs a rest and a record. -/
def ocvCorrect (s : State) : State :=
  match s.pack.record with
  | some r =>
    if 0 < s.pack.rest then
      { s with pack := { s.pack with
          gauge := gaugeFromOcv s.pack (r.vpack / s.pack.count), rest := 0 } }
    else s
  | none => s

/-- OCV_CORRECTION (R12). -/
def execOcvCorrection (s : State) : Host.Outcome State Fault Refusal := event ocvCorrect s

/-- The cut-off timer has reached 500 ms with no cut-off standing (R15). -/
def cutoffReached (s : State) : State :=
  if s.pack.cutoff = false ∧ 0 < s.pack.cutTimer then declareCutoff s else s

/-- CUTOFF_DECLARE (R15). -/
def execCutoffDeclare (s : State) : Host.Outcome State Fault Refusal := event cutoffReached s

/-- SHUTDOWN_ENTRY: the running shutdown timer expires (R16, R20). Everything else is lost with it. -/
def execShutdownEntry (s : State) : Host.Outcome State Fault Refusal :=
  if s.pack.shutdown.isSome then .next (shutDown s) else .next s

/-- The fifth excess of the tool supply supervision, while it counts (R38). -/
def supervisionTrip (s : State) : State :=
  if s.line.tpwr = .full ∧ 0 < s.arb.supCount then overcurrentTrip s else s

/-- TOOL_OVERCURRENT (R38). -/
def execToolOvercurrent (s : State) : Host.Outcome State Fault Refusal := event supervisionTrip s

/-- A settle deadline expires: TPWR to SIGNAL, a TIMEOUT release, the hold-off (R33, R34). -/
def settleExpired (slot : ToolSlot) (s : State) : State :=
  if (s.arb.tool slot).settleDl.isSome then
    startHoldoff (if s.line.tpwr = .full then setTpwr .signal .timeout s else forcedRelease .timeout s)
  else s

/-- SETTLE_DEADLINE_EXPIRY (R33). -/
def execSettleDeadlineExpiry (slot : ToolSlot) (s : State) : Host.Outcome State Fault Refusal :=
  event (settleExpired slot) s

/-- An offer deadline expires: the offer is withdrawn, the slot is waiting, the hold-off starts (R36). A
recompute follows (log entry 25). -/
def offerExpired (slot : ToolSlot) (s : State) : State :=
  let sl := s.arb.tool slot
  if sl.offerDl.isSome then
    askRecompute (startHoldoff
      { s with arb := s.arb.setTool slot { sl.withdraw with waiting := true } })
  else s

/-- OFFER_DEADLINE_EXPIRY (R36). -/
def execOfferDeadlineExpiry (slot : ToolSlot) (s : State) : Host.Outcome State Fault Refusal :=
  event (offerExpired slot) s

/-- The tool hold-off expires, and a recompute follows (R28, R36). -/
def holdoffExpired (s : State) : State :=
  if s.arb.holdoff.isSome then askRecompute { s with arb := { s.arb with holdoff := none } } else s

/-- TOOL_HOLDOFF_EXPIRY (R28). -/
def execToolHoldoffExpiry (s : State) : Host.Outcome State Fault Refusal := event holdoffExpired s

end Sys2Proof.Machine
end

