-- ==== Sys2Proof/Machine/MotorEvents.lean ====
section
/-! DEFINITION. Meanings: the Motor Drive's events (Chapter 3). -/

namespace Sys2Proof.Machine

/-- A change of level on TRIG starts or restarts the debounce timer, and wakes the part from STANDBY
(R42, R19). -/
def trigChanged (pressed : Bool) (s : State) : State :=
  if pressed = s.pins.trig then s
  else
    let s := wake { s with pins := { s.pins with trig := pressed } }
    { s with drive := { s.drive with debounce := some 20 } }

/-- TRIG_EDGE (R42). In SHUTDOWN only the level on the pin changes. -/
def execTrigEdge (pressed : Bool) (s : State) : Host.Outcome State Fault Refusal :=
  if s.pack.power = .shutdown then .next { s with pins := { s.pins with trig := pressed } }
  else event (trigChanged pressed) s

/-- A press that settles in STANDBY, its edge having come before, wakes the part first (R19; log entry
42). -/
def wakeForPress (s : State) : State := if s.pins.trig && !s.drive.trig then wake s else s

/-- The debounce timer, while it runs, expires (R42). -/
def triggerSettled (s : State) : State :=
  if s.drive.debounce.isSome then debounceExpired (wakeForPress s) else s

/-- TRIGGER_DEBOUNCE_EXPIRY (R42, R43, R50). -/
def execTriggerDebounceExpiry (s : State) : Host.Outcome State Fault Refusal := event triggerSettled s

/-- The arming timer expires with every gate output good (R45). -/
def armingDone (s : State) : State := if s.drive.state = .arming then enterAlign s else s

/-- ARMING_TIMER_EXPIRY (R45). -/
def execArmingTimerExpiry (s : State) : Host.Outcome State Fault Refusal := event armingDone s

/-- A gate output fails its check (R45, R53). -/
def gateFailed (s : State) : State := if s.drive.state = .arming then trip .gateTest s else s

/-- GATE_TEST_FAIL (R45). -/
def execGateTestFail (s : State) : Host.Outcome State Fault Refusal := event gateFailed s

/-- The alignment timer expires (R46). -/
def alignDone (s : State) : State := if s.drive.state = .align then enterSpinup s else s

/-- ALIGN_TIMER_EXPIRY (R46). -/
def execAlignTimerExpiry (s : State) : Host.Outcome State Fault Refusal := event alignDone s

/-- Back-EMF lock is reported in SPINUP (R47; log entry 2). -/
def locked (s : State) : State := if s.drive.state = .spinup then enterRun s else s

/-- SPINUP_LOCK (R47, R48). -/
def execSpinupLock (s : State) : Host.Outcome State Fault Refusal := event locked s

/-- The spin-up timer expires before lock (R47, R53). -/
def startFailed (s : State) : State := if s.drive.state = .spinup then trip .startFail s else s

/-- START_FAIL (R47). -/
def execStartFail (s : State) : Host.Outcome State Fault Refusal := event startFailed s

/-- A commutation: in SPINUP it shows a crossing in its window or not, in RUN it steps the drive level
toward the set point (R47, R48). `power` and `current` are those of the last commutation interval. -/
def commutate (crossing : Bool) (power current : Nat) (s : State) : State :=
  match s.drive.state with
  | .spinup => runIfLocked { s with drive := { s.drive with
      crossings := if crossing then s.drive.crossings + 1 else 0 } }
  | .run => { s with drive := { s.drive with level := trackLevel s.drive power current } }
  | .off | .arming | .align | .stopping | .fault | .locked => s

/-- COMMUTATION (R47, R48). -/
def execCommutation (crossing : Bool) (power current : Nat) (s : State) :
    Host.Outcome State Fault Refusal := event (commutate crossing power current) s

/-- The open-loop rate rises by 15 speed units at the end of each 10 ms of the ramp (R47). -/
def rampStepped (s : State) : State :=
  if s.drive.state = .spinup then
    runIfLocked { s with drive := { s.drive with
      rampRate := s.drive.rampRate + 15, rampTimer := some 10 } }
  else s

/-- OPEN_LOOP_RAMP_STEP (R47). -/
def execOpenLoopRampStep (s : State) : Host.Outcome State Fault Refusal := event rampStepped s

/-- The shunt current crosses 40,000 mA (R53). -/
def overcurrentSeen (s : State) : State :=
  if overcurrentChecked s.drive then trip .overcurrent s else s

/-- MOTOR_OVERCURRENT (R53). -/
def execMotorOvercurrent (s : State) : Host.Outcome State Fault Refusal := event overcurrentSeen s

/-- The stall timer, while it runs, expires (R53). -/
def stalled (s : State) : State :=
  if s.drive.state = .run ∧ s.drive.stallTimer.isSome then trip .stall s else s

/-- STALL_TIMER_EXPIRY (R53). -/
def execStallTimerExpiry (s : State) : Host.Outcome State Fault Refusal := event stalled s

/-- No crossing within twice the last commutation period (R53). -/
def syncMissed (s : State) : State := if s.drive.state = .run then trip .sync s else s

/-- SYNC_MISS (R53). -/
def execSyncMiss (s : State) : Host.Outcome State Fault Refusal := event syncMissed s

/-- The speed falls below 150 speed units in braking (R52). -/
def rotorStopped (s : State) : State :=
  if s.drive.state = .stopping ∧ s.drive.bridge = .braking then reachOff s else s

/-- ROTOR_AT_REST (R52). -/
def execRotorAtRest (s : State) : Host.Outcome State Fault Refusal := event rotorStopped s

/-- Back-EMF lock is lost in braking: bridge off, coast timer (R52). -/
def lockLost (s : State) : State :=
  if s.drive.state = .stopping ∧ s.drive.bridge = .braking then
    { s with drive := { s.drive with bridge := .off, coastTimer := some 500 } }
  else s

/-- LOSS_OF_BACK_EMF_LOCK (R52). -/
def execLossOfBackEmfLock (s : State) : Host.Outcome State Fault Refusal := event lockLost s

/-- The coast timer, while it runs, expires (R52). -/
def coasted (s : State) : State :=
  if s.drive.state = .stopping ∧ s.drive.coastTimer.isSome then reachOff s else s

/-- COAST_TIMER_EXPIRY (R52). -/
def execCoastTimerExpiry (s : State) : Host.Outcome State Fault Refusal := event coasted s

/-- The FAULT timer, while it runs, expires: FAULT is left if the trigger is released (R55). -/
def faultTimedOut (s : State) : State :=
  if s.drive.state = .fault ∧ s.drive.faultTimer.isSome then
    let s := { s with drive := { s.drive with faultTimer := none } }
    if s.drive.trig then s else leaveFault s
  else s

/-- FAULT_TIMER_EXPIRY (R55). -/
def execFaultTimerExpiry (s : State) : Host.Outcome State Fault Refusal := event faultTimedOut s

end Sys2Proof.Machine
end

