-- ==== Sys2Proof/Machine/SuctionEvents.lean ====
section
/-! DEFINITION. Meanings: the governor's, the Airflow Load Monitor's and the Dirt Monitor's events
(Chapters 4 to 6). -/

namespace Sys2Proof.Machine

/-- A governor step (R72): the governor's own stages, the drive's measurement record (R49), the load
ratio (R82). `current` is the mean shunt current in mA, `period` the mean commutation period in µs, 0
where there was none. -/
def governorStep (current period : Nat) (s : State) : State :=
  if s.gov.step.isSome then
    let pset := s.gov.pset
    let ramping := s.gov.ramping
    let s := governorWork { s with gov := { s.gov with step := some 10 } }
    loadStep pset ramping (measure current period s)
  else s

/-- GOVERNOR_STEP (R72). -/
def execGovernorStep (current period : Nat) (s : State) : Host.Outcome State Fault Refusal :=
  event (governorStep current period) s

/-- The pulse timer expires: the pop, then WAIT in BLOCKED (R87). -/
def pulseEnded (s : State) : State :=
  if s.load.phase = .pulse then
    let s := if s.load.pushMade then clearPop s else s
    if s.load.cls = .blocked then
      { s with load := { s.load with phase := .wait, timer := some 1000 } }
    else { s with load := { s.load with phase := .none, timer := none } }
  else s

/-- PULSE_TIMER_EXPIRY (R87). -/
def execPulseTimerExpiry (s : State) : Host.Outcome State Fault Refusal := event pulseEnded s

/-- The wait timer expires: the next attempt, or the end of the episode (R88). -/
def waitEnded (s : State) : State := if s.load.phase = .wait then attemptOrFail s else s

/-- WAIT_TIMER_EXPIRY (R88). -/
def execWaitTimerExpiry (s : State) : Host.Outcome State Fault Refusal := event waitEnded s

/-- The echo within the echo timer (R94). -/
def echoHeard (s : State) : State :=
  if s.dirt.echo.isSome then { s with dirt := { s.dirt with echo := none, status := .present } } else s

/-- PIEZO_ECHO (R94). -/
def execPiezoEcho (s : State) : Host.Outcome State Fault Refusal := event echoHeard s

/-- The echo timer expires without an echo (R94); in RUN the level becomes 0 and the rate NONE (R95), also where
the status was ABSENT before (log entry 61). -/
def echoMissed (s : State) : State :=
  if s.dirt.echo.isSome then
    let was := s.dirt.status
    let s := { s with dirt := { s.dirt with echo := none, status := .absent } }
    let s := raiseIf (was != .absent) .dirtSensor s
    if s.drive.state = .run then zeroLevel none s else s
  else s

/-- ECHO_TIMER_EXPIRY (R94). -/
def execEchoTimerExpiry (s : State) : Host.Outcome State Fault Refusal := event echoMissed s

/-- An impact ends and is counted in the running window; a peak that never rose above the detection level is
no impact, and one that was in progress when a window was discarded is not counted (R96). One that
began with no window open is counted where it ends (log entry 66). -/
def impactEnded (impact : Impact) (s : State) : State :=
  match s.dirt.window with
  | some w =>
    if impact.crossed ∨ impact.amplitude ≤ detectionLevel then s
    else
    let w := if s.dirt.large ≤ impact.amplitude then { w with large := bump 65535 w.large }
      else { w with small := bump 65535 w.small }
    { s with dirt := { s.dirt with window := some w } }
  | none => s

/-- IMPACT_END (R96). -/
def execImpactEnd (impact : Impact) (s : State) : Host.Outcome State Fault Refusal :=
  event (impactEnded impact) s

/-- The running window ends (R97, R98). -/
def windowEnded (s : State) : State :=
  match s.dirt.window with
  | some w => windowEnd w s
  | none => s

/-- WINDOW_END (R98). -/
def execWindowEnd (s : State) : Host.Outcome State Fault Refusal := event windowEnded s

end Sys2Proof.Machine
end

