-- ==== Sys2Proof/Machine/ToolEvents.lean ====
section
/-! DEFINITION. Meanings: the tool line's events and frames (Chapter 7). -/

namespace Sys2Proof.Machine

/-! ## The master's side (R111, R113, R114) -/

/-- LINE_RESET_END: the 2 ms dominant drive ends (R113). -/
def lineResetEnded (s : State) : State :=
  if s.line.resetting.isSome then { s with line := { s.line with resetting := none, idle := 0 } } else s

/-- LINE_RESET_END (R113). -/
def execLineResetEnd (s : State) : Host.Outcome State Fault Refusal := event lineResetEnded s

/-- A line reset in place of the ninth attempt; the loss count becomes 0 (R111). -/
def lossReset (s : State) : State :=
  let s := lineReset false s
  { s with line := { s.line with losses := 0 } }

/-- The line can carry a frame: power on, no line reset being driven. -/
def lineUp (s : State) : Bool :=
  s.line.tpwr != .off && s.line.resetting.isNone && s.pack.power == .active

/-- A frame removed from the queue. -/
def unqueue (f : TxFrame) (l : ToolLine) : ToolLine :=
  { l with queue := l.queue.filter (fun g => !g.sameSlot f), lost := none }

/-- A frame put on the line, which its start bit makes dominant (R110). A CAP without a number is given the
next one, and becomes the entry's pending cap (R123). -/
def putOnLine (f : TxFrame) (s : State) : State :=
  match f with
  | .cap a b none =>
    let seq := ((nodeAt s a).map (·.seq)).getD 0 + 1
    setNode a (fun n => { n with seq := seq, pending := some ⟨b, seq⟩ })
      { s with line := { s.line with
          wire := some (.cap a b (some seq)), bits := TxFrame.bits (.cap a b (some seq)), idle := 0 } }
  | _ => { s with line := { s.line with wire := some f, bits := f.bits, idle := 0 } }

/-- The frame the master sends next: a lost one first (R111, R114). -/
def dueFrame (l : ToolLine) : Option TxFrame := l.lost <|> nextFrame l.queue

/-- The master sends its next frame, at an idle count of 8 or more (R111, R114). -/
def masterSend (s : State) : State :=
  if lineUp s ∧ 8 ≤ s.line.idle ∧ s.line.wire.isNone ∧ s.line.await.isNone then
    if 8 ≤ s.line.losses then lossReset s
    else
      match dueFrame s.line with
      | some f =>
        putOnLine f (match s.line.lost with
          | some _ => { s with line := { s.line with lost := none } }
          | none => { s with line := unqueue f s.line })
      | none => s
  else s

/-- TOOL_MASTER_SEND (R114). -/
def execToolMasterSend (s : State) : Host.Outcome State Fault Refusal := event masterSend s

/-- The reply window a frame opens (R111). -/
def windowOf : TxFrame → Option Await
  | .poll a => some (.poll a)
  | .cap a _ _ => some (.cap a)
  | .assign _ _ => none

/-- A master frame sent to its end (R111). -/
def frameEnded (s : State) : State :=
  match s.line.wire with
  | some f => { s with line := { s.line with
      wire := none, bits := [], losses := 0, idle := 0, await := windowOf f } }
  | none => s

/-- TOOL_MASTER_FRAME_END (R111). -/
def execToolMasterFrameEnd (s : State) : Host.Outcome State Fault Refusal := event frameEnded s

/-- A master frame loses the line at a bit read dominant (R110): it is kept at the head of the queue (R111),
unless a newer frame of its kind and address has become due meanwhile (log entry 26). A POLL so replaced is
a missed poll (R114, R117). It is sent again also where its node has left the list, or TPWR has changed level
meanwhile (log entries 53, 27). -/
def frameLost (s : State) : State :=
  match s.line.wire with
  | some f =>
    let t := { s with line := { s.line with
      wire := none, bits := [], losses := s.line.losses + 1, idle := 0 } }
    if s.line.queue.any (·.sameSlot f) then
      match f with
      | .poll a => pollMissed a t
      | .cap _ _ _ | .assign _ _ => t
    else { t with line := { t.line with lost := some f } }
  | none => s

/-- ARBITRATION_LOSS (R111). -/
def execArbitrationLoss (s : State) : Host.Outcome State Fault Refusal := event frameLost s

/-- The loss count stands at 8 (R111). -/
def lossLimit (s : State) : State := if 8 ≤ s.line.losses then lossReset s else s

/-- MASTER_LOSS_LIMIT (R111). -/
def execMasterLossLimit (s : State) : Host.Outcome State Fault Refusal := event lossLimit s

/-! ## ANNOUNCE (R115) -/

/-- The entry of a serial. -/
def serialNode (s : State) (serial : Serial) : Option Node := s.line.nodes.find? (·.serial == serial)

/-- The address is free of the node list and the quarantine list. -/
def addrFree (l : ToolLine) (a : Addr) : Bool :=
  !(l.nodes.any (·.addr == a)) && !(l.quarantine.any (·.addr == a))

/-- The lowest free address (R115). -/
def freeAddr (l : ToolLine) : Option Addr := ([1, 2, 3, 4] : List Addr).find? (addrFree l)

/-- An entry placed in address order. -/
def insertNode (n : Node) : List Node → List Node
  | [] => [n]
  | m :: l => if n.addr.toNat < m.addr.toNat then n :: m :: l else m :: insertNode n l

/-- A new entry (R115); its brush limit last acknowledged is 0 (log entry 54). -/
def newNode (a : Addr) (serial : Serial) (descs : List Byte) : Node where
  addr := a
  serial := serial
  descs := descs
  state := .assigning
  completed := false
  missed := 0
  seq := 0
  pending := none
  ackLimit := 0
  jam := false
  lamp := false
  fault := false
  floor := .unknown
  brushMa := none
  poll := 40
  applied := .none
  mismatch := false

/-- The ASSIGN of an entry and a POLL after it (R115). -/
def assign (a : Addr) (serial : Serial) (s : State) : State := queuePoll a (putFrame (.assign a serial) s)

/-- An ANNOUNCE that is taken (R115). -/
def announced (serial : Serial) (descs : List Byte) (s : State) : State :=
  match serialNode s serial with
  | some n =>
    if n.state = .assigning then assign n.addr serial s
    else assign n.addr serial
      (setNode n.addr (fun m => { m with state := .assigning, missed := 0 }) s)
  | none =>
    if 4 ≤ s.line.nodes.length then s
    else
      match freeAddr s.line with
      | some a => assign a serial
          { s with line := { s.line with nodes := insertNode (newNode a serial descs) s.line.nodes } }
      | none => s

/-- A frame on the line restarts the idle count, taken or discarded (R110). -/
def frameHeard (s : State) : State := { s with line := { s.line with idle := 0 } }

/-- An ANNOUNCE is taken from address 15 with 1 to 4 descriptors (R112). -/
def takeAnnounce (sender : Addr) (serial : Serial) (descs : List Byte) (s : State) : State :=
  if lineUp s then
    if sender = 15 ∧ 1 ≤ descs.length ∧ descs.length ≤ 4 then announced serial descs (frameHeard s)
    else frameHeard s
  else s

/-- ANNOUNCE (R115). -/
def execAnnounce (sender : Addr) (serial : Serial) (descs : List Byte) (s : State) :
    Host.Outcome State Fault Refusal := event (takeAnnounce sender serial descs) s

/-! ## The reply window (R111, R112) -/

/-- The pending cap of an entry queued again with its contents and number, unless newer contents have
become due (R124). -/
def requeueCap (a : Addr) (s : State) : State :=
  match (nodeAt s a).bind (·.pending) with
  | some c =>
    let f := TxFrame.cap a c.body (some c.seq)
    if queued f s then s else putFrame f s
  | none => s

/-- The reply window closes without a reply: a poll is missed, or the CAP is queued again (R111, R117,
R124). -/
def windowClosed (s : State) : State :=
  let s' := { s with line := { s.line with await := none } }
  match s.line.await with
  | some (.poll a) => pollMissed a s'
  | some (.cap a) => requeueCap a s'
  | none => s

/-! ## STATUS (R116, R117, R119) -/

/-- A floor class as a frame carries it (R193; a NOTICE likewise, log entry 21). -/
def floorClass (f : BitVec 2) : FloorClass :=
  if f = 0 then .hard else if f = 1 then .carpet else .unknown

/-- The fields a STATUS carries (R119). -/
structure StatusFields where
  brush : Nat
  floor : FloorClass
  jam   : Bool
  lamp  : Bool
  fault : Bool
deriving DecidableEq, Repr

/-- The fields stored in the entry; BRUSH_JAM when the jam flag becomes set (R119, R120). -/
def storeStatus (a : Addr) (f : StatusFields) (s : State) : State :=
  match nodeAt s a with
  | some n =>
    let jam := f.jam && declaresBrush s n
    let lamp := f.lamp && declaresLamp s n
    raiseIf (jam && !n.jam) .brushJam (setNode a (fun m => { m with
      brushMa := some f.brush, floor := f.floor, jam := jam, lamp := lamp, fault := f.fault }) s)
  | none => s

/-- BRUSH_MA delivered when the node is the HEAD member (R119). -/
def deliverBrushMa (a : Addr) (brush : Nat) (s : State) : State :=
  if s.arb.head.members.contains a then deliver .brushMa (reportNat (some brush)) s else s

/-- The STATUS fields taken, with what they lead to (R119, R121, R122). -/
def takeFields (a : Addr) (f : StatusFields) (s : State) : State :=
  deliverBrushMa a f.brush (refreshTools (storeStatus a f s))

/-- The entry becomes ACTIVE with no poll missed (R116, R117). -/
def nodeAnswered (a : Addr) (s : State) : State :=
  setNode a (fun n => { n with state := .active, missed := 0, completed := true }) s

/-- A first completed assignment: lookup, TOOL_ATTACH, nozzle source, fields, and an initial CAP for a
node that declares a brush or a lamp (R116, R130, R134). -/
def firstCompletion (n : Node) (f : StatusFields) (s : State) : State :=
  let s := raise .toolAttach (lookupRecord n.addr n.serial (nodeAnswered n.addr s))
  let s := takeFields n.addr f (deriveNozzle s)
  match nodeAt s n.addr with
  | some m => if declaresBrush s m || declaresLamp s m then queueCap n.addr s else s
  | none => s

/-- A STATUS taken from an entry (R116, R117, R119). -/
def statusTaken (n : Node) (f : StatusFields) (s : State) : State :=
  if n.state = .assigning then
    if n.completed then queueCap n.addr (takeFields n.addr f (nodeAnswered n.addr s))
    else firstCompletion n f s
  else takeFields n.addr f (nodeAnswered n.addr s)

/-- A STATUS is taken inside the reply window of a POLL to its sender, the window being open up to an idle
count of 6; any other is discarded, and an open window has had no reply (R111, R112). -/
def takeStatus (sender : Addr) (f : StatusFields) (s : State) : State :=
  if lineUp s then
    if s.line.await = some (.poll sender) ∧ s.line.idle ≤ 6 then
      match nodeAt s sender with
      | some n => statusTaken n f (frameHeard { s with line := { s.line with await := none } })
      | none => windowClosed (frameHeard s)
    else windowClosed (frameHeard s)
  else s

/-- STATUS (R119). -/
def execStatus (sender : Addr) (brush : Half) (floor : BitVec 2) (jam lamp fault : Bool) (s : State) :
    Host.Outcome State Fault Refusal :=
  event (takeStatus sender ⟨brush.toNat, floorClass floor, jam, lamp, fault⟩) s

/-! ## ACK (R124) -/

/-- An ACK compared with the pending cap (R124). An acknowledgement is reported to the Arbiter unless a newer
CAP for the node is due: a slot settles only on the acknowledgement of the newest (R32; log entry 23). -/
def ackTaken (a : Addr) (c : Cap) (limit : Byte) (s : State) : State :=
  let s := frameHeard { s with line := { s.line with await := none } }
  let s := setNode a (fun n => { n with ackLimit := limit.toNat }) s
  if limit.toNat ≤ c.body.limit then
    let s := setNode a (fun n => { n with pending := none }) s
    if queued (.cap a c.body none) s then s else reportAck a s
  else requeueCap a s

/-- An ACK is taken inside the reply window of a CAP to its sender, with the pending cap's number; any
other is discarded, and an open window has had no reply (R111, R112, R124). -/
def takeAck (sender : Addr) (seq limit : Byte) (s : State) : State :=
  if lineUp s then
    if s.line.await = some (.cap sender) ∧ s.line.idle ≤ 6 then
      match (nodeAt s sender).bind (·.pending) with
      | some c => if c.seq = seq then ackTaken sender c limit s else windowClosed (frameHeard s)
      | none => windowClosed (frameHeard s)
    else windowClosed (frameHeard s)
  else s

/-- ACK (R124). -/
def execAck (sender : Addr) (seq limit : Byte) (s : State) : Host.Outcome State Fault Refusal :=
  event (takeAck sender seq limit) s

/-! ## NOTICE (R120) -/

/-- A NOTICE from an entry (R120). -/
def noticeTaken (n : Node) (jam : Bool) (floor : FloorClass) (s : State) : State :=
  let sets := jam && declaresBrush s n
  let s := setNode n.addr (fun m => { m with floor := floor, jam := m.jam || sets }) s
  refreshTools (raiseIf (sets && !n.jam) .brushJam s)

/-- A NOTICE is taken from an entry in ACTIVE or SILENT (R112). -/
def takeNotice (sender : Addr) (jam : Bool) (floor : FloorClass) (s : State) : State :=
  if lineUp s then
    match nodeAt s sender with
    | some n => if n.state = .assigning then frameHeard s else noticeTaken n jam floor (frameHeard s)
    | none => frameHeard s
  else s

/-- NOTICE (R120). -/
def execNotice (sender : Addr) (jam : Bool) (floor : BitVec 2) (s : State) :
    Host.Outcome State Fault Refusal := event (takeNotice sender jam (floorClass floor)) s

/-! ## Windows and timers (R111, R117, R118) -/

/-- REPLY_WINDOW_CLOSE (R111). -/
def execReplyWindowClose (s : State) : Host.Outcome State Fault Refusal := event windowClosed s

/-- The poll timer of an entry expires (R117). -/
def pollDue (a : Addr) (s : State) : State :=
  if (nodeAt s a).isSome then queuePoll a (setNode a (fun n => { n with poll := 40 }) s) else s

/-- POLL_TIMER_EXPIRY (R117). -/
def execPollTimerExpiry (a : Addr) (s : State) : Host.Outcome State Fault Refusal := event (pollDue a) s

/-- An address leaves the quarantine list (R118). -/
def quarantineOver (a : Addr) (s : State) : State :=
  { s with line := { s.line with quarantine := s.line.quarantine.filter (fun q => q.addr != a) } }

/-- QUARANTINE_EXPIRY (R118). -/
def execQuarantineExpiry (a : Addr) (s : State) : Host.Outcome State Fault Refusal :=
  event (quarantineOver a) s

end Sys2Proof.Machine
end

