-- ==== Sys2Proof/Machine/DockEvents.lean ====
section
/-! DEFINITION. Meanings: the dock's events and frames, the charge check and the evacuation
(Chapters 9 and 10). -/

namespace Sys2Proof.Machine

/-! ## CHGIN (R143, R145) -/

/-- CHGIN rises above 5 V: a wake from STANDBY, an attach from DETACHED, a debounce started again within
10 ms of a drop (R143, R19). -/
def chginRose (s : State) : State :=
  let s := wake { s with pins := { s.pins with chgin := true } }
  if s.dock.state = .detached then startAttach s
  else if s.dock.attach = .debouncing ∧ s.dock.debounce.isNone then
    { s with dock := { s.dock with drop := none, debounce := some s.dock.attachMs } }
  else { s with dock := { s.dock with drop := none } }

/-- CHGIN_RISE (R143). In SHUTDOWN it causes a power-on reset (R20). -/
def execChginRise (s : State) : Host.Outcome State Fault Refusal :=
  if s.pack.power = .shutdown then .next (powerOn { s with pins := { s.pins with chgin := true } })
  else event chginRose s

/-- CHGIN falls below 5 V: a running debounce stops, and the 10 ms of a detach begin (R143, R145). -/
def chginFell (s : State) : State :=
  let s := { s with pins := { s.pins with chgin := false } }
  if s.dock.state = .detached then s
  else { s with dock := { s.dock with
      debounce := none, drop := s.dock.drop <|> some 10 } }

/-- CHGIN_DROP (R143). In SHUTDOWN only the level on the pin changes. -/
def execChginDrop (s : State) : Host.Outcome State Fault Refusal :=
  if s.pack.power = .shutdown then .next { s with pins := { s.pins with chgin := false } }
  else event chginFell s

/-- The attach debounce, while it runs, completes (R143, R144). -/
def debounceDone (level : CoarseClass) (s : State) : State :=
  if s.dock.attach = .debouncing ∧ s.dock.debounce.isSome then
    let s := { s with dock := { s.dock with
      attach := .attached, debounce := none, coarse := some level } }
    leaveAttachWait (stopOrder .docked (raise .dockAttach s))
  else s

/-- ATTACH_DEBOUNCE_DONE (R143). -/
def execAttachDebounceDone (level : CoarseClass) (s : State) : Host.Outcome State Fault Refusal :=
  event (debounceDone level) s

/-- CHGIN has stayed below 5 V for 10 ms (R145). -/
def detached (s : State) : State := detachNow { s with pins := { s.pins with chgin := false } }

/-- DETACH (R145). -/
def execDetach (s : State) : Host.Outcome State Fault Refusal := event detached s

/-! ## Sending a request (R146 to R148) -/

/-- DOCK_REQUEST_SEND (R148). -/
def execDockRequestSend (s : State) : Host.Outcome State Fault Refusal := event trySend s

/-- The last byte of a request has been sent: the 200 ms deadline starts (R147). -/
def requestSent (s : State) : State :=
  match s.dock.exch with
  | some e =>
    if e.send = .sending then
      { s with dock := { s.dock with exch := some { e with send := .sent, deadline := some 200 } } }
    else s
  | none => s

/-- DOCK_REQUEST_LAST_BYTE (R147). -/
def execDockRequestLastByte (s : State) : Host.Outcome State Fault Refusal := event requestSent s

/-- A collision on the line: the fifth of one sending ends the attempt (R146). -/
def collided (s : State) : State :=
  match s.dock.exch with
  | some e =>
    if e.send = .sending then
      if 5 ≤ e.collisions + 1 then attemptMissed e s
      else
        { s with dock := { s.dock with
            exch := some { e with send := .collided, collisions := e.collisions + 1 } } }
    else s
  | none => s

/-- DOCK_COLLISION (R146). -/
def execDockCollision (s : State) : Host.Outcome State Fault Refusal := event collided s

/-- The line has been idle for 3 ms after a collision: the whole frame is sent again (R146). -/
def resendCollided (s : State) : State :=
  match s.dock.exch with
  | some e =>
    if e.send = .collided then
      { s with dock := { s.dock with exch := some { e with send := .sending } } }
    else s
  | none => s

/-- DOCK_COLLISION_RESEND (R146). -/
def execDockCollisionResend (s : State) : Host.Outcome State Fault Refusal := event resendCollided s

/-- The exchange's deadline, while it runs, expires (R147). -/
def deadlinePassed (s : State) : State :=
  match s.dock.exch with
  | some e => if e.deadline.isSome then deadlineExpired e s else s
  | none => s

/-- DOCK_DEADLINE_EXPIRY (R147). -/
def execDockDeadlineExpiry (s : State) : Host.Outcome State Fault Refusal := event deadlinePassed s

/-! ## Replies (R147 to R151) -/

/-- The exchange that can take a reply now: its request has been sent whole, and is not being sent again (log
entry 58). -/
def awaiting (s : State) : Option Exchange := s.dock.exch.filter (fun e => e.send == .sent)

/-- The exchange record changed. -/
def setExchange (e : Exchange) (s : State) : State := { s with dock := { s.dock with exch := some e } }

/-- A dock identity from the fields of an IDENT that R194 does not discard (R149). -/
def identityOf (kind support count : Byte) : DockIdentity where
  kind := if kind = 0 then .basic else .evac
  support := toFlag support
  count := count.toNat

/-- The end of a HELLO: offer selection (R149, R150). -/
def helloDone (l : List OfferFields) (s : State) : State :=
  let s := freeRecord { s with dock := { s.dock with offers := offersOf l } }
  trySend (if s.dock.state = .identify then selectOffer s else s)

/-- An IDENT taken: the identity is recorded and handed over; with no offers declared the exchange ends
(R149, R166). -/
def identTakenNow (i : DockIdentity) (e : Exchange) (s : State) : State :=
  let s := { s with dock := { s.dock with identity := some i, identTaken := true } }
  let s := autoDecision (setExchange { e with phase := .offers, deadline := some 200, waiting := false } s)
  if i.count = 0 then helloDone [] s else s

/-- An IDENT is taken by a HELLO that awaits it (R147, R194). -/
def takeIdent (kind support count : Byte) (s : State) : State :=
  match awaiting s with
  | some e =>
    if e.req = .hello ∧ e.phase = .first ∧ kind.toNat ≤ 1 ∧ count.toNat ≤ 5 then
      identTakenNow (identityOf kind support count) e s
    else s
  | none => s

/-- DOCK_IDENT (R149). -/
def execDockIdent (kind support count : Byte) (s : State) : Host.Outcome State Fault Refusal :=
  event (takeIdent kind support count) s

/-- OFFERS are taken by a HELLO after its IDENT (R147, R149, R194). -/
def takeOffers (l : List OfferFields) (s : State) : State :=
  match awaiting s with
  | some e =>
    if e.req = .hello ∧ e.phase = .offers ∧ 1 ≤ l.length ∧ l.length ≤ 5 then helloDone l s else s
  | none => s

/-- DOCK_OFFERS (R149). -/
def execDockOffers (l : List OfferFields) (s : State) : Host.Outcome State Fault Refusal :=
  event (takeOffers l) s

/-- An ACCEPT is taken (R147, R168). -/
def takeAccept (s : State) : State :=
  match awaiting s with
  | some e =>
    match e.req, e.phase with
    | .chargeReq _ _, .first =>
      dockTalks (setExchange { e with phase := .ready, deadline := some 1000, waiting := false } s)
    | .evacReq _, .first => trySend (dockTalks (evacAccepted (freeRecord s)))
    | .halt, .first => trySend (dockTalks (freeRecord s))
    | _, _ => s
  | none => s

/-- DOCK_ACCEPT (R147). -/
def execDockAccept (s : State) : Host.Outcome State Fault Refusal := event takeAccept s

/-- READY ends a CHARGE_REQ: a new agreement in NEGOTIATE, a raised input in a charging phase (R151,
R154). -/
def chargeReady (i input : Nat) (s : State) : State :=
  let s := freeRecord s
  trySend (if s.dock.state = .negotiate then makeAgreement i input s else raiseAgreement input s)

/-- READY is taken by a CHARGE_REQ after its ACCEPT (R147). -/
def takeReady (s : State) : State :=
  match awaiting s with
  | some e =>
    match e.req, e.phase with
    | .chargeReq i input, .ready => chargeReady i input s
    | _, _ => s
  | none => s

/-- DOCK_READY (R151). -/
def execDockReady (s : State) : Host.Outcome State Fault Refusal := event takeReady s

/-- An offer list with the offer of an index marked rejected (R151). -/
def markRejected (i : Nat) (l : List Offer) : List Offer :=
  (indexed 1 l).map fun o => if o.1 = i then { o.2 with rejected := true } else o.2

/-- A CHARGE_REQ is rejected: in NEGOTIATE the offer is marked and selection runs again; the agreement
of a charging phase stands (R151, R154). -/
def chargeRejected (i : Nat) (s : State) : State :=
  let s := freeRecord s
  trySend (if s.dock.state = .negotiate then
      selectOffer { s with dock := { s.dock with offers := markRejected i s.dock.offers } }
    else s)

/-- A REJECT is taken before ACCEPT (R147, R151, R168). -/
def takeReject (reason : Byte) (s : State) : State :=
  match awaiting s with
  | some e =>
    match e.req, e.phase with
    | .chargeReq i _, .first => chargeRejected i s
    | .evacReq _, .first => trySend (dockTalks (evacRejected reason (freeRecord s)))
    | _, _ => s
  | none => s

/-- DOCK_REJECT (R151). -/
def execDockReject (reason : Byte) (s : State) : Host.Outcome State Fault Refusal :=
  event (takeReject reason) s

/-- The request can be answered by WAIT: HELLO, CHARGE_REQ or EVAC_REQ before the first reply (R147). -/
def mayWait (e : Exchange) : Bool := e.phase == .first && e.req != .halt

/-- A WAIT is taken: the deadline moves; the ninth fails the exchange (R147). Taken in COARSE it shows that the
dock talks (R158); a COARSE that the failure enters is not left by it. -/
def takeWait (ms : Half) (s : State) : State :=
  match awaiting s with
  | some e =>
    if mayWait e then
      if 9 ≤ e.waits + 1 then exchangeFailed e.req (dockTalks s)
      else
        dockTalks (setExchange { e with
          waits := e.waits + 1, waiting := true, deadline := some (clampNat 10 5000 ms.toNat) } s)
    else s
  | none => s

/-- DOCK_WAIT (R147). -/
def execDockWait (ms : Half) (s : State) : Host.Outcome State Fault Refusal := event (takeWait ms) s

/-! ## Notices (R146, R157, R169) -/

/-- Notices are taken in every charge state except DETACHED and ATTACH_WAIT (R146). -/
def takesNotices (s : State) : Bool := s.dock.state != .detached && s.dock.state != .attachWait

/-- An OFFERS_CHANGED with 0 to 5 offers (R157, R194). -/
def takeNewOffers (l : List OfferFields) (s : State) : State :=
  if takesNotices s ∧ l.length ≤ 5 then newOffers l s else s

/-- OFFERS_CHANGED (R157). -/
def execOffersChanged (l : List OfferFields) (s : State) : Host.Outcome State Fault Refusal :=
  event (takeNewOffers l) s

/-- An EVAC_STATUS that R194 does not discard (R169, R158). -/
def takeEvacStatus (status reason : Byte) (s : State) : State :=
  if takesNotices s then
    match evacReport status reason with
    | some r => dockTalks (evacReported r s)
    | none => s
  else s

/-- EVAC_STATUS (R169). -/
def execEvacStatus (status reason : Byte) (s : State) : Host.Outcome State Fault Refusal :=
  event (takeEvacStatus status reason) s

/-- The completion timer expires in RUNNING (R169). -/
def completionMissed (s : State) : State :=
  if s.evac.state = .running ∧ s.evac.timer.isSome then endEvac .failed .noReply s else s

/-- EVAC_COMPLETION_EXPIRY (R169). -/
def execEvacCompletionExpiry (s : State) : Host.Outcome State Fault Refusal := event completionMissed s

/-! ## Charging (R153, R154, R160) -/

/-- CHARGE_CHECK with the voltage on CHGIN in mV (R153). -/
def execChargeCheck (chgin : Nat) (s : State) : Host.Outcome State Fault Refusal :=
  event (chargeCheck chgin) s

/-- The precharge timer reaches 30 minutes while it counts (R154, R158). -/
def prechargeOver (s : State) : State :=
  if s.dock.state = .precharge ∨ (s.dock.state = .coarse ∧ 0 < s.dock.precharge) then
    enterChargeFault .prechargeTimeout s
  else s

/-- PRECHARGE_TIMEOUT (R154). -/
def execPrechargeTimeout (s : State) : Host.Outcome State Fault Refusal := event prechargeOver s

/-- The total charge timer reaches 6 hours in a charging state (R160). -/
def totalOver (s : State) : State :=
  if s.dock.state.charges then enterChargeFault .totalTimeout s else s

/-- TOTAL_TIMEOUT (R160). -/
def execTotalTimeout (s : State) : Host.Outcome State Fault Refusal := event totalOver s

end Sys2Proof.Machine
end

