-- ==== Sys2Proof/Machine/HostEvents.lean ====
section
/-! DEFINITION. Meanings: the host link's bytes and timers, and one meaning for each request of the
catalogue (Chapter 12). -/

namespace Sys2Proof.Machine

/-! ## The link itself -/

/-- HOST_BYTE_RECEIVED (R183). -/
def execHostByteReceived (b : Byte) (stopBit : Bool) (s : State) : Host.Outcome State Fault Refusal :=
  event (byteReceived b stopBit) s

/-- HOST_BYTE_GAP (R183). -/
def execHostByteGap (s : State) : Host.Outcome State Fault Refusal := event byteGap s

/-- REPLY_SENT (R185). -/
def execReplySent (s : State) : Host.Outcome State Fault Refusal := event replySent s

/-- The soft reset, due since the RESET reply was sent (R190). -/
def softResetDue (s : State) : State := if s.host.resetDue then softReset s else s

/-- SOFT_RESET (R190). -/
def execSoftReset (s : State) : Host.Outcome State Fault Refusal := event softResetDue s

/-- FENCE_TIMEOUT (R186). -/
def execFenceTimeout (s : State) : Host.Outcome State Fault Refusal := event fenceTimedOut s

/-- FENCE (R186). -/
def execFence (tag : Byte) (s : State) : Host.Outcome State Fault Refusal :=
  event (arrive (admitted kindFence tag (fenceArrives tag))) s

/-- RESET (R190). -/
def execReset (tag : Byte) (s : State) : Host.Outcome State Fault Refusal :=
  event (arrive (resetArrives tag)) s

/-- A request as a command: its frame arrives, and its block serves it (R184, R185). -/
def ask (kind tag : Byte) (f : State → Answer) (s : State) : Host.Outcome State Fault Refusal :=
  event (arrive (serve kind tag f)) s

/-- IDENT (R191). -/
def execIdent (tag : Byte) (s : State) : Host.Outcome State Fault Refusal := ask 0x01 tag serveIdent s

/-- EVENTS_READ (R188). -/
def execEventsRead (tag : Byte) (s : State) : Host.Outcome State Fault Refusal :=
  ask 0x02 tag serveEventsRead s

/-- EVENT_MASK (R188). -/
def execEventMask (tag : Byte) (mask : Option Quad) (s : State) : Host.Outcome State Fault Refusal :=
  ask 0x03 tag (serveEventMask mask) s

/-- READY (R189). -/
def execReady (tag : Byte) (s : State) : Host.Outcome State Fault Refusal := ask 0x05 tag serveReady s

/-! ## Pack Monitor and Arbiter -/

/-- PACK_CONFIG (R21). -/
def execPackConfig (tag count : Byte) (capacity inom : Half) (s : State) :
    Host.Outcome State Fault Refusal := ask 0x10 tag (servePackConfig count capacity inom) s

/-- OCV_TABLE (R22). -/
def execOcvTable (tag : Byte) (points : List Half) (s : State) : Host.Outcome State Fault Refusal :=
  ask 0x11 tag (serveOcvTable points) s

/-- PACK_READ (R23). -/
def execPackRead (tag : Byte) (s : State) : Host.Outcome State Fault Refusal :=
  ask 0x12 tag servePackRead s

/-- GAUGE_SET (R24). -/
def execGaugeSet (tag : Byte) (soc : Half) (s : State) : Host.Outcome State Fault Refusal :=
  ask 0x13 tag (serveGaugeSet soc) s

/-- SLEEP (R18). -/
def execSleep (tag : Byte) (s : State) : Host.Outcome State Fault Refusal := ask 0x14 tag serveSleep s

/-- RESERVE_SET (R39). -/
def execReserveSet (tag : Byte) (ma : Half) (s : State) : Host.Outcome State Fault Refusal :=
  ask 0x18 tag (serveReserveSet ma) s

/-- ALLOT_READ (R40). -/
def execAllotRead (tag : Byte) (s : State) : Host.Outcome State Fault Refusal :=
  ask 0x19 tag serveAllotRead s

/-! ## Governor, drive and load monitor -/

/-- PROFILE_WRITE (R63). -/
def execProfileWrite (tag index : Byte) (f : ProfileFields) (s : State) :
    Host.Outcome State Fault Refusal := ask 0x20 tag (serveProfileWrite index f) s

/-- PROFILE_READ (R65). -/
def execProfileRead (tag index : Byte) (s : State) : Host.Outcome State Fault Refusal :=
  ask 0x21 tag (serveProfileRead index) s

/-- PROFILE_LOCK (R64). -/
def execProfileLock (tag index : Byte) (s : State) : Host.Outcome State Fault Refusal :=
  ask 0x22 tag (serveProfileLock index) s

/-- MODE_SET (R67). -/
def execModeSet (tag index : Byte) (s : State) : Host.Outcome State Fault Refusal :=
  ask 0x23 tag (serveModeSet index) s

/-- MODE_PUSH (R68). -/
def execModePush (tag index : Byte) (s : State) : Host.Outcome State Fault Refusal :=
  ask 0x24 tag (serveModePush index) s

/-- MODE_POP (R69). -/
def execModePop (tag : Byte) (s : State) : Host.Outcome State Fault Refusal :=
  ask 0x25 tag serveModePop s

/-- MOTOR_READ (R58). -/
def execMotorRead (tag : Byte) (s : State) : Host.Outcome State Fault Refusal :=
  ask 0x26 tag serveMotorRead s

/-- FAULT_CLEAR (R59). -/
def execFaultClear (tag : Byte) (s : State) : Host.Outcome State Fault Refusal :=
  ask 0x27 tag serveFaultClear s

/-- BLOCK_CONFIG (R92). -/
def execBlockConfig (tag : Byte) (settings : Option (Byte × Half)) (s : State) :
    Host.Outcome State Fault Refusal := ask 0x28 tag (serveBlockConfig settings) s

/-! ## Dirt Monitor -/

/-- DIRT_CONFIG (R107). -/
def execDirtConfig (tag : Byte) (settings : Option DirtFields) (s : State) :
    Host.Outcome State Fault Refusal := ask 0x30 tag (serveDirtConfig settings) s

/-- DIRT_READ (R108). -/
def execDirtRead (tag : Byte) (s : State) : Host.Outcome State Fault Refusal :=
  ask 0x31 tag serveDirtRead s

/-- BIN_RESET (R106). -/
def execBinReset (tag : Byte) (s : State) : Host.Outcome State Fault Refusal :=
  ask 0x32 tag serveBinReset s

/-! ## Tool records -/

/-- TOOL_LOAD (R135). -/
def execToolLoad (tag : Byte) (f : ToolFields) (s : State) : Host.Outcome State Fault Refusal :=
  ask 0x38 tag (serveToolLoad f) s

/-- TOOL_DROP (R137). -/
def execToolDrop (tag : Byte) (serial : Serial) (s : State) : Host.Outcome State Fault Refusal :=
  ask 0x39 tag (serveToolDrop serial) s

/-- TOOL_READ (R138). -/
def execToolRead (tag index : Byte) (s : State) : Host.Outcome State Fault Refusal :=
  ask 0x3A tag (serveToolRead index) s

/-- TOOL_MISS_READ (R139). -/
def execToolMissRead (tag : Byte) (s : State) : Host.Outcome State Fault Refusal :=
  ask 0x3B tag serveToolMissRead s

/-- TOOL_LIST (R140). -/
def execToolList (tag : Byte) (s : State) : Host.Outcome State Fault Refusal :=
  ask 0x3C tag serveToolList s

/-! ## Dock, charge and evacuation -/

/-- CHARGE_CONFIG (R162). -/
def execChargeConfig (tag : Byte) (settings : Option (Half × Half × Byte)) (s : State) :
    Host.Outcome State Fault Refusal := ask 0x40 tag (serveChargeConfig settings) s

/-- CHARGE_READ (R163). -/
def execChargeRead (tag : Byte) (s : State) : Host.Outcome State Fault Refusal :=
  ask 0x41 tag serveChargeRead s

/-- DOCK_READ (R163). -/
def execDockRead (tag : Byte) (s : State) : Host.Outcome State Fault Refusal :=
  ask 0x42 tag serveDockRead s

/-- CHARGE_FORCE_DISABLE: a CHARGE_FORCE whose first option is DISABLE (R161). -/
def execChargeForceDisable (tag : Byte) (s : State) : Host.Outcome State Fault Refusal :=
  ask 0x43 tag serveForceDisable s

/-- CHARGE_FORCE_ENABLE: a CHARGE_FORCE whose first option is ENABLE (R161). -/
def execChargeForceEnable (tag : Byte) (s : State) : Host.Outcome State Fault Refusal :=
  ask 0x43 tag serveForceEnable s

/-- CHARGE_FORCE_RECOVER: a CHARGE_FORCE whose first option is RECOVER (R161). -/
def execChargeForceRecover (tag : Byte) (s : State) : Host.Outcome State Fault Refusal :=
  ask 0x43 tag serveForceRecover s

/-- CHARGE_FORCE_RENEGOTIATE: a CHARGE_FORCE whose first option is RENEGOTIATE (R161). -/
def execChargeForceRenegotiate (tag : Byte) (s : State) : Host.Outcome State Fault Refusal :=
  ask 0x43 tag serveForceRenegotiate s

/-- EVAC_CONFIG (R171). -/
def execEvacConfig (tag : Byte) (settings : Option (Byte × Byte)) (s : State) :
    Host.Outcome State Fault Refusal := ask 0x48 tag (serveEvacConfig settings) s

/-- EVAC_START (R167). -/
def execEvacStart (tag duration : Byte) (s : State) : Host.Outcome State Fault Refusal :=
  ask 0x49 tag (serveEvacStart duration) s

/-! ## Watches -/

/-- WATCH_SET (R178). -/
def execWatchSet (tag index : Byte) (f : WatchFields) (s : State) : Host.Outcome State Fault Refusal :=
  ask 0x50 tag (serveWatchSet index f) s

/-- WATCH_ARM_ARM: a WATCH_ARM that chooses ARM (R179). -/
def execWatchArmArm (tag index : Byte) (s : State) : Host.Outcome State Fault Refusal :=
  ask 0x51 tag (serveWatchArm true index) s

/-- WATCH_ARM_DISARM: a WATCH_ARM that chooses DISARM (R179). -/
def execWatchArmDisarm (tag index : Byte) (s : State) : Host.Outcome State Fault Refusal :=
  ask 0x51 tag (serveWatchArm false index) s

/-- WATCH_READ (R181). -/
def execWatchRead (tag index : Byte) (s : State) : Host.Outcome State Fault Refusal :=
  ask 0x52 tag (serveWatchRead index) s

/-- WATCH_CLEAR (R180). -/
def execWatchClear (tag index : Byte) (s : State) : Host.Outcome State Fault Refusal :=
  ask 0x53 tag (serveWatchClear index) s

end Sys2Proof.Machine
end

