-- ==== Sys2Proof/Machine/Clock.lean ====
section
/-! DEFINITION. One bit period of 50 µs of the part's own time (R110; 00_scope.md 4.5; log entries 1, 3, 4): the
tool line is sampled, every twentieth ends a millisecond in which every running timer counts down, and what falls
due is put at the end of the queue. -/

namespace Sys2Proof.Machine

/-- A timer one millisecond later; one that stands at 0 stays there until its expiry is taken. -/
def countDown (t : Option Nat) : Option Nat := t.map (· - 1)

/-- The expiry of a timer, when its last millisecond passes. -/
def expiry (t : Option Nat) (c : Instr) : List Instr := if t = some 1 then [c] else []

/-! ## What falls due -/

/-- The tool slots, in chain order. -/
def toolSlots : List ToolSlot := [.head, .lamp, .aux]

/-- Expiries of the Pack Monitor and the Arbiter. -/
def duePower (s : State) : List Instr :=
  toolSlots.flatMap (fun k => expiry (s.arb.tool k).settleDl (.settleDeadlineExpiry k))
    ++ toolSlots.flatMap (fun k => expiry (s.arb.tool k).offerDl (.offerDeadlineExpiry k))
    ++ expiry s.arb.holdoff .toolHoldoffExpiry ++ expiry s.pack.shutdown .shutdownEntry

/-- Expiries of the Motor Drive. -/
def dueDrive (d : Drive) : List Instr :=
  expiry d.debounce .triggerDebounceExpiry ++ expiry d.armTimer .armingTimerExpiry
    ++ expiry d.alignTimer .alignTimerExpiry ++ expiry d.rampTimer .openLoopRampStep
    ++ expiry d.spinTimer .startFail ++ expiry d.stallTimer .stallTimerExpiry
    ++ expiry d.coastTimer .coastTimerExpiry ++ expiry d.faultTimer .faultTimerExpiry

/-- Expiries of the load monitor and the Dirt Monitor. -/
def dueMonitors (s : State) : List Instr :=
  expiry s.load.timer (if s.load.phase = .pulse then .pulseTimerExpiry else .waitTimerExpiry)
    ++ expiry s.dirt.echo .echoTimerExpiry ++ expiry (s.dirt.window.map (·.timer)) .windowEnd

/-- What a bit period brings on the tool line: the end of a line reset, the end of the master's frame, the close
of a reply window as the idle count reaches 7, and the master's next frame at 8 or more (R110, R111, R113). -/
def dueLine (l : ToolLine) : List Instr :=
  if l.resetting.isSome then expiry l.resetting .lineResetEnd
  else if l.tpwr = .off then []
  else if l.wire.isSome then (if l.bits.length ≤ 1 then [.toolMasterFrameEnd] else [])
  else if l.await.isSome then (if 7 ≤ l.idle + 1 then [.replyWindowClose] else [])
  else if 8 ≤ l.idle + 1 ∧ (dueFrame l).isSome then [.toolMasterSend]
  else []

/-- What falls due in a bit period: the tool line's work, and the soft reset that follows the reply of its RESET
(R190; log entry 19). -/
def dueBit (s : State) : List Instr := dueLine s.line ++ (if s.host.resetDue then [.softReset] else [])

/-- Expiries of the node list and the quarantine list. -/
def dueNodes (l : ToolLine) : List Instr :=
  l.nodes.flatMap (fun n => expiry (some n.poll) (.pollTimerExpiry n.addr))
    ++ l.quarantine.flatMap (fun q => expiry (some q.timer) (.quarantineExpiry q.addr))

/-- Expiries of the dock, the evacuation and the host link. -/
def dueLinks (s : State) : List Instr :=
  expiry s.dock.drop .detach ++ expiry (s.dock.exch.bind (·.deadline)) .dockDeadlineExpiry
    ++ expiry s.evac.timer .evacCompletionExpiry ++ expiry (s.host.fence.map (·.timer)) .fenceTimeout

/-- The commands of the part's own time that fall due in this millisecond, in a fixed order (log entry
3). Periods whose work needs a reading bring no command (log entry 4). -/
def due (s : State) : List Instr :=
  duePower s ++ dueDrive s.drive ++ dueMonitors s ++ dueNodes s.line ++ dueLinks s

/-! ## Timers one millisecond later -/

/-- A slot's deadlines. -/
def Slot.elapse (sl : Slot) : Slot :=
  { sl with settleDl := countDown sl.settleDl, offerDl := countDown sl.offerDl }

/-- The Arbiter. -/
def Arb.elapse (a : Arb) : Arb := { a.mapTools Slot.elapse with holdoff := countDown a.holdoff }

/-- The Pack Monitor. -/
def Pack.elapse (p : Pack) : Pack :=
  { p with round := countDown p.round, shutdown := countDown p.shutdown }

/-- The Motor Drive: its timers, the drive clock, which wraps (R54), and in SPINUP the open-loop rate driven over
this millisecond (R49). -/
def Drive.elapse (d : Drive) : Drive :=
  { d with
    debounce := countDown d.debounce, armTimer := countDown d.armTimer
    alignTimer := countDown d.alignTimer, spinTimer := countDown d.spinTimer
    rampTimer := countDown d.rampTimer, stallTimer := countDown d.stallTimer
    coastTimer := countDown d.coastTimer, faultTimer := countDown d.faultTimer
    driven := if d.state = .spinup then d.driven + d.rampRate else d.driven
    drivenMs := if d.state = .spinup then d.drivenMs + 1 else d.drivenMs
    clock := d.clock + 1 }

/-- The Dirt Monitor. -/
def Dirt.elapse (d : Dirt) : Dirt :=
  { d with
    echo := countDown d.echo
    window := d.window.map fun w => { w with timer := w.timer - 1 } }

/-- The poll timers and the quarantine. -/
def ToolLine.elapse (l : ToolLine) : ToolLine :=
  { l with
    nodes := l.nodes.map fun n => { n with poll := n.poll - 1 }
    quarantine := l.quarantine.map fun q => { q with timer := q.timer - 1 } }

/-- The dock. -/
def Dock.elapse (d : Dock) : Dock :=
  { d with
    debounce := countDown d.debounce, drop := countDown d.drop, period := countDown d.period
    exch := d.exch.map fun e => { e with deadline := countDown e.deadline } }

/-- The host link. -/
def HostLink.elapse (h : HostLink) : HostLink :=
  { h with fence := h.fence.map fun f => { f with timer := f.timer - 1 } }

/-- Every timer of the part one millisecond later, the queue left as it is. -/
def elapse (s : State) : State :=
  { s with
    pack := s.pack.elapse, arb := s.arb.elapse, drive := s.drive.elapse
    gov := { s.gov with step := countDown s.gov.step }
    load := { s.load with timer := countDown s.load.timer }
    dirt := s.dirt.elapse, line := s.line.elapse, dock := s.dock.elapse
    evac := { s.evac with timer := countDown s.evac.timer }, host := s.host.elapse }

/-- One bit period with no command waiting (log entry 1). In SHUTDOWN nothing runs (R20). -/
def tick (s : State) : State :=
  if s.pack.power = .shutdown then s
  else
    let t := { s with line := s.line.sample, beat := s.beat + 1, pending := s.pending ++ dueBit s }
    if s.beat < 19 then t else { elapse t with beat := 0, pending := t.pending ++ due s }

end Sys2Proof.Machine
end

