-- ==== Sys2Proof/Machine/Dispatch.lean ====
section
/-! DEFINITION. One arm for each command. -/

namespace Sys2Proof.Machine

def exec (i : Instr) (s : State) : Host.Outcome State Fault Refusal :=
  match i with
  | .powerOnReset => Sys2Proof.Machine.execPowerOnReset s
  | .lineResetEnd => Sys2Proof.Machine.execLineResetEnd s
  | .packRound r => Sys2Proof.Machine.execPackRound r s
  | .ocvCorrection => Sys2Proof.Machine.execOcvCorrection s
  | .cutoffDeclare => Sys2Proof.Machine.execCutoffDeclare s
  | .shutdownEntry => Sys2Proof.Machine.execShutdownEntry s
  | .toolOvercurrent => Sys2Proof.Machine.execToolOvercurrent s
  | .settleDeadlineExpiry slot => Sys2Proof.Machine.execSettleDeadlineExpiry slot s
  | .offerDeadlineExpiry slot => Sys2Proof.Machine.execOfferDeadlineExpiry slot s
  | .toolHoldoffExpiry => Sys2Proof.Machine.execToolHoldoffExpiry s
  | .trigEdge pressed => Sys2Proof.Machine.execTrigEdge pressed s
  | .triggerDebounceExpiry => Sys2Proof.Machine.execTriggerDebounceExpiry s
  | .armingTimerExpiry => Sys2Proof.Machine.execArmingTimerExpiry s
  | .gateTestFail => Sys2Proof.Machine.execGateTestFail s
  | .alignTimerExpiry => Sys2Proof.Machine.execAlignTimerExpiry s
  | .spinupLock => Sys2Proof.Machine.execSpinupLock s
  | .startFail => Sys2Proof.Machine.execStartFail s
  | .commutation crossing power current => Sys2Proof.Machine.execCommutation crossing power current s
  | .motorOvercurrent => Sys2Proof.Machine.execMotorOvercurrent s
  | .stallTimerExpiry => Sys2Proof.Machine.execStallTimerExpiry s
  | .syncMiss => Sys2Proof.Machine.execSyncMiss s
  | .rotorAtRest => Sys2Proof.Machine.execRotorAtRest s
  | .coastTimerExpiry => Sys2Proof.Machine.execCoastTimerExpiry s
  | .faultTimerExpiry => Sys2Proof.Machine.execFaultTimerExpiry s
  | .governorStep current period => Sys2Proof.Machine.execGovernorStep current period s
  | .pulseTimerExpiry => Sys2Proof.Machine.execPulseTimerExpiry s
  | .waitTimerExpiry => Sys2Proof.Machine.execWaitTimerExpiry s
  | .piezoEcho => Sys2Proof.Machine.execPiezoEcho s
  | .echoTimerExpiry => Sys2Proof.Machine.execEchoTimerExpiry s
  | .impactEnd impact => Sys2Proof.Machine.execImpactEnd impact s
  | .windowEnd => Sys2Proof.Machine.execWindowEnd s
  | .toolMasterSend => Sys2Proof.Machine.execToolMasterSend s
  | .arbitrationLoss => Sys2Proof.Machine.execArbitrationLoss s
  | .masterLossLimit => Sys2Proof.Machine.execMasterLossLimit s
  | .announce sender serial descs => Sys2Proof.Machine.execAnnounce sender serial descs s
  | .status sender brush floor jam lamp fault => Sys2Proof.Machine.execStatus sender brush floor jam lamp fault s
  | .ack sender seq limit => Sys2Proof.Machine.execAck sender seq limit s
  | .notice sender jam floor => Sys2Proof.Machine.execNotice sender jam floor s
  | .replyWindowClose => Sys2Proof.Machine.execReplyWindowClose s
  | .pollTimerExpiry addr => Sys2Proof.Machine.execPollTimerExpiry addr s
  | .quarantineExpiry addr => Sys2Proof.Machine.execQuarantineExpiry addr s
  | .chginRise => Sys2Proof.Machine.execChginRise s
  | .chginDrop => Sys2Proof.Machine.execChginDrop s
  | .attachDebounceDone level => Sys2Proof.Machine.execAttachDebounceDone level s
  | .detach => Sys2Proof.Machine.execDetach s
  | .dockRequestSend => Sys2Proof.Machine.execDockRequestSend s
  | .dockCollision => Sys2Proof.Machine.execDockCollision s
  | .dockDeadlineExpiry => Sys2Proof.Machine.execDockDeadlineExpiry s
  | .dockIdent kind support count => Sys2Proof.Machine.execDockIdent kind support count s
  | .dockOffers offers => Sys2Proof.Machine.execDockOffers offers s
  | .dockAccept => Sys2Proof.Machine.execDockAccept s
  | .dockReady => Sys2Proof.Machine.execDockReady s
  | .dockReject reason => Sys2Proof.Machine.execDockReject reason s
  | .dockWait ms => Sys2Proof.Machine.execDockWait ms s
  | .offersChanged offers => Sys2Proof.Machine.execOffersChanged offers s
  | .evacStatus status reason => Sys2Proof.Machine.execEvacStatus status reason s
  | .evacCompletionExpiry => Sys2Proof.Machine.execEvacCompletionExpiry s
  | .chargeCheck chgin => Sys2Proof.Machine.execChargeCheck chgin s
  | .prechargeTimeout => Sys2Proof.Machine.execPrechargeTimeout s
  | .totalTimeout => Sys2Proof.Machine.execTotalTimeout s
  | .hostByteReceived b stopBit => Sys2Proof.Machine.execHostByteReceived b stopBit s
  | .hostByteGap => Sys2Proof.Machine.execHostByteGap s
  | .replySent => Sys2Proof.Machine.execReplySent s
  | .softReset => Sys2Proof.Machine.execSoftReset s
  | .fenceTimeout => Sys2Proof.Machine.execFenceTimeout s
  | .ident tag => Sys2Proof.Machine.execIdent tag s
  | .eventsRead tag => Sys2Proof.Machine.execEventsRead tag s
  | .eventMask tag mask => Sys2Proof.Machine.execEventMask tag mask s
  | .fence tag => Sys2Proof.Machine.execFence tag s
  | .ready tag => Sys2Proof.Machine.execReady tag s
  | .reset tag => Sys2Proof.Machine.execReset tag s
  | .packConfig tag count capacity inom => Sys2Proof.Machine.execPackConfig tag count capacity inom s
  | .ocvTable tag points => Sys2Proof.Machine.execOcvTable tag points s
  | .packRead tag => Sys2Proof.Machine.execPackRead tag s
  | .gaugeSet tag soc => Sys2Proof.Machine.execGaugeSet tag soc s
  | .sleep tag => Sys2Proof.Machine.execSleep tag s
  | .reserveSet tag ma => Sys2Proof.Machine.execReserveSet tag ma s
  | .allotRead tag => Sys2Proof.Machine.execAllotRead tag s
  | .profileWrite tag index f => Sys2Proof.Machine.execProfileWrite tag index f s
  | .profileRead tag index => Sys2Proof.Machine.execProfileRead tag index s
  | .profileLock tag index => Sys2Proof.Machine.execProfileLock tag index s
  | .modeSet tag index => Sys2Proof.Machine.execModeSet tag index s
  | .modePush tag index => Sys2Proof.Machine.execModePush tag index s
  | .modePop tag => Sys2Proof.Machine.execModePop tag s
  | .motorRead tag => Sys2Proof.Machine.execMotorRead tag s
  | .faultClear tag => Sys2Proof.Machine.execFaultClear tag s
  | .blockConfig tag settings => Sys2Proof.Machine.execBlockConfig tag settings s
  | .dirtConfig tag settings => Sys2Proof.Machine.execDirtConfig tag settings s
  | .dirtRead tag => Sys2Proof.Machine.execDirtRead tag s
  | .binReset tag => Sys2Proof.Machine.execBinReset tag s
  | .toolLoad tag f => Sys2Proof.Machine.execToolLoad tag f s
  | .toolDrop tag serial => Sys2Proof.Machine.execToolDrop tag serial s
  | .toolRead tag index => Sys2Proof.Machine.execToolRead tag index s
  | .toolMissRead tag => Sys2Proof.Machine.execToolMissRead tag s
  | .toolList tag => Sys2Proof.Machine.execToolList tag s
  | .chargeConfig tag settings => Sys2Proof.Machine.execChargeConfig tag settings s
  | .chargeRead tag => Sys2Proof.Machine.execChargeRead tag s
  | .dockRead tag => Sys2Proof.Machine.execDockRead tag s
  | .chargeForceDisable tag => Sys2Proof.Machine.execChargeForceDisable tag s
  | .chargeForceEnable tag => Sys2Proof.Machine.execChargeForceEnable tag s
  | .chargeForceRecover tag => Sys2Proof.Machine.execChargeForceRecover tag s
  | .chargeForceRenegotiate tag => Sys2Proof.Machine.execChargeForceRenegotiate tag s
  | .evacConfig tag settings => Sys2Proof.Machine.execEvacConfig tag settings s
  | .evacStart tag duration => Sys2Proof.Machine.execEvacStart tag duration s
  | .watchSet tag index f => Sys2Proof.Machine.execWatchSet tag index f s
  | .watchArmArm tag index => Sys2Proof.Machine.execWatchArmArm tag index s
  | .watchArmDisarm tag index => Sys2Proof.Machine.execWatchArmDisarm tag index s
  | .watchRead tag index => Sys2Proof.Machine.execWatchRead tag index s
  | .watchClear tag index => Sys2Proof.Machine.execWatchClear tag index s
  | .lossOfBackEmfLock => Sys2Proof.Machine.execLossOfBackEmfLock s
  | .openLoopRampStep => Sys2Proof.Machine.execOpenLoopRampStep s
  | .dockRequestLastByte => Sys2Proof.Machine.execDockRequestLastByte s
  | .dockCollisionResend => Sys2Proof.Machine.execDockCollisionResend s
  | .toolMasterFrameEnd => Sys2Proof.Machine.execToolMasterFrameEnd s

end Sys2Proof.Machine
end

