-- ==== Sys2Proof/Safety.lean ====
section
/-! DEFINITION. What the statements speak about: the conditions under which a command is taken, the state
a reply leaves, the fields a reading carries, and the laws of the part. -/

namespace Sys2Proof.Machine

/-! ## Conditions on a state -/

/-- The logic supply is on (R20). -/
abbrev State.powered (s : State) : Prop := s.pack.power ≠ .shutdown

/-- No hand-over waits and no FENCE is deferred. -/
abbrev State.quiet (s : State) : Prop := s.signals = [] ∧ s.host.fence = none

/-- A request that arrives now is acted on, with no wake before it (R185, R190, R19). -/
abbrev State.serves (s : State) : Prop :=
  s.pack.power = .active ∧ s.host.stopped = false ∧ s.host.replies.length < 8
    ∧ s.host.requests.length < 4

/-! ## What hand-overs leave alone: a block with the fields set aside that a hand-over may write -/

/-- The host link but for the event set. -/
def HostLink.lasting (h : HostLink) : HostLink := { h with events := 0 }

/-- The Dirt Monitor but for its level, its rate and its window. -/
def Dirt.lasting (d : Dirt) : Dirt :=
  { d with level := 0, rise := 0, cand := 0, fall := 0, rate := none, window := none }

/-- The trigger, the trip record and the clock of the drive. -/
def Drive.lasting (d : Drive) : Drive :=
  { Drive.reset with
    trig := d.trig, debounce := d.debounce, settlingIn := d.settlingIn, rampRate := d.rampRate
    driven := d.driven, drivenMs := d.drivenMs, crossings := d.crossings, level := d.level
    tripCause := d.tripCause, trips := d.trips, tripCount := d.tripCount, clock := d.clock }

/-- The governor but for its stack, its grant and what follows from the grant. -/
def Gov.lasting (g : Gov) : Gov :=
  { g with
    stack := [], grant := 0, pCap := 0, pEff := 0, pset := 0, ceiling := 0, ramping := false
    stopStarved := false }

/-- The settings of the load monitor. -/
def LoadMon.lasting (m : LoadMon) : LoadMon :=
  { LoadMon.reset with blockPct := m.blockPct, blockMs := m.blockMs, pushMade := m.pushMade }

/-- The node list but for pending caps, with the quarantine, the loss count and the floor class. -/
def ToolLine.lasting (l : ToolLine) : ToolLine :=
  { ToolLine.reset with
    idle := l.idle, resetting := l.resetting, wire := l.wire, bits := l.bits, await := l.await
    losses := l.losses
    nodes := l.nodes.map (fun n => { n with pending := none }), quarantine := l.quarantine
    floor := l.floor }

/-- What the dock has told the part, and the settings. -/
def Dock.lasting (d : Dock) : Dock :=
  { Dock.reset with
    attach := d.attach, attachMs := d.attachMs, debounce := d.debounce, drop := d.drop, coarse := d.coarse
    identity := d.identity, identTaken := d.identTaken, offers := d.offers, precharge := d.precharge
    disabled := d.disabled, iMax := d.iMax, iTerm := d.iTerm, debounceMs := d.debounceMs
    want := d.want, plan := d.plan, iTgt := d.iTgt }

/-! ## Replies -/

/-- A request answered: it joins the pending list, and its formed reply the reply queue (R183, R185). -/
def replied (kind tag : Byte) (st : Status) (payload : List Byte) (s : State) : State :=
  { s with host := { s.host with
      requests := s.host.requests ++ [⟨kind, tag⟩]
      replies := s.host.replies ++ [⟨kind + 0x80, tag, some ⟨st.code, payload⟩, true, false⟩] } }

/-- The kind and the tag of a request that arrives as one whole frame, for the requests of the catalogue but for
RESET (R183, 12.7). -/
def requestOf : Instr → Option PendingReq
  | .ident t => some ⟨0x01, t⟩
  | .eventsRead t => some ⟨0x02, t⟩
  | .eventMask t _ => some ⟨0x03, t⟩
  | .fence t => some ⟨0x04, t⟩
  | .ready t => some ⟨0x05, t⟩
  | .packConfig t _ _ _ => some ⟨0x10, t⟩
  | .ocvTable t _ => some ⟨0x11, t⟩
  | .packRead t => some ⟨0x12, t⟩
  | .gaugeSet t _ => some ⟨0x13, t⟩
  | .sleep t => some ⟨0x14, t⟩
  | .reserveSet t _ => some ⟨0x18, t⟩
  | .allotRead t => some ⟨0x19, t⟩
  | .profileWrite t _ _ => some ⟨0x20, t⟩
  | .profileRead t _ => some ⟨0x21, t⟩
  | .profileLock t _ => some ⟨0x22, t⟩
  | .modeSet t _ => some ⟨0x23, t⟩
  | .modePush t _ => some ⟨0x24, t⟩
  | .modePop t => some ⟨0x25, t⟩
  | .motorRead t => some ⟨0x26, t⟩
  | .faultClear t => some ⟨0x27, t⟩
  | .blockConfig t _ => some ⟨0x28, t⟩
  | .dirtConfig t _ => some ⟨0x30, t⟩
  | .dirtRead t => some ⟨0x31, t⟩
  | .binReset t => some ⟨0x32, t⟩
  | .toolLoad t _ => some ⟨0x38, t⟩
  | .toolDrop t _ => some ⟨0x39, t⟩
  | .toolRead t _ => some ⟨0x3A, t⟩
  | .toolMissRead t => some ⟨0x3B, t⟩
  | .toolList t => some ⟨0x3C, t⟩
  | .chargeConfig t _ => some ⟨0x40, t⟩
  | .chargeRead t => some ⟨0x41, t⟩
  | .dockRead t => some ⟨0x42, t⟩
  | .chargeForceDisable t | .chargeForceEnable t | .chargeForceRecover t | .chargeForceRenegotiate t =>
    some ⟨0x43, t⟩
  | .evacConfig t _ => some ⟨0x48, t⟩
  | .evacStart t _ => some ⟨0x49, t⟩
  | .watchSet t _ _ => some ⟨0x50, t⟩
  | .watchArmArm t _ | .watchArmDisarm t _ => some ⟨0x51, t⟩
  | .watchRead t _ => some ⟨0x52, t⟩
  | .watchClear t _ => some ⟨0x53, t⟩
  | _ => none

/-- The kinds of the catalogue with their payload lengths (12.7). -/
def catalogueLengths : List (Byte × List Nat) :=
  [(0x01, [0]), (0x02, [0]), (0x03, [0, 4]), (0x04, [0]), (0x05, [0]), (0x06, [0]), (0x10, [5]),
   (0x11, [22]), (0x12, [0]), (0x13, [2]), (0x14, [0]), (0x18, [2]), (0x19, [0])]
  ++ [(0x20, [13]), (0x21, [1]), (0x22, [1]), (0x23, [1]), (0x24, [1]), (0x25, [0]), (0x26, [0]),
   (0x27, [0]), (0x28, [0, 3]), (0x30, [0, 13]), (0x31, [0]), (0x32, [0]), (0x38, [22]), (0x39, [4])]
  ++ [(0x3A, [1]), (0x3B, [0]), (0x3C, [0]), (0x40, [0, 5]), (0x41, [0]), (0x42, [0]), (0x43, [1]),
   (0x48, [0, 2]), (0x49, [1]), (0x50, [9]), (0x51, [2]), (0x52, [1]), (0x53, [1])]

/-- The requests of the catalogue but for RESET, as commands (12.7). -/
abbrev isRequest (c : Instr) : Bool := (requestOf c).isSome

/-- The commands that can act in SHUTDOWN: the power-on reset, what ends the shutdown timer, and the levels
on the pins (R20). -/
def reachesShutdown : Instr → Bool
  | .powerOnReset | .shutdownEntry | .trigEdge _ | .chginRise | .chginDrop => true
  | _ => false

/-! ## What a command can change: settings, records and counters that most commands leave alone -/

/-- The pieces of state the frame of a command speaks of. -/
inductive Kept
  | pins | packSettings | profiles | trips | blockSettings | dirtSettings | bin | records
  | chargeSettings | disabled | evacSettings | mask | link
deriving DecidableEq, Repr

/-- What a command may change, beside the state it works on. A byte on HRX may complete any request. -/
def mayChange : Instr → List Kept
  | .powerOnReset | .shutdownEntry | .hostByteReceived _ _ =>
    [.packSettings, .profiles, .trips, .blockSettings, .dirtSettings, .bin, .records, .chargeSettings,
      .disabled, .evacSettings, .mask, .link]
  | .chginRise =>
    [.pins, .packSettings, .profiles, .trips, .blockSettings, .dirtSettings, .bin, .records,
      .chargeSettings, .disabled, .evacSettings, .mask, .link]
  | .softReset => [.blockSettings, .disabled, .mask, .link]
  | .trigEdge _ | .chginDrop | .detach => [.pins]
  | .packConfig _ _ _ _ => [.packSettings, .link]
  | .ocvTable _ _ => [.packSettings]
  | .profileWrite _ _ _ | .profileLock _ _ => [.profiles]
  | .packRound _ | .gateTestFail | .startFail | .motorOvercurrent | .stallTimerExpiry | .syncMiss
  | .faultClear _ => [.trips]
  | .blockConfig _ _ => [.blockSettings]
  | .dirtConfig _ _ => [.dirtSettings, .bin]
  | .windowEnd | .binReset _ | .evacStatus _ _ => [.bin]
  | .toolLoad _ _ | .toolDrop _ _ => [.records]
  | .chargeConfig _ _ => [.chargeSettings]
  | .chargeForceDisable _ | .chargeForceEnable _ => [.disabled]
  | .evacConfig _ _ => [.evacSettings]
  | .eventMask _ _ => [.mask]
  | .ready _ => [.link]
  | _ => []

/-! ## The start check -/

/-- R43: the five conditions of a start are met. -/
abbrev mayStart (s : State) : Prop :=
  s.drive.state = .off ∧ s.host.ready = true ∧ s.dock.state = .detached ∧ stopFired s.watch = false
    ∧ 0 < s.arb.suction.grant ∧ s.arb.suction.floor ≤ s.arb.suction.grant

/-- R43: a start is refused for the first of the five conditions that fails. -/
abbrev refusedFor (s : State) (c : StartRefusal) : Prop :=
  (s.drive.state ≠ .off ∧ c = .notOff)
    ∨ (s.drive.state = .off ∧ s.host.ready = false ∧ c = .notReady)
    ∨ (s.drive.state = .off ∧ s.host.ready = true ∧ s.dock.state ≠ .detached ∧ c = .docked)
    ∨ (s.drive.state = .off ∧ s.host.ready = true ∧ s.dock.state = .detached
        ∧ stopFired s.watch = true ∧ c = .watch)
    ∨ (s.drive.state = .off ∧ s.host.ready = true ∧ s.dock.state = .detached
        ∧ stopFired s.watch = false
        ∧ (s.arb.suction.grant = 0 ∨ s.arb.suction.grant < s.arb.suction.floor)
        ∧ c = .starved)

/-- R43, R44: the refusal leaves the press pending. -/
abbrev leavesPending (s : State) (c : StartRefusal) : Prop :=
  c = .starved ∨ (c = .notOff ∧ s.drive.state = .stopping ∧ s.drive.stopCause = .trigger)

/-- R45: the drive as it enters ARMING. -/
def armed (d : Drive) : Drive :=
  { d with
    startPending := false, state := .arming, bridge := .testing, armTimer := some 50, alignTimer := none
    spinTimer := none, rampTimer := none, stallTimer := none, coastTimer := none, faultTimer := none }

/-! ## Shares of the allotment table -/

/-- R29: the share a tool slot gets of an available amount beside a set-aside: the usable amount gives the request
whole, a part of at least the floor, or nothing. -/
def sharesTool (sl : Slot) (avail aside : Nat) (b : Slot) : Prop :=
  let usable := if sl.yielding then avail - aside else avail
  (sl.request = 0 → b.target = 0 ∧ b.state = .idle)
    ∧ (0 < sl.request → sl.request ≤ usable → b.target = sl.request ∧ b.state = .granted)
    ∧ (usable < sl.request → 0 < usable → sl.floor ≤ usable → b.target = usable ∧ b.state = .partly)
    ∧ (usable < sl.request → usable = 0 ∨ usable < sl.floor → b.target = 0
        ∧ b.state = if sl.yielding = true ∧ sl.floor ≤ avail then .inhibited else .passed)

/-- R29: the share the SUCTION slot gets of what is left. -/
def sharesSuction (sl : Slot) (avail : Nat) (b : Slot) : Prop :=
  let c := min sl.request avail
  (sl.request = 0 → b.target = 0 ∧ b.state = .idle)
    ∧ (0 < sl.request → 0 < c → sl.floor ≤ c → b.target = c
        ∧ b.state = if c = sl.request then .granted else .partly)
    ∧ (0 < sl.request → c = 0 ∨ c < sl.floor → b.target = 0 ∧ b.state = .passed)

/-- R31: a tool slot after the decreases, `b` from `a`: a grant above the target is lowered to it; with TPWR FULL its
nodes settle it, and with no node it is settled at once. -/
def lowersTool (full : Bool) (a b : Slot) : Prop :=
  let nodes := a.concerned ++ a.members.filter (fun x => !a.concerned.contains x)
  (a.grant ≤ b.target → b = { a with target := b.target, state := b.state })
    ∧ (b.target < a.grant → full = false → b = { a with
        target := b.target, state := b.state, grant := b.target, news := true })
    ∧ (b.target < a.grant → full = true → nodes ≠ [] → b = { a with
        target := b.target, state := b.state, grant := b.target, held := max a.held a.grant
        settling := true, concerned := nodes, news := true
        settleDl := some (if a.settling then a.settleDl.getD 20 else 20) })
    ∧ (b.target < a.grant → full = true → nodes = [] → b = { a with
        target := b.target, state := b.state, grant := b.target, held := 0
        settling := false, settleDl := none, news := true })

/-- R35: the raise of a slot with a free amount: at most the shortfall, and at most what it holds above its grant
with the free amount. -/
def raiseOf (sl : Slot) (free : Nat) : Nat := min (sl.target - sl.grant) ((sl.held - sl.grant) + free)

/-- R35, R36: a tool slot after the increases, `b` from `a`, with a free amount: its grant is raised while TPWR is
FULL; otherwise an outstanding offer stands, or is replaced where the target changed or it exceeds the target, and a new
one is made where offers may be. -/
def raisesTool (full offers : Bool) (oldTarget free : Nat) (a b : Slot) : Prop :=
  let r := raiseOf a free
  let waits := fun (sl : Slot) => { sl with waiting := decide (sl.grant < sl.target) }
  (full = true → b = waits { a with grant := a.grant + r, news := a.news || decide (0 < r) })
    ∧ (∀ o, full = false → a.offer = some o → a.target = oldTarget → o ≤ a.target → b = waits a)
    ∧ (∀ o, full = false → a.offer = some o → a.target ≠ oldTarget ∨ a.target < o →
        b = waits { a with
          offer := some r, held := max a.held (max o r), news := true
          concerned := a.concerned ++ a.members.filter (fun x => !a.concerned.contains x) })
    ∧ (full = false → a.offer = none →
        offers = true ∧ a.settling = false ∧ a.grant = 0 ∧ 0 < r → b = waits { a with
          offer := some r, held := r, settling := true, concerned := a.members
          offerDl := some 20, news := true })
    ∧ (full = false → a.offer = none →
        ¬(offers = true ∧ a.settling = false ∧ a.grant = 0 ∧ 0 < r) → b = waits a)

/-! ## Choices among offers and cells -/

/-- R150: the offer at a place of a list is the one a selection picks for a voltage it needs: eligible, with the
highest power, of these the lowest index. -/
def picks (need : Nat) (l : List OfferFields) (i : Nat) (o : OfferFields) : Prop :=
  l[i]? = some o ∧ need ≤ o.volts.toNat
    ∧ (∀ p ∈ l, need ≤ p.volts.toNat →
        p.volts.toNat * p.amps.toNat ≤ o.volts.toNat * o.amps.toNat)
    ∧ ∀ j p, j < i → l[j]? = some p → need ≤ p.volts.toNat →
        p.volts.toNat * p.amps.toNat < o.volts.toNat * o.amps.toNat

/-- R150: the I_chg that a selection forms for an offer, with V_pack above 0. -/
def selectedCurrent (s : State) (o : Offer) : Nat :=
  let most := if s.host.ready then s.dock.iMax else min s.dock.iMax 1000
  let limit := match packTmax s with
    | none => 0
    | some x => if x < 0 ∨ 45 < x then 0 else if x ≤ 9 then most / 2 else most
  let tgt := min most limit / 25 * 25
  let target := match s.dock.resume with
    | some .bulk => tgt
    | some .precharge => min 300 tgt
    | some .taper => min (s.dock.taper.getD tgt) tgt
    | none => if packVmin s < 3000 then min 300 tgt else tgt
  min (o.volts * o.amps * 9 / (10 * packVolts s)) target / 25 * 25

/-- R150: the I_in that a selection asks of an offer, with V_pack above 0. -/
def selectedInput (s : State) (o : Offer) : Nat :=
  let up := (selectedCurrent s o * packVolts s * 10 + (9 * o.volts * 25 - 1)) / (9 * o.volts * 25) * 25
  if o.amps < up then o.amps / 25 * 25 else up

/-- R156: a cell wants to bleed: 20 mV or more above the lowest to begin with, more than 5 mV above it to stay. -/
def wantsBleed (old cells : List Nat) (low k : Nat) : Bool :=
  match cells[k - 1]? with
  | some v => if k ∈ old then low + 5 < v else low + 20 ≤ v
  | none => false

/-- R156: a cell comes before another: a higher voltage, a tie to the lower number. -/
def standsAbove (cells : List Nat) (j k : Nat) : Bool :=
  cells.getD (k - 1) 0 < cells.getD (j - 1) 0
    || (cells.getD (j - 1) 0 == cells.getD (k - 1) 0 && decide (j < k))

/-! ## What the readings carry, field by field (12.8.1; the forms it leaves open are log entry 15) -/

/-- 12.8.1: an enumeration is sent as its place in the list that defines it. -/
def placeOf {α : Type} [DecidableEq α] (l : List α) (x : α) : List Byte := u8 (l.idxOf x)

/-- A field that may be missing: a byte 0, or a byte 1 and the field (log entry 15). -/
def present {α : Type} (enc : α → List Byte) (x : Option α) : List Byte :=
  match x with
  | some a => 1 :: enc a
  | none => [0]

/-- Addresses as a list. -/
def addresses (l : List Addr) : List Byte := listOf (fun a => u8 a.toNat) l

/-- R23: the fields of PACK_READ. Which count stands with the record of an earlier round is log entry 59. -/
def packReadFields (p : Pack) : List (List Byte) :=
  let whole := fun (f : PackRecord → Int) => i16 (p.record.map f)
  let reading := fun (f : PackRecord → Option Int) => i16 (p.record.bind f)
  [u8 p.count]
    ++ (List.range 7).map (fun k => reading (fun r => (r.cells[k]?).map Int.ofNat))
    ++ [whole (·.vpack), whole (·.vmin), whole (·.vmax), i16 p.vf, whole (·.current), whole (·.itool)
      , reading (·.th1), reading (·.th2), reading (·.th3), reading (·.tmax), whole (·.die), whole (·.fT)
      , whole (·.fV), whole (fun _ => p.computed), q16 p.published
      , whole (fun _ => (p.gauge * 1000 / (p.capacity * 360000) : Nat)), q16 p.capacity, flag p.clip
      , flag p.low, flag p.cutoff, flag p.overvolt, q16 (p.rest / 1000)
      , placeOf [Power.active, .standby, .shutdown] p.power]

/-- R40: the fields of a slot. -/
def slotLayout (sl : Slot) : List (List Byte) :=
  [q16 sl.request, q16 sl.floor, flag sl.yielding, q16 sl.target, q16 sl.grant, q16 sl.held
    , placeOf [SlotState.idle, .granted, .partly, .inhibited, .passed] sl.state, flag sl.settling
    , flag sl.waiting]

/-- R40: the fields of a tool slot. -/
def toolSlotLayout (sl : Slot) : List (List Byte) :=
  slotLayout sl ++ [addresses sl.members, addresses sl.concerned, flag sl.offer.isSome]

/-- R40: the fields of ALLOT_READ. -/
def allotReadFields (s : State) : List (List Byte) :=
  let a := s.arb
  let lent := fun (sl : Slot) => max sl.grant sl.held
  let budget := max s.pack.published a.reserve.request
  let sum := lent a.reserve + lent a.head + lent a.lamp + lent a.aux + lent a.suction
  [q16 s.pack.published, q16 a.reserve.request, q16 budget
    , i16 (some ((s.pack.published : Int) - a.reserve.request))
    , q16 (if a.active then a.suction.floor else 0), flag a.active, q16 (budget - sum)
    , q16 (a.reserve.grant + a.head.grant + a.lamp.grant + a.aux.grant + a.suction.grant), q16 sum
    , flag a.starved, q16 (a.holdoff.getD 0)
    , placeOf [ReleaseCause.none, .timeout, .overcurrent, .power] a.cause, u8 a.supCount
    , placeOf [Tpwr.off, .signal, .full] s.line.tpwr]
    ++ slotLayout a.reserve ++ toolSlotLayout a.head ++ toolSlotLayout a.lamp ++ toolSlotLayout a.aux
    ++ slotLayout a.suction

/-- The motor states in the order of the table of 3.2. -/
def motorOrder : List MotorState := [.off, .arming, .align, .spinup, .run, .stopping, .fault, .locked]

/-- The trip causes in the order of R58. -/
def tripOrder : List TripCause := [.none, .overcurrent, .stall, .sync, .thermal, .gateTest, .startFail]

/-- R58: the fields of MOTOR_READ. -/
def motorReadFields (d : Drive) : List (List Byte) :=
  [placeOf motorOrder d.state, u8 (if d.trig then 0 else 1), flag d.startPending
    , placeOf [StartRefusal.none, .notOff, .notReady, .docked, .watch, .starved] d.refused
    , placeOf [StopCause.none, .trigger, .starved, .blocked, .docked, .watch, .pack, .reset] d.stopCause
    , placeOf tripOrder d.tripCause, q16 d.pset, q16 d.ceiling, i16 (d.iMotor.map Int.ofNat)
    , i16 (d.pMeas.map Int.ofNat), i16 (d.speed.map Int.ofNat), q16 (d.faultTimer.getD 0)
    , listOf (fun t => placeOf tripOrder t.cause ++ u32 t.time.toNat ++ placeOf motorOrder t.state) d.trips
    , u16 d.tripCount, u32 d.clock.toNat]

/-- R108: the fields of DIRT_READ. -/
def dirtReadFields (d : Dirt) : List (List Byte) :=
  let running := fun (f : Window → Nat) => (d.window.map f).getD 0
  [placeOf [SensorStatus.untested, .present, .absent] d.status, flag d.echo.isSome, u8 d.level, u8 d.rise
    , u8 d.cand, u8 d.fall, flag d.heldLevel, flag d.window.isSome, u8 (running (fun w => 100 - w.timer))
    , u16 (running (·.small)), u16 (running (·.large)), u16 d.lastSmall, u16 d.lastLarge, u32 d.lastW
    , u8 d.lastF, i16 (d.rate.map Int.ofNat), u32 d.bin, u8 (d.bin * 100 / d.capacity), flag d.sat
    , flag d.full, q16 d.large, q16 d.t1, q16 d.t2, q16 d.t3, u32 d.capacity, u8 d.fullPct]

/-- The tool kinds in the order of R128. -/
def kindOrder : List ToolKind := [.floorHead, .miniHead, .crevice, .lightWand, .unknown]

/-- The floor classes in the order of R119. -/
def floorOrder : List FloorClass := [.hard, .carpet, .unknown]

/-- R140: the fields of a node list entry in TOOL_LIST. -/
def nodeLayout (s : State) (n : Node) : List (List Byte) :=
  let r := appliedRecord s n
  [u8 n.addr.toNat, u32 n.serial.toNat, placeOf [NodeState.assigning, .active, .silent] n.state
    , u8 n.descs.length, n.descs, u8 n.missed, [n.seq]
    , present (fun c => q16 (c.body.limit * 50) ++ u8 c.body.brush ++ flag c.body.lamp ++ [c.seq]) n.pending
    , q16 (n.ackLimit * 50), flag n.jam, flag n.lamp, flag n.fault, placeOf floorOrder n.floor
    , i16 (n.brushMa.map Int.ofNat)
    , u8 (match n.applied with
        | .slot i => i.val
        | .default _ => 8
        | .none => 9)
    , placeOf kindOrder ((r.map (·.kind)).getD .unknown)
    , placeOf kindOrder (defaultRecord n.serial n.descs).kind, flag n.mismatch
    , q16 ((r.map (·.brush)).getD 0), q16 ((r.map (·.floor)).getD 0)
    , flag ((r.map (·.yielding)).getD false), q16 ((r.map (·.lamp)).getD 0)
    , u8 (if n.addr ∈ s.arb.head.members then 0 else if n.addr ∈ s.arb.aux.members then 1 else 2)
    , flag (decide (n.addr ∈ s.arb.lamp.members))]

/-- R140: the fields of TOOL_LIST. -/
def toolListFields (s : State) : List (List Byte) :=
  let c := s.gov.curve
  [u8 s.line.nodes.length] ++ s.line.nodes.flatMap (nodeLayout s)
    ++ [placeOf [Tpwr.off, .signal, .full] s.line.tpwr, placeOf floorOrder s.line.floor
      , u8 ((s.tools.nozzle.map (·.toNat)).getD 0), u8 s.gov.factor, q16 c.s1, q16 c.s2, q16 c.s3, q16 c.s4
      , addresses (s.line.quarantine.map (·.addr))]

/-- R160: the causes of FAULT, CELL_OV after the table's four, absent where there is none (log entry 15). -/
def faultField (f : ChargeFault) : List Byte :=
  present (placeOf [ChargeFault.thermal, .inputOv, .totalTimeout, .prechargeTimeout, .cellOv])
    (if f = .none then none else some f)

/-- R163: the fields of CHARGE_READ. -/
def chargeReadFields (s : State) : List (List Byte) :=
  let d := s.dock
  let most := if s.host.ready then d.iMax else min d.iMax 1000
  [placeOf [ChargeState.detached, .attachWait, .identify, .negotiate, .coarse, .precharge, .bulk, .taper
      , .topped, .paused, .disabled, .fault] d.state
    , (if d.state = .paused then present (placeOf [PauseCause.temp, .watch, .offerChange, .noOffer]) (some d.pause)
        else if d.state = .fault then faultField d.lastFault else [0])
    , faultField d.lastFault, flag d.disabled, q16 most
    , q16 (match packTmax s with
        | some x => if x < 0 ∨ 45 < x then 0 else if x ≤ 9 then most / 2 else most
        | none => 0)
    , q16 d.iTgt, q16 d.iChg, i16 (d.taper.map Int.ofNat)
    , present (placeOf [ChargePhase.precharge, .bulk, .taper]) d.resume, q16 d.precharge, q16 d.total
    , u8 d.bleed.length, d.bleed.flatMap u8
    , q16 (if d.iTerm = 0 then max 50 (min 1000 (s.pack.capacity / 20)) else d.iTerm)]

/-- R163: the fields of DOCK_READ. A request is sent by the kind of its frame, HELLO 1, CHARGE_REQ 2, EVAC_REQ 3
and HALT 4 (R194). -/
def dockReadFields (d : Dock) : List (List Byte) :=
  let kind := fun (r : DockReq) => match r with
    | .hello => 1
    | .chargeReq _ _ => 2
    | .evacReq _ => 3
    | .halt => 4
  let due := (if d.dueHalt then [4] else []) ++ (d.dueCharge.map kind).toList
    ++ (if d.dueEvac.isSome then [3] else [])
  [placeOf [Attach.debouncing, .attached, .detached] d.attach
    , u8 ((d.debounce.map (fun t => d.attachMs - t)).getD 0)
    , present (placeOf [CoarseClass.low, .mid, .high]) d.coarse
    , present (fun i => placeOf [DockKind.basic, .evac] i.kind ++ flag i.support ++ u8 i.count) d.identity
    , listOf (fun o => u16 o.volts ++ u16 o.amps ++ flag o.rejected) d.offers
    , present (fun a => u8 a.index ++ u16 a.volts ++ u16 a.amps ++ u16 a.input) d.agreement
    , present (fun e => u8 (kind e.req) ++ u8 e.attempts ++ u8 (if e.phase = .first then 0 else 1) ++ u8 e.waits
        ++ q16 (e.deadline.getD 0)) d.exch
    , listOf u8 due]

/-- R173: the code of an action. -/
def actionNumber (a : WatchAction) : Nat :=
  match a with
  | .notify => 0
  | .derate _ => 1
  | .stopMotor => 2
  | .pauseCharge => 3

/-- R181: the fields of a set record, with 0 in the place of p where the action has none (log entry 15). -/
def watchLayout (r : WatchRec) : List Byte :=
  u8 (quantities.idxOf r.quantity) ++ half r.threshold ++ u8 r.conds.toNat ++ u8 r.n
    ++ placeOf [WatchMode.latch, .level] r.mode ++ u8 (actionNumber r.action)
    ++ u8 (match r.action with
        | .derate p => p
        | .notify | .stopMotor | .pauseCharge => 0)
    ++ placeOf [WatchState.disarmed, .armed, .counting, .fired] r.state ++ u8 r.trueCount ++ u8 r.falseCount
    ++ half r.last

/-- R181: the fields of WATCH_READ. -/
def watchReadFields (i : Fin 8) (w : WatchUnit) : List (List Byte) :=
  let fired := (List.finRange 8).filterMap (fun k => (w.recs[k]).bind (fun r =>
    if r.state = .fired then some (u8 k.val ++ u8 (actionNumber r.action)) else none))
  [present watchLayout w.recs[i], u8 w.derate, flag w.pauseOrder, u8 fired.length] ++ fired

/-! ## Laws of the part -/

/-- R66: 1 to 4 entries, the bottom one BASE, a CLEAR entry only at the top. -/
abbrev stackLaw (s : State) : Prop :=
  1 ≤ s.gov.stack.length ∧ s.gov.stack.length ≤ 4
    ∧ s.gov.stack.head?.map (·.origin) = some .base
    ∧ s.gov.stack.dropLast.all (fun e => e.origin != .clear) = true

/-- R103: B within the capacity, and BIN_SAT set where it has reached it; the settings of R107 in range. -/
abbrev binLaw (s : State) : Prop :=
  1000 ≤ s.dirt.capacity ∧ 50 ≤ s.dirt.fullPct ∧ s.dirt.bin ≤ s.dirt.capacity
    ∧ (s.dirt.bin = s.dirt.capacity → s.dirt.sat = true)

/-- R10: G at most G_full; the OCV table has at most its eleven points (R11). -/
abbrev gaugeLaw (s : State) : Prop := s.pack.gauge ≤ s.pack.capacity * 360000 ∧ s.pack.ocv.length ≤ 11

/-- R54: at most three entries, and a count within its width. -/
abbrev tripLaw (s : State) : Prop := s.drive.trips.length ≤ 3 ∧ s.drive.tripCount ≤ 65535

/-- R152: CSW is closed only in a charging state with the motor at rest. -/
abbrev switchLaw (s : State) : Prop :=
  s.dock.csw = true → s.dock.state.charges = true ∧ s.drive.state.atRest = true

/-- R95: the level is 0 outside RUN and with an ABSENT sensor, and a window runs only in RUN (R97). -/
abbrev dirtLaw (s : State) : Prop :=
  (0 < s.dirt.level → s.drive.state = .run ∧ s.dirt.status ≠ .absent)
    ∧ (s.dirt.window.isSome = true → s.drive.state = .run)

/-- R51: no driving state while a STOP_MOTOR watch is FIRED. -/
abbrev watchLaw (s : State) : Prop := stopFired s.watch = true → s.drive.state.drives = false

/-- R177: the results handed on are those of the records. -/
abbrev resultLaw (s : State) : Prop :=
  s.watch.derate = derateInForce s.watch.recs.toList
    ∧ s.watch.pauseOrder = pauseOrdered s.watch.recs.toList

/-- R170: an evacuation is in progress only while the charge state is not DETACHED. -/
abbrev evacLaw (s : State) : Prop := evacInProgress s = true → s.dock.state ≠ .detached

/-- R185: at most 8 replies, and at most 4 requests with RESETs beyond them: one that was refused, and the one
that stops the receiver (log entry 50). -/
abbrev queueLaw (s : State) : Prop :=
  s.host.replies.length ≤ 8
    ∧ (s.host.requests.filter (fun r => r.kind != kindReset)).length ≤ 4
    ∧ s.host.requests.length ≤ (if s.host.stopped then 6 else 5)

/-- R75: P_req and P_set at most 600 W, in the governor and as the drive holds it. -/
abbrev powerLaw (s : State) : Prop :=
  s.gov.pReq ≤ 600 ∧ s.gov.pset ≤ 600 ∧ s.drive.pset ≤ 600

/-- R66, R123: a brush level handed to the tool line: the level held, and, unless TPWR is OFF, a CAP queued for every
node that declares a brush. -/
abbrev brushHanded (level : Nat) (s t : State) : Prop :=
  t.line.brush = level ∧ t.line.nodes = s.line.nodes
    ∧ (s.line.tpwr ≠ .off → ∀ a n, nodeAt s a = some n → declaresBrush s n = true →
        .cap a (capBody t n) none ∈ t.line.queue)

/-- R115: at most 4 entries, in address order, no two with one address or one serial. -/
abbrev nodeLaw (s : State) : Prop :=
  s.line.nodes.length ≤ 4 ∧ (s.line.nodes.map (·.addr.toNat)).Pairwise (· < ·)
    ∧ (s.line.nodes.map (·.serial)).Nodup

/-- R128, R132: no two valid records share a serial, no serial stands both in the miss list and in a valid
record, and the miss list holds at most 4 serials, none twice. A node follows a valid record of its own
serial once it has completed assignment (R130). -/
def tableLaw (s : State) : Prop :=
  (∀ i j : Fin 8, ∀ r q : ToolRecord, s.tools.slots[i] = some r → s.tools.slots[j] = some q →
      r.serial = q.serial → i = j)
    ∧ (∀ i : Fin 8, ∀ r : ToolRecord, s.tools.slots[i] = some r → r.serial ∉ s.tools.miss)
    ∧ s.tools.miss.length ≤ 4 ∧ s.tools.miss.Nodup
    ∧ (∀ n ∈ s.line.nodes, ∀ i : Fin 8, n.applied = .slot i →
        n.completed = true ∧ ∃ r, s.tools.slots[i] = some r ∧ r.serial = n.serial)

end Sys2Proof.Machine
end

