-- ==== Sys2Proof/Certificates/Slice0/Obligations.lean ====
section
/-! DEFINITION. The statements for the provers. -/

open Sys2Proof Sys2Proof.Machine

/-! ## The step, the resets and SHUTDOWN -/

/-- A step takes the command at the front of the queue, with the queue's rest (asked of every block); on
an empty queue it is one bit period of 50 µs of the part's own time (the model's choice, log entry 1). -/
def Obligations.StepTakesTheFrontCommand : Prop :=
  (∀ (c : Instr) (rest : List Instr) (s : State),
      step { s with pending := c :: rest } = exec c { s with pending := rest })
    ∧ ∀ s : State, s.pending = [] → step s = .next (tick s)

/-- The frame of every command: the queue, and the pins, settings, records and counters that the command is not
there to change, are as before (R20 to R22, R39, R54, R63, R64, R92, R103, R107, R128, R161, R162, R171, R188,
R189). -/
def Obligations.CommandsLeaveTheRestAlone : Prop :=
  ∀ (c : Instr) (s t : State), exec c s = .next t → t.pending = s.pending
    ∧ (.pins ∉ mayChange c → t.pins = s.pins)
    ∧ (.packSettings ∉ mayChange c → t.pack.count = s.pack.count ∧ t.pack.capacity = s.pack.capacity
        ∧ t.pack.inom = s.pack.inom ∧ t.pack.ocv = s.pack.ocv)
    ∧ (.profiles ∉ mayChange c → t.gov.profiles = s.gov.profiles)
    ∧ (.trips ∉ mayChange c → t.drive.trips = s.drive.trips ∧ t.drive.tripCount = s.drive.tripCount
        ∧ t.drive.tripCause = s.drive.tripCause)
    ∧ (.blockSettings ∉ mayChange c →
        t.load.blockPct = s.load.blockPct ∧ t.load.blockMs = s.load.blockMs)
    ∧ (.dirtSettings ∉ mayChange c → t.dirt.large = s.dirt.large ∧ t.dirt.t1 = s.dirt.t1
        ∧ t.dirt.t2 = s.dirt.t2 ∧ t.dirt.t3 = s.dirt.t3 ∧ t.dirt.capacity = s.dirt.capacity
        ∧ t.dirt.fullPct = s.dirt.fullPct)
    ∧ (.bin ∉ mayChange c →
        t.dirt.bin = s.dirt.bin ∧ t.dirt.sat = s.dirt.sat ∧ t.dirt.full = s.dirt.full)
    ∧ (.records ∉ mayChange c → t.tools.slots = s.tools.slots)
    ∧ (.chargeSettings ∉ mayChange c → t.dock.iMax = s.dock.iMax ∧ t.dock.iTerm = s.dock.iTerm
        ∧ t.dock.debounceMs = s.dock.debounceMs)
    ∧ (.disabled ∉ mayChange c → t.dock.disabled = s.dock.disabled)
    ∧ (.evacSettings ∉ mayChange c → t.evac.pct = s.evac.pct ∧ t.evac.setting = s.evac.setting)
    ∧ (.mask ∉ mayChange c → t.host.mask = s.host.mask)
    ∧ (.link ∉ mayChange c → t.host.ready = s.host.ready ∧ t.host.configured = s.host.configured)

/-- A step on an empty queue is one bit period of the tool line (R110): the line is sampled, its idle count advances
by 1 at a recessive sample and is 0 after a dominant one, and the next bit of the master's frame follows. Every
twentieth ends a millisecond: every timer of the part runs down, the drive clock advances, which wraps, and in
SPINUP the driven rate is added up for the next record; nothing else changes. What falls due is queued, and no
other command: in each bit period the end of a line reset, the end of the master's frame, the close of a reply window
at a count of 7, a master frame at 8, and a soft reset that is due; with the millisecond the expiry of each timer
that reaches its end. In SHUTDOWN nothing runs (R20, R49, R54, R110, R111, R190; the bit period as the step, the order,
the queueing, the periods without a command and the frames that have no bits of their own are the model's choice, log
entries 1, 3, 4, 19 and 34). -/
def Obligations.AnIdleStepRunsTheTimers : Prop :=
  ∀ s : State, s.pending = [] →
    let sampled : ToolLine := { s.line with
      idle := if s.line.resetting = none ∧ s.line.bits.head? ≠ some false then s.line.idle + 1 else 0
      bits := s.line.bits.tail, resetting := s.line.resetting.map (· - 1) }
    let bitWork := fun (c : Instr) =>
      (s.line.resetting = some 1 ∧ c = .lineResetEnd)
        ∨ (s.line.tpwr ≠ .off ∧ s.line.resetting = none ∧ s.line.wire.isSome ∧ s.line.bits.length ≤ 1
            ∧ c = .toolMasterFrameEnd)
        ∨ (s.line.tpwr ≠ .off ∧ s.line.resetting = none ∧ s.line.wire = none ∧ s.line.await.isSome
            ∧ 6 ≤ s.line.idle ∧ c = .replyWindowClose)
        ∨ (s.line.tpwr ≠ .off ∧ s.line.resetting = none ∧ s.line.wire = none ∧ s.line.await = none
            ∧ 7 ≤ s.line.idle ∧ (s.line.lost.isSome ∨ s.line.queue ≠ []) ∧ c = .toolMasterSend)
        ∨ (s.host.resetDue = true ∧ c = .softReset)
    (s.powered → s.beat < 19 → ∃ t, step s = .next t
      ∧ t = { s with beat := s.beat + 1, line := sampled, pending := t.pending }
      ∧ ∀ c : Instr, c ∈ t.pending ↔ bitWork c)
    ∧ (s.powered → 19 ≤ s.beat → ∃ t, step s = .next t ∧ t.beat = 0
      ∧ (let late := fun (sl : Slot) => { sl with
           settleDl := sl.settleDl.map (· - 1), offerDl := sl.offerDl.map (· - 1) }
         t.arb = { s.arb with
           head := late s.arb.head, lamp := late s.arb.lamp, aux := late s.arb.aux
           holdoff := s.arb.holdoff.map (· - 1) })
      ∧ t.pack = { s.pack with
          round := s.pack.round.map (· - 1), shutdown := s.pack.shutdown.map (· - 1) }
      ∧ t.gov = { s.gov with step := s.gov.step.map (· - 1) }
      ∧ t.drive = { s.drive with
          debounce := s.drive.debounce.map (· - 1), armTimer := s.drive.armTimer.map (· - 1)
          alignTimer := s.drive.alignTimer.map (· - 1), spinTimer := s.drive.spinTimer.map (· - 1)
          rampTimer := s.drive.rampTimer.map (· - 1), stallTimer := s.drive.stallTimer.map (· - 1)
          coastTimer := s.drive.coastTimer.map (· - 1), faultTimer := s.drive.faultTimer.map (· - 1)
          driven := s.drive.driven + if s.drive.state = .spinup then s.drive.rampRate else 0
          drivenMs := s.drive.drivenMs + if s.drive.state = .spinup then 1 else 0
          clock := s.drive.clock + 1 }
      ∧ t.load = { s.load with timer := s.load.timer.map (· - 1) }
      ∧ t.dirt = { s.dirt with
          echo := s.dirt.echo.map (· - 1)
          window := s.dirt.window.map (fun w => { w with timer := w.timer - 1 }) }
      ∧ t.line = { sampled with
          nodes := s.line.nodes.map (fun n => { n with poll := n.poll - 1 })
          quarantine := s.line.quarantine.map (fun q => { q with timer := q.timer - 1 }) }
      ∧ t.dock = { s.dock with
          debounce := s.dock.debounce.map (· - 1), drop := s.dock.drop.map (· - 1)
          period := s.dock.period.map (· - 1)
          exch := s.dock.exch.map (fun e => { e with deadline := e.deadline.map (· - 1) }) }
      ∧ t.evac = { s.evac with timer := s.evac.timer.map (· - 1) }
      ∧ t.host = { s.host with fence := s.host.fence.map (fun f => { f with timer := f.timer - 1 }) }
      ∧ t.signals = s.signals ∧ t.tools = s.tools ∧ t.watch = s.watch ∧ t.pins = s.pins ∧ t.free = s.free
      ∧ ∀ c : Instr, c ∈ t.pending ↔ bitWork c
          ∨ (∃ k, (s.arb.tool k).settleDl = some 1 ∧ c = .settleDeadlineExpiry k)
          ∨ (∃ k, (s.arb.tool k).offerDl = some 1 ∧ c = .offerDeadlineExpiry k)
          ∨ (s.arb.holdoff = some 1 ∧ c = .toolHoldoffExpiry)
          ∨ (s.pack.shutdown = some 1 ∧ c = .shutdownEntry)
          ∨ (s.drive.debounce = some 1 ∧ c = .triggerDebounceExpiry)
          ∨ (s.drive.armTimer = some 1 ∧ c = .armingTimerExpiry)
          ∨ (s.drive.alignTimer = some 1 ∧ c = .alignTimerExpiry)
          ∨ (s.drive.rampTimer = some 1 ∧ c = .openLoopRampStep)
          ∨ (s.drive.spinTimer = some 1 ∧ c = .startFail)
          ∨ (s.drive.stallTimer = some 1 ∧ c = .stallTimerExpiry)
          ∨ (s.drive.coastTimer = some 1 ∧ c = .coastTimerExpiry)
          ∨ (s.drive.faultTimer = some 1 ∧ c = .faultTimerExpiry)
          ∨ (s.load.timer = some 1
              ∧ c = if s.load.phase = .pulse then .pulseTimerExpiry else .waitTimerExpiry)
          ∨ (s.dirt.echo = some 1 ∧ c = .echoTimerExpiry)
          ∨ (∃ w, s.dirt.window = some w ∧ w.timer = 1 ∧ c = .windowEnd)
          ∨ (∃ n ∈ s.line.nodes, n.poll = 1 ∧ c = .pollTimerExpiry n.addr)
          ∨ (∃ q ∈ s.line.quarantine, q.timer = 1 ∧ c = .quarantineExpiry q.addr)
          ∨ (s.dock.drop = some 1 ∧ c = .detach)
          ∨ (∃ e, s.dock.exch = some e ∧ e.deadline = some 1 ∧ c = .dockDeadlineExpiry)
          ∨ (s.evac.timer = some 1 ∧ c = .evacCompletionExpiry)
          ∨ (∃ f, s.host.fence = some f ∧ f.timer = 1 ∧ c = .fenceTimeout))
    ∧ (s.pack.power = .shutdown → step s = .next s)

/-- What a power-on reset leaves, as the reset tables of the chapters give it (R25, R41, R60, R62, R66, R80,
R93, R109, R127, R141, R164, R172, R182, R192). Values of log entry 8 are left out.

POWER_ON_RESET in any state returns every block to its power-on values (R25). With CHGIN above 5 V the
attach debounce starts at the end of the reset (R164, R192); no CHARGE_STATE event comes with that entry into
ATTACH_WAIT, a reading of the rules (log entry 32). The queue, the pins and the model's counter of free values
are the outside world's (log entries 1, 7, 8). -/
def Obligations.APowerOnResetLeavesTheTabledValues : Prop :=
  (let s := State.reset
   (s.pack.power = .active ∧ s.pack.count = 6 ∧ s.pack.capacity = 2500 ∧ s.pack.inom = 15000
       ∧ s.pack.ocv = [3000, 3450, 3550, 3620, 3680, 3740, 3820, 3900, 3990, 4080, 4180]
       ∧ s.pack.record = none ∧ s.pack.published = 0 ∧ s.pack.computed = 0 ∧ s.pack.clip = false
       ∧ s.pack.rest = 0 ∧ s.pack.low = false ∧ s.pack.cutoff = false ∧ s.pack.overvolt = false
       ∧ s.pack.shutdown = none)
     ∧ (s.arb.reserve.request = 300 ∧ s.arb.reserve.floor = 300 ∧ s.arb.grants = 0
       ∧ s.arb.committed = 0 ∧ s.arb.active = false ∧ s.arb.starved = false ∧ s.arb.holdoff = none
       ∧ s.arb.supCount = 0 ∧ s.arb.cause = .none)
     ∧ (s.drive.state = .off ∧ s.drive.trig = false ∧ s.drive.debounce = some 20
       ∧ s.drive.trips = [] ∧ s.drive.tripCount = 0 ∧ s.drive.clock = 0 ∧ s.drive.startPending = false
       ∧ s.drive.refused = .none ∧ s.drive.stopCause = .none ∧ s.drive.tripCause = .none
       ∧ s.drive.iMotor = none ∧ s.drive.pMeas = none ∧ s.drive.speed = none)
     ∧ (s.gov.stack = [⟨1, .base⟩] ∧ s.gov.floor = .hard ∧ s.gov.factor = 100
       ∧ s.gov.curve = ⟨900, 1080, 1190, 1270⟩ ∧ s.gov.boost = 0 ∧ s.gov.grant = 0 ∧ s.gov.pset = 0
       ∧ s.gov.profiles[0] = ⟨true, true, 120, 150, 60, false, 0, 1, 20, false⟩
       ∧ s.gov.profiles[1] = ⟨true, true, 200, 300, 120, true, 3, 2, 20, false⟩
       ∧ s.gov.profiles[2] = ⟨true, true, 550, 550, 200, false, 0, 3, 30, false⟩
       ∧ s.gov.profiles[3] = ⟨false, false, 20, 20, 20, false, 0, 0, 5, false⟩
       ∧ s.gov.profiles[14] = ⟨false, false, 20, 20, 20, false, 0, 0, 5, false⟩
       ∧ s.gov.profiles[15] = ⟨true, false, 600, 600, 200, false, 0, 0, 100, false⟩)
     ∧ (s.load.cls = .clear ∧ s.load.attempts = 0 ∧ s.load.phase = .none ∧ s.load.ratio = none
       ∧ s.load.blockPct = 118 ∧ s.load.blockMs = 400)
     ∧ (s.dirt.status = .untested ∧ s.dirt.level = 0 ∧ s.dirt.bin = 0 ∧ s.dirt.sat = false
       ∧ s.dirt.full = false ∧ s.dirt.large = 600 ∧ s.dirt.t1 = 20 ∧ s.dirt.t2 = 50 ∧ s.dirt.t3 = 120
       ∧ s.dirt.capacity = 200000 ∧ s.dirt.fullPct = 90)
     ∧ (s.line.nodes = [] ∧ s.line.queue = [] ∧ s.line.quarantine = [] ∧ s.line.tpwr = .signal
       ∧ s.line.floor = .hard)
     ∧ ((∀ i : Fin 8, s.tools.slots[i] = none) ∧ s.tools.order = [] ∧ s.tools.miss = []
       ∧ s.tools.nozzle = none)
     ∧ (s.dock.state = .detached ∧ s.dock.attach = .detached ∧ s.dock.csw = false ∧ s.dock.bleed = []
       ∧ s.dock.exch = none ∧ s.dock.identTaken = false ∧ s.dock.offers = [] ∧ s.dock.agreement = none
       ∧ s.dock.coarse = none ∧ s.dock.disabled = false ∧ s.dock.lastFault = .none
       ∧ s.dock.iMax = 1000 ∧ s.dock.iTerm = 0 ∧ s.dock.debounceMs = 150)
     ∧ (s.evac.state = .idle ∧ s.evac.trigger = .none ∧ s.evac.outcome = .none ∧ s.evac.auto = false
       ∧ s.evac.pct = 60 ∧ s.evac.setting = 8)
     ∧ ((∀ i : Fin 8, s.watch.recs[i] = none) ∧ s.watch.derate = 100 ∧ s.watch.pauseOrder = false)
     ∧ (s.host.rx = .hunting ∧ s.host.requests = [] ∧ s.host.replies = [] ∧ s.host.fence = none
       ∧ hasEvent .resetDone s = true ∧ s.host.events = 1 ∧ s.host.mask = 0 ∧ s.host.ready = false
       ∧ s.host.configured = false ∧ attnLow s = true))
  ∧ (∀ s : State,
    (s.pins.chgin = false → exec .powerOnReset s
      = .next { State.reset with pending := s.pending, free := s.free, pins := s.pins })
    ∧ (s.pins.chgin = true → exec .powerOnReset s
      = .next { State.reset with
          pending := s.pending, free := s.free, pins := s.pins
          dock := { Dock.reset with
            state := .attachWait, attach := .debouncing, debounce := some 150 } }))

/-- Every law of the part holds right after reset. -/
def Obligations.ResetMeetsTheLaws : Prop :=
  stackLaw State.reset ∧ binLaw State.reset ∧ gaugeLaw State.reset ∧ tripLaw State.reset
    ∧ switchLaw State.reset ∧ dirtLaw State.reset ∧ watchLaw State.reset ∧ resultLaw State.reset
    ∧ evacLaw State.reset ∧ queueLaw State.reset ∧ powerLaw State.reset ∧ nodeLaw State.reset
    ∧ tableLaw State.reset

/-- SHUTDOWN_ENTRY with the shutdown timer running: every piece of state is lost and the outputs are off;
with CHGIN above 5 V the power-on reset follows at once (R16, R20). The values that stand for lost state are
the model's choice (log entry 20).

In SHUTDOWN nothing but a power-on reset, CHGIN rising and the levels on the pins changes the part, and
CHGIN rising is a power-on reset (R20).

A wake from STANDBY (R19, R126): ACTIVE with a round and a governor step 10 ms off, and, unless a cut-off stands, TPWR
SIGNAL with a line reset. A change of level on TRIG and a rise on CHGIN are such wakes, and act as in ACTIVE
afterwards; a part in another power state is not woken. -/
def Obligations.ShutdownLosesAllAndStandbyIsLeft : Prop :=
  (∀ s : State, s.pack.shutdown.isSome →
    (s.pins.chgin = false → ∃ t, exec .shutdownEntry s = .next t
      ∧ t.pack.power = .shutdown ∧ t.drive.bridge = .off ∧ t.line.tpwr = .off ∧ t.dock.csw = false
      ∧ t.dock.bleed = [] ∧ t.host.replies = [] ∧ t.host.requests = [] ∧ t.host.events = 0
      ∧ t.line.nodes = [] ∧ (∀ i : Fin 8, t.tools.slots[i] = none)
      ∧ (∀ i : Fin 8, t.watch.recs[i] = none) ∧ t.pack.round = none ∧ attnLow t = false)
    ∧ (s.pins.chgin = true → exec .shutdownEntry s = exec .powerOnReset s))
  ∧ (∀ s : State, s.pack.power = .shutdown →
    (∀ c : Instr, reachesShutdown c = false → exec c s = .next s)
    ∧ exec .chginRise s = exec .powerOnReset { s with pins := { s.pins with chgin := true } }
    ∧ exec .chginDrop s = .next { s with pins := { s.pins with chgin := false } }
    ∧ ∀ b, exec (.trigEdge b) s = .next { s with pins := { s.pins with trig := b } })
  ∧ (∀ s : State,
    (s.pack.power ≠ .standby → wake s = s)
    ∧ (s.pack.power = .standby →
      (wake s).pack = { s.pack with power := .active, round := some 10 }
      ∧ (wake s).gov.step = some 10
      ∧ (s.pack.cutoff = false → s.line.tpwr = .off → (wake s).line.tpwr = .signal
          ∧ (wake s).line.resetting = some 40 ∧ (wake s).line.nodes = [] ∧ (wake s).line.queue = [])
      ∧ (s.pack.cutoff = true → (wake s).line = s.line)
      ∧ (wake s).tools.slots = s.tools.slots ∧ (wake s).drive = s.drive ∧ (wake s).dock = s.dock
      ∧ (∀ b, b ≠ s.pins.trig →
          let w := wake { s with pins := { s.pins with trig := b } }
          exec (.trigEdge b) s
            = .next (conclude { w with drive := { w.drive with debounce := some 20 } }))
      ∧ exec .chginRise s = exec .chginRise (wake { s with pins := { s.pins with chgin := true } })))

/-- SOFT_RESET, due since the reply of its RESET was sent: what each chapter's reset table keeps and what it restarts
(R25, R41, R60, R80, R93, R109, R127, R141, R164, R170, R172, R182, R190, R192). The stack collapses to its BASE
entry, the governor's inputs and set point are those of a fresh part, every slot is empty but RESERVE, which is
granted in the recompute that follows; a docked part waits for its attach debounce again, CSW open, and sends a HALT
where it took an IDENT; an evacuation in progress ended with RESET. The stack is one that keeps its law (R66). That
RESET and SOFT_RESET are steps of their own is the model's choice, log entry 19, that the restarted debounce has the
time then set log entry 51, and that it restarts with CHGIN below 5 V too log entry 69. -/
def Obligations.SoftResetKeepsAndRestarts : Prop :=
  ∀ s : State, s.powered → s.host.resetDue = true → ∃ t, exec .softReset s = .next t
    ∧ t.pack = s.pack ∧ t.host = HostLink.reset ∧ t.load = LoadMon.reset ∧ t.signals = []
    ∧ t.gov.profiles = s.gov.profiles ∧ (stackLaw s → t.gov.stack = s.gov.stack.take 1)
    ∧ (t.drive.trips = s.drive.trips ∧ t.drive.tripCount = s.drive.tripCount
      ∧ t.drive.clock = s.drive.clock ∧ t.drive.trig = s.drive.trig ∧ t.drive.startPending = false
      ∧ t.drive.state ≠ .fault ∧ t.drive.state.drives = false
      ∧ (s.drive.state.drives = true → t.drive.stopCause = .reset)
      ∧ (s.drive.state = .run → t.drive.state = .stopping ∧ t.drive.bridge = .braking))
    ∧ t.dirt = { Dirt.reset with
        bin := s.dirt.bin, sat := s.dirt.sat, full := s.dirt.full, pulses := s.dirt.pulses
        large := s.dirt.large, t1 := s.dirt.t1, t2 := s.dirt.t2, t3 := s.dirt.t3
        capacity := s.dirt.capacity, fullPct := s.dirt.fullPct }
    ∧ (t.line.nodes = [] ∧ t.line.quarantine = [] ∧ t.line.queue = [] ∧ t.line.wire = none
      ∧ t.line.resetting = some 40 ∧ t.line.losses = 0 ∧ t.line.floor = .hard
      ∧ (s.line.tpwr = .full → t.line.tpwr = .signal) ∧ (s.line.tpwr ≠ .full → t.line.tpwr = s.line.tpwr))
    ∧ (t.tools.slots = s.tools.slots ∧ t.tools.order = s.tools.order ∧ t.tools.miss = []
      ∧ t.tools.nozzle = none)
    ∧ (t.dock.iMax = s.dock.iMax ∧ t.dock.iTerm = s.dock.iTerm ∧ t.dock.debounceMs = s.dock.debounceMs
      ∧ t.dock.lastFault = s.dock.lastFault ∧ t.dock.disabled = false ∧ t.dock.csw = false
      ∧ t.dock.bleed = [] ∧ t.dock.agreement = none ∧ t.dock.identity = none ∧ t.dock.offers = []
      ∧ t.dock.identTaken = false ∧ t.dock.total = 0 ∧ t.dock.precharge = 0 ∧ t.dock.period = none
      ∧ (s.dock.state = .detached →
          t.dock.state = .detached ∧ t.dock.attach = .detached ∧ t.dock.debounce = none)
      ∧ (s.dock.state ≠ .detached → t.dock.state = .attachWait ∧ t.dock.attach = .debouncing
          ∧ t.dock.debounce = some s.dock.debounceMs)
      ∧ (s.dock.identTaken = true →
          t.dock.exch = some ⟨.halt, 1, none, 0, false, .first, .sending, 0⟩)
      ∧ (s.dock.identTaken = false → t.dock.exch = none))
    ∧ t.evac = { s.evac with
        state := .idle, timer := none
        outcome := if evacInProgress s then .reset else s.evac.outcome }
    ∧ (∀ i : Fin 8, t.watch.recs[i] = none) ∧ t.watch.derate = 100 ∧ t.watch.pauseOrder = false
    ∧ (s.signals = [] →
      (t.gov.floor = .hard ∧ t.gov.factor = 100 ∧ t.gov.curve = ⟨900, 1080, 1190, 1270⟩
        ∧ t.gov.boost = 0 ∧ t.gov.grant = 0 ∧ t.gov.pset = 0 ∧ t.gov.ceiling = 0
        ∧ t.gov.delivered = false)
      ∧ t.arb = { Arb.fresh s.arb.reserve.request with
          reserve := { (Arb.fresh s.arb.reserve.request).reserve with
            target := s.arb.reserve.request, grant := s.arb.reserve.request, state := .granted }
          starved := decide (s.pack.published < s.arb.reserve.request) })

/-! ## Pack Monitor -/

/-- A round converts its readings (R2, R3): cell voltages rounded half up for cells 1 to N, V_pack, V_min and
V_max from them, pack current and tool supply current saturated, a thermistor outside 40 to 4,000 NONE and any other
on the built-in curve, between two of its points rounded down, T_max the highest valid reading, the die temperature
limited. -/
def Obligations.ARoundConvertsItsReadings : Prop :=
  ∀ (r : Readings) (s : State), s.powered → 1 ≤ s.pack.count →
    ∃ t p, exec (.packRound r) s = .next t ∧ t.pack.record = some p
      ∧ p.cells = (r.taps.toList.take s.pack.count).map (fun x => (x.toNat * 5000 + 2048) / 4096)
      ∧ p.vpack = p.cells.sum
      ∧ p.vmin ∈ p.cells ∧ p.vmax ∈ p.cells ∧ (∀ v ∈ p.cells, p.vmin ≤ v ∧ v ≤ p.vmax)
      ∧ p.current = max (-32000) (min 32000 r.shunt) ∧ p.itool = min 32000 r.tool
      ∧ p.die = max (-40) (min 150 r.die)
      ∧ (let curve : List (Int × Int) := [(4000, -40), (3800, -20), (3500, 0), (3100, 15), (2600, 30), (2100, 45)
           , (1700, 55), (1300, 65), (900, 80), (500, 100), (200, 125), (40, 150)]
         ∀ raw t, (raw, t) ∈ [(r.th1, p.th1), (r.th2, p.th2), (r.th3, p.th3)] →
           (t = none ↔ raw.toNat < 40 ∨ 4000 < raw.toNat)
           ∧ ∀ k, k < 11 →
               let a := curve.getD k (0, 0)
               let b := curve.getD (k + 1) (0, 0)
               b.1 ≤ (raw.toNat : Int) → (raw.toNat : Int) ≤ a.1 →
                 t = some (a.2 + (a.1 - raw.toNat) * (b.2 - a.2) / (a.1 - b.1)))
      ∧ (p.tmax = none ↔ p.th1 = none ∧ p.th2 = none ∧ p.th3 = none)
      ∧ (∀ x, p.tmax = some x → some x ∈ [p.th1, p.th2, p.th3]
          ∧ ∀ y, some y ∈ [p.th1, p.th2, p.th3] → y ≤ x)

/-- V_f and the protections of a round (R4, R14, R15, R16, R17): the low flag and the over-voltage flag, the cut-off
timer, the declaration of a cut-off with what it brings, a driving motor stopped by it, and its end at a dock, where in
ACTIVE TPWR comes back to SIGNAL with a line reset. An over-voltage newly set orders a charge FAULT with cause CELL_OV,
CSW open, unless the charge state is DETACHED or ATTACH_WAIT.

CUTOFF_DECLARE while the cut-off timer runs and no cut-off stands (R15; taken whenever the timer runs, the
model's choice, log entry 2): flag, event, a published limit
of 0, TPWR OFF, the shutdown timer when undocked, and no driving motor. -/
def Obligations.ARoundProtectsAndACutoffIsDeclared : Prop :=
  (∀ (r : Readings) (s : State), s.powered →
    ∃ t p vf, exec (.packRound r) s = .next t ∧ t.pack.record = some p ∧ t.pack.vf = some vf
      ∧ (s.pack.vf = none ∨ s.pack.reseed = true → vf = p.vmin)
      ∧ (∀ v, s.pack.vf = some v → s.pack.reseed = false → vf = v + ((p.vmin : Int) - v).tdiv 8)
      ∧ t.pack.reseed = false
      ∧ (p.vmin < 3300 → t.pack.low = true) ∧ (3350 ≤ p.vmin → t.pack.low = false)
      ∧ (3300 ≤ p.vmin → p.vmin < 3350 → t.pack.low = s.pack.low)
      ∧ (t.pack.low = true → s.pack.low = false → hasEvent .packLow t = true)
      ∧ (4250 < p.vmax → t.pack.overvolt = true) ∧ (p.vmax ≤ 4200 → t.pack.overvolt = false)
      ∧ (4200 < p.vmax → p.vmax ≤ 4250 → t.pack.overvolt = s.pack.overvolt)
      ∧ (t.pack.overvolt = true → s.pack.overvolt = false → hasEvent .cellOvervolt t = true)
      ∧ (3000 ≤ vf → t.pack.cutTimer = 0)
      ∧ (t.pack.cutoff = true → s.pack.cutoff = false →
          hasEvent .packCutoff t = true ∧ t.line.tpwr = .off ∧ t.line.nodes = []
            ∧ t.pack.computed = 0 ∧ t.pack.published = 0
            ∧ (s.dock.state = .detached → t.pack.shutdown = some 2000)
            ∧ (s.signals = [] → s.drive.startPending = false → t.drive.state.drives = false))
      ∧ (s.pack.power = .active →
          (vf < 3000 → t.pack.cutTimer = s.pack.cutTimer + 10)
          ∧ (s.pack.cutoff = false →
              (t.pack.cutoff = true ↔ vf < 3000 ∧ 500 ≤ s.pack.cutTimer + 10)))
      ∧ (s.pack.cutoff = true →
          (t.pack.cutoff = false ↔ s.dock.state ≠ .detached ∧ 3100 ≤ vf)))
  ∧ (∀ (r : Readings) (s : State), s.powered →
    let u := packRound r s
    exec (.packRound r) s = .next (conclude u) ∧ (conclude u).pack = u.pack
      ∧ (u.pack.overvolt = true → s.pack.overvolt = false →
          (s.dock.state ≠ .detached → s.dock.state ≠ .attachWait →
            u.dock.state = .fault ∧ u.dock.lastFault = .cellOv ∧ u.dock.csw = false ∧ u.dock.iChg = 0
              ∧ u.dock.agreement = none ∧ hasEvent .chargeFault u = true))
      ∧ (s.pack.cutoff = true → u.pack.cutoff = false → s.line.tpwr = .off →
          (s.pack.power = .active → u.line.tpwr = .signal ∧ u.line.resetting = some 40 ∧ u.line.nodes = []
            ∧ u.line.queue = [] ∧ u.line.quarantine = [])
          ∧ (s.pack.power = .standby → u.line.tpwr = .off)))
  ∧ (∀ s : State, s.powered → s.pack.cutoff = false → 0 < s.pack.cutTimer →
    ∃ t, exec .cutoffDeclare s = .next t
      ∧ t.pack = { s.pack with
          cutoff := true, computed := 0, published := 0
          shutdown := if s.dock.state = .detached then some 2000 else s.pack.shutdown }
      ∧ hasEvent .packCutoff t = true ∧ t.line.tpwr = .off ∧ t.line.nodes = []
      ∧ (s.signals = [] → s.drive.startPending = false → t.drive.state.drives = false))

/-- The gauge counter of a round that makes no correction (R9, R10): the count of the pack current, 100 times
over in STANDBY, held between 0 and G_full, with GAUGE_CLIP.

The open-circuit lookup over a table of eleven strictly increasing points (R11).

OCV_CORRECTION while the pack rests (R12): G from the lookup of V_mean, the rest timer 0; taken whenever the
rest timer is above 0, the model's choice, log entry 2.

The first round seeds the counter from the lookup, and a round with which the pack has rested for 30 minutes
corrects it (R9, R12). -/
def Obligations.TheGaugeIsCountedLookedUpAndCorrected : Prop :=
  (∀ (r : Readings) (s : State), s.powered → s.pack.record.isSome →
    s.pack.rest + (if s.pack.power = .standby then 1000 else 10) < 1800000 →
    ∃ t p, exec (.packRound r) s = .next t ∧ t.pack.record = some p
      ∧ (let g := (s.pack.gauge : Int) - p.current * (if s.pack.power = .standby then 100 else 1)
         let full := (s.pack.capacity : Int) * 360000
         (t.pack.gauge : Int) = max 0 (min full g)
           ∧ t.pack.clip = (s.pack.clip || decide (g < 0) || decide (full < g))
           ∧ (t.pack.clip = true → s.pack.clip = false → hasEvent .gaugeClipped t = true))
      ∧ (t.pack.rest = if -50 < p.current ∧ p.current < 50 ∧ s.dock.state.charges = false then
            s.pack.rest + (if s.pack.power = .standby then 1000 else 10) else 0))
  ∧ (∀ (table : List Nat) (v : Nat), table.length = 11 → increasing table = true →
    (v ≤ table.getD 0 0 → ocvLookup table v = 0)
    ∧ (table.getD 10 0 ≤ v → ocvLookup table v = 1000)
    ∧ ∀ k, k < 10 → table.getD k 0 ≤ v → v < table.getD (k + 1) 0 →
        ocvLookup table v
          = k * 100 + (v - table.getD k 0) * 100 / (table.getD (k + 1) 0 - table.getD k 0))
  ∧ (∀ (p : PackRecord) (s : State), s.powered → s.pack.record = some p → 0 < s.pack.rest →
    exec .ocvCorrection s = .next (conclude { s with pack := { s.pack with
      gauge := ocvLookup s.pack.ocv (p.vpack / s.pack.count) * (s.pack.capacity * 360000) / 1000
      rest := 0 } }))
  ∧ (∀ (r : Readings) (s : State), s.powered →
    ∃ t p, exec (.packRound r) s = .next t ∧ t.pack.record = some p
      ∧ (let ocv := ocvLookup s.pack.ocv (p.vpack / s.pack.count) * (s.pack.capacity * 360000) / 1000
         let rests := -50 < p.current ∧ p.current < 50 ∧ s.dock.state.charges = false
         let time := s.pack.rest + (if s.pack.power = .standby then 1000 else 10)
         (s.pack.record = none → t.pack.gauge = ocv ∧ t.pack.clip = s.pack.clip)
         ∧ (rests → 1800000 ≤ time → t.pack.gauge = ocv ∧ t.pack.rest = 0)))

/-- The discharge limit of a round and its publication (R5, R6, R7), with the events of the temperature (R3, R5):
TEMP_SENSOR when the last sensor is lost, TEMP_LIMIT when the factor leaves 100 or falls to 0.

What a round hands on (R7, R8, R28): a recompute of the allotment table where the published limit changes, or at the
first round, and, one after the other, the nine updates to the Watch Unit. The event takes them after the round's own
work; their order among the hand-overs of one event is the model's choice, log entries 5 and 6. -/
def Obligations.ARoundPublishesTheLimit : Prop :=
  (∀ (r : Readings) (s : State), s.powered →
    ∃ t p vf, exec (.packRound r) s = .next t ∧ t.pack.record = some p ∧ t.pack.vf = some vf
      ∧ (p.tmax = none → p.fT = 50)
      ∧ (∀ x, p.tmax = some x →
          (x ≤ 50 → p.fT = 100) ∧ (65 ≤ x → p.fT = 0)
          ∧ (51 ≤ x → x ≤ 64 → (p.fT : Int) = (65 - x) * 100 / 15))
      ∧ t.pack.hadTemp = p.tmax.isSome ∧ t.pack.lastFT = p.fT
      ∧ (p.tmax = none → s.pack.hadTemp = true → hasEvent .tempSensor t = true)
      ∧ (∀ x, p.tmax = some x →
          (s.pack.lastFT = 100 ∧ p.fT < 100) ∨ (0 < s.pack.lastFT ∧ p.fT = 0) →
          hasEvent .tempLimit t = true)
      ∧ (3300 ≤ vf → p.fV = 100) ∧ (vf < 3000 → p.fV = 0)
      ∧ (3000 ≤ vf → vf < 3300 → (p.fV : Int) = 20 + (vf - 3000) * 80 / 300)
      ∧ t.pack.computed
          = (if t.pack.cutoff then 0 else s.pack.inom * p.fT * p.fV / 10000 / 50 * 50)
      ∧ t.pack.published
          = (if s.pack.record = none ∨ t.pack.computed < s.pack.published
                ∨ s.pack.published + 250 ≤ t.pack.computed
              then t.pack.computed else s.pack.published))
  ∧ (∀ (r : Readings) (s : State), s.powered →
    let u := packRound r s
    let sent := fun (x : Int) => BitVec.ofInt 16 (max (-32767) (min 32767 x))
    ∃ p, exec (.packRound r) s = .next (conclude u) ∧ u.pack.record = some p
      ∧ (s.pack.record = none ∨ u.pack.published ≠ s.pack.published → .recompute ∈ u.signals)
      ∧ ∃ before after, u.signals = before ++
          [.update .packMv (sent p.vpack), .update .cellMinMv (sent p.vmin), .update .cellMaxMv (sent p.vmax)
            , .update .cellSpreadMv (sent (p.vmax - p.vmin : Nat)), .update .packMa (sent p.current)
            , .update .tempMaxC (match p.tmax with
                | some x => sent x
                | none => 0x8000)
            , .update .dieTempC (sent p.die)
            , .update .socPm (sent (u.pack.gauge * 1000 / (u.pack.capacity * 360000) : Nat))
            , .update .limitMa (sent u.pack.published)] ++ after)

/-! ## Current Allotment Arbiter -/

/-- Whatever the table and the limit, a recompute leaves every grant at or below its target, and the sum of
the grants at or below the larger of the published limit and the RESERVE request: the law of R31.

The starved case (R30): a limit below the RESERVE request leaves every other slot with target and grant 0,
IDLE where its request is 0 and PASSED otherwise; any other limit clears the flag. -/
def Obligations.ARecomputeKeepsWithinTheBudget : Prop :=
  (∀ (a : Arb) (limit : Nat) (full offers : Bool),
    let b := a.recompute limit full offers
    b.reserve.grant ≤ b.reserve.target ∧ b.head.grant ≤ b.head.target ∧ b.lamp.grant ≤ b.lamp.target
      ∧ b.aux.grant ≤ b.aux.target ∧ b.suction.grant ≤ b.suction.target
      ∧ b.reserve.grant + b.head.grant + b.lamp.grant + b.aux.grant + b.suction.grant
          ≤ max limit b.reserve.request)
  ∧ (∀ (a : Arb) (limit : Nat) (full offers : Bool),
    let b := a.recompute limit full offers
    (limit < a.reserve.request →
      b.starved = true ∧ b.reserve.target = a.reserve.request
        ∧ ∀ sl ∈ [b.head, b.lamp, b.aux, b.suction],
            sl.target = 0 ∧ sl.grant = 0
              ∧ sl.state = (if sl.request = 0 then .idle else .passed))
    ∧ (a.reserve.request ≤ limit → b.starved = false))

/-- A recompute, in the order of R28, for any table, limit and level: the shares in chain order beside the set-aside
(R29), the decreases with what they leave held and settling (R31), the raises in chain order, the free amount formed
again after each, and the waiting marks (R35), and below FULL the offers made, replaced and lowered (R36). The claims
and the rest of the table are as before. With TPWR FULL the committed amounts grow at most to the budget.

A recompute that an event brings uses the limit published, the level and the hold-off as they stand, makes offers only
with no hold-off, TPWR not OFF and the link READY (R36), and hands on its results, ALLOT_STARVED at the beginning of
the starved case among them (R30, R37). That an outstanding offer above an unchanged target is lowered as well is R31
read for an offer that moved with its node.

Of this the following is the model's choice. A replaced offer keeps its running deadline and its concerned nodes, it
is replaced also while R36 forbids new offers, and a raise of 0 or a settling slot makes no offer (log entry 24). All
members of LAMP are concerned in its decrease (log entry 28). The recompute stands in the event's list of work, first
in, first out (log entry 5). A settling slot with no deadline gets one at a decrease, as R33 asks (log entry 29). -/
def Obligations.ARecomputeSharesLowersAndRaises : Prop :=
  (∀ (a : Arb) (limit : Nat) (full offers : Bool),
    let d := (a.aimAll limit).lowerAll full
    let b := a.recompute limit full offers
    let aside := if a.active then a.suction.floor else 0
    let left := limit - a.reserve.request
    let lent := fun (sl : Slot) => max sl.grant sl.held
    let budget := max limit a.reserve.request
    let waits := fun (sl : Slot) => { sl with waiting := decide (sl.grant < sl.target) }
    (a.reserve.request ≤ limit → sharesTool a.head left aside d.head
        ∧ sharesTool a.lamp (left - d.head.target) aside d.lamp
        ∧ sharesTool a.aux (left - d.head.target - d.lamp.target) aside d.aux
        ∧ sharesSuction a.suction (left - d.head.target - d.lamp.target - d.aux.target) d.suction)
      ∧ d.reserve = { a.reserve with
          target := a.reserve.request, state := .granted, grant := min a.reserve.grant a.reserve.request }
      ∧ d.suction = { a.suction with
          target := d.suction.target, state := d.suction.state
          grant := min a.suction.grant d.suction.target }
      ∧ (∀ k, lowersTool full (a.tool k) (d.tool k))
      ∧ (let free := fun (r h l x u : Slot) => budget - (lent r + lent h + lent l + lent x + lent u)
         let up := fun (sl : Slot) (f : Nat) => waits { sl with grant := sl.grant + raiseOf sl f }
         b.reserve = up d.reserve (free d.reserve d.head d.lamp d.aux d.suction)
           ∧ raisesTool full offers a.head.target (free b.reserve d.head d.lamp d.aux d.suction)
               d.head b.head
           ∧ raisesTool full offers a.lamp.target (free b.reserve b.head d.lamp d.aux d.suction)
               d.lamp b.lamp
           ∧ raisesTool full offers a.aux.target (free b.reserve b.head b.lamp d.aux d.suction)
               d.aux b.aux
           ∧ b.suction = up d.suction (free b.reserve b.head b.lamp b.aux d.suction))
      ∧ b = { a with
          reserve := b.reserve, head := b.head, lamp := b.lamp, aux := b.aux, suction := b.suction
          starved := decide (limit < a.reserve.request) }
      ∧ (full = true → lent b.reserve + lent b.head + lent b.lamp + lent b.aux + lent b.suction
          ≤ max budget (lent d.reserve + lent d.head + lent d.lamp + lent d.aux + lent d.suction)))
  ∧ (∀ (s : State) (n : Nat) (rest : List Signal),
    let arb := s.arb.recompute s.pack.published (decide (s.line.tpwr = .full))
      (decide (s.arb.holdoff = none ∧ s.line.tpwr ≠ .off ∧ s.host.ready = true))
    let u := handTools (raiseIf (arb.starved && !s.arb.starved) .allotStarved { s with arb := arb })
    recomputeNow s = (if u.arb.suction.grant = u.gov.grant then u
        else grantArrives u.arb.suction.grant u)
      ∧ drain (n + 1) { s with signals := .recompute :: rest }
          = drain n (recomputeNow { s with signals := rest }))

/-- TOOL_OVERCURRENT and SETTLE_DEADLINE_EXPIRY with TPWR FULL (R33, R34, R38; taken whenever the count or the
deadline runs, the model's choice, log entry 2): TPWR to SIGNAL, a forced
release of every tool slot with its cause, and the hold-off at 1 s.

OFFER_DEADLINE_EXPIRY withdraws the offer and starts the hold-off without a release; TOOL_HOLDOFF_EXPIRY
ends the hold-off; a recompute follows each (R28, R36; that one follows the withdrawal is log entry 25).

The supervision of a round (R38): with TPWR FULL a tool supply current above the permitted amount advances the count,
one at or below it sets the count to 0, and the fifth trips; below FULL the count is 0. That the permitted amount of a
round is formed from the grants before its recompute is the model's choice, log entry 6: the rules give no order of the
two. -/
def Obligations.ToolSlotsAreReleasedAndOffersEnd : Prop :=
  (∀ s : State, s.powered → s.line.tpwr = .full →
    (0 < s.arb.supCount → ∃ t, exec .toolOvercurrent s = .next t
      ∧ hasEvent .toolOvercurrent t = true ∧ t.arb.cause = .overcurrent ∧ t.arb.supCount = 0
      ∧ t.line.tpwr = .signal ∧ t.arb.holdoff = some 1000
      ∧ ∀ k, (t.arb.tool k).grant = 0 ∧ (t.arb.tool k).held = 0 ∧ (t.arb.tool k).settling = false
          ∧ (t.arb.tool k).offer = none)
    ∧ ∀ slot, (s.arb.tool slot).settleDl.isSome → ∃ t, exec (.settleDeadlineExpiry slot) s = .next t
      ∧ t.arb.cause = .timeout ∧ t.line.tpwr = .signal ∧ t.arb.holdoff = some 1000
      ∧ ∀ k, (t.arb.tool k).grant = 0 ∧ (t.arb.tool k).held = 0 ∧ (t.arb.tool k).settling = false
          ∧ (t.arb.tool k).offer = none)
  ∧ (∀ s : State, s.powered →
    (∀ slot, (s.arb.tool slot).offerDl.isSome → exec (.offerDeadlineExpiry slot) s
      = .next (conclude (askRecompute { s with arb := { s.arb.setTool slot
          { s.arb.tool slot with
            held := 0, settling := false, settleDl := none, offerDl := none, concerned := []
            offer := none, waiting := true
            news := (s.arb.tool slot).news || (s.arb.tool slot).offer.isSome } with
          holdoff := some 1000 } })))
    ∧ (s.arb.holdoff.isSome → exec .toolHoldoffExpiry s
      = .next (conclude (askRecompute { s with arb := { s.arb with holdoff := none } }))))
  ∧ (∀ (r : Readings) (s : State), s.powered →
    let u := packRound r s
    let used := min 32000 r.tool
    let allowed := (s.arb.head.grant + s.arb.lamp.grant + s.arb.aux.grant + 50) * 5 / 4
    exec (.packRound r) s = .next (conclude u)
      ∧ (u.line.tpwr ≠ .full → u.arb.supCount = 0)
      ∧ (s.line.tpwr = .full → u.pack.cutoff = s.pack.cutoff →
          (used ≤ allowed → u.line.tpwr = .full ∧ u.arb.supCount = 0)
          ∧ (allowed < used → s.arb.supCount < 4 →
              u.line.tpwr = .full ∧ u.arb.supCount = s.arb.supCount + 1)
          ∧ (allowed < used → 4 ≤ s.arb.supCount →
              hasEvent .toolOvercurrent u = true ∧ u.line.tpwr = .signal ∧ u.arb.cause = .overcurrent
                ∧ u.arb.holdoff = some 1000 ∧ .recompute ∈ u.signals
                ∧ ∀ k, (u.arb.tool k).grant = 0 ∧ (u.arb.tool k).held = 0
                    ∧ (u.arb.tool k).settling = false ∧ (u.arb.tool k).concerned = []
                    ∧ (u.arb.tool k).settleDl = none ∧ (u.arb.tool k).offer = none)))

/-- The tool side of a recompute (R37, R123): a CAP is queued for every node of a slot whose value changed, member or
concerned, with the contents of R123: the limit from the slot's offer, or else its grant, in units of 50 mA, the brush
level handed over last, and the lamp on where the node asks for it and LAMP has its whole request.

The level of TPWR after a hand-over (R125): FULL with no tool grant becomes SIGNAL, with the forced release of cause
POWER; SIGNAL with a tool grant becomes FULL, unless a hold stands, and ends the offers still outstanding (R36); a
change discards the pending caps and starts a recompute (R28, R124).

An acknowledgement of the newest CAP (R32, R124): the node leaves every slot's concerned nodes; a slot left with none
is settled, an acknowledged offer becomes its grant, and a recompute follows. A departure takes the node out likewise,
but withdraws an offer it leaves with no node (R32).

That a CAP queued by a hand-over in which TPWR changes its level still stands is deduced by the model, log entry 27:
the change discards the pending caps and those to be sent again. That a slot left settling for a departed member has
the deadline of R33 from the change to FULL is the model's reading, log entry 29. -/
def Obligations.ATableValueReachesItsNodesAndSettles : Prop :=
  (∀ (s : State) (n : Node) (k : ToolSlot), nodeAt s n.addr = some n → s.line.tpwr ≠ .off →
    (s.arb.tool k).news = true →
    n.addr ∈ (s.arb.tool k).members ∨ n.addr ∈ (s.arb.tool k).concerned →
    .cap n.addr (capBody s n) none ∈ (handTools s).line.queue
      ∧ (powerRule s = s → ∀ j, ((handTools s).arb.tool j).news = false))
  ∧ (∀ (s : State) (n : Node),
    let b := capBody s n
    let value := fun (sl : Slot) => sl.offer.getD sl.grant
    (n.addr ∈ s.arb.head.members → b.limit = value s.arb.head / 50)
      ∧ (n.addr ∉ s.arb.head.members → n.addr ∈ s.arb.aux.members → b.limit = value s.arb.aux / 50)
      ∧ (n.addr ∉ s.arb.head.members → n.addr ∉ s.arb.aux.members → b.limit = 0)
      ∧ b.brush = s.line.brush
      ∧ b.lamp = (n.lamp && decide (value s.arb.lamp = s.arb.lamp.request ∧ 0 < value s.arb.lamp)))
  ∧ (∀ s : State,
    let t := powerRule s
    let given := 0 < s.arb.head.grant + s.arb.lamp.grant + s.arb.aux.grant
    let free := s.pack.cutoff = false ∧ s.pack.power = .active
    let ended := fun (sl : Slot) => { sl with
      held := 0, settling := false, settleDl := none, offerDl := none, concerned := [], offer := none
      news := sl.news || sl.offer.isSome }
    (s.line.tpwr = .full → ¬given → t.line.tpwr = .signal ∧ t.arb.cause = .power ∧ t.arb.supCount = 0
        ∧ (∀ k, t.arb.tool k = { ended (s.arb.tool k) with grant := 0 })
        ∧ (∀ n ∈ t.line.nodes, n.pending = none) ∧ .recompute ∈ t.signals)
      ∧ (s.line.tpwr = .signal → given → free → t.line.tpwr = .full
        ∧ (∀ k, t.arb.tool k
            = if (s.arb.tool k).offer.isSome then ended (s.arb.tool k)
              else if (s.arb.tool k).settling then
                { s.arb.tool k with settleDl := some ((s.arb.tool k).settleDl.getD 20) }
              else s.arb.tool k)
        ∧ (∀ n ∈ t.line.nodes, n.pending = none) ∧ .recompute ∈ t.signals)
      ∧ ((s.line.tpwr = .full ∧ given) ∨ (s.line.tpwr = .signal ∧ ¬(given ∧ free)) ∨ s.line.tpwr = .off →
          t = s))
  ∧ (∀ (a : Addr) (s : State),
    let t := reportAck a s
    let others := fun (sl : Slot) => sl.concerned.filter (· != a)
    let settles := fun (sl : Slot) => a ∈ sl.concerned ∧ others sl = []
    (∀ k, a ∉ (s.arb.tool k).concerned → t.arb.tool k = s.arb.tool k)
      ∧ (∀ k, a ∈ (s.arb.tool k).concerned → others (s.arb.tool k) ≠ [] →
          t.arb.tool k = { s.arb.tool k with concerned := others (s.arb.tool k) })
      ∧ (∀ k, settles (s.arb.tool k) → t.arb.tool k = { s.arb.tool k with
          concerned := [], held := 0, settling := false, settleDl := none, offerDl := none
          grant := (s.arb.tool k).offer.getD (s.arb.tool k).grant, offer := none })
      ∧ (∀ k, settles (s.arb.tool k) → (s.arb.tool k).settling = true → .recompute ∈ t.signals)
      ∧ ((∀ k, a ∉ (s.arb.tool k).concerned) → t = s)
      ∧ (∀ k, a ∈ (s.arb.tool k).concerned → others (s.arb.tool k) = [] →
          (s.arb.tool k).depart a = { s.arb.tool k with
            concerned := [], held := 0, settling := false, settleDl := none, offerDl := none, offer := none
            grant := if (s.arb.tool k).offer.isSome then 0 else (s.arb.tool k).grant
            news := (s.arb.tool k).news || (s.arb.tool k).offer.isSome })
      ∧ (∀ k, a ∉ (s.arb.tool k).concerned ∨ others (s.arb.tool k) ≠ [] →
          (s.arb.tool k).depart a = { s.arb.tool k with concerned := others (s.arb.tool k) }))
  ∧ (∀ (a : Addr) (seq limit : Byte) (n : Node) (c : Cap) (s : State),
    s.pack.power = .active → s.line.tpwr ≠ .off → s.line.resetting = none → nodeAt s a = some n →
    n.pending = some c → s.line.await = some (.cap a) → s.line.idle ≤ 6 → c.seq = seq →
    limit.toNat ≤ c.body.limit → queued (.cap a c.body none) s = false →
    exec (.ack a seq limit) s = .next (conclude (reportAck a (setNode a
      (fun m => { m with ackLimit := limit.toNat, pending := none })
      { s with line := { s.line with await := none, idle := 0 } }))))

/-- What a change of the node list, of an applied record or of a stored field leads to (R27, R121, R122, R26): HEAD
has the lowest attached node that declares a brush, AUX the next, LAMP every one that declares a lamp; the floor class
in use is the HEAD member's, UNKNOWN and no member taken as HARD, and a new one goes to the governor; the claims are
those of the members' applied records, withdrawn by jam and fault; a change of the table starts a recompute. A node
that leaves the brush slots for none is sent a limit of 0. The yielding field of a claim withdrawn for want of a
member is the model's choice, log entry 48.

What a slot holds after membership is derived again (R27): a node that moves from one brush slot to the other takes
its grant, held value, offer and entry with it; one newly placed starts with none; and one that leaves for no slot
with current committed stays concerned, so that the slot is settling with that current held. How the deadlines and an
offer of a departing node go is the model's choice, log entry 29. -/
def Obligations.MembersClaimsAndTheFloorFollowTheNodes : Prop :=
  (∀ s : State,
    let t := refreshTools s
    let attached := s.line.nodes.filter (·.completed)
    let brushes := (attached.filter (fun n => (appliedRecord s n).any (fun r => decide (0 < r.brush)))).map (·.addr)
    let claims := fun (m : Option Addr) (sl : Slot) =>
      (∀ n r, m.bind (nodeAt s) = some n → appliedRecord s n = some r →
        sl.request = (if n.jam || n.fault then 0 else r.brush)
          ∧ sl.floor = (if n.jam || n.fault then 0 else min r.floor r.brush) ∧ sl.yielding = r.yielding)
      ∧ (m = none → sl.request = 0 ∧ sl.floor = 0 ∧ sl.yielding = false)
    t.arb.head.members.head? = brushes[0]? ∧ t.arb.aux.members.head? = brushes[1]?
      ∧ t.arb.lamp.members = (attached.filter
          (fun n => (appliedRecord s n).any (fun r => decide (0 < r.lamp)))).map (·.addr)
      ∧ claims brushes[0]? t.arb.head ∧ claims brushes[1]? t.arb.aux
      ∧ t.arb.lamp.request = ((t.arb.lamp.members.filterMap (nodeAt s)).map (fun n =>
          if n.lamp && !n.fault then ((appliedRecord s n).map (·.lamp)).getD 0 else 0)).sum
      ∧ t.arb.lamp.floor = t.arb.lamp.request ∧ t.arb.lamp.yielding = false
      ∧ t.line.floor = (match brushes[0]?.bind (nodeAt s) with
          | some n => if n.floor = .carpet then .carpet else .hard
          | none => .hard)
      ∧ t.gov = { s.gov with floor := if t.line.floor = s.line.floor then s.gov.floor else t.line.floor }
      ∧ t.arb.reserve = s.arb.reserve ∧ t.arb.suction = s.arb.suction ∧ t.line.nodes = s.line.nodes
      ∧ (t.arb ≠ s.arb → .recompute ∈ t.signals)
      ∧ (∀ x n, x ∈ s.arb.head.members ++ s.arb.aux.members → x ∉ t.arb.head.members →
          x ∉ t.arb.aux.members → nodeAt s x = some n → s.line.tpwr ≠ .off →
          ∃ b, .cap x b none ∈ t.line.queue ∧ b.limit = 0))
  ∧ (∀ (a : Arb) (newH newA : Option Addr) (listed : List Addr) (full : Bool),
    let b := a.reseatBrushes newH newA listed full
    let stays := fun (sl : Slot) => ∃ x, sl.members.head? = some x ∧ x ∈ listed ∧ some x ≠ newH
      ∧ some x ≠ newA ∧ 0 < max sl.grant sl.held
    let from? := fun (m : Option Addr) => m.bind (fun y => if y ∈ a.head.members then some a.head
      else if y ∈ a.aux.members then some a.aux else none)
    let taken := fun (old new : Slot) (m : Option Addr) (leaves : Prop) =>
      let kept := old.concerned.filter (fun x => some x != old.members.head?)
      new.members = m.toList
        ∧ (∀ y c, m = some y → from? m = some c → new.grant = c.grant ∧ new.offer = c.offer
            ∧ (¬leaves → kept = [] → new.held = c.held
                ∧ new.concerned = (if y ∈ c.concerned then [y] else [])
                ∧ new.settling = decide (y ∈ c.concerned))
            ∧ (leaves → new.held = max c.grant c.held + max old.grant old.held ∧ new.settling = true))
        ∧ (from? m = none → new.grant = 0 ∧ new.offer = none
            ∧ (¬leaves → kept = [] → new.held = 0 ∧ new.concerned = [] ∧ new.settling = false)
            ∧ (leaves → new.held = max old.grant old.held ∧ new.settling = true
                ∧ (full = true → new.settleDl = some (old.settleDl.getD 20))))
        ∧ (leaves → ∀ x, old.members.head? = some x → x ∈ new.concerned)
        ∧ new.request = old.request ∧ new.floor = old.floor ∧ new.target = old.target
    (a.head.members.head? = newH → b.head = a.head) ∧ (a.aux.members.head? = newA → b.aux = a.aux)
      ∧ (a.head.members.head? ≠ newH → taken a.head b.head newH (stays a.head))
      ∧ (a.aux.members.head? ≠ newA → taken a.aux b.aux newA (stays a.aux))
      ∧ b.lamp = a.lamp ∧ b.suction = a.suction ∧ b.reserve = a.reserve)

/-! ## Motor Drive -/

/-- A change of level on TRIG starts the 20 ms debounce timer from 0, in ACTIVE (R42); a level that is no
change does nothing (the model's choice, log entry 13).

A settled press with the five conditions of R43 met enters ARMING: gate test, 50 ms, the suction claim
active, the start-pending flag cleared (R43, R45).

A settled press that fails a condition is refused with the first cause that fails, in the order of R43,
and stays pending as R43 says; nothing else changes.

The first settling after a power-on reset is no press, whatever its level, and a level that settles as it was is none
(R42).

The repeated check of a pending press (R44), which an event takes in its place among the hand-overs: a start with the
conditions met; a cause that leaves the press pending changes nothing (that it records no cause is the model's choice,
log entry 45); any other refuses it. -/
def Obligations.APressStartsTheMotorOrIsRefused : Prop :=
  (∀ (b : Bool) (s : State), s.pack.power = .active →
    (b ≠ s.pins.trig → exec (.trigEdge b) s
      = .next (conclude { s with
          pins := { s.pins with trig := b }, drive := { s.drive with debounce := some 20 } }))
    ∧ (b = s.pins.trig → exec (.trigEdge b) s = .next (conclude s)))
  ∧ (∀ s : State, s.pack.power = .active → s.drive.debounce.isSome → s.drive.settlingIn = false →
    s.pins.trig = true → s.drive.trig = false →
    (mayStart s → exec .triggerDebounceExpiry s
      = .next (conclude (setActive true { s with drive := { armed s.drive with
          debounce := none, settlingIn := false, trig := true } })))
    ∧ (∀ c, refusedFor s c → exec .triggerDebounceExpiry s
      = .next (conclude { s with drive := { s.drive with
          debounce := none, settlingIn := false, trig := true, refused := c
          startPending := decide (leavesPending s c) } })))
  ∧ (∀ s : State, s.pack.power = .active → s.drive.debounce.isSome →
    s.drive.settlingIn = true ∨ s.pins.trig = s.drive.trig →
    exec .triggerDebounceExpiry s = .next (conclude { s with drive := { s.drive with
      debounce := none, settlingIn := false, trig := s.pins.trig } }))
  ∧ (∀ (s : State) (n : Nat) (rest : List Signal),
    drain (n + 1) { s with signals := .startCheck :: rest }
        = drain n (repeatCheck { s with signals := rest })
      ∧ (s.drive.startPending = false → repeatCheck s = s)
      ∧ (s.drive.startPending = true →
        (mayStart s → repeatCheck s = setActive true { s with drive := armed s.drive })
        ∧ ∀ c, refusedFor s c → (leavesPending s c → repeatCheck s = s)
          ∧ (¬leavesPending s c → repeatCheck s = { s with drive := { s.drive with
              refused := c, startPending := false } })))

/-- A settled release (R50, R55, R71): the stack collapses to its BASE entry in every state; a start under
way is aborted, RUN goes to STOPPING, FAULT is left when its timer has expired. -/
def Obligations.AReleaseActsByState : Prop :=
  ∀ s : State, s.powered → s.signals = [] → s.drive.debounce.isSome → s.drive.settlingIn = false →
    s.pins.trig = false → s.drive.trig = true →
    ∃ t, exec .triggerDebounceExpiry s = .next t
      ∧ t.drive.trig = false ∧ t.drive.startPending = false ∧ t.gov.stack = s.gov.stack.take 1
      ∧ (s.drive.state = .off ∨ s.drive.state = .stopping ∨ s.drive.state = .locked →
          t.drive.state = s.drive.state ∧ t.drive.stopCause = s.drive.stopCause)
      ∧ (s.drive.state = .arming ∨ s.drive.state = .align ∨ s.drive.state = .spinup →
          t.drive.state = .off ∧ t.drive.bridge = .off ∧ t.drive.stopCause = .trigger
            ∧ hasEvent .motorStopped t = true)
      ∧ (s.drive.state = .run →
          t.drive.state = .stopping ∧ t.drive.bridge = .braking ∧ t.drive.stopCause = .trigger
            ∧ t.drive.pset = 0 ∧ t.dirt.level = 0 ∧ t.dirt.window = none)
      ∧ (s.drive.state = .fault →
          t.drive.state = (if s.drive.faultTimer = none then .off else .fault))

/-- The way from ARMING to RUN (R45, R46, R47, R48, R94, R97): each timer and lock with its entry. That each is
taken whenever its state stands is the model's choice, log entry 2; the count of test pulses is the model's, log
entry 49.

The open-loop ramp and the lock (R47): the rate rises by 15 at each 10 ms, a crossing lengthens the run
and a miss ends it; with 24 crossings and 300 speed units RUN is entered, at a ramp step or at a commutation.

A commutation in RUN moves the drive level one step toward the set point under the ceiling (R48), and
nothing else; that the level has no bounds is the model's choice, log entry 40. -/
def Obligations.TheStartProceedsToRun : Prop :=
  (∀ s : State, s.powered →
    (s.drive.state = .arming → exec .armingTimerExpiry s
      = .next (conclude { s with drive := { s.drive.stopTimers with
          state := .align, bridge := .driving, alignTimer := some 30 } }))
    ∧ (s.drive.state = .align → exec .alignTimerExpiry s
      = .next (conclude { s with
          drive := { s.drive.stopTimers with
            state := .spinup, bridge := .driving, spinTimer := some 400, rampTimer := some 10
            rampRate := 30, driven := 0, drivenMs := 0, crossings := 0 }
          dirt := { s.dirt with echo := some 2, pulses := s.dirt.pulses + 1 } }))
    ∧ (s.drive.state = .spinup → exec .spinupLock s
      = .next (conclude (raise .motorStarted { s with
          drive := { s.drive.stopTimers with state := .run }
          dirt := { s.dirt with window := some ⟨100, 0, 0⟩ } }))))
  ∧ (∀ s : State, s.powered → s.drive.state = .spinup →
    (¬(24 ≤ s.drive.crossings ∧ 300 ≤ s.drive.rampRate + 15) → exec .openLoopRampStep s
      = .next (conclude { s with drive := { s.drive with
          rampRate := s.drive.rampRate + 15, rampTimer := some 10 } }))
    ∧ (24 ≤ s.drive.crossings ∧ 300 ≤ s.drive.rampRate + 15 →
        ∃ t, exec .openLoopRampStep s = .next t ∧ hasEvent .motorStarted t = true
          ∧ t.drive.rampRate = s.drive.rampRate + 15 ∧ (s.signals = [] → t.drive.state = .run))
    ∧ (∀ p i, exec (.commutation false p i) s
        = .next (conclude { s with drive := { s.drive with crossings := 0 } }))
    ∧ (∀ p i, ¬(24 ≤ s.drive.crossings + 1 ∧ 300 ≤ s.drive.rampRate) →
        exec (.commutation true p i) s
          = .next (conclude { s with drive := { s.drive with crossings := s.drive.crossings + 1 } }))
    ∧ (∀ p i, 24 ≤ s.drive.crossings + 1 → 300 ≤ s.drive.rampRate →
        ∃ t, exec (.commutation true p i) s = .next t ∧ hasEvent .motorStarted t = true
          ∧ (s.signals = [] → t.drive.state = .run)))
  ∧ (∀ (x : Bool) (p i : Nat) (s : State), s.powered → s.drive.state = .run →
    exec (.commutation x p i) s = .next (conclude { s with drive := { s.drive with
      level := if p < s.drive.pset ∧ i < s.drive.ceiling then s.drive.level + 1
        else if s.drive.pset < p ∨ s.drive.ceiling ≤ i then s.drive.level - 1
        else s.drive.level } }))

/-- A trip in a state in which it is checked (R53, R54): the history, the count, the cause, the events, and
FAULT or LOCKED by the three time stamps, the differences modulo 2^32. THERMAL is taken at the delivery of a
pack record with a die temperature above 125 °C, in the driving states and in STOPPING; that this check stands before
the stop orders which the same round brings is the model's order, log entry 6, as is log entry 2 that a trip's event is
taken whenever its state stands. -/
def Obligations.ATripIsRecorded : Prop :=
  ∀ (s : State) (c : Instr) (cause : TripCause), s.powered →
    ((c = .motorOvercurrent ∧ cause = .overcurrent
        ∧ (s.drive.state.drives = true
            ∨ (s.drive.state = .stopping ∧ s.drive.bridge ≠ .off)))
      ∨ (c = .stallTimerExpiry ∧ cause = .stall ∧ s.drive.state = .run
          ∧ s.drive.stallTimer.isSome)
      ∨ (c = .syncMiss ∧ cause = .sync ∧ s.drive.state = .run)
      ∨ (∃ r, c = .packRound r ∧ cause = .thermal ∧ 125 < r.die
          ∧ (s.drive.state.drives = true ∨ s.drive.state = .stopping))
      ∨ (c = .gateTestFail ∧ cause = .gateTest ∧ s.drive.state = .arming)
      ∨ (c = .startFail ∧ cause = .startFail ∧ s.drive.state = .spinup)) →
    ∃ t last, exec c s = .next t
      ∧ last = (⟨cause, s.drive.clock, s.drive.state⟩ : Trip)
      ∧ t.drive.trips = (if s.drive.trips.length < 3 then s.drive.trips else s.drive.trips.tail) ++ [last]
      ∧ t.drive.tripCause = cause
      ∧ t.drive.tripCount = (if s.drive.tripCount < 65535 then s.drive.tripCount + 1 else 65535)
      ∧ t.drive.bridge = .off ∧ t.drive.startPending = false
      ∧ t.drive.stopCause = s.drive.stopCause
      ∧ hasEvent .motorFault t = true
      ∧ (∀ a b, t.drive.trips = [a, b, last] → (last.time - a.time).toNat ≤ 10000 →
          t.drive.state = .locked ∧ hasEvent .motorLocked t = true ∧ t.drive.faultTimer = none)
      ∧ ((∀ a b, t.drive.trips = [a, b, last] → 10000 < (last.time - a.time).toNat) →
          t.drive.state = .fault ∧ t.drive.faultTimer = some 500)

/-- The end of a stop (R52): the rotor at rest or the coast timer's expiry enters OFF and raises MOTOR_STOPPED; a lost
back-EMF lock switches the bridge off and starts the 500 ms coast timer. A press that is pending is checked again at
that entry, as the last of what the entry hands over (R44).

FAULT_TIMER_EXPIRY (R55): FAULT is left for OFF with the trigger released, and stays with it pressed. -/
def Obligations.AStopAndAFaultEnd : Prop :=
  (∀ s : State, s.powered → s.drive.state = .stopping →
    (s.drive.bridge = .braking → s.drive.startPending = false → ∃ t, exec .rotorAtRest s = .next t
      ∧ t.drive.state = .off ∧ t.drive.bridge = .off ∧ t.drive.stopCause = s.drive.stopCause
      ∧ hasEvent .motorStopped t = true ∧ t.drive.trips = s.drive.trips)
    ∧ (s.drive.coastTimer.isSome → s.drive.startPending = false →
        ∃ t, exec .coastTimerExpiry s = .next t
          ∧ t.drive.state = .off ∧ t.drive.coastTimer = none ∧ t.drive.stopCause = s.drive.stopCause
          ∧ hasEvent .motorStopped t = true ∧ t.drive.trips = s.drive.trips)
    ∧ (∀ c, s.drive.startPending = true →
        (c = .rotorAtRest ∧ s.drive.bridge = .braking) ∨ (c = .coastTimerExpiry ∧ s.drive.coastTimer.isSome) →
        ∃ u, exec c s = .next (conclude u) ∧ u.signals.getLast? = some .startCheck
          ∧ u.drive.state = .off ∧ u.drive.bridge = .off ∧ u.drive.startPending = true
          ∧ u.drive.stopCause = s.drive.stopCause ∧ hasEvent .motorStopped u = true)
    ∧ (s.drive.bridge = .braking → exec .lossOfBackEmfLock s
        = .next (conclude { s with drive := { s.drive with bridge := .off, coastTimer := some 500 } })))
  ∧ (∀ s : State, s.powered → s.drive.state = .fault → s.drive.faultTimer.isSome →
    (s.drive.trig = true → exec .faultTimerExpiry s
      = .next (conclude { s with drive := { s.drive with faultTimer := none } }))
    ∧ (s.drive.trig = false → s.drive.startPending = false → ∃ t, exec .faultTimerExpiry s = .next t
      ∧ t.drive.state = .off ∧ t.drive.faultTimer = none ∧ t.drive.trips = s.drive.trips
      ∧ t.drive.tripCause = s.drive.tripCause)
    ∧ (s.drive.trig = false → ∃ u, exec .faultTimerExpiry s = .next (conclude u)
      ∧ u.drive.state = .off ∧ u.drive.faultTimer = none ∧ u.drive.startPending = s.drive.startPending))

/-! ## Suction Governor, Airflow Load Monitor, Dirt Monitor -/

/-- The power request and the claim of a governor step (R73, R74), in every motor state, with the boost level taken
from the Dirt Monitor in RUN and held otherwise (R79). A claim that differs from the one last delivered goes into the
SUCTION slot, the first one after a reset with the active flag, and starts a recompute; a press that is pending is
checked again where that changes the floor (R26, R44, R80; the form of the first delivery is log entry 44).

The measurement record of the step in SPINUP (R49): its speed is that of the mean period driven since the last record
(taken as the mean of the rate over that time, DEDUCED, log entry 52).

The set point of a step (R75, R78): in SPINUP and RUN it goes at once down to P_eff, or up to it by at most the
profile's ramp; P_eff is the smaller of the request and the cap from the grant the step holds reduced by the derate in
force, and the set point is never beyond them. Elsewhere it is 0. The ceiling is formed in every state, and both go to
the drive.

A change of the grant or of the derate (R76, R77): the set point is at once within the cap and does not rise; the
ceiling goes to the drive. P_req is the one the last step formed: R76 taken before R66, the model's choice, log entry
46. A changed SUCTION grant of a recompute and a changed derate are handed over so; a grant of 0 to a driving motor is
the stop order STARVED. -/
def Obligations.AGovernorStepFormsRequestAndSetPoint : Prop :=
  (∀ (i p : Nat) (s : State), s.powered → s.gov.step.isSome →
    ∃ t, exec (.governorStep i p) s = .next t
      ∧ t.gov.step = some 10
      ∧ t.gov.boost = (if s.drive.state = .run then s.dirt.level else s.gov.boost)
      ∧ t.gov.pBase = (if s.gov.floor = .carpet then (activeProfile s.gov).carpet
          else (activeProfile s.gov).hard)
      ∧ t.gov.boostPct = (if (activeProfile s.gov).auto = false ∨ s.dirt.status = .absent
            ∨ s.load.cls = .blocked then 0 else (activeProfile s.gov).gain * t.gov.boost * 5)
      ∧ t.gov.pReq = min 600 (max (t.gov.pBase * (100 + t.gov.boostPct) / 100 * s.gov.factor / 100)
          (activeProfile s.gov).floor)
      ∧ (let v := match s.pack.record with
          | some r => max r.vpack 10000
          | none => 10000
         t.gov.claimReq = (t.gov.pReq * 1000000 + v - 1) / v
           ∧ t.gov.claimFloor = ((activeProfile s.gov).floor * 1000000 + v - 1) / v
           ∧ t.gov.delivered = true))
  ∧ (∀ (i p : Nat) (s : State), s.powered → s.gov.step.isSome →
    let u := loadStep s.gov.pset s.gov.ramping
      (measure i p (governorWork { s with gov := { s.gov with step := some 10 } }))
    let t := conclude u
    let ramp := (activeProfile s.gov).ramp
    let cap := s.gov.grant * packVolts s / 1000000 * s.watch.derate / 100
    let peff := min u.gov.pReq cap
    exec (.governorStep i p) s = .next t
      ∧ (s.drive.state = .spinup ∨ s.drive.state = .run →
          u.gov.pset = (if peff < s.gov.pset then peff else s.gov.pset + min ramp (peff - s.gov.pset))
          ∧ u.gov.ramping = decide (u.gov.pset < peff)
          ∧ t.gov.pset ≤ u.gov.pset ∧ t.gov.pset ≤ s.gov.pset + ramp
          ∧ t.gov.pset ≤ t.gov.pReq ∧ t.gov.pset ≤ cap)
      ∧ (s.drive.state ≠ .spinup → s.drive.state ≠ .run → u.gov.pset = 0 ∧ t.gov.pset = 0)
      ∧ u.gov.ceiling = s.gov.grant * s.watch.derate / 100
      ∧ u.drive.pset = u.gov.pset ∧ u.drive.ceiling = u.gov.ceiling
      ∧ (let same := s.gov.delivered = true ∧ u.gov.claimReq = s.gov.claimReq
           ∧ u.gov.claimFloor = s.gov.claimFloor
         (same → u.arb = s.arb)
         ∧ (¬same → u.arb = { s.arb with
                active := if s.gov.delivered then s.arb.active else !s.drive.state.atRest
                suction := { s.arb.suction with
                  request := u.gov.claimReq, floor := min u.gov.claimFloor u.gov.claimReq } }
              ∧ .recompute ∈ u.signals
              ∧ (s.drive.startPending = true → u.arb.suction.floor ≠ s.arb.suction.floor →
                  .startCheck ∈ u.signals)))
      ∧ (s.drive.state = .spinup → u.drive.speed = some (if s.drive.drivenMs = 0 then s.drive.rampRate
          else s.drive.driven / s.drive.drivenMs))
      ∧ u.drive.driven = 0 ∧ u.drive.drivenMs = 0)
  ∧ (∀ s : State,
    let t := limitSetPoint s
    t.drive.ceiling = s.gov.grant * s.watch.derate / 100 ∧ t.gov.ceiling = t.drive.ceiling
      ∧ (s.drive.state = .spinup ∨ s.drive.state = .run →
          t.gov.pset = min s.gov.pset (min s.gov.pReq
            (s.gov.grant * packVolts s / 1000000 * s.watch.derate / 100))
          ∧ t.drive.pset = t.gov.pset)
      ∧ (s.drive.state ≠ .spinup → s.drive.state ≠ .run →
          t.gov.pset = s.gov.pset ∧ t.drive.pset = s.drive.pset)
      ∧ t.gov.stack = s.gov.stack ∧ t.arb = s.arb ∧ t.pack = s.pack ∧ t.load = s.load)
  ∧ (∀ (g : Nat) (s : State),
    let held := { s with gov := { s.gov with grant := g } }
    (g ≠ 0 ∨ s.drive.state.drives = false → grantArrives g s
        = limitSetPoint (if s.drive.startPending then emit .startCheck held else held))
    ∧ (g = 0 → s.drive.state.drives = true →
        let t := grantArrives g s
        t.gov.grant = 0 ∧ t.gov.pset = 0 ∧ t.drive.pset = 0 ∧ t.gov.stopStarved = true
          ∧ t.drive.stopCause = .starved ∧ t.drive.state.drives = false))
  ∧ (∀ s : State, (recomputeNow s).gov.grant = (recomputeNow s).arb.suction.grant)
  ∧ (∀ s : State, pauseOrdered s.watch.recs.toList = s.watch.pauseOrder →
    let d := derateInForce s.watch.recs.toList
    handWatch s = (if d = s.watch.derate then s
      else limitSetPoint { s with watch := { s.watch with derate := d } }))

/-- The pulse timer (R87): a made push is popped; BLOCKED goes to WAIT for 1 s, any other class ends the
phase with the attempt count kept.

The wait timer (R86, R88): the next attempt, with its clear push where the stack has room; after the third
a stop order BLOCKED and BLOCKAGE.

A step in RUN (R49, R81, R82, R84, R85): the power and the speed of its record, the load ratio against the
expected speed where the set point stood and the power has reached it, and with a ratio the sustain counts and
the class in the order of R85; without one nothing of them changes. A change of class restarts the counts, but
the block count runs on into RESTRICTED (Section 5.8; log entry 43). A change to BLOCKED outside a pulse starts an
attempt, with its clear push where the stack has room, or after three ends the episode with a stop order and BLOCKAGE;
a change to another class ends a WAIT, and CLEAR sets the attempt count to 0 (R86, R88).

The speed of a record in which no commutation fell is NONE by the model's choice (log entry 45). The mark of a made
push stays as it was while no attempt is present, the model's choice too (log entry 47). -/
def Obligations.AnEpisodeRunsOnItsClass : Prop :=
  (∀ s : State, s.powered → s.signals = [] → s.load.phase = .pulse →
    ∃ t, exec .pulseTimerExpiry s = .next t
      ∧ t.gov.stack = (if s.load.pushMade = true ∧ topOrigin s.gov = some .clear
          then s.gov.stack.dropLast else s.gov.stack)
      ∧ t.load = (if s.load.cls = .blocked then { s.load with phase := .wait, timer := some 1000 }
          else { s.load with phase := .none, timer := none })
      ∧ t.drive = s.drive ∧ t.arb = s.arb)
  ∧ (∀ s : State, s.powered → s.signals = [] → s.load.phase = .wait →
    (s.load.attempts < 3 → ∃ t, exec .waitTimerExpiry s = .next t
      ∧ t.load = { s.load with
          attempts := s.load.attempts + 1, phase := .pulse, timer := some 600
          pushMade := decide (s.gov.stack.length < 4) && !hasClear s.gov.stack }
      ∧ t.gov.stack = (if t.load.pushMade = true then s.gov.stack ++ [⟨15, .clear⟩] else s.gov.stack)
      ∧ t.drive = s.drive)
    ∧ (3 ≤ s.load.attempts → ∃ t, exec .waitTimerExpiry s = .next t
      ∧ hasEvent .blockage t = true ∧ t.load.phase = .none ∧ t.load.timer = none
      ∧ (s.drive.state = .run → t.drive.state = .stopping ∧ t.drive.stopCause = .blocked
          ∧ t.load.cls = .clear ∧ t.load.attempts = 0 ∧ t.load.ratio = none)))
  ∧ (∀ (i p : Nat) (s : State), s.powered → s.gov.step.isSome → s.drive.state = .run →
    let u := loadStep s.gov.pset s.gov.ramping
      (measure i p (governorWork { s with gov := { s.gov with step := some 10 } }))
    let pm := packVolts s * min 40000 i / 1000000
    let n := expectedSpeed s.gov.curve s.gov.pset
    let l := min 32767 (100000 / p * 100 / n.toNat)
    let tracked := s.drive.bridge ≠ .off ∧ 0 < p ∧ 0 < s.gov.pset ∧ s.gov.ramping = false
      ∧ (pm - s.gov.pset) + (s.gov.pset - pm) ≤ s.gov.pset / 10 ∧ 0 < n
    exec (.governorStep i p) s = .next (conclude u)
      ∧ u.drive.pMeas = (if s.drive.bridge = .off then none else some pm)
      ∧ u.drive.speed = (if 0 < p then some (100000 / p) else none)
      ∧ u.load.expected = some n
      ∧ .update .loadPct (reportNat u.load.ratio) ∈ u.signals
      ∧ (¬tracked → u.load = { s.load with ratio := none, expected := some n })
      ∧ (tracked → u.load.ratio = some l
        ∧ (let up := fun (q : Prop) [Decidable q] (k : Nat) => if q then min 255 (k + 1) else 0
           let pct := s.load.blockPct
           let rise := up (s.load.cls = .clear ∧ pct - 8 ≤ l) s.load.rise
           let block := up (s.load.cls ≠ .blocked ∧ pct ≤ l) s.load.block
           let release := up ((s.load.cls = .restricted ∧ l < pct - 12)
             ∨ (s.load.cls = .blocked ∧ l < pct - 6)) s.load.release
           let new := match s.load.cls with
             | .clear => if s.load.blockMs / 10 ≤ block then .blocked
                 else if 20 ≤ rise then .restricted else .clear
             | .restricted => if s.load.blockMs / 10 ≤ block then .blocked
                 else if 30 ≤ release then .clear else .restricted
             | .blocked => if 30 ≤ release then (if l < pct - 12 then .clear else .restricted)
                 else BlockClass.blocked
           u.load.cls = new
             ∧ (new = s.load.cls → u.load = { s.load with
                 rise := rise, block := block, release := release, ratio := some l, expected := some n })
             ∧ (new = .blocked → s.load.cls ≠ .blocked → s.load.phase = .pulse →
                 u.load.attempts = s.load.attempts ∧ u.load.phase = .pulse ∧ u.load.timer = s.load.timer)
             ∧ (new = .blocked → s.load.cls ≠ .blocked → s.load.phase ≠ .pulse → s.load.attempts < 3 →
                 u.load.attempts = s.load.attempts + 1 ∧ u.load.phase = .pulse ∧ u.load.timer = some 600
                 ∧ u.load.pushMade = (decide (s.gov.stack.length < 4) && !hasClear s.gov.stack)
                 ∧ u.gov.stack = (if u.load.pushMade then s.gov.stack ++ [⟨15, .clear⟩] else s.gov.stack))
             ∧ (new = .blocked → s.load.cls ≠ .blocked → s.load.phase ≠ .pulse → 3 ≤ s.load.attempts →
                 u.load.attempts = s.load.attempts ∧ u.load.phase = .none ∧ u.load.timer = none
                 ∧ .stop .blocked ∈ u.signals ∧ hasEvent .blockage u = true)
             ∧ (new ≠ .blocked → new ≠ s.load.cls →
                 u.load.attempts = (if new = .clear then 0 else s.load.attempts)
                 ∧ (s.load.phase = .wait → u.load.phase = .none ∧ u.load.timer = none)
                 ∧ (s.load.phase ≠ .wait → u.load.phase = s.load.phase ∧ u.load.timer = s.load.timer))
             ∧ (new ≠ s.load.cls → u.load.rise = 0 ∧ u.load.release = 0
                 ∧ u.load.block = if new = .restricted then block else 0))))
  ∧ (∀ (c : Curve) (p : Nat),
    (p ≤ 100 → expectedSpeed c p = c.s1) ∧ (550 ≤ p → expectedSpeed c p = c.s4)
    ∧ (100 < p → p < 250 →
        expectedSpeed c p = c.s1 + ((p : Int) - 100) * ((c.s2 : Int) - c.s1) / 150)
    ∧ (250 ≤ p → p < 400 →
        expectedSpeed c p = c.s2 + ((p : Int) - 250) * ((c.s3 : Int) - c.s2) / 150)
    ∧ (400 ≤ p → p < 550 →
        expectedSpeed c p = c.s3 + ((p : Int) - 400) * ((c.s4 : Int) - c.s3) / 150))

/-- The echo of the self-test and its absence (R94, R95).

An impact is counted in the window in which it ends, large at or above the level, and each count saturates;
a peak not above the 40 mV of the detection level is none, and one in progress when a window was discarded is not
counted (R96). That the command says which impact that is, and that one which began with no window open is counted, is
the model's choice, log entry 66.

What a window end stores and adds to the bin (R98, R103, R104): W, F, the rate R, the bin held at its capacity
with BIN_SAT, the full flag and BIN_FULL.

What it does to the level (R95, R99 to R101): with the sensor ABSENT it is 0 and there is no rate; with the
airflow class not CLEAR it is held, counters and all; otherwise the rules of the rate move it. A moved level
raises DIRT_LEVEL, and the rate and the bin are delivered.

The rise rule and the fall rule on one window's rate (R99, R100): the first window above the level is remembered and
leaves it, the second raises it to the smaller candidate, and it falls by one at the tenth window below three quarters
of its threshold; level 0 with a rate below t1 stays. -/
def Obligations.DirtIsCountedAndRated : Prop :=
  (∀ s : State, s.powered → s.dirt.echo.isSome →
    exec .piezoEcho s
      = .next (conclude { s with dirt := { s.dirt with echo := none, status := .present } })
    ∧ (s.drive.state ≠ .run → s.dirt.status ≠ .absent → exec .echoTimerExpiry s
      = .next (conclude (raise .dirtSensor
          { s with dirt := { s.dirt with echo := none, status := .absent } })))
    ∧ (s.drive.state ≠ .run → s.dirt.status = .absent → exec .echoTimerExpiry s
      = .next (conclude { s with dirt := { s.dirt with echo := none } }))
    ∧ (s.drive.state = .run → ∃ t, exec .echoTimerExpiry s = .next t
      ∧ t.dirt.status = .absent ∧ t.dirt.echo = none ∧ t.dirt.level = 0
      ∧ (0 < s.dirt.level → hasEvent .dirtLevel t = true)
      ∧ (s.dirt.status ≠ .absent → hasEvent .dirtSensor t = true) ∧ t.dirt.bin = s.dirt.bin))
  ∧ (∀ (amplitude : Nat) (w : Window) (s : State), s.powered → s.dirt.window = some w →
    (40 < amplitude → exec (.impactEnd ⟨amplitude, false⟩) s = .next (conclude { s with dirt := { s.dirt with
      window := some (if s.dirt.large ≤ amplitude
        then { w with large := if w.large < 65535 then w.large + 1 else 65535 }
        else { w with small := if w.small < 65535 then w.small + 1 else 65535 }) } }))
    ∧ exec (.impactEnd ⟨amplitude, true⟩) s = .next (conclude s)
    ∧ (amplitude ≤ 40 → exec (.impactEnd ⟨amplitude, false⟩) s = .next (conclude s)))
  ∧ (∀ (w : Window) (s : State), s.powered → s.dirt.window = some w →
    let u := windowEnd w s
    let t := conclude u
    let r := min 32767 ((w.small + 4 * w.large) * 100 / min 100 (max 10 (s.gov.pset * 100 / 500)))
    exec .windowEnd s = .next t
      ∧ u.dirt.window = some ⟨100, 0, 0⟩
      ∧ (s.dirt.status = .absent → u.dirt.rate = none ∧ u.dirt.level = 0)
      ∧ (s.dirt.status ≠ .absent → u.dirt.rate = some r
          ∧ (s.load.cls ≠ .clear → u.dirt.level = s.dirt.level ∧ u.dirt.rise = s.dirt.rise
              ∧ u.dirt.cand = s.dirt.cand ∧ u.dirt.fall = s.dirt.fall)
          ∧ (s.load.cls = .clear → u.dirt.level = (classify r s.dirt).level
              ∧ u.dirt.rise = (classify r s.dirt).rise ∧ u.dirt.cand = (classify r s.dirt).cand
              ∧ u.dirt.fall = (classify r s.dirt).fall))
      ∧ u.dirt.heldLevel = decide (s.load.cls ≠ .clear)
      ∧ (u.dirt.level ≠ s.dirt.level → hasEvent .dirtLevel t = true)
      ∧ (t.dirt.level = u.dirt.level ∨ t.dirt.level = 0)
      ∧ u.signals = s.signals ++ [.update .dirtRate (reportNat u.dirt.rate),
          .update .binPct (report (some (u.dirt.bin * 100 / u.dirt.capacity)))]
      ∧ t.dirt.lastSmall = w.small ∧ t.dirt.lastLarge = w.large
      ∧ t.dirt.lastW = w.small + 4 * w.large
      ∧ t.dirt.lastF = min 100 (max 10 (s.gov.pset * 100 / 500))
      ∧ (s.dirt.status = .present →
          t.dirt.bin = min (s.dirt.bin + (w.small + 4 * w.large)) s.dirt.capacity
          ∧ t.dirt.sat = (s.dirt.sat || decide (s.dirt.capacity ≤ s.dirt.bin + (w.small + 4 * w.large))))
      ∧ (s.dirt.status ≠ .present → t.dirt.bin = s.dirt.bin ∧ t.dirt.sat = s.dirt.sat)
      ∧ t.dirt.full = decide (s.dirt.fullPct ≤ t.dirt.bin * 100 / s.dirt.capacity)
      ∧ (t.dirt.full = true → s.dirt.full = false → hasEvent .binFull t = true)
      ∧ t.dirt.status = s.dirt.status ∧ t.dirt.capacity = s.dirt.capacity)
  ∧ (∀ (d : Dirt) (r : Nat), d.level ≤ 3 →
    let c := if d.t3 ≤ r then 3 else if d.t2 ≤ r then 2 else if d.t1 ≤ r then 1 else 0
    let fall := (if d.level = 1 then d.t1 else if d.level = 2 then d.t2 else d.t3) * 3 / 4
    (d.level < c → d.rise ≠ 0 →
      classify r d = { d with level := min d.cand c, rise := 0, cand := 0, fall := 0 })
    ∧ (d.t1 < d.t2 → d.t2 < d.t3 → d.level < c → d.rise = 0 →
      classify r d = { d with rise := 1, cand := c, fall := if d.level = 0 then d.fall else 0 })
    ∧ (d.level = 0 → c = 0 → classify r d = { d with rise := 0, cand := 0 })
    ∧ (c ≤ d.level → (classify r d).rise = 0 ∧ (classify r d).cand = 0
        ∧ (0 < d.level → r < fall → d.fall < 9 →
            (classify r d).level = d.level ∧ (classify r d).fall = d.fall + 1)
        ∧ (0 < d.level → r < fall → 9 ≤ d.fall →
            (classify r d).level = d.level - 1 ∧ (classify r d).fall = 0)
        ∧ (0 < d.level → fall ≤ r → (classify r d).level = d.level ∧ (classify r d).fall = 0)))

/-! ## The tool line and the record table -/

/-- The master's own frames (R111, R113, R123): the end of a line reset, a frame sent to its end with the reply window
it opens, and a lost frame kept for the next attempt (a newer frame of its kind and address replaces it: the model's
choice, log entry 26; a POLL so replaced is a missed poll, R117). A frame whose node has gone meanwhile, and a CAP
across a change of level, are treated like any other, the model's choice, log entries 53 and 27.

TOOL_MASTER_SEND on a free line with an idle count of 8 or more (R110, R111, R114, R123, R124): a lost frame goes
first, then ASSIGN before CAP before POLL, each lowest address first; a CAP without a number is given the next one and
becomes the pending cap, and one sent again keeps its number and contents; below 8 nothing is sent. Its bits follow in
the bit periods after it.

MASTER_LOSS_LIMIT with the loss count at 8 (R111, R113, R118): a line reset, its list and quarantine emptied, the 2 ms
drive, and TOOL_DETACH for nodes that had completed assignment. -/
def Obligations.TheMasterSendsAndKeepsTheLine : Prop :=
  (∀ s : State, s.powered →
    (s.line.resetting.isSome → exec .lineResetEnd s
      = .next (conclude { s with line := { s.line with resetting := none, idle := 0 } }))
    ∧ (∀ f, s.line.wire = some f → exec .toolMasterFrameEnd s
      = .next (conclude { s with line := { s.line with
          wire := none, bits := [], losses := 0, idle := 0
          await := match f with
            | .poll a => some (.poll a)
            | .cap a _ _ => some (.cap a)
            | .assign _ _ => none } }))
    ∧ (∀ f, s.line.wire = some f → s.line.queue.any (fun g => g.sameSlot f) = false →
        exec .arbitrationLoss s
          = .next (conclude { s with line := { s.line with
              wire := none, bits := [], losses := s.line.losses + 1, idle := 0, lost := some f } }))
    ∧ (∀ f, s.line.wire = some f → s.line.queue.any (fun g => g.sameSlot f) = true →
        (∀ a, f ≠ .poll a) → exec .arbitrationLoss s
          = .next (conclude { s with line := { s.line with
              wire := none, bits := [], losses := s.line.losses + 1, idle := 0 } }))
    ∧ (∀ a n, s.line.wire = some (.poll a) → .poll a ∈ s.line.queue → nodeAt s a = some n →
        n.missed < 2 → exec .arbitrationLoss s = .next (conclude (setNode a (fun m => { m with
            missed := m.missed + 1
            state := if m.state = .assigning then .assigning else .silent })
          { s with line := { s.line with
              wire := none, bits := [], losses := s.line.losses + 1, idle := 0 } }))))
  ∧ (∀ s : State, s.pack.power = .active → s.line.tpwr ≠ .off → s.line.resetting = none →
    s.line.wire = none → s.line.await = none → s.line.losses < 8 →
    (s.line.idle < 8 → exec .toolMasterSend s = .next (conclude s))
    ∧ (8 ≤ s.line.idle →
    (∀ f, s.line.lost = some f → (∀ a b, f ≠ .cap a b none) →
        exec .toolMasterSend s = .next (conclude { s with line := { s.line with
          lost := none, wire := some f, bits := f.bits, idle := 0 } }))
    ∧ (∀ a b m, s.line.lost = some (.cap a b none) → nodeAt s a = some m →
        exec .toolMasterSend s = .next (conclude (setNode a
          (fun n => { n with seq := m.seq + 1, pending := some ⟨b, m.seq + 1⟩ })
          { s with line := { s.line with
              lost := none, wire := some (.cap a b (some (m.seq + 1)))
              bits := TxFrame.bits (.cap a b (some (m.seq + 1))), idle := 0 } })))
    ∧ (s.line.lost = none → s.line.queue ≠ [] → ∃ t f, exec .toolMasterSend s = .next t
        ∧ f ∈ s.line.queue ∧ (∀ g ∈ s.line.queue, g.before f = false)
        ∧ (s.signals = [] → t.line.queue = s.line.queue.filter (fun g => !g.sameSlot f))
        ∧ t.line.idle = 0 ∧ t.line.wire.map TxFrame.bits = some t.line.bits
        ∧ (∀ a n, f = .poll a ∨ f = .assign a n → t.line.wire = some f)
        ∧ (∀ a b n, f = .cap a b (some n) → t.line.wire = some f
            ∧ (s.signals = [] → t.line.nodes = s.line.nodes))
        ∧ (∀ a b m, f = .cap a b none → nodeAt s a = some m →
            t.line.wire = some (.cap a b (some (m.seq + 1)))
            ∧ (s.signals = [] → ∃ m', nodeAt t a = some m' ∧ m'.seq = m.seq + 1
                ∧ m'.pending = some ⟨b, m.seq + 1⟩)))))
  ∧ (∀ s : State, s.powered → nodeLaw s → 8 ≤ s.line.losses → ∃ t, exec .masterLossLimit s = .next t
    ∧ t.line.nodes = [] ∧ t.line.queue = [] ∧ t.line.wire = none ∧ t.line.quarantine = []
    ∧ t.line.losses = 0 ∧ t.line.resetting = some 40 ∧ t.line.idle = 0
    ∧ (s.line.tpwr = .full → t.line.tpwr = .signal)
    ∧ (s.line.nodes.any (·.completed) = true → hasEvent .toolDetach t = true)
    ∧ t.tools.slots = s.tools.slots ∧ t.tools.order = s.tools.order ∧ t.pack = s.pack)

/-- ANNOUNCE (R112, R115): a new serial takes the lowest address free of list and quarantine, with the fields of R115,
and its place in address order, every other entry as it was; a full list, another sender and a wrong count of
descriptors leave everything but the idle count as it is, which a frame on the line restarts (R110).

A serial that an entry holds (cases 1 and 2 of R115): the ASSIGN with its address and a POLL after it are queued, each
in the place of an unsent one; an entry in ACTIVE or SILENT becomes ASSIGNING with its missed polls at 0, everything
else of it, its claims and its membership kept; an unsent POLL that is replaced counts as missed (R114, R117). With
every address held or quarantined (case 4) the ANNOUNCE is ignored.

The brush limit last acknowledged, which R115 does not list, is 0 in a new entry by the model's choice (log entry 54).
That an ANNOUNCE inside a reply window leaves the window open is the model's choice too (log entry 34). -/
def Obligations.AnAnnounceIsAssigned : Prop :=
  ∀ (a : Addr) (serial : Serial) (descs : List Byte) (s : State),
    s.pack.power = .active → s.line.tpwr ≠ .off → s.line.resetting = none →
    (1 ≤ descs.length → descs.length ≤ 4 → s.signals = [] →
      (∀ n ∈ s.line.nodes, n.serial ≠ serial) → s.line.nodes.length < 4 →
      1 ≤ a.toNat → a.toNat ≤ 4 →
      (∀ b : Addr, (b = a ∨ (1 ≤ b.toNat ∧ b.toNat < a.toNat)) →
        (b = a ↔ (∀ n ∈ s.line.nodes, n.addr ≠ b) ∧ (∀ q ∈ s.line.quarantine, q.addr ≠ b))) →
      queued (.poll a) s = false →
      ∃ t n, exec (.announce 15 serial descs) s = .next t ∧ nodeAt t a = some n
        ∧ n = { addr := a, serial := serial, descs := descs, state := .assigning, completed := false
                missed := 0, seq := 0, pending := none, ackLimit := 0, jam := false, lamp := false
                fault := false, floor := .unknown, brushMa := none, poll := 40, applied := .none
                mismatch := false }
        ∧ .assign a serial ∈ t.line.queue ∧ .poll a ∈ t.line.queue
        ∧ t.line.nodes.length = s.line.nodes.length + 1 ∧ t.tools = s.tools ∧ t.arb = s.arb
        ∧ t.line.nodes.filter (fun m => m.addr != a) = s.line.nodes ∧ (nodeLaw s → nodeLaw t))
    ∧ ((∀ n ∈ s.line.nodes, n.serial ≠ serial) → 4 ≤ s.line.nodes.length →
        1 ≤ descs.length → descs.length ≤ 4 →
        exec (.announce 15 serial descs) s
          = .next (conclude { s with line := { s.line with idle := 0 } }))
    ∧ (∀ n ∈ s.line.nodes, n.serial = serial → nodeLaw s → 1 ≤ descs.length → descs.length ≤ 4 →
        let missed := if queued (.poll n.addr) s then 1 else 0
        let again := fun (g : TxFrame) =>
          g.sameSlot (.assign n.addr serial) || g.sameSlot (.poll n.addr)
        (n.state = .assigning → n.missed + missed < 3) →
        exec (.announce 15 serial descs) s = .next (conclude { s with line := { s.line with
          idle := 0
          queue := s.line.queue.filter (fun g => !again g) ++ [.assign n.addr serial, .poll n.addr]
          lost := s.line.lost.filter (fun g => !again g)
          nodes := s.line.nodes.map (fun m => if m.addr = n.addr then { m with
            state := .assigning
            missed := (if n.state = .assigning then m.missed else 0) + missed } else m) } }))
    ∧ ((∀ n ∈ s.line.nodes, n.serial ≠ serial) → 1 ≤ descs.length → descs.length ≤ 4 →
        (∀ b : Addr, 1 ≤ b.toNat → b.toNat ≤ 4 →
          (∃ n ∈ s.line.nodes, n.addr = b) ∨ ∃ q ∈ s.line.quarantine, q.addr = b) →
        exec (.announce 15 serial descs) s
          = .next (conclude { s with line := { s.line with idle := 0 } }))
    ∧ (a ≠ 15 ∨ descs.length = 0 ∨ 4 < descs.length →
        exec (.announce a serial descs) s
          = .next (conclude { s with line := { s.line with idle := 0 } }))

/-- STATUS in the reply window of a POLL to its sender, the idle count at most 6 (R111, R112, R116, R117, R119): the
entry is ACTIVE with no missed poll and holds the fields, a jam flag only where its applied record declares a brush
and a lamp flag only where it declares a lamp; a jam flag that becomes set raises BRUSH_JAM (R120). At a first
completion that record is the one the lookup gives (R116, R130). Any other STATUS is discarded: it restarts the idle
count, and a window that is open closes with no reply (R110, R112). That the window is open up to a count of 6 and a
frame falls at one moment is the model's reading, log entry 34.

What a STATUS leads to (R116, R119): from the HEAD member one update of BRUSH_MA, from any other none; at a completed
assignment a CAP with the node's present values, where the entry was assigned anew in every case, and at a first
completion where its applied record declares a brush or a lamp. -/
def Obligations.AStatusIsStored : Prop :=
  ∀ (a : Addr) (brush : Half) (floor : BitVec 2) (jam lamp fault : Bool) (n : Node) (s : State),
    s.pack.power = .active → s.line.tpwr ≠ .off → s.line.resetting = none →
    (nodeAt s a = some n → s.line.await = some (.poll a) → s.line.idle ≤ 6 →
      ∃ t m, exec (.status a brush floor jam lamp fault) s = .next t ∧ nodeAt t a = some m
        ∧ m.serial = n.serial ∧ m.descs = n.descs
        ∧ m.state = .active ∧ m.missed = 0 ∧ m.completed = true
        ∧ m.brushMa = some brush.toNat ∧ m.fault = fault
        ∧ m.floor = (if floor = 0 then .hard else if floor = 1 then .carpet else .unknown)
        ∧ (∀ rec : Option ToolRecord,
            (n.completed = true ∨ n.state ≠ .assigning → rec = appliedRecord s n) →
            (n.completed = false → n.state = .assigning →
              (∀ i, s.tools.find n.serial = some i → rec = s.tools.slots[i])
                ∧ (s.tools.find n.serial = none → rec = some (defaultRecord n.serial n.descs))) →
            m.jam = (jam && rec.any (fun r => decide (0 < r.brush)))
              ∧ m.lamp = (lamp && rec.any (fun r => decide (0 < r.lamp)))
              ∧ (m.jam = true → n.jam = false → hasEvent .brushJam t = true))
        ∧ t.line.await = none
        ∧ (n.completed = false → n.state = .assigning → hasEvent .toolAttach t = true))
    ∧ (s.line.await ≠ some (.poll a) ∨ 6 < s.line.idle →
        exec (.status a brush floor jam lamp fault) s
          = exec .replyWindowClose { s with line := { s.line with idle := 0 } })
    ∧ (nodeAt s a = some n → s.line.await = some (.poll a) → s.line.idle ≤ 6 →
      let u := takeStatus a ⟨brush.toNat, floorClass floor, jam, lamp, fault⟩ s
      let drawn := BitVec.ofNat 16 (min 32767 brush.toNat)
      exec (.status a brush floor jam lamp fault) s = .next (conclude u)
        ∧ (a ∈ u.arb.head.members → .update .brushMa drawn ∈ u.signals)
        ∧ (a ∉ u.arb.head.members → ∀ v, .update .brushMa v ∈ u.signals → .update .brushMa v ∈ s.signals)
        ∧ ∃ m, nodeAt u a = some m
          ∧ (n.state = .assigning → n.completed = true → .cap a (capBody u m) none ∈ u.line.queue)
          ∧ (n.state = .assigning → n.completed = false →
              declaresBrush u m = true ∨ declaresLamp u m = true →
              .cap a (capBody u m) none ∈ u.line.queue))

/-- ACK in the reply window of a CAP to its sender (R111, R112, R124): the pending cap's number with a limit within
it acknowledges; a higher limit is stored only; any other ACK is discarded, and a window that is open closes with
no reply. While a newer CAP for the node is queued the acknowledgement is not reported to the Arbiter (R32; log
entry 23); what a reported one does is a statement of its own, ATableValueReachesItsNodesAndSettles.

NOTICE from an entry in ACTIVE or SILENT (R112, R120): the floor class is stored, a jam of a brush node is
set and raises BRUSH_JAM once, a clear jam changes nothing, missed polls stand (R117). A 2-bit class of 3 is
taken as UNKNOWN (log entry 21). -/
def Obligations.AnAckAndANoticeAreTaken : Prop :=
  (∀ (a : Addr) (seq limit : Byte) (n : Node) (c : Cap) (s : State),
    s.pack.power = .active → s.line.tpwr ≠ .off → s.line.resetting = none →
    (nodeAt s a = some n → n.pending = some c → s.line.await = some (.cap a) → s.line.idle ≤ 6 →
      c.seq = seq → ∃ t m, exec (.ack a seq limit) s = .next t ∧ nodeAt t a = some m
        ∧ m.ackLimit = limit.toNat ∧ t.line.await = none
        ∧ (limit.toNat ≤ c.body.limit → m.pending = none
            ∧ (queued (.cap a c.body none) s = true → s.signals = [] → t.arb = s.arb))
        ∧ (c.body.limit < limit.toNat → s.signals = [] → m.pending = some c ∧ t.arb = s.arb))
    ∧ (nodeAt s a = some n → n.pending = some c → c.seq ≠ seq →
        exec (.ack a seq limit) s
          = exec .replyWindowClose { s with line := { s.line with idle := 0 } })
    ∧ (s.line.await ≠ some (.cap a) ∨ 6 < s.line.idle → exec (.ack a seq limit) s
        = exec .replyWindowClose { s with line := { s.line with idle := 0 } }))
  ∧ (∀ (a : Addr) (jam : Bool) (floor : BitVec 2) (n : Node) (s : State),
    s.pack.power = .active → s.line.tpwr ≠ .off → s.line.resetting = none → nodeAt s a = some n →
    (n.state ≠ .assigning → ∃ t m, exec (.notice a jam floor) s = .next t ∧ nodeAt t a = some m
      ∧ m.floor = (if floor = 0 then .hard else if floor = 1 then .carpet else .unknown)
      ∧ m.jam = (n.jam || (jam && declaresBrush s n))
      ∧ m.missed = n.missed ∧ m.state = n.state ∧ m.fault = n.fault ∧ m.lamp = n.lamp
      ∧ (jam = true → declaresBrush s n = true → n.jam = false → hasEvent .brushJam t = true))
    ∧ (n.state = .assigning → exec (.notice a jam floor) s
        = .next (conclude { s with line := { s.line with idle := 0 } })))

/-- Windows and timers of the line (R111, R114, R117, R118, R124): a window that closes after a POLL is a missed
poll, the third removes the entry; one that closes after a CAP queues the pending cap again unless a newer CAP is
due; a poll timer queues a POLL and restarts, and a POLL that stands unsent counts as missed and is replaced, the third
such miss removing the entry in place of a POLL; a quarantine ends. -/
def Obligations.TheLineTimersAct : Prop :=
  ∀ (a : Addr) (n : Node) (s : State), s.powered →
    (s.line.await = none → exec .replyWindowClose s = .next (conclude s))
    ∧ (∀ c, nodeAt s a = some n → s.line.await = some (.cap a) → n.pending = some c →
        (queued (.cap a c.body none) s = true → exec .replyWindowClose s
          = .next (conclude { s with line := { s.line with await := none } }))
        ∧ (queued (.cap a c.body none) s = false → s.line.tpwr ≠ .off → exec .replyWindowClose s
          = .next (conclude { s with line := { s.line with
              await := none, queue := s.line.queue ++ [.cap a c.body (some c.seq)] } })))
    ∧ (nodeAt s a = some n → s.line.await = some (.poll a) → n.missed < 2 →
      exec .replyWindowClose s = .next (conclude (setNode a (fun m => { m with
        missed := m.missed + 1
        state := if m.state = .assigning then .assigning else .silent })
        { s with line := { s.line with await := none } })))
    ∧ (nodeAt s a = some n → s.line.await = some (.poll a) → 2 ≤ n.missed →
        ∃ t, exec .replyWindowClose s = .next t ∧ nodeAt t a = none
          ∧ (⟨a, 250⟩ : Quarantined) ∈ t.line.quarantine
          ∧ (n.completed = true → hasEvent .toolDetach t = true)
          ∧ t.tools.slots = s.tools.slots ∧ t.tools.miss = s.tools.miss)
    ∧ (nodeAt s a = some n → s.line.tpwr ≠ .off → queued (.poll a) s = true →
        (n.missed < 2 → exec (.pollTimerExpiry a) s = .next (conclude (setNode a (fun m => { m with
            poll := 40, missed := m.missed + 1
            state := if m.state = .assigning then .assigning else .silent })
          { s with line := { s.line with
              queue := s.line.queue.filter (fun g => !g.sameSlot (.poll a)) ++ [.poll a]
              lost := s.line.lost.filter (fun g => !g.sameSlot (.poll a)) } })))
        ∧ (2 ≤ n.missed → ∃ t, exec (.pollTimerExpiry a) s = .next t ∧ nodeAt t a = none
          ∧ (⟨a, 250⟩ : Quarantined) ∈ t.line.quarantine
          ∧ .poll a ∉ t.line.queue ∧ t.line.lost ≠ some (.poll a)
          ∧ (n.completed = true → hasEvent .toolDetach t = true)
          ∧ t.tools.slots = s.tools.slots ∧ t.tools.miss = s.tools.miss))
    ∧ (nodeAt s a = some n → s.line.tpwr ≠ .off → queued (.poll a) s = false →
        exec (.pollTimerExpiry a) s = .next (conclude (setNode a (fun m => { m with poll := 40 })
          { s with line := { s.line with
              queue := s.line.queue.filter (fun g => !g.sameSlot (.poll a)) ++ [.poll a] } })))
    ∧ exec (.quarantineExpiry a) s = .next (conclude { s with line := { s.line with
        quarantine := s.line.quarantine.filter (fun q => q.addr != a) } })

/-- TOOL_LOAD (R135): the record goes to the slot of its serial, else to the lowest invalid slot, else evicts; it
becomes most recent and its serial leaves the miss list; with eight pinned records it is refused. The place: the slot
of the serial; with none the lowest invalid slot; with none the unpinned record that is least recent, which is evicted.

What a loaded record holds: every number clamped, the floor to the clamped request (R128, R135).

TOOL_DROP (R137): an unknown serial is refused; otherwise its slot becomes free and leaves the order. -/
def Obligations.RecordsAreLoadedAndDropped : Prop :=
  (∀ (tag : Byte) (f : ToolFields) (r : ToolRecord) (s : State), s.serves → loadedRecord f = some r →
    (∀ p, s.tools.place r.serial = some p →
      ∃ t, exec (.toolLoad tag f) s = .next t
        ∧ t.tools.slots[p.slot] = some r ∧ t.tools.order.head? = some p.slot
        ∧ r.serial ∉ t.tools.miss
        ∧ (∀ j : Fin 8, j ≠ p.slot → t.tools.slots[j] = s.tools.slots[j])
        ∧ t.gov.profiles = s.gov.profiles ∧ t.pack = s.pack)
    ∧ (s.tools.find r.serial = none → (∀ i : Fin 8, ∃ q, s.tools.slots[i] = some q ∧ q.pinned = true) →
        exec (.toolLoad tag f) s = .next (conclude (replied 0x38 tag .full [] s))))
  ∧ (∀ (t : ToolTable) (serial : Serial),
    (∀ i, t.find serial = some i → t.place serial = some ⟨i, 1, false⟩
        ∧ ∃ r, t.slots[i] = some r ∧ r.serial = serial)
    ∧ (t.find serial = none ↔ ∀ (i : Fin 8) (r : ToolRecord), t.slots[i] = some r → r.serial ≠ serial)
    ∧ (∀ i : Fin 8, t.find serial = none → t.slots[i] = none → (∀ j, j < i → t.slots[j] ≠ none) →
        t.place serial = some ⟨i, 2, false⟩)
    ∧ (∀ (i : Fin 8) (r : ToolRecord) (pre post : List (Fin 8)), t.find serial = none →
        (∀ j : Fin 8, t.slots[j] ≠ none) → t.order = pre ++ i :: post → t.slots[i] = some r →
        r.pinned = false → (∀ j ∈ post, ∀ q, t.slots[j] = some q → q.pinned = true) →
        t.place serial = some ⟨i, 3, true⟩))
  ∧ (∀ f : ToolFields,
    (5 ≤ f.kind.toNat → loadedRecord f = none)
    ∧ (f.kind.toNat < 5 → ∃ r, loadedRecord f = some r
      ∧ r.serial = f.serial ∧ r.pinned = f.pinned ∧ r.yielding = f.yielding
      ∧ r.airflow = max 50 (min 150 f.airflow.toNat)
      ∧ (r.brush : Int) = max 0 (min 4000 f.brush.toInt)
      ∧ (r.floor : Int) = max 0 (min (r.brush : Int) f.floor.toInt)
      ∧ (r.lamp : Int) = max 0 (min 1000 f.lamp.toInt)
      ∧ (r.curve.s1 : Int) = max 100 (min 2000 f.s1.toInt)
      ∧ (r.curve.s2 : Int) = max 100 (min 2000 f.s2.toInt)
      ∧ (r.curve.s3 : Int) = max 100 (min 2000 f.s3.toInt)
      ∧ (r.curve.s4 : Int) = max 100 (min 2000 f.s4.toInt)
      ∧ [ToolKind.floorHead, .miniHead, .crevice, .lightWand, .unknown][f.kind.toNat]? = some r.kind))
  ∧ (∀ (tag : Byte) (serial : Serial) (s : State), s.serves →
    (s.tools.find serial = none →
      exec (.toolDrop tag serial) s = .next (conclude (replied 0x39 tag .notFound [] s)))
    ∧ ∀ i, s.tools.find serial = some i → ∃ t, exec (.toolDrop tag serial) s = .next t
      ∧ t.tools.slots[i] = none ∧ i ∉ t.tools.order
      ∧ (∀ j : Fin 8, j ≠ i → t.tools.slots[j] = s.tools.slots[j])
      ∧ (userOf s i = none → t.tools.miss = s.tools.miss)
      ∧ t.gov.profiles = s.gov.profiles ∧ t.pack = s.pack)

/-- The default record of a node (R131): the table's fields from the first brush code and the first nozzle code, and
the kind from the first row that fits.

The record a node is given at its first completed assignment (R116, R130, R132): the table record of its serial, which
becomes most recent, with the kind-mismatch flag where its kind is not UNKNOWN and is another than the derived one; or
a default record, with the serial on the miss list, at most four and none twice, and TOOL_MISS. TOOL_ATTACH is raised
in both cases.

The nozzle source (R134, R91): the lowest attached node with a nozzle code; another one, or none, delivers its airflow
factor and curve, or those of an open inlet, and restarts the sustain counts.

A record in use (R133, R136, R137): a TOOL_LOAD for the serial of an attached node becomes its applied record, with
the kind check anew and the flags it does not declare cleared; a TOOL_DROP turns the node to a default record and
records a miss. Where the node is the nozzle source, its figures are delivered, and the sustain counts restart. -/
def Obligations.ANodeIsGivenItsRecord : Prop :=
  (∀ (serial : Serial) (descs : List Byte),
    let r := defaultRecord serial descs
    r.serial = serial ∧ r.curve = ⟨900, 1080, 1190, 1270⟩ ∧ r.yielding = true ∧ r.pinned = false
      ∧ r.floor = r.brush
      ∧ (∀ pre c post, descs = pre ++ c :: post → 0x11 ≤ c.toNat → c.toNat ≤ 0x18 →
          (∀ d ∈ pre, d.toNat < 0x11 ∨ 0x18 < d.toNat) → r.brush = (c.toNat - 0x10) * 500 / 2)
      ∧ ((∀ d ∈ descs, d.toNat < 0x11 ∨ 0x18 < d.toNat) → r.brush = 0)
      ∧ r.lamp = (if (0x21 : Byte) ∈ descs then 150 else 0)
      ∧ (∀ pre c post, descs = pre ++ c :: post → c = 0x41 ∨ c = 0x42 →
          (∀ d ∈ pre, d ≠ 0x41 ∧ d ≠ 0x42) → r.airflow = if c = 0x41 then 70 else 100)
      ∧ ((∀ d ∈ descs, d ≠ 0x41 ∧ d ≠ 0x42) → r.airflow = 100)
      ∧ (let brush := ∃ d ∈ descs, 0x11 ≤ d.toNat ∧ d.toNat ≤ 0x18
         let narrow := ∃ pre post, descs = pre ++ (0x41 : Byte) :: post ∧ (0x42 : Byte) ∉ pre
         let wide := ∃ pre post, descs = pre ++ (0x42 : Byte) :: post ∧ (0x41 : Byte) ∉ pre
         (brush → wide → r.kind = .floorHead) ∧ (brush → narrow → r.kind = .miniHead)
           ∧ (¬brush → narrow → r.kind = .crevice)
           ∧ (¬brush → ¬narrow → ¬wide → (0x21 : Byte) ∈ descs → r.kind = .lightWand)
           ∧ (¬brush → ¬narrow → ¬wide → (0x21 : Byte) ∉ descs → r.kind = .unknown)
           ∧ (¬brush → wide → r.kind = .unknown) ∧ (brush → ¬narrow → ¬wide → r.kind = .unknown)))
  ∧ (∀ (a : Addr) (brush : Half) (floor : BitVec 2) (jam lamp fault : Bool) (n : Node) (s : State),
    s.pack.power = .active → s.line.tpwr ≠ .off → s.line.resetting = none → nodeAt s a = some n →
    s.line.await = some (.poll a) → s.line.idle ≤ 6 → n.completed = false → n.state = .assigning →
    ∃ t m, exec (.status a brush floor jam lamp fault) s = .next t ∧ nodeAt t a = some m
      ∧ hasEvent .toolAttach t = true ∧ t.tools.slots = s.tools.slots
      ∧ (∀ i r, s.tools.find n.serial = some i → s.tools.slots[i] = some r →
          m.applied = .slot i ∧ t.tools.order = i :: s.tools.order.filter (· != i)
            ∧ m.mismatch = decide (r.kind ≠ .unknown ∧ r.kind ≠ (defaultRecord n.serial n.descs).kind)
            ∧ t.tools.miss = s.tools.miss)
      ∧ (s.tools.find n.serial = none → m.applied = .default (defaultRecord n.serial n.descs)
          ∧ m.mismatch = false ∧ hasEvent .toolMiss t = true ∧ t.tools.order = s.tools.order
          ∧ t.tools.miss = if n.serial ∈ s.tools.miss then s.tools.miss
              else (if s.tools.miss.length < 4 then s.tools.miss else s.tools.miss.tail) ++ [n.serial]))
  ∧ (∀ s : State,
    let source := ((s.line.nodes.filter (·.completed)).find?
      (fun n => n.descs.any (fun d => d == 0x41 || d == 0x42))).map (·.addr)
    let r := (source.bind (nodeAt s)).bind (appliedRecord s)
    deriveNozzle s = (if source = s.tools.nozzle then s
      else { s with
        tools := { s.tools with nozzle := source }
        gov := { s.gov with
          factor := (r.map (·.airflow)).getD 100, curve := (r.map (·.curve)).getD ⟨900, 1080, 1190, 1270⟩ }
        load := { s.load with rise := 0, block := 0, release := 0 } }))
  ∧ (∀ (tag : Byte) (s : State) (n : Node), s.serves → nodeLaw s → tableLaw s →
    n ∈ s.line.nodes → n.completed = true →
    let sourced := fun (r : ToolRecord) (t : State) => s.tools.nozzle = some n.addr →
      t.gov.factor = r.airflow ∧ t.gov.curve = r.curve ∧ t.load.rise = 0 ∧ t.load.block = 0
        ∧ t.load.release = 0
    (∀ f r p, loadedRecord f = some r → r.serial = n.serial → s.tools.place r.serial = some p →
      ∃ t m, exec (.toolLoad tag f) s = .next t ∧ nodeAt t n.addr = some m ∧ m.applied = .slot p.slot
        ∧ m.mismatch = decide (r.kind ≠ .unknown ∧ r.kind ≠ (defaultRecord n.serial n.descs).kind)
        ∧ m.jam = (n.jam && decide (0 < r.brush)) ∧ m.lamp = (n.lamp && decide (0 < r.lamp))
        ∧ m.descs = n.descs ∧ m.state = n.state ∧ sourced r t)
    ∧ (∀ i, n.applied = .slot i → ∃ t m, exec (.toolDrop tag n.serial) s = .next t
        ∧ nodeAt t n.addr = some m ∧ t.tools.slots[i] = none
        ∧ (let r := defaultRecord n.serial n.descs
           m.applied = .default r ∧ m.mismatch = false ∧ m.jam = (n.jam && decide (0 < r.brush))
             ∧ m.lamp = (n.lamp && decide (0 < r.lamp)) ∧ sourced r t)
        ∧ hasEvent .toolMiss t = true ∧ n.serial ∈ t.tools.miss))

/-! ## Dock Link, Charge Controller, Evacuation Sequencer -/

/-- CHGIN (R143, R145, R162): a rise in DETACHED begins the attach debounce with the time set then, a drop stops it
and starts the 10 ms of a detach, a rise again within them starts the debounce from 0 with the time of its attach, and
a rise while attached or while the debounce runs ends the 10 ms.

A detach from every other state (R145, R170, R16), whatever CHGIN and the 10 ms show (the model's choice, log entry
36); that one within a debounce which a soft reset restarted raises no DOCK_DETACH is log entry 68, and what a rise
does to that debounce log entry 69.

The completed debounce (R143, R144, R51, R52): the coarse class, DOCK_ATTACH, the stop order DOCKED, which brings
SPINUP and RUN to STOPPING and ARMING and ALIGN through it to OFF, and at rest the first state of R144 that applies,
with the charge period started and the total timer at 0. -/
def Obligations.ChginAttachesAndDetaches : Prop :=
  (∀ s : State,
    (s.pack.power = .active → s.signals = [] → s.dock.state = .detached →
      ∃ t, exec .chginRise s = .next t ∧ t.pins.chgin = true ∧ t.dock.state = .attachWait ∧ t.dock.attach = .debouncing
      ∧ t.dock.debounce = some s.dock.debounceMs ∧ t.dock.attachMs = s.dock.debounceMs
      ∧ t.dock.drop = none ∧ t.pack.shutdown = none
      ∧ hasEvent .chargeState t = true ∧ t.drive = s.drive ∧ t.arb = s.arb)
    ∧ (s.pack.power = .active → s.dock.state ≠ .detached → s.dock.attach = .debouncing →
        s.dock.debounce = none → exec .chginRise s = .next (conclude { s with
          pins := { s.pins with chgin := true }
          dock := { s.dock with drop := none, debounce := some s.dock.attachMs } }))
    ∧ (s.pack.power = .active → s.dock.state ≠ .detached →
        s.dock.attach ≠ .debouncing ∨ s.dock.debounce.isSome →
        exec .chginRise s = .next (conclude { s with
          pins := { s.pins with chgin := true }, dock := { s.dock with drop := none } }))
    ∧ (s.powered → s.dock.state ≠ .detached → exec .chginDrop s = .next (conclude { s with
          pins := { s.pins with chgin := false }
          dock := { s.dock with
            debounce := none
            drop := match s.dock.drop with
              | some d => some d
              | none => some 10 } }))
    ∧ (s.powered → s.dock.state = .detached →
        exec .chginDrop s = .next (conclude { s with pins := { s.pins with chgin := false } })))
  ∧ (∀ s : State, s.powered → s.signals = [] → s.dock.state ≠ .detached →
    ∃ t, exec .detach s = .next t
      ∧ t.dock.state = .detached ∧ t.dock.attach = .detached ∧ t.dock.csw = false ∧ t.dock.bleed = []
      ∧ t.dock.exch = none ∧ t.dock.dueHalt = false ∧ t.dock.dueCharge = none
      ∧ t.dock.dueEvac = none ∧ t.dock.offers = [] ∧ t.dock.identity = none ∧ t.dock.coarse = none
      ∧ t.dock.agreement = none ∧ t.dock.identTaken = false ∧ t.dock.precharge = 0
      ∧ t.dock.total = 0 ∧ t.dock.taper = none ∧ t.dock.resume = none ∧ t.dock.period = none
      ∧ t.dock.disabled = s.dock.disabled ∧ t.dock.lastFault = s.dock.lastFault
      ∧ t.dock.iMax = s.dock.iMax ∧ hasEvent .chargeState t = true
      ∧ (s.dock.attach = .attached → hasEvent .dockDetach t = true)
      ∧ (s.dock.attach ≠ .attached → hasEvent .dockDetach t = hasEvent .dockDetach s)
      ∧ t.evac.auto = false
      ∧ (evacInProgress s = true → t.evac.state = .aborted ∧ t.evac.outcome = .detach
          ∧ t.evac.timer = none ∧ hasEvent .evacEnd t = true)
      ∧ (evacInProgress s = false → t.evac = { s.evac with auto := false })
      ∧ t.pack = { s.pack with
          shutdown := if s.pack.cutoff = true ∧ s.pack.shutdown = none then some 2000
            else s.pack.shutdown }
      ∧ t.dirt = s.dirt ∧ t.drive = s.drive)
  ∧ (∀ (level : CoarseClass) (s : State), s.powered → s.signals = [] → s.dock.state = .attachWait →
    s.dock.attach = .debouncing → s.dock.debounce.isSome →
    ∃ t, exec (.attachDebounceDone level) s = .next t
      ∧ t.dock.attach = .attached ∧ t.dock.debounce = none ∧ t.dock.coarse = some level
      ∧ hasEvent .dockAttach t = true
      ∧ (s.drive.state = .run ∨ s.drive.state = .spinup →
          t.drive.state = .stopping ∧ t.drive.bridge = .braking ∧ t.drive.stopCause = .docked
            ∧ t.dock.state = .attachWait)
      ∧ (s.drive.state = .arming ∨ s.drive.state = .align →
          let u := debounceDone level s
          t = conclude u ∧ u.drive.state = .off ∧ u.drive.bridge = .off ∧ u.drive.stopCause = .docked
            ∧ u.drive.startPending = s.drive.startPending ∧ hasEvent .motorStopped u = true
            ∧ u.dock.period = some 1000 ∧ u.dock.total = 0
            ∧ u.dock.state = (if s.dock.disabled then .disabled else if s.pack.overvolt then .fault
                else if s.watch.pauseOrder then .paused else .identify))
      ∧ (s.drive.state = .stopping → t.drive = s.drive ∧ t.dock.state = .attachWait)
      ∧ (s.drive.state.atRest = true → t.drive = s.drive
          ∧ t.dock.period = some 1000 ∧ t.dock.total = 0
          ∧ t.dock.state = (if s.dock.disabled then .disabled else if s.pack.overvolt then .fault
              else if s.watch.pauseOrder then .paused else .identify)
          ∧ (t.dock.state = .fault → t.dock.lastFault = .cellOv ∧ hasEvent .chargeFault t = true)
          ∧ (t.dock.state = .paused → t.dock.pause = .watch)
          ∧ (t.dock.state = .identify → s.dock.exch = none → s.dock.dueHalt = false →
              t.dock.exch = some ⟨.hello, 1, none, 0, false, .first, .sending, 0⟩)))

/-- A due request is sent when the record is free, in the order HALT, HELLO or CHARGE_REQ, EVAC_REQ (R147,
R148); the CHARGE_REQ of a pause for OFFER_CHANGE makes the state NEGOTIATE (R157).

An exchange runs (R146, R147): the deadline from the request's last byte, collisions, the resends of three
attempts, and the failure, at a deadline or at the fifth collision of the third attempt. -/
def Obligations.DueRequestsAreSentAndRetried : Prop :=
  (∀ s : State, s.powered →
    (s.dock.exch.isSome → exec .dockRequestSend s = .next (conclude s))
    ∧ (s.dock.exch = none → s.dock.dueHalt = true → exec .dockRequestSend s
        = .next (conclude { s with dock := { s.dock with
            dueHalt := false, exch := some ⟨.halt, 1, none, 0, false, .first, .sending, 0⟩ } }))
    ∧ (∀ r, s.dock.exch = none → s.dock.dueHalt = false → s.dock.dueCharge = some r →
        (¬(s.dock.state = .paused ∧ s.dock.pause = .offerChange) → exec .dockRequestSend s
          = .next (conclude { s with dock := { s.dock with
              dueCharge := none, exch := some ⟨r, 1, none, 0, false, .first, .sending, 0⟩ } }))
        ∧ (s.dock.state = .paused ∧ s.dock.pause = .offerChange → s.signals = [] →
            ∃ t, exec .dockRequestSend s = .next t ∧ t.dock.state = .negotiate ∧ t.dock.csw = false
              ∧ hasEvent .chargeState t = true
              ∧ t.dock.exch = some ⟨r, 1, none, 0, false, .first, .sending, 0⟩))
    ∧ (∀ d, s.dock.exch = none → s.dock.dueHalt = false → s.dock.dueCharge = none →
        s.dock.dueEvac = some d → exec .dockRequestSend s
          = .next (conclude { s with dock := { s.dock with
              dueEvac := none
              exch := some ⟨.evacReq d, 1, none, 0, false, .first, .sending, 0⟩ } })))
  ∧ (∀ (e : Exchange) (s : State), s.powered → s.dock.exch = some e →
    (e.send = .sending → exec .dockRequestLastByte s = .next (conclude { s with dock := { s.dock with
      exch := some { e with send := .sent, deadline := some 200 } } }))
    ∧ (e.send = .sending → e.collisions < 4 → exec .dockCollision s
        = .next (conclude { s with dock := { s.dock with
            exch := some { e with send := .collided, collisions := e.collisions + 1 } } }))
    ∧ (e.send = .sending → 4 ≤ e.collisions → e.attempts < 3 → exec .dockCollision s
        = .next (conclude { s with dock := { s.dock with exch := some { e with
            attempts := e.attempts + 1, deadline := none, waiting := false, send := .sending
            collisions := 0 } } }))
    ∧ (e.send = .collided → exec .dockCollisionResend s = .next (conclude { s with dock := { s.dock with
        exch := some { e with send := .sending } } }))
    ∧ (e.deadline.isSome → e.phase = .first → e.waiting = true ∨ e.attempts < 3 →
        exec .dockDeadlineExpiry s = .next (conclude { s with dock := { s.dock with exch := some { e with
          attempts := if e.waiting then 1 else e.attempts + 1
          deadline := none, waiting := false, send := .sending, collisions := 0 } } }))
    ∧ (∀ c, s.signals = [] →
        (c = .dockDeadlineExpiry ∧ e.deadline.isSome ∧ (e.phase ≠ .first ∨ (e.waiting = false ∧ 3 ≤ e.attempts)))
          ∨ (c = .dockCollision ∧ e.send = .sending ∧ 4 ≤ e.collisions ∧ 3 ≤ e.attempts) →
        ∃ t, exec c s = .next t
          ∧ ((e.req = .hello ∧ s.dock.state = .identify)
                ∨ ((∃ i input, e.req = .chargeReq i input)
                    ∧ (s.dock.state = .negotiate ∨ s.dock.state = .precharge ∨ s.dock.state = .bulk
                        ∨ s.dock.state = .taper)) →
              t.dock.agreement = none
                ∧ (s.pack.count ≤ 6 → t.dock.state = .coarse ∧ t.dock.csw = s.drive.state.atRest)
                ∧ (7 ≤ s.pack.count →
                    t.dock.state = .paused ∧ t.dock.pause = .noOffer ∧ t.dock.csw = false))
          ∧ ((∃ d, e.req = .evacReq d) → s.evac.state = .requested →
              t.evac.state = .failed ∧ t.evac.outcome = .noAccept ∧ hasEvent .evacEnd t = true)
          ∧ (e.req = .halt → t.dock.agreement = s.dock.agreement ∧ t.evac = s.evac)))

/-- IDENT and OFFERS of a HELLO that awaits them (R147, R149, R166): the identity, the offer list without
rejected marks, the automatic start of an evacuation, and the CHARGE_REQ for the best eligible offer.

What a selection forms (R150): I_tgt, the phase, I_chg from the capacity of the offer and the phase's target, which in
TAPER is the taper target within I_tgt, and I_in rounded up to 25 mA, with the offer's maximum never exceeded. -/
def Obligations.AHelloLeadsToTheBestOffer : Prop :=
  ((∀ (kind support count : Byte) (e : Exchange) (s : State), s.powered → s.signals = [] →
    s.dock.exch = some e → e.req = .hello → e.send = .sent → e.phase = .first → kind.toNat ≤ 1 →
    1 ≤ count.toNat → count.toNat ≤ 5 →
    ∃ t, exec (.dockIdent kind support count) s = .next t
      ∧ t.dock.identity = some ⟨if kind = 0 then .basic else .evac, decide (support ≠ 0), count.toNat⟩
      ∧ t.dock.identTaken = true ∧ t.dock.state = s.dock.state
      ∧ t.dock.exch = some { e with phase := .offers, deadline := some 200, waiting := false }
      ∧ (if 0 < s.evac.pct ∧ support ≠ 0 ∧ s.evac.pct ≤ s.dirt.bin * 100 / s.dirt.capacity
            ∧ s.dock.state ≠ .detached ∧ s.dock.state ≠ .attachWait ∧ s.dock.state ≠ .fault
            ∧ evacInProgress s = false ∧ s.evac.auto = false
          then t.evac.state = .requested ∧ t.evac.trigger = .auto ∧ t.evac.duration = s.evac.setting
            ∧ t.evac.auto = true ∧ t.dock.dueEvac = some s.evac.setting
          else t.evac = s.evac ∧ t.dock.dueEvac = s.dock.dueEvac))
  ∧ (∀ (l : List OfferFields) (e : Exchange) (s : State), s.powered → s.signals = [] →
      s.dock.exch = some e → e.req = .hello → e.send = .sent → e.phase = .offers →
      s.dock.state = .identify → 1 ≤ l.length → l.length ≤ 5 →
      ∃ t, exec (.dockOffers l) s = .next t
        ∧ t.dock.offers = l.map (fun o => ⟨o.volts.toNat, o.amps.toNat, false⟩)
        ∧ ((∀ o ∈ l, o.volts.toNat < s.pack.count * 4200 + 1000) →
            t.dock.state = .paused ∧ t.dock.pause = .noOffer)
        ∧ ((∃ o ∈ l, s.pack.count * 4200 + 1000 ≤ o.volts.toNat) → t.dock.state = .negotiate
            ∧ ∃ i o input, l[i]? = some o ∧ s.pack.count * 4200 + 1000 ≤ o.volts.toNat
              ∧ (∀ p ∈ l, s.pack.count * 4200 + 1000 ≤ p.volts.toNat →
                  p.volts.toNat * p.amps.toNat ≤ o.volts.toNat * o.amps.toNat)
              ∧ (∀ j p, j < i → l[j]? = some p → s.pack.count * 4200 + 1000 ≤ p.volts.toNat →
                  p.volts.toNat * p.amps.toNat < o.volts.toNat * o.amps.toNat)
              ∧ input ≤ o.amps.toNat
              ∧ (0 < packVolts s → input = selectedInput s ⟨o.volts.toNat, o.amps.toNat, false⟩)
              ∧ (s.dock.dueHalt = false →
                  t.dock.exch = some ⟨.chargeReq (i + 1) input, 1, none, 0, false, .first, .sending, 0⟩)
              ∧ (s.dock.dueHalt = true → t.dock.dueCharge = some (.chargeReq (i + 1) input)))))
  ∧ (∀ (s : State) (i : Nat) (o : Offer), chooseOffer s = some (i, o) → 0 < packVolts s →
    let t := selectOffer s
    let most := if s.host.ready then s.dock.iMax else min s.dock.iMax 1000
    let limit := match packTmax s with
      | none => 0
      | some x => if x < 0 ∨ 45 < x then 0 else if x ≤ 9 then most / 2 else most
    let ph := match s.dock.resume with
      | some r => r
      | none => if packVmin s < 3000 then .precharge else .bulk
    let v := packVolts s
    let want := min (o.volts * o.amps * 9 / (10 * v)) (match ph with
      | .bulk => min most limit / 25 * 25
      | .precharge => min 300 (min most limit / 25 * 25)
      | .taper => min (s.dock.taper.getD (min most limit / 25 * 25)) (min most limit / 25 * 25)) / 25 * 25
    let up := (want * v * 10 + (9 * o.volts * 25 - 1)) / (9 * o.volts * 25) * 25
    let input := if o.amps < up then o.amps / 25 * 25 else up
    t.dock.iTgt = min most limit / 25 * 25 ∧ t.dock.plan = ph ∧ t.dock.want = want
      ∧ selectedCurrent s o = want ∧ selectedInput s o = input ∧ input ≤ o.amps ∧ input % 25 = 0
      ∧ (s.dock.exch.isSome → s.dock.state ≠ .paused →
          t.dock.dueCharge = some (.chargeReq i input) ∧ t.dock.state = .negotiate)
      ∧ (s.dock.exch.isSome → s.dock.state = .paused →
          t.dock.dueCharge = some (.chargeReq i input) ∧ t.dock.state = .paused
            ∧ t.dock.pause = .offerChange))

/-- The replies to CHARGE_REQ, EVAC_REQ and HALT (R147, R151, R154, R168).

A dock that answers an EVAC_REQ or a HALT in COARSE ends COARSE (R158): CSW opens and a HELLO is sent, or is due
behind the exchange that waits on.

The ninth WAIT fails an exchange (R147): of a HELLO in IDENTIFY or a CHARGE_REQ in NEGOTIATE or a charging phase
into COARSE, of an EVAC_REQ without acceptance. A frame that no exchange awaits is discarded (R147). -/
def Obligations.RequestsAreAnsweredOrDiscarded : Prop :=
  (∀ (e : Exchange) (s : State), s.powered → s.dock.exch = some e → e.send = .sent →
    s.dock.state ≠ .coarse → s.dock.dueHalt = false → s.dock.dueCharge = none →
    s.dock.dueEvac = none →
    (∀ i input, e.req = .chargeReq i input → e.phase = .first → exec .dockAccept s
      = .next (conclude { s with dock := { s.dock with
          exch := some { e with phase := .ready, deadline := some 1000, waiting := false } } }))
    ∧ (∀ d, e.req = .evacReq d → e.phase = .first → s.evac.state = .requested →
        exec .dockAccept s = .next (conclude { s with
            dock := { s.dock with exch := none }
            evac := { s.evac with
              state := .running, outcome := .none, timer := some ((s.evac.duration + 5) * 1000) } })
        ∧ ∀ reason, exec (.dockReject reason) s = .next (conclude (raise .evacEnd { s with
            dock := { s.dock with exch := none }
            evac := { s.evac with
              state := .failed, outcome := .rejected, reason := some reason, timer := none } })))
    ∧ (e.req = .halt → e.phase = .first → exec .dockAccept s
        = .next (conclude { s with dock := { s.dock with exch := none } }))
    ∧ (∀ i input o, e.req = .chargeReq i input → e.phase = .ready → s.dock.state = .negotiate →
        1 ≤ i → s.dock.offers[i - 1]? = some o → s.signals = [] →
        ∃ t, exec .dockReady s = .next t
          ∧ t.dock.agreement = some ⟨i, o.volts, o.amps, input⟩ ∧ t.dock.exch = none
          ∧ t.dock.state = (match s.dock.plan with
              | .precharge => .precharge
              | .bulk => .bulk
              | .taper => .taper)
          ∧ t.dock.csw = s.drive.state.atRest
          ∧ t.dock.iChg = (if s.drive.state.atRest then s.dock.want else 0)
          ∧ t.dock.resume = none ∧ (s.dock.plan = .precharge → t.dock.precharge = 0)
          ∧ hasEvent .chargeState t = true)
    ∧ (∀ i input a, e.req = .chargeReq i input → e.phase = .ready →
        s.dock.state = .precharge ∨ s.dock.state = .bulk ∨ s.dock.state = .taper →
        s.dock.agreement = some a → 0 < packVolts s →
        exec .dockReady s = .next (conclude { s with dock := { s.dock with
          exch := none, agreement := some { a with input := input }
          iChg := if s.dock.csw
            then min s.dock.want (input * 9 * a.volts / (10 * packVolts s) / 25 * 25) else 0 } }))
    ∧ (∀ i input reason, e.req = .chargeReq i input → e.phase = .first →
        (s.dock.state = .precharge ∨ s.dock.state = .bulk ∨ s.dock.state = .taper →
          exec (.dockReject reason) s
            = .next (conclude { s with dock := { s.dock with exch := none } }))
        ∧ (s.dock.state = .negotiate → s.signals = [] → ∃ t, exec (.dockReject reason) s = .next t
          ∧ t.dock.offers.length = s.dock.offers.length
          ∧ (∀ o, 1 ≤ i → t.dock.offers[i - 1]? = some o → o.rejected = true)
          ∧ (∀ j, j + 1 ≠ i → t.dock.offers[j]? = s.dock.offers[j]?)
          ∧ ((∀ o ∈ t.dock.offers, o.rejected = true ∨ o.volts < s.pack.count * 4200 + 1000) →
              t.dock.state = .paused ∧ t.dock.pause = .noOffer)
          ∧ ((∃ o ∈ t.dock.offers, o.rejected = false ∧ s.pack.count * 4200 + 1000 ≤ o.volts) →
              t.dock.state = .negotiate)))
    ∧ (∀ ms, e.phase = .first → e.req ≠ .halt → e.waits < 8 → exec (.dockWait ms) s
        = .next (conclude { s with dock := { s.dock with exch := some { e with
            waits := e.waits + 1, waiting := true
            deadline := some (max 10 (min 5000 ms.toNat)) } } })))
  ∧ (∀ s : State, s.powered →
    (∀ e, s.signals = [] → s.watch.pauseOrder = false → s.dock.state = .coarse →
      s.dock.exch = some e → e.send = .sent → e.phase = .first → s.dock.dueHalt = false →
      (e.req = .halt → ∃ t, exec .dockAccept s = .next t ∧ t.dock.state = .identify
        ∧ t.dock.csw = false ∧ t.dock.exch.map (·.req) = some .hello)
      ∧ ∀ d, e.req = .evacReq d → s.evac.state = .requested →
        (∃ t, exec .dockAccept s = .next t ∧ t.dock.state = .identify ∧ t.dock.csw = false
          ∧ t.evac.state = .running ∧ t.evac.timer = some ((s.evac.duration + 5) * 1000)
          ∧ t.dock.exch.map (·.req) = some .hello)
        ∧ (∀ reason, ∃ t, exec (.dockReject reason) s = .next t ∧ t.dock.state = .identify
          ∧ t.dock.csw = false ∧ t.evac.state = .failed ∧ t.evac.outcome = .rejected
          ∧ t.evac.reason = some reason ∧ hasEvent .evacEnd t = true
          ∧ t.dock.exch.map (·.req) = some .hello)
        ∧ (∀ ms, e.waits < 8 → ∃ t, exec (.dockWait ms) s = .next t ∧ t.dock.state = .identify
          ∧ t.dock.csw = false ∧ t.evac = s.evac ∧ t.dock.dueCharge = some .hello
          ∧ t.dock.exch = some { e with
              waits := e.waits + 1, waiting := true
              deadline := some (max 10 (min 5000 ms.toNat)) })
        ∧ (∀ ms, 8 ≤ e.waits → ∃ t, exec (.dockWait ms) s = .next t ∧ t.dock.state = .identify
          ∧ t.dock.csw = false ∧ t.evac.state = .failed ∧ t.evac.outcome = .noAccept
          ∧ t.dock.exch.map (·.req) = some .hello))
    ∧ (∀ e ms, s.signals = [] → s.dock.exch = some e → e.send = .sent → e.phase = .first →
        8 ≤ e.waits →
        (e.req = .hello ∧ s.dock.state = .identify)
          ∨ ((∃ i input, e.req = .chargeReq i input)
              ∧ (s.dock.state = .negotiate ∨ s.dock.state = .precharge ∨ s.dock.state = .bulk
                  ∨ s.dock.state = .taper)) →
        ∃ t, exec (.dockWait ms) s = .next t ∧ t.dock.agreement = none
          ∧ (s.pack.count ≤ 6 → t.dock.state = .coarse ∧ t.dock.csw = s.drive.state.atRest)
          ∧ (7 ≤ s.pack.count →
              t.dock.state = .paused ∧ t.dock.pause = .noOffer ∧ t.dock.csw = false))
    ∧ (∀ e d ms, s.signals = [] → s.dock.exch = some e → e.send = .sent → e.req = .evacReq d →
        e.phase = .first → 8 ≤ e.waits → s.evac.state = .requested →
        ∃ t, exec (.dockWait ms) s = .next t ∧ t.evac.state = .failed ∧ t.evac.outcome = .noAccept
          ∧ hasEvent .evacEnd t = true)
    ∧ (s.dock.exch = none →
        (∀ k u n, exec (.dockIdent k u n) s = .next (conclude s))
        ∧ (∀ l, exec (.dockOffers l) s = .next (conclude s))
        ∧ exec .dockAccept s = .next (conclude s) ∧ exec .dockReady s = .next (conclude s)
        ∧ (∀ r, exec (.dockReject r) s = .next (conclude s))
        ∧ ∀ ms, exec (.dockWait ms) s = .next (conclude s)))

/-- OFFERS_CHANGED (R146, R150, R157, R158): in a charging phase a covering offer takes over the agreement, that
with the highest maximum and of these the lowest index; without one CSW opens and a selection runs. A selection
runs also in NEGOTIATE and in a pause for NO_OFFER or OFFER_CHANGE, whose CHARGE_REQ in progress is superseded: it
picks the eligible offer with the highest power, of these the lowest index. COARSE is ended. In the states that
only store the list nothing else changes. -/
def Obligations.AChangeOfOffersIsTaken : Prop :=
  ∀ (l : List OfferFields) (s : State), s.powered → l.length ≤ 5 →
    let need := s.pack.count * 4200 + 1000
    let free := s.dock.exch = none ∨ ∃ e i input, s.dock.exch = some e ∧ e.req = .chargeReq i input
    (∀ a, s.signals = [] →
      s.dock.state = .precharge ∨ s.dock.state = .bulk ∨ s.dock.state = .taper →
      s.dock.agreement = some a → 0 < a.volts →
      ∃ t, exec (.offersChanged l) s = .next t
        ∧ t.dock.offers = l.map (fun o => ⟨o.volts.toNat, o.amps.toNat, false⟩)
        ∧ ((∃ o ∈ l, o.volts.toNat = a.volts ∧ a.input ≤ o.amps.toNat) →
            t.dock.state = s.dock.state ∧ t.dock.csw = s.dock.csw
              ∧ ∃ i o, l[i]? = some o ∧ o.volts.toNat = a.volts
                ∧ t.dock.agreement = some ⟨i + 1, a.volts, o.amps.toNat, a.input⟩
                ∧ a.input ≤ o.amps.toNat
                ∧ (∀ p ∈ l, p.volts.toNat = a.volts → p.amps.toNat ≤ o.amps.toNat)
                ∧ ∀ j p, j < i → l[j]? = some p → p.volts.toNat = a.volts →
                    p.amps.toNat < o.amps.toNat)
        ∧ ((∀ o ∈ l, ¬(o.volts.toNat = a.volts ∧ a.input ≤ o.amps.toNat)) →
            t.dock.csw = false ∧ t.dock.agreement = none ∧ t.dock.taper = s.dock.taper
              ∧ t.dock.resume.map ChargePhase.state = some s.dock.state
              ∧ ((∀ o ∈ l, o.volts.toNat < need) →
                  t.dock.state = .paused ∧ t.dock.pause = .noOffer)
              ∧ ((∃ o ∈ l, need ≤ o.volts.toNat) → ∃ i o input, picks need l i o
                  ∧ input ≤ o.amps.toNat
                  ∧ (free → s.dock.dueHalt = false → t.dock.state = .negotiate
                      ∧ t.dock.exch
                          = some ⟨.chargeReq (i + 1) input, 1, none, 0, false, .first, .sending, 0⟩)
                  ∧ (¬free ∨ s.dock.dueHalt = true → t.dock.state = .paused
                      ∧ t.dock.pause = .offerChange
                      ∧ t.dock.dueCharge = some (.chargeReq (i + 1) input)))))
    ∧ (s.signals = [] → s.dock.state = .negotiate ∨ (s.dock.state = .paused
          ∧ (s.dock.pause = .noOffer ∨ s.dock.pause = .offerChange)) →
        ∃ t, exec (.offersChanged l) s = .next t
          ∧ t.dock.offers = l.map (fun o => ⟨o.volts.toNat, o.amps.toNat, false⟩)
          ∧ ((∀ o ∈ l, o.volts.toNat < need) →
              t.dock.state = .paused ∧ t.dock.pause = .noOffer ∧ t.dock.csw = false)
          ∧ ((∃ o ∈ l, need ≤ o.volts.toNat) → ∃ i o input, picks need l i o
              ∧ input ≤ o.amps.toNat
              ∧ (free → s.dock.dueHalt = false → t.dock.state = .negotiate
                  ∧ t.dock.exch
                      = some ⟨.chargeReq (i + 1) input, 1, none, 0, false, .first, .sending, 0⟩)
              ∧ (¬free ∨ s.dock.dueHalt = true → t.dock.state = s.dock.state
                  ∧ t.dock.dueCharge = some (.chargeReq (i + 1) input))))
    ∧ (s.signals = [] → s.watch.pauseOrder = false → s.dock.state = .coarse →
        ∃ t, exec (.offersChanged l) s = .next t
          ∧ t.dock.offers = l.map (fun o => ⟨o.volts.toNat, o.amps.toNat, false⟩)
          ∧ t.dock.state = .identify ∧ t.dock.csw = false
          ∧ (s.dock.exch = none → s.dock.dueHalt = false → t.dock.exch.map (·.req) = some .hello))
    ∧ (s.dock.state = .identify ∨ s.dock.state = .topped ∨ s.dock.state = .disabled
          ∨ s.dock.state = .fault
          ∨ (s.dock.state = .paused ∧ (s.dock.pause = .temp ∨ s.dock.pause = .watch)) →
        s.dock.exch = none → s.dock.dueHalt = false → s.dock.dueCharge = none →
        s.dock.dueEvac = none →
        exec (.offersChanged l) s = .next (conclude { s with dock := { s.dock with
          offers := l.map (fun o => ⟨o.volts.toNat, o.amps.toNat, false⟩) } }))
    ∧ (s.dock.state = .detached ∨ s.dock.state = .attachWait →
        exec (.offersChanged l) s = .next (conclude s))

/-- A charge check (R153 to R155, R158, R160, R13), and after it only what its CHARGE_MA update leads to: its period
starts again; the faults in their order; the pause and the resume for temperature, and the event of the cold half; the
phases up to TOPPED; the currents formed again under an agreement, with a new request of input from a difference of
100 mA; and the phase work of COARSE, whose taper target starts from the current formed at that check, the model's
reading of R155 and R158 (DEDUCED, log entry 31). A check that makes PRECHARGE BULK does not enter TAPER, whatever the
highest cell (the model's choice, log entry 67). That the precharge timer of COARSE is 0 at a check with V_min at
3,000 mV or above is the model's choice (log entry 63). -/
def Obligations.AChargeCheckWorksInOrder : Prop :=
  ∀ (chgin : Nat) (s : State), s.powered → s.dock.period.isSome →
    let t := chargeCheck chgin s
    let sound := packDie s ≤ 110 ∧ chgin * 10 ≤ offerVolts s * 11 ∧ s.dock.total < 21599
    let warm := ∃ x, packTmax s = some x ∧ 0 ≤ x ∧ x ≤ 45
    exec (.chargeCheck chgin) s = .next (conclude t) ∧ t.dock.period = some 1000
      ∧ .update .chargeMa (reportNat (some (if t.dock.csw then t.dock.iChg else 0))) ∈ t.signals
      ∧ (s.dock.state.charges = true → ¬sound →
          t.dock.state = .fault ∧ t.dock.csw = false ∧ t.dock.agreement = none
            ∧ hasEvent .chargeFault t = true
            ∧ t.dock.lastFault = (if 110 < packDie s then .thermal
                else if offerVolts s * 11 < chgin * 10 then .inputOv else .totalTimeout))
      ∧ (s.dock.state = .identify ∨ s.dock.state = .negotiate ∨ (s.dock.state.charges = true ∧ sound) → ¬warm →
          t.dock.state = .paused ∧ t.dock.pause = .temp ∧ t.dock.csw = false
            ∧ t.dock.agreement = none ∧ t.dock.dueCharge = none ∧ hasEvent .tempLimit t = true)
      ∧ (∀ x, s.dock.state.charges = true → sound → packTmax s = some x → 0 ≤ x → x ≤ 9 →
          s.dock.lastFullLimit = true → hasEvent .tempLimit t = true)
      ∧ t.dock.lastFullLimit
          = (packTmax s).any (fun x => decide (10 ≤ x) && decide (x ≤ 45))
      ∧ (s.dock.state = .paused → s.dock.pause = .temp → s.watch.pauseOrder = false →
          (∀ x, packTmax s = some x → 4 ≤ x → x ≤ 41 → t.dock.state = .identify)
          ∧ ((∀ x, packTmax s = some x → ¬(4 ≤ x ∧ x ≤ 41)) →
              t.dock.state = .paused ∧ t.dock.pause = .temp))
      ∧ (s.dock.state = .precharge → sound → warm → (∀ v ∈ packCells s, 3100 ≤ v) →
          t.dock.state = .bulk ∧ t.dock.precharge = 0)
      ∧ (s.dock.state = .precharge → sound → warm → (∃ v ∈ packCells s, v < 3100) →
          (1799 ≤ s.dock.precharge → t.dock.state = .fault ∧ t.dock.csw = false
            ∧ t.dock.lastFault = .prechargeTimeout ∧ hasEvent .chargeFault t = true)
          ∧ (s.dock.precharge < 1799 →
            t.dock.state = .precharge ∧ t.dock.precharge = s.dock.precharge + 1))
      ∧ (s.dock.state = .bulk → sound → warm → 4200 ≤ packVmax s →
          t.dock.state = (if s.dock.iChg * 9 / 10 / 25 * 25 ≤ iTermInUse s then .topped else .taper)
            ∧ t.dock.taper = some (s.dock.iChg * 9 / 10 / 25 * 25)
            ∧ (t.dock.state = .topped → t.dock.csw = false ∧ t.dock.agreement = none
                ∧ t.dock.total = 0 ∧ t.pack.gauge = s.pack.capacity * 360000
                ∧ t.pack.rest = s.pack.rest ∧ t.pack.clip = s.pack.clip))
      ∧ (∀ x, s.dock.state = .taper → sound → warm → s.dock.taper = some x →
          (let y := if 4200 ≤ packVmax s then x * 9 / 10 / 25 * 25 else x
           t.dock.taper = some y
             ∧ t.dock.state = (if y ≤ iTermInUse s then .topped else .taper)
             ∧ (y ≤ iTermInUse s → t.dock.csw = false ∧ t.dock.agreement = none
                 ∧ t.pack.gauge = s.pack.capacity * 360000)))
      ∧ (s.dock.state = .topped → s.watch.pauseOrder = false →
          t.dock.state = (if packVolts s / s.pack.count < 4100 then .identify else .topped))
      ∧ (∀ (a : Agreement) (target : Nat),
          (let tgt := chargeTarget s
           let low := ∃ v ∈ packCells s, v < 3100
           let x := s.dock.iChg * 9 / 10 / 25 * 25
           (s.dock.state = .precharge ∧ low ∧ s.dock.precharge < 1799 ∧ target = min 300 tgt)
             ∨ (s.dock.state = .precharge ∧ ¬low ∧ target = tgt)
             ∨ (s.dock.state = .bulk ∧ packVmax s < 4200 ∧ target = tgt)
             ∨ (s.dock.state = .bulk ∧ 4200 ≤ packVmax s ∧ iTermInUse s < x ∧ target = min x tgt)
             ∨ (∃ y, s.dock.state = .taper ∧ packVmax s < 4200 ∧ s.dock.taper = some y
                 ∧ iTermInUse s < y ∧ target = min y tgt)
             ∨ (∃ y, s.dock.state = .taper ∧ 4200 ≤ packVmax s ∧ s.dock.taper = some y
                 ∧ iTermInUse s < y * 9 / 10 / 25 * 25 ∧ target = min (y * 9 / 10 / 25 * 25) tgt)) →
          sound → warm → s.dock.agreement = some a → 0 < packVolts s → 0 < a.volts →
          (let v := packVolts s
           let want := min (a.volts * a.amps * 9 / (10 * v)) target / 25 * 25
           let up := (want * v * 10 + (9 * a.volts * 25 - 1)) / (9 * a.volts * 25) * 25
           let input := if a.amps < up then a.amps / 25 * 25 else up
           let differs := 100 ≤ (input - a.input) + (a.input - input)
           let due := Exchange.mk (.chargeReq a.index input) 1 none 0 false .first .sending 0
           t.dock.iTgt = chargeTarget s ∧ t.dock.want = want ∧ t.dock.agreement = some a
             ∧ t.dock.csw = s.dock.csw
             ∧ t.dock.iChg = (if s.dock.csw
                 then min want (a.input * 9 * a.volts / (10 * v) / 25 * 25) else 0)
             ∧ (differs → s.dock.exch = none → s.dock.dueHalt = false → t.dock.exch = some due)
             ∧ (differs → s.dock.exch.isSome →
                 t.dock.exch = s.dock.exch ∧ t.dock.dueCharge = some (.chargeReq a.index input))
             ∧ (¬differs → s.dock.exch.isSome →
                 t.dock.exch = s.dock.exch ∧ t.dock.dueCharge = s.dock.dueCharge)
             ∧ (¬differs → s.dock.exch = none → s.dock.dueHalt = false → s.dock.dueCharge = none →
                 s.dock.dueEvac = none → t.dock.exch = none ∧ t.dock.dueCharge = none)))
      ∧ (∀ level, s.dock.state = .coarse → sound → warm → s.dock.coarse = some level →
          0 < packVolts s →
          (let amps := match level with
             | .low => 500
             | .mid => 1000
             | .high => 2000
           let tgt := chargeTarget s
           let cold := packVmin s < 3000
           let base := if cold then 300 else tgt
           let formed := min (30000 * amps * 9 / (10 * packVolts s))
             (min base (s.dock.taper.getD base)) / 25 * 25
           let tap := if 4200 ≤ packVmax s
             then some (s.dock.taper.getD formed * 9 / 10 / 25 * 25) else s.dock.taper
           (cold → 1799 ≤ s.dock.precharge → t.dock.state = .fault
             ∧ t.dock.lastFault = .prechargeTimeout ∧ t.dock.csw = false)
           ∧ (¬cold ∨ s.dock.precharge < 1799 →
             t.dock.precharge = (if cold then s.dock.precharge + 1 else 0)
               ∧ t.dock.iTgt = tgt ∧ t.dock.taper = tap
               ∧ (∀ y, tap = some y → y ≤ iTermInUse s →
                   t.dock.state = .topped ∧ t.dock.csw = false ∧ t.dock.total = 0
                     ∧ t.pack.gauge = s.pack.capacity * 360000)
               ∧ (∀ y, tap = some y → iTermInUse s < y → t.dock.state = .coarse
                   ∧ t.dock.iChg = if s.dock.csw then min formed y else 0)
               ∧ (tap = none → t.dock.state = .coarse
                   ∧ t.dock.iChg = if s.dock.csw then formed else 0))))

/-- The charge timers' ends (R154, R158, R160; taken whenever the state stands, the model's choice, log entry 2).

The balance bleed set (R156): above 85 °C it is empty; otherwise it holds each cell that wants to bleed, in the
set before or not, with fewer than three wanting cells above it, a tie going to the lower number. A charge check
forms it in TAPER and TOPPED, and a state that is left for another has none. -/
def Obligations.ChargeTimersEndAndCellsAreBled : Prop :=
  (∀ s : State, s.powered → s.signals = [] →
    (s.dock.state = .precharge → ∃ t, exec .prechargeTimeout s = .next t
      ∧ t.dock.state = .fault ∧ t.dock.lastFault = .prechargeTimeout ∧ t.dock.csw = false
      ∧ t.dock.agreement = none ∧ hasEvent .chargeFault t = true ∧ t.pack = s.pack)
    ∧ (s.dock.state = .coarse → 0 < s.dock.precharge → ∃ t, exec .prechargeTimeout s = .next t
      ∧ t.dock.state = .fault ∧ t.dock.lastFault = .prechargeTimeout ∧ t.dock.csw = false
      ∧ t.dock.agreement = none ∧ hasEvent .chargeFault t = true ∧ t.pack = s.pack)
    ∧ (s.dock.state.charges = true → ∃ t, exec .totalTimeout s = .next t
      ∧ t.dock.state = .fault ∧ t.dock.lastFault = .totalTimeout ∧ t.dock.csw = false
      ∧ t.dock.agreement = none ∧ hasEvent .chargeFault t = true ∧ t.pack = s.pack))
  ∧ (∀ (chgin : Nat) (s : State), s.dock.period.isSome →
    let t := chargeCheck chgin s
    (t.dock.state = .taper ∨ t.dock.state = .topped →
        t.dock.bleed = bleedSet s.dock.bleed (packCells s) (packVmin s) (packDie s))
    ∧ (t.dock.state ≠ .taper → t.dock.state ≠ .topped → t.dock.state ≠ s.dock.state →
        t.dock.bleed = []))
  ∧ ∀ (old cells : List Nat) (low : Nat) (die : Int),
      (85 < die → bleedSet old cells low die = [])
      ∧ (die ≤ 85 → bleedSet old cells low die = [1, 2, 3, 4, 5, 6].filter (fun k =>
          wantsBleed old cells low k && decide (([1, 2, 3, 4, 5, 6].filter (fun j =>
            wantsBleed old cells low j && standsAbove cells j k)).length < 3)))
      ∧ (bleedSet old cells low die).length ≤ 3
      ∧ ∀ k ∈ bleedSet old cells low die, 1 ≤ k ∧ k ≤ 6 ∧ ∃ v, cells[k - 1]? = some v
          ∧ (if k ∈ old then low + 5 < v else low + 20 ≤ v)

/-! ## Host Link and the requests -/

/-- The receive assembly (R183): an opening byte, a complete frame whose CRC agrees, BAD_FRAME for a wrong CRC and for
a length over 60, gaps and broken bytes; the first byte wakes the part from STANDBY (R19), and a receiver stopped by
RESET takes none (R190).

A frame of the catalogue is its command, at every kind and every length it lists (12.7, 12.8), the first option
present of CHARGE_FORCE and the choice of WATCH_ARM telling the commands of one kind apart (R161, R179); a kind
outside the catalogue and a length it does not list are refused (R184, 12.7); a RESET with a payload is acted on, and
so refused, with four requests pending as well (R185; log entry 50). That each request is also a command of its own
and a flag byte other than 0 is yes are the model's choices, log entry 14; that an upper option bit is refused is log
entry 17, and that an unknown choice of WATCH_ARM is refused before an empty record is log entry 70. -/
def Obligations.BytesBecomeFramesAndCommands : Prop :=
  (∀ s : State, s.powered → s.host.stopped = false →
    (s.host.rx = .hunting → exec (.hostByteReceived 0xA5 true) s
      = .next (conclude { wake s with host := { (wake s).host with rx := .frame [] } }))
    ∧ (∀ b, s.host.rx = .hunting → b ≠ 0xA5 → exec (.hostByteReceived b true) s = .next (conclude s))
    ∧ (∀ b, s.host.rx = .hunting → exec (.hostByteReceived b false) s = .next (conclude s))
    ∧ (∀ (len kind tag : Byte) (payload : List Byte) (b : Byte),
        s.host.rx = .frame (len :: kind :: tag :: payload) → len.toNat = payload.length →
        len.toNat ≤ 60 →
        (b = crc8 (len :: kind :: tag :: payload) → exec (.hostByteReceived b true) s
          = .next (conclude (frameArrives kind tag payload
              { s with host := { s.host with rx := .hunting } })))
        ∧ (b ≠ crc8 (len :: kind :: tag :: payload) → s.host.replies.length < 8 →
            exec (.hostByteReceived b true) s = .next (conclude { s with host := { s.host with
              rx := .hunting
              replies := s.host.replies ++ [⟨0xFF, tag, some ⟨0x01, []⟩, false, false⟩] } })))
    ∧ (∀ len kind tag : Byte, s.host.rx = .frame [len, kind] → 60 < len.toNat →
        s.host.replies.length < 8 →
        exec (.hostByteReceived tag true) s = .next (conclude { s with host := { s.host with
          rx := .discarding
          replies := s.host.replies ++ [⟨0xFF, tag, some ⟨0x01, []⟩, false, false⟩] } }))
    ∧ (∀ bytes b, s.host.rx = .frame bytes →
        exec (.hostByteReceived b false) s
            = .next (conclude (raise .frameDropped { s with host := { s.host with rx := .hunting } }))
        ∧ exec .hostByteGap s
            = .next (conclude (raise .frameDropped { s with host := { s.host with rx := .hunting } })))
    ∧ (s.host.rx = .discarding → exec .hostByteGap s
        = .next (conclude { s with host := { s.host with rx := .hunting } }))
    ∧ ∀ b k, exec (.hostByteReceived b k) { s with host := { s.host with stopped := true } }
        = .next (conclude { s with host := { s.host with stopped := true } }))
  ∧ (∀ (tag : Byte) (s : State), s.pack.power = .active → s.host.stopped = false →
    let takes := fun (kind : Byte) (p : List Byte) (c : Instr) =>
      .next (conclude (frameArrives kind tag p s)) = exec c s
    takes 0x01 [] (.ident tag) ∧ takes 0x02 [] (.eventsRead tag) ∧ takes 0x03 [] (.eventMask tag none)
    ∧ (∀ a b c d : Byte, takes 0x03 [a, b, c, d] (.eventMask tag (some (d ++ c ++ b ++ a))))
    ∧ takes 0x04 [] (.fence tag) ∧ takes 0x05 [] (.ready tag) ∧ takes 0x06 [] (.reset tag)
    ∧ (∀ n a b c d : Byte, takes 0x10 [n, a, b, c, d] (.packConfig tag n (b ++ a) (d ++ c)))
    ∧ (∀ l : List (Byte × Byte), l.length = 11 →
        takes 0x11 (l.flatMap fun x => [x.1, x.2]) (.ocvTable tag (l.map fun x => x.2 ++ x.1)))
    ∧ takes 0x12 [] (.packRead tag) ∧ (∀ a b : Byte, takes 0x13 [a, b] (.gaugeSet tag (b ++ a)))
    ∧ takes 0x14 [] (.sleep tag) ∧ (∀ a b : Byte, takes 0x18 [a, b] (.reserveSet tag (b ++ a)))
    ∧ takes 0x19 [] (.allotRead tag)
    ∧ (∀ i e f a b c d g h u v w x : Byte, takes 0x20 [i, e, f, a, b, c, d, g, h, u, v, w, x]
        (.profileWrite tag i ⟨decide (e ≠ 0), decide (f ≠ 0), b ++ a, d ++ c, h ++ g, decide (u ≠ 0),
          v, w, x⟩))
    ∧ (∀ i, takes 0x21 [i] (.profileRead tag i) ∧ takes 0x22 [i] (.profileLock tag i)
        ∧ takes 0x23 [i] (.modeSet tag i) ∧ takes 0x24 [i] (.modePush tag i))
    ∧ takes 0x25 [] (.modePop tag) ∧ takes 0x26 [] (.motorRead tag) ∧ takes 0x27 [] (.faultClear tag)
    ∧ takes 0x28 [] (.blockConfig tag none)
    ∧ (∀ p a b : Byte, takes 0x28 [p, a, b] (.blockConfig tag (some (p, b ++ a))))
    ∧ takes 0x30 [] (.dirtConfig tag none)
    ∧ (∀ a b c d e f g h q r t u v : Byte, takes 0x30 [a, b, c, d, e, f, g, h, q, r, t, u, v]
        (.dirtConfig tag (some ⟨b ++ a, d ++ c, f ++ e, h ++ g, u ++ t ++ r ++ q, v⟩)))
    ∧ takes 0x31 [] (.dirtRead tag) ∧ takes 0x32 [] (.binReset tag)
    ∧ (∀ (n m l o k air : Byte) (a b c d e f g h : Byte) (i j x y yd u v pin : Byte),
        takes 0x38 [n, m, l, o, k, air, a, b, c, d, e, f, g, h, i, j, x, y, yd, u, v, pin]
          (.toolLoad tag ⟨o ++ l ++ m ++ n, k, air, b ++ a, d ++ c, f ++ e, h ++ g, j ++ i, y ++ x,
            decide (yd ≠ 0), v ++ u, decide (pin ≠ 0)⟩))
    ∧ (∀ a b c d : Byte, takes 0x39 [a, b, c, d] (.toolDrop tag (d ++ c ++ b ++ a)))
    ∧ (∀ i, takes 0x3A [i] (.toolRead tag i)) ∧ takes 0x3B [] (.toolMissRead tag)
    ∧ takes 0x3C [] (.toolList tag) ∧ takes 0x40 [] (.chargeConfig tag none)
    ∧ (∀ a b c d e : Byte,
        takes 0x40 [a, b, c, d, e] (.chargeConfig tag (some (b ++ a, d ++ c, e))))
    ∧ takes 0x41 [] (.chargeRead tag) ∧ takes 0x42 [] (.dockRead tag)
    ∧ (∀ o : Byte, 0 < o.toNat → o.toNat < 16 → takes 0x43 [o]
        (if o.toNat % 2 = 1 then .chargeForceDisable tag else if o.toNat % 4 = 2 then .chargeForceEnable tag
          else if o.toNat % 8 = 4 then .chargeForceRecover tag else .chargeForceRenegotiate tag))
    ∧ takes 0x48 [] (.evacConfig tag none)
    ∧ (∀ a b : Byte, takes 0x48 [a, b] (.evacConfig tag (some (a, b))))
    ∧ (∀ d, takes 0x49 [d] (.evacStart tag d))
    ∧ (∀ i q a b c n m x p : Byte, takes 0x50 [i, q, a, b, c, n, m, x, p]
        (.watchSet tag i ⟨q, b ++ a, c, n, m, x, p⟩))
    ∧ (∀ i, takes 0x51 [i, 0] (.watchArmArm tag i) ∧ takes 0x51 [i, 1] (.watchArmDisarm tag i)
        ∧ takes 0x52 [i] (.watchRead tag i) ∧ takes 0x53 [i] (.watchClear tag i))
    ∧ (s.host.replies.length < 8 → s.host.requests.length < 4 →
        (∀ kind p, (∀ row ∈ catalogueLengths, row.1 ≠ kind) →
          frameArrives kind tag p s = replied kind tag .unknownKind [] s)
        ∧ (∀ row ∈ catalogueLengths, ∀ p : List Byte, p.length ∉ row.2 →
          frameArrives row.1 tag p s = replied row.1 tag .badArg [] s)
        ∧ (∀ o : Byte, o = 0 ∨ 16 ≤ o.toNat →
          frameArrives 0x43 tag [o] s = replied 0x43 tag .badArg [] s)
        ∧ (∀ i c : Byte, 2 ≤ c.toNat → frameArrives 0x51 tag [i, c] s = replied 0x51 tag .badArg [] s))
    ∧ (s.host.replies.length < 8 → s.host.requests.length < 5 → ∀ p, p ≠ [] →
        frameArrives 0x06 tag p s = replied 0x06 tag .badArg [] s))

/-- The queue (R185): the reply at its head leaves when it has been sent, with its request, and a deferred one does
not; a full reply queue drops a frame, a full pending list answers OVERRUN with the kind and the tag of the request;
STANDBY is left by a request (R19). -/
def Obligations.RepliesKeepTheirOrder : Prop :=
  ∀ s : State, s.powered →
    (∀ r rest b, s.host.replies = r :: rest → r.body = some b → exec .replySent s
      = .next (conclude { s with host := { s.host with
          replies := rest
          requests := if r.forRequest then s.host.requests.tail else s.host.requests
          sent := (0x5A : Byte) :: (u8 b.payload.length ++ [r.kind, r.tag, b.status] ++ b.payload)
            ++ [crc8 (u8 b.payload.length ++ [r.kind, r.tag, b.status] ++ b.payload)]
          resetDue := s.host.resetDue || r.forReset } }))
    ∧ (∀ r rest, s.host.replies = r :: rest → r.body = none →
        exec .replySent s = .next (conclude s))
    ∧ (s.host.replies = [] → exec .replySent s = .next (conclude s))
    ∧ (∀ c q, requestOf c = some q → s.pack.power = .active → s.host.stopped = false →
        (8 ≤ s.host.replies.length → exec c s = .next (conclude (raise .frameDropped s)))
        ∧ (s.host.replies.length < 8 → 4 ≤ s.host.requests.length →
            exec c s = .next (conclude { s with host := { s.host with
              replies := s.host.replies ++ [⟨q.kind + 0x80, q.tag, some ⟨0x0A, []⟩, false, false⟩] } })))
    ∧ (∀ c, isRequest c = true → s.host.stopped = true → exec c s = .next (conclude s))
    ∧ ∀ c, isRequest c = true → s.pack.power = .standby → s.host.stopped = false →
        exec c s = exec c (wake s)

/-- FENCE and RESET (R186, R190): the reply at once with nothing outstanding, deferred otherwise, BUSY behind a
deferred one, FENCE_TIMEOUT at the timer's end, and the RESET that ends it with ABORTED.

The five conditions: ALLOT while a slot is settling or waiting, RAMP while the ramping flag is yes, DOCK while an
exchange is in progress, ASSIGN while an entry is in ASSIGNING, CAP while an entry holds a pending cap or a CAP is
queued, one that is kept at the head of the queue after a loss included. -/
def Obligations.AFenceWaitsForTheWork : Prop :=
  ∀ (tag : Byte) (s : State),
    (let o := outstanding s
     let slots := [s.arb.reserve, s.arb.head, s.arb.lamp, s.arb.aux, s.arb.suction]
     (o.allot = true ↔ ∃ sl ∈ slots, sl.settling = true ∨ sl.waiting = true)
     ∧ (o.ramp = true ↔ s.gov.ramping = true)
     ∧ (o.dock = true ↔ ∃ e, s.dock.exch = some e)
     ∧ (o.assign = true ↔ ∃ n ∈ s.line.nodes, n.state = .assigning)
     ∧ (o.cap = true ↔ (∃ n ∈ s.line.nodes, ∃ c, n.pending = some c)
         ∨ ∃ a b k, .cap a b k ∈ s.line.queue ∨ s.line.lost = some (.cap a b k))
     ∧ (o.any = true ↔ o.allot = true ∨ o.ramp = true ∨ o.dock = true ∨ o.assign = true ∨ o.cap = true))
    ∧ (s.serves → s.host.fence = none → (outstanding s).any = false →
      exec (.fence tag) s = .next (conclude (replied 0x04 tag .ok [0, 0, 0] s)))
    ∧ (s.serves → s.host.fence = none → (outstanding s).any = true →
        exec (.fence tag) s = .next (conclude { s with host := { s.host with
          fence := some ⟨tag, 2000⟩, requests := s.host.requests ++ [⟨0x04, tag⟩]
          replies := s.host.replies ++ [⟨0x84, tag, none, true, false⟩] } }))
    ∧ (s.serves → s.host.fence.isSome →
        exec (.fence tag) s = .next (conclude (replied 0x04 tag .busy [] s)))
    ∧ (∀ f, s.host.fence = some f → (outstanding s).any = false → (finish s).host.fence = none
        ∧ (finish s).host.replies = s.host.replies.map (fun r => if r.body.isNone
            then { r with body := some ⟨0x00, u16 (2000 - f.timer) ++ [0]⟩ } else r))
    ∧ (∀ f, s.host.fence = some f → (outstanding s).any = true → finish s = s)
    ∧ (∀ f, s.powered → s.signals = [] → s.host.fence = some f → exec .fenceTimeout s
        = .next { s with host := { s.host with
            fence := none
            replies := s.host.replies.map (fun r => if r.body.isNone
              then { r with body := some ⟨0x0B, [0xD0, 0x07] ++ u8 (outstanding s).code⟩ }
              else r) } })
    ∧ (s.pack.power = .active → s.host.stopped = false → s.host.replies.length < 8 →
        ∃ t, exec (.reset tag) s = .next t ∧ t.host.stopped = true ∧ t.host.rx = .hunting
          ∧ t.host.fence = none ∧ t.host.requests = s.host.requests ++ [⟨0x06, tag⟩]
          ∧ t.host.replies = (if s.host.fence.isSome
              then s.host.replies.map (fun r => if r.body.isNone
                then { r with body := some ⟨0x0C, []⟩ } else r)
              else s.host.replies) ++ [⟨0x86, tag, some ⟨0x00, []⟩, true, true⟩])

/-- EVENTS_READ and EVENT_MASK (R188). The two are accepted in both link states; in STANDBY their first byte has
woken the part (R19). -/
def Obligations.EventsAreReadAndMasked : Prop :=
  ∀ (tag : Byte) (s : State),
    (s.serves → s.quiet →
      (∃ t, exec (.eventsRead tag) s = .next t
        ∧ t = replied 0x02 tag .ok (u32 s.host.events.toNat ++ u32 s.host.mask.toNat)
            { s with host := { s.host with events := 0 } }
        ∧ (∀ e, hasEvent e t = false) ∧ t.host.mask = s.host.mask ∧ attnLow t = false
        ∧ (∀ e, hasEvent e (raise e t) = true))
      ∧ exec (.eventMask tag none) s
          = .next (replied 0x03 tag .ok (u32 s.host.mask.toNat ++ u32 s.host.events.toNat) s)
      ∧ (∀ m : Quad, ∃ t, exec (.eventMask tag (some m)) s = .next t
        ∧ t = replied 0x03 tag .ok (u32 (m.toNat % 2 ^ 28) ++ u32 s.host.events.toNat)
            { s with host := { s.host with mask := m.setWidth 28 } }
        ∧ t.host.events = s.host.events
        ∧ attnLow t = decide (s.host.events &&& ~~~(m.setWidth 28) ≠ 0)))
    ∧ (s.pack.power = .standby → s.host.stopped = false →
        exec (.eventsRead tag) s = exec (.eventsRead tag) (wake s)
        ∧ ∀ m, exec (.eventMask tag m) s = exec (.eventMask tag m) (wake s))

/-- The reading requests change nothing but the reply queue and the pending list, and each carries its payload
(R23, R40, R58, R65, R92, R107, R108, R138 to R140, R162, R163, R171, R181, R191); the order of the payload
bytes is the model's choice where the spec leaves it open, log entry 15.

The payloads of PACK_READ, ALLOT_READ, MOTOR_READ, DIRT_READ, TOOL_LIST, CHARGE_READ, DOCK_READ and WATCH_READ are, in
order, the fields that their rules list, each in its encoding (R23, R40, R58, R108, R140, R163, R181, 12.8.1). That a
changed cell count stands beside the record of an earlier round is the model's choice, log entry 59, and the order of
TOOL_LIST's quarantined addresses log entry 15. -/
def Obligations.ReadingChangesNothing : Prop :=
  (∀ (tag i : Byte) (s : State), s.serves →
    exec (.ident tag) s = .next (conclude (replied 0x01 tag .ok identPayload s))
    ∧ exec (.packRead tag) s = .next (conclude (replied 0x12 tag .ok (packReadPayload s.pack) s))
    ∧ exec (.allotRead tag) s = .next (conclude (replied 0x19 tag .ok (allotReadPayload s) s))
    ∧ exec (.motorRead tag) s = .next (conclude (replied 0x26 tag .ok (motorReadPayload s.drive) s))
    ∧ exec (.blockConfig tag none) s = .next (conclude (replied 0x28 tag .ok (blockPayload s.load) s))
    ∧ exec (.dirtConfig tag none) s
        = .next (conclude (replied 0x30 tag .ok (dirtConfigPayload s.dirt) s))
    ∧ exec (.dirtRead tag) s = .next (conclude (replied 0x31 tag .ok (dirtReadPayload s.dirt) s))
    ∧ exec (.toolMissRead tag) s = .next (conclude (replied 0x3B tag .ok (toolMissPayload s) s))
    ∧ exec (.toolList tag) s = .next (conclude (replied 0x3C tag .ok (toolListPayload s) s))
    ∧ exec (.chargeConfig tag none) s
        = .next (conclude (replied 0x40 tag .ok (chargeConfigPayload s) s))
    ∧ exec (.chargeRead tag) s = .next (conclude (replied 0x41 tag .ok (chargeReadPayload s) s))
    ∧ exec (.dockRead tag) s = .next (conclude (replied 0x42 tag .ok (dockReadPayload s.dock) s))
    ∧ exec (.evacConfig tag none) s = .next (conclude (replied 0x48 tag .ok (evacConfigPayload s) s))
    ∧ (∀ h : i.toNat < 16, exec (.profileRead tag i) s
        = .next (conclude (replied 0x21 tag .ok (profileReadPayload ⟨i.toNat, h⟩ s) s)))
    ∧ (16 ≤ i.toNat →
        exec (.profileRead tag i) s = .next (conclude (replied 0x21 tag .badArg [] s)))
    ∧ (∀ h : i.toNat < 8,
        exec (.toolRead tag i) s
            = .next (conclude (replied 0x3A tag .ok (toolReadPayload ⟨i.toNat, h⟩ s) s))
        ∧ exec (.watchRead tag i) s
            = .next (conclude (replied 0x52 tag .ok (watchReadPayload ⟨i.toNat, h⟩ s.watch) s)))
    ∧ (8 ≤ i.toNat →
        exec (.toolRead tag i) s = .next (conclude (replied 0x3A tag .badArg [] s))
        ∧ exec (.watchRead tag i) s = .next (conclude (replied 0x52 tag .badArg [] s))))
  ∧ (∀ (i : Fin 8) (s : State),
    packReadPayload s.pack = (packReadFields s.pack).flatten
      ∧ allotReadPayload s = (allotReadFields s).flatten
      ∧ motorReadPayload s.drive = (motorReadFields s.drive).flatten
      ∧ dirtReadPayload s.dirt = (dirtReadFields s.dirt).flatten
      ∧ toolListPayload s = (toolListFields s).flatten
      ∧ chargeReadPayload s = (chargeReadFields s).flatten
      ∧ dockReadPayload s.dock = (dockReadFields s.dock).flatten
      ∧ watchReadPayload i s.watch = (watchReadFields i s.watch).flatten)

/-- GAUGE_SET (R24): the value clamped to 0 to 1,000 permille, G from it, GAUGE_CLIP cleared, the rest timer and
everything else as before, and the stored value in the reply.

PACK_CONFIG and OCV_TABLE (R21, R22): the clamped settings, the refused change of the cell count, the
rescaled gauge, the re-seed of V_f, and a table that must increase.

RESERVE_SET (R39): the allowance clamped to 100 to 1,000 mA is the RESERVE request and floor; a changed value
starts a recompute. -/
def Obligations.ThePackAndTheReserveAreSet : Prop :=
  (∀ (tag : Byte) (soc : Half) (s : State), s.serves → 0 < s.pack.capacity →
    let v := (max 0 (min 1000 soc.toInt)).toNat
    ∃ t, exec (.gaugeSet tag soc) s = .next t
      ∧ t.pack = { s.pack with gauge := v * (s.pack.capacity * 360000) / 1000, clip := false }
      ∧ stateOfCharge t.pack = v ∧ t.pack.rest = s.pack.rest
      ∧ (s.quiet → t = replied 0x13 tag .ok (u16 v) { s with pack := t.pack }))
  ∧ (∀ (tag : Byte) (s : State), s.serves →
    (∀ (count : Byte) (capacity inom : Half),
      let n := max 5 (min 7 count.toNat)
      let c := (max 1000 (min 8000 capacity.toInt)).toNat
      let i := (max 10000 (min 32000 inom.toInt)).toNat
      (n ≠ s.pack.count → s.drive.state.atRest = false ∨ s.dock.state.charges = true →
        exec (.packConfig tag count capacity inom) s
          = .next (conclude (replied 0x10 tag .refusedState [] s)))
      ∧ (n = s.pack.count ∨ (s.drive.state.atRest = true ∧ s.dock.state.charges = false) →
        exec (.packConfig tag count capacity inom) s
          = .next (conclude (replied 0x10 tag .ok (u8 n ++ u16 c ++ u16 i) { s with
              pack := { s.pack with
                count := n, capacity := c, inom := i
                reseed := s.pack.reseed || decide (n ≠ s.pack.count)
                gauge := if c = s.pack.capacity then s.pack.gauge
                  else s.pack.gauge * (c * 360000) / (s.pack.capacity * 360000) }
              host := { s.host with configured := true } }))))
    ∧ ∀ points : List Half, points.length = 11 →
        let l := points.map (fun p => (max 2500 (min 4500 p.toInt)).toNat)
        (l.Pairwise (· < ·) → exec (.ocvTable tag points) s
          = .next (conclude (replied 0x11 tag .ok (l.flatMap u16)
              { s with pack := { s.pack with ocv := l } })))
        ∧ (¬l.Pairwise (· < ·) → exec (.ocvTable tag points) s
          = .next (conclude (replied 0x11 tag .badArg [] s))))
  ∧ (∀ (tag : Byte) (ma : Half) (s : State), s.serves →
    let v := (max 100 (min 1000 ma.toInt)).toNat
    (s.arb.reserve.request = v → s.arb.reserve.floor = v → exec (.reserveSet tag ma) s
      = .next (conclude (replied 0x18 tag .ok (u16 v) s)))
    ∧ (s.arb.reserve.request ≠ v → exec (.reserveSet tag ma) s
        = .next (conclude (replied 0x18 tag .ok (u16 v) (askRecompute { s with arb := { s.arb with
            reserve := { s.arb.reserve with request := v, floor := v } } })))))

/-- PROFILE_LOCK (R64): the entry's locked field becomes yes and the entry is in the reply; an index above 15 is
refused. A locked entry keeps its values against PROFILE_WRITE and is selected like any other; a power-on
reset clears every lock and a soft reset keeps them. -/
def Obligations.AProfileIsLocked : Prop :=
  ∀ (tag i : Byte) (s : State), s.serves → s.quiet →
    (16 ≤ i.toNat → exec (.profileLock tag i) s = .next (replied 0x22 tag .badArg [] s))
    ∧ (∀ h : i.toNat < 16,
        (∃ t, exec (.profileLock tag i) s = .next t
          ∧ t.gov.profiles[i.toNat] = { s.gov.profiles[i.toNat] with locked := true }
          ∧ (∀ j : Fin 16, j.val ≠ i.toNat → t.gov.profiles[j] = s.gov.profiles[j])
          ∧ t = replied 0x22 tag .ok (profileFields t.gov.profiles[i.toNat])
              { s with gov := { s.gov with profiles := t.gov.profiles } }
          ∧ (s.gov.profiles[i.toNat].locked = true → t.gov.profiles = s.gov.profiles))
        ∧ (s.gov.profiles[i.toNat].locked = true →
            (∀ f : ProfileFields, f.enabled = true → f.selectable = true →
              exec (.profileWrite tag i f) s = .next (replied 0x20 tag .locked [] s))
            ∧ (s.gov.profiles[i.toNat].enabled = true → s.gov.profiles[i.toNat].selectable = true →
                (∀ b, s.gov.stack = [b] → ∃ t, exec (.modeSet tag i) s = .next t
                  ∧ (activeIndex t.gov).val = i.toNat)
                ∧ (topOrigin s.gov ≠ some .clear → s.gov.stack.length < 4 →
                    ∃ t, exec (.modePush tag i) s = .next t ∧ (activeIndex t.gov).val = i.toNat))))
    ∧ (∀ j : Fin 16, State.reset.gov.profiles[j].locked = false)
    ∧ (s.host.resetDue = true →
        ∃ t, exec .softReset s = .next t ∧ t.gov.profiles = s.gov.profiles)

/-- PROFILE_WRITE (R63): the refusals in their order, and every field stored clamped, floor_power to the smaller
of the two clamped powers. -/
def Obligations.AProfileIsWritten : Prop :=
  ∀ (tag i : Byte) (f : ProfileFields) (s : State), s.serves →
    (16 ≤ i.toNat → exec (.profileWrite tag i f) s = .next (conclude (replied 0x20 tag .badArg [] s)))
    ∧ ∀ h : i.toNat < 16,
        let stands := s.gov.stack.any (fun e => e.profile == ⟨i.toNat, h⟩ && e.origin != .clear)
        let refused := (f.enabled = false ∨ f.selectable = false) ∧ stands = true
        let hard := (max 20 (min 600 f.hard.toInt)).toNat
        let carpet := (max 20 (min 600 f.carpet.toInt)).toNat
        (refused → exec (.profileWrite tag i f) s
          = .next (conclude (replied 0x20 tag .refusedState [] s)))
        ∧ (¬refused → s.gov.profiles[i.toNat].locked = true → exec (.profileWrite tag i f) s
          = .next (conclude (replied 0x20 tag .locked [] s)))
        ∧ (¬refused → s.gov.profiles[i.toNat].locked = false →
            ∃ t p, exec (.profileWrite tag i f) s = .next t ∧ t.gov.profiles[i.toNat] = p
              ∧ p.enabled = f.enabled ∧ p.selectable = f.selectable ∧ p.auto = f.auto
              ∧ p.hard = hard ∧ p.carpet = carpet
              ∧ (p.floor : Int) = max 20 (min ((min hard carpet : Nat) : Int) f.floor.toInt)
              ∧ p.gain = min 4 f.gain.toNat ∧ p.brush = min 3 f.brush.toNat
              ∧ p.ramp = max 5 (min 100 f.ramp.toNat) ∧ p.locked = false
              ∧ (∀ j : Fin 16, j.val ≠ i.toNat → t.gov.profiles[j] = s.gov.profiles[j])
              ∧ t.pack = s.pack ∧ t.tools = s.tools
              ∧ (s.signals = [] → t.gov.stack = s.gov.stack ∧ t.arb = s.arb
                  ∧ (p.brush ≠ s.gov.profiles[i.toNat].brush → (activeIndex s.gov).val = i.toNat →
                      t.line.brush = p.brush)))

/-- MODE_SET and MODE_PUSH (R66 to R68): the refusals in their order, the stack after each, and the brush level of a
new active profile handed to the tool line, which sends it to the nodes that declare a brush (R123). -/
def Obligations.TheModeStackMoves : Prop :=
  ∀ (tag i : Byte) (s : State), s.serves → s.quiet →
    (16 ≤ i.toNat → exec (.modeSet tag i) s = .next (replied 0x23 tag .badArg [] s))
    ∧ (∀ h : i.toNat < 16,
        let free := s.gov.profiles[i.toNat].enabled && s.gov.profiles[i.toNat].selectable
        (free = false → exec (.modeSet tag i) s = .next (replied 0x23 tag .refusedState [] s))
        ∧ (∀ b rest, free = true → s.gov.stack = b :: rest → ∃ t, exec (.modeSet tag i) s = .next t
            ∧ t.gov = { s.gov with stack := { b with profile := ⟨i.toNat, h⟩ } :: rest }
            ∧ t.host = (replied 0x23 tag .ok (stackPayload t.gov.stack) s).host ∧ t.drive = s.drive
            ∧ (rest ≠ [] ∨ b.profile = ⟨i.toNat, h⟩ → t.line = s.line)
            ∧ (rest = [] → b.profile ≠ ⟨i.toNat, h⟩ → brushHanded s.gov.profiles[i.toNat].brush s t)))
    ∧ (topOrigin s.gov = some .clear →
        exec (.modePush tag i) s = .next (replied 0x24 tag .busy [] s))
    ∧ (topOrigin s.gov ≠ some .clear →
        (16 ≤ i.toNat → exec (.modePush tag i) s = .next (replied 0x24 tag .badArg [] s))
        ∧ ∀ h : i.toNat < 16,
          let free := s.gov.profiles[i.toNat].enabled && s.gov.profiles[i.toNat].selectable
          (free = false → exec (.modePush tag i) s = .next (replied 0x24 tag .refusedState [] s))
          ∧ (free = true → 4 ≤ s.gov.stack.length →
              exec (.modePush tag i) s = .next (replied 0x24 tag .full [] s))
          ∧ (free = true → s.gov.stack.length < 4 → ∃ t, exec (.modePush tag i) s = .next t
              ∧ t.gov = { s.gov with stack := s.gov.stack ++ [⟨⟨i.toNat, h⟩, .host⟩] }
              ∧ t.host = (replied 0x24 tag .ok (stackPayload t.gov.stack) s).host
              ∧ t.drive = s.drive
              ∧ ((activeIndex s.gov).val = i.toNat → t.line = s.line)
              ∧ ((activeIndex s.gov).val ≠ i.toNat → brushHanded s.gov.profiles[i.toNat].brush s t)))

/-- MODE_POP (R69), in a stack that meets the law of R66: EMPTY at depth 1 and under a CLEAR entry with no HOST
beneath, a HOST entry on top removed, and beneath a CLEAR entry the highest HOST entry. The brush level of a new active
profile is handed to the tool line, and no other (R66, R123). -/
def Obligations.AModePopRemovesAHostEntry : Prop :=
  ∀ (tag : Byte) (s : State), s.serves → s.quiet → stackLaw s →
    (s.gov.stack.length = 1 → exec (.modePop tag) s = .next (replied 0x25 tag .empty [] s))
    ∧ (topOrigin s.gov = some .host → ∃ t, exec (.modePop tag) s = .next t
        ∧ t.gov = { s.gov with stack := s.gov.stack.dropLast }
        ∧ t.host = (replied 0x25 tag .ok (stackPayload s.gov.stack.dropLast) s).host
        ∧ (activeIndex t.gov = activeIndex s.gov → t.line = s.line)
        ∧ (activeIndex t.gov ≠ activeIndex s.gov → brushHanded (activeProfile t.gov).brush s t))
    ∧ (∀ pre h post c, s.gov.stack = pre ++ h :: (post ++ [c]) → c.origin = .clear →
        h.origin = .host → (∀ e ∈ post, e.origin ≠ .host) → ∃ t, exec (.modePop tag) s = .next t
          ∧ t.gov = { s.gov with stack := pre ++ (post ++ [c]) }
          ∧ activeIndex t.gov = activeIndex s.gov ∧ t.line = s.line
          ∧ t.host = (replied 0x25 tag .ok (stackPayload t.gov.stack) s).host)
    ∧ (topOrigin s.gov = some .clear → (∀ e ∈ s.gov.stack, e.origin ≠ .host) →
        exec (.modePop tag) s = .next (replied 0x25 tag .empty [] s))

/-- BLOCK_CONFIG, DIRT_CONFIG, CHARGE_CONFIG and EVAC_CONFIG with settings (R92, R107, R162, R171): each clamped and
stored. A changed threshold restarts the level's counters and leaves the level; a changed capacity or full_pct forms
the full flag again, and a moved bin_pct is delivered (R102, R104). An I_tgt that is lowered lowers the current at
once. An I_term of 1 to 49 mA is stored as 50 and a negative one as AUTO, the model's choice, log entry 16, and that
the current of COARSE below 3,000 mV is lowered as well log entry 72.

BIN_RESET (R106): B, BIN_SAT and, for a full_pct in its range, the full flag are clear, and one update of BIN_PCT is
delivered; the dirt level and the settings stand. -/
def Obligations.SettingsAreClampedAndTheBinIsReset : Prop :=
  (∀ (tag : Byte) (s : State), s.serves → s.signals = [] →
    (∀ (p : Byte) (m : Half), ∃ t, exec (.blockConfig tag (some (p, m))) s = .next t
      ∧ t.load.blockPct = max 105 (min 150 p.toNat)
      ∧ t.load.blockMs = (max 200 (min 2000 m.toInt)).toNat / 10 * 10
      ∧ t.load.cls = s.load.cls ∧ t.load.phase = s.load.phase ∧ t.load.attempts = s.load.attempts
      ∧ (t.load.blockPct ≠ s.load.blockPct ∨ t.load.blockMs ≠ s.load.blockMs →
          t.load.rise = 0 ∧ t.load.block = 0 ∧ t.load.release = 0)
      ∧ t.drive = s.drive ∧ t.gov = s.gov)
    ∧ (∀ f : DirtFields,
        let t1 := (max 1 (min 5000 f.t1.toInt)).toNat
        let t2 := (max 1 (min 5000 f.t2.toInt)).toNat
        let t3 := (max 1 (min 5000 f.t3.toInt)).toNat
        let c := max 1000 (min 1000000 f.capacity.toNat)
        (¬(t1 < t2 ∧ t2 < t3) →
          exec (.dirtConfig tag (some f)) s = .next (conclude (replied 0x30 tag .badArg [] s)))
        ∧ (t1 < t2 → t2 < t3 →
          let u := (serveDirtConfig (some f) s).state
          let pct := u.dirt.bin * 100 / c
          let same := t1 = s.dirt.t1 ∧ t2 = s.dirt.t2 ∧ t3 = s.dirt.t3
          exec (.dirtConfig tag (some f)) s
              = .next (conclude (replied 0x30 tag .ok (dirtConfigPayload u.dirt) u))
            ∧ u.dirt.level = s.dirt.level
            ∧ (same → u.dirt.rise = s.dirt.rise ∧ u.dirt.cand = s.dirt.cand ∧ u.dirt.fall = s.dirt.fall)
            ∧ (¬same → u.dirt.rise = 0 ∧ u.dirt.cand = 0 ∧ u.dirt.fall = 0)
            ∧ u.signals = (if pct = s.dirt.bin * 100 / s.dirt.capacity then []
                else [.update .binPct (reportNat (some pct))]))
        ∧ (t1 < t2 → t2 < t3 → ∃ t, exec (.dirtConfig tag (some f)) s = .next t
          ∧ t.dirt.large = (max 100 (min 2000 f.large.toInt)).toNat
          ∧ t.dirt.t1 = t1 ∧ t.dirt.t2 = t2 ∧ t.dirt.t3 = t3 ∧ t.dirt.capacity = c
          ∧ t.dirt.fullPct = max 50 (min 100 f.fullPct.toNat)
          ∧ t.dirt.bin = min s.dirt.bin c
          ∧ t.dirt.sat = (s.dirt.sat || decide (c ≤ s.dirt.bin))
          ∧ t.dirt.full = (if c = s.dirt.capacity ∧ t.dirt.fullPct = s.dirt.fullPct then s.dirt.full
              else decide (t.dirt.fullPct ≤ t.dirt.bin * 100 / c))
          ∧ (t.dirt.full = true → s.dirt.full = false → hasEvent .binFull t = true)
          ∧ t.dirt.status = s.dirt.status ∧ t.evac = s.evac))
    ∧ (∀ (m term : Half) (d : Byte), ∃ t, exec (.chargeConfig tag (some (m, term, d))) s = .next t
      ∧ t.dock.iMax = (max 300 (min 4000 m.toInt)).toNat
      ∧ t.dock.iTerm = (if term.toInt ≤ 0 then 0 else (max 50 (min 1000 term.toInt)).toNat)
      ∧ t.dock.debounceMs = max 100 (min 250 d.toNat) / 25 * 25
      ∧ t.dock.iTgt ≤ s.dock.iTgt ∧ t.dock.iTgt ≤ t.dock.iMax
      ∧ t.dock.iChg = (if s.dock.state.charges = true ∧ t.dock.iTgt < s.dock.iTgt
          then min s.dock.iChg t.dock.iTgt else s.dock.iChg)
      ∧ t.dock.state = s.dock.state ∧ t.dock.csw = s.dock.csw ∧ t.dock.agreement = s.dock.agreement)
    ∧ (∀ p d : Byte, ∃ t, exec (.evacConfig tag (some (p, d))) s = .next t
      ∧ t.evac.pct = min 100 p.toNat ∧ t.evac.setting = max 3 (min 15 d.toNat)
      ∧ (if 0 < t.evac.pct ∧ (∃ i, s.dock.identity = some i ∧ i.support = true)
            ∧ t.evac.pct ≤ s.dirt.bin * 100 / s.dirt.capacity
            ∧ s.dock.state ≠ .detached ∧ s.dock.state ≠ .attachWait ∧ s.dock.state ≠ .fault
            ∧ evacInProgress s = false ∧ s.evac.auto = false
          then t.evac.state = .requested ∧ t.evac.trigger = .auto
            ∧ t.evac.duration = t.evac.setting ∧ t.evac.auto = true
          else t.evac.state = s.evac.state ∧ t.evac.auto = s.evac.auto
            ∧ t.evac.timer = s.evac.timer)))
  ∧ (∀ (tag : Byte) (s : State), s.serves → 1 ≤ s.dirt.fullPct →
    exec (.binReset tag) s = .next (conclude (deliver .binPct 0
      (replied 0x32 tag .ok [0, 0, 0, 0, 0, 0] { s with
        dirt := { s.dirt with bin := 0, sat := false, full := false } }))))

/-- FAULT_CLEAR, READY and SLEEP (R59, R189, R18). -/
def Obligations.TheDriveTheLinkAndThePowerAreCommanded : Prop :=
  ∀ (tag : Byte) (s : State), s.serves → s.signals = [] →
    (s.drive.trig = true ∨ s.drive.state.atRest = false →
      exec (.faultClear tag) s = .next (conclude (replied 0x27 tag .refusedState [] s)))
    ∧ (s.drive.trig = false → s.drive.state.atRest = true → ∃ t, exec (.faultClear tag) s = .next t
      ∧ t.drive.trips = [] ∧ t.drive.tripCause = .none ∧ t.drive.tripCount = s.drive.tripCount
      ∧ (s.drive.state ≠ .locked → t.drive.state = s.drive.state)
      ∧ (s.drive.state = .locked → s.drive.startPending = false → t.drive.state = .off))
    ∧ (s.host.configured = false →
        exec (.ready tag) s = .next (conclude (replied 0x05 tag .refusedState [] s)))
    ∧ (s.host.configured = true → s.host.ready = true →
        exec (.ready tag) s = .next (conclude (replied 0x05 tag .ok [] s)))
    ∧ (s.host.configured = true → s.host.ready = false →
        exec (.ready tag) s = .next (conclude (replied 0x05 tag .ok []
          (askRecompute { s with host := { s.host with ready := true } }))))
    ∧ (s.drive.state.atRest = false ∨ s.drive.trig = true ∨ s.dock.state ≠ .detached
          ∨ evacInProgress s = true →
        exec (.sleep tag) s = .next (conclude (replied 0x14 tag .refusedState [] s)))
    ∧ (s.drive.state.atRest = true → s.drive.trig = false → s.dock.state = .detached →
        evacInProgress s = false → ∃ t, exec (.sleep tag) s = .next t
          ∧ t.pack.power = .standby ∧ t.pack.round = some 1000 ∧ t.gov.step = none
          ∧ t.line.tpwr = .off ∧ t.line.nodes = [] ∧ t.pack.gauge = s.pack.gauge
          ∧ t.host.requests = s.host.requests ++ [⟨0x14, tag⟩])

/-- CHARGE_FORCE by its first option (R161): what each does by the charge state, the HALT that DISABLE and RENEGOTIATE
make due (R148), and an entry to IDENTIFY under a pause order taken as one to PAUSED for WATCH (R159). -/
def Obligations.ChargingIsForced : Prop :=
  ∀ (tag : Byte) (s : State), s.serves → s.quiet →
    (∃ t, exec (.chargeForceDisable tag) s = .next t ∧ t.dock.disabled = true
      ∧ (s.dock.state = .detached ∨ s.dock.state = .attachWait ∨ s.dock.state = .disabled
            ∨ s.dock.state = .fault → t.dock = { s.dock with disabled := true })
      ∧ (s.dock.state ≠ .detached → s.dock.state ≠ .attachWait → s.dock.state ≠ .fault →
          t.dock.state = .disabled ∧ (s.dock.state ≠ .disabled →
            t.dock.csw = false ∧ t.dock.bleed = [] ∧ t.dock.agreement = none
              ∧ t.dock.dueCharge = none
              ∧ (s.dock.identTaken = true →
                  ((∀ e, s.dock.exch = some e → e.req.isCharge = true) →
                    t.dock.exch = some ⟨.halt, 1, none, 0, false, .first, .sending, 0⟩ ∧ t.dock.dueHalt = false)
                  ∧ (∀ e, s.dock.exch = some e → e.req.isCharge = false →
                    t.dock.exch = some e ∧ t.dock.dueHalt = true))))
      ∧ t.dock.lastFault = s.dock.lastFault
      ∧ hasEvent .chargeFault t = hasEvent .chargeFault s)
    ∧ (∃ t, exec (.chargeForceEnable tag) s = .next t ∧ t.dock.disabled = false
      ∧ (s.dock.state ≠ .disabled → t.dock = { s.dock with disabled := false })
      ∧ (s.dock.state = .disabled → s.watch.pauseOrder = false → t.dock.state = .identify)
      ∧ (s.dock.state = .disabled → s.watch.pauseOrder = true → t.dock.state = .paused ∧ t.dock.pause = .watch
          ∧ t.dock.csw = false ∧ t.dock.agreement = none ∧ t.dock.dueCharge = none))
    ∧ (s.dock.state ≠ .fault →
        exec (.chargeForceRecover tag) s = .next (replied 0x43 tag .refusedState [] s))
    ∧ (s.dock.state = .fault → s.drive.state.atRest = true → ∃ t,
        exec (.chargeForceRecover tag) s = .next t
        ∧ t.dock.total = 0 ∧ t.dock.period = some 1000
        ∧ t.dock.state = (if s.dock.disabled then .disabled else if s.pack.overvolt then .fault
            else if s.watch.pauseOrder then .paused else .identify))
    ∧ (s.dock.state = .detached ∨ s.dock.state = .attachWait ∨ s.dock.state = .identify
          ∨ s.dock.state = .negotiate ∨ s.dock.state = .disabled ∨ s.dock.state = .fault →
        exec (.chargeForceRenegotiate tag) s = .next (replied 0x43 tag .refusedState [] s))
    ∧ (s.dock.state.charges = true ∨ s.dock.state = .topped ∨ s.dock.state = .paused →
        (s.dock.exch.isSome →
          exec (.chargeForceRenegotiate tag) s = .next (replied 0x43 tag .busy [] s))
        ∧ (s.dock.exch = none → s.watch.pauseOrder = false → ∃ t,
            exec (.chargeForceRenegotiate tag) s = .next t
            ∧ t.dock.state = .identify ∧ t.dock.csw = false ∧ t.dock.agreement = none
            ∧ (s.dock.identTaken = true → t.dock.exch.map (·.req) = some .halt
                ∧ t.dock.dueCharge = some .hello))
        ∧ (s.dock.exch = none → s.watch.pauseOrder = true → ∃ t,
            exec (.chargeForceRenegotiate tag) s = .next t
            ∧ t.dock.state = .paused ∧ t.dock.pause = .watch ∧ t.dock.csw = false ∧ t.dock.agreement = none
            ∧ t.dock.dueCharge = none
            ∧ (s.dock.identTaken = true → t.dock.exch.map (·.req) = some .halt)))

/-- EVAC_START (R167): the refusals in their order, and the record of a start.

The end of an evacuation (R169, R105): the dock's report in RUNNING, and the completion timer.

An EVAC_STATUS in COARSE (R146, R158, R159, R169): it is taken, and shows that the dock talks, so that CSW opens and
the state is IDENTIFY, or PAUSED for WATCH under a pause order. One that R146 or R194 discards does neither. -/
def Obligations.AnEvacuationStartsAndEnds : Prop :=
  (∀ (tag d : Byte) (s : State), s.serves →
    let docked := s.dock.state ≠ .detached ∧ s.dock.state ≠ .attachWait
    let able := ∃ i, s.dock.identity = some i ∧ i.support = true
    (¬docked ∨ ¬able →
      exec (.evacStart tag d) s = .next (conclude (replied 0x49 tag .refusedState [] s)))
    ∧ (docked → able → evacInProgress s = true ∨ s.dock.exch.isSome →
        exec (.evacStart tag d) s = .next (conclude (replied 0x49 tag .busy [] s)))
    ∧ (docked → able → evacInProgress s = false → s.dock.exch = none →
        ∃ t n, exec (.evacStart tag d) s = .next t
          ∧ n = (if d = 0 then s.evac.setting else max 3 (min 15 d.toNat))
          ∧ t.evac = { s.evac with
              state := .requested, trigger := .host, duration := n
              binPct := s.dirt.bin * 100 / s.dirt.capacity
              outcome := .none, reason := none, confirmed := false }
          ∧ (s.signals = [] → s.dock.dueHalt = false → s.dock.dueCharge = none →
              t.dock.exch = some ⟨.evacReq n, 1, none, 0, false, .first, .sending, 0⟩)))
  ∧ (∀ (reason : Byte) (s : State), s.powered →
    (s.dock.state ≠ .detached → s.dock.state ≠ .attachWait → s.dock.state ≠ .coarse →
      s.evac.state = .running →
      exec (.evacStatus 0 reason) s
          = .next (conclude { s with evac := { s.evac with confirmed := true } })
        ∧ (∃ t, exec (.evacStatus 1 reason) s = .next t
          ∧ t.evac = { s.evac with state := .done, outcome := .done, timer := none }
          ∧ hasEvent .evacEnd t = true ∧ t.dirt.bin = 0 ∧ t.dirt.sat = s.dirt.sat
          ∧ (binLaw s → t.dirt.full = false))
        ∧ (∀ o, (reason = 1 ∧ o = .clog) ∨ (reason = 2 ∧ o = .door) ∨ (reason = 3 ∧ o = .timeout) →
          exec (.evacStatus 2 reason) s = .next (conclude (raise .evacEnd { s with
            evac := { s.evac with state := .failed, outcome := o, timer := none } }))))
    ∧ (∀ st, s.evac.state ≠ .running → s.dock.state ≠ .coarse →
        exec (.evacStatus st reason) s = .next (conclude s))
    ∧ (∀ st : Byte, s.dock.state = .detached ∨ s.dock.state = .attachWait ∨ 3 ≤ st.toNat
          ∨ (st = 2 ∧ (reason = 0 ∨ 4 ≤ reason.toNat)) →
        exec (.evacStatus st reason) s = .next (conclude s))
    ∧ (∀ st : Byte, s.dock.state = .coarse →
        st = 0 ∨ st = 1 ∨ (st = 2 ∧ 1 ≤ reason.toNat ∧ reason.toNat ≤ 3) →
        let u := takeEvacStatus st reason s
        exec (.evacStatus st reason) s = .next (conclude u)
          ∧ u.dock.csw = false ∧ u.dock.iChg = 0 ∧ hasEvent .chargeState u = true
          ∧ (s.watch.pauseOrder = false → u.dock.state = .identify
              ∧ (s.dock.exch = none → s.dock.dueHalt = false →
                  u.dock.exch = some ⟨.hello, 1, none, 0, false, .first, .sending, 0⟩))
          ∧ (s.watch.pauseOrder = true → u.dock.state = .paused ∧ u.dock.pause = .watch)
          ∧ (s.evac.state ≠ .running → u.evac = s.evac ∧ u.dirt = s.dirt)
          ∧ (s.evac.state = .running →
              (st = 0 → u.evac = { s.evac with confirmed := true } ∧ u.dirt = s.dirt)
              ∧ (st = 1 → u.evac = { s.evac with state := .done, outcome := .done, timer := none }
                  ∧ u.dirt.bin = 0 ∧ u.dirt.sat = s.dirt.sat ∧ hasEvent .evacEnd u = true)
              ∧ (st = 2 → u.evac = { s.evac with
                    state := .failed, timer := none
                    outcome := if reason = 1 then .clog else if reason = 2 then .door else .timeout }
                  ∧ u.dirt = s.dirt ∧ hasEvent .evacEnd u = true)))
    ∧ (s.evac.state = .running → s.evac.timer.isSome →
        exec .evacCompletionExpiry s = .next (conclude (raise .evacEnd { s with
          evac := { s.evac with state := .failed, outcome := .noReply, timer := none } }))))

/-- WATCH_SET, WATCH_ARM and WATCH_CLEAR (R178 to R180): the refusals, the record after each, and the results formed
again from the records that stand FIRED (R177).

The reply of a clear, the index and a free slot's fields, is the model's choice where the spec leaves it open (log
entry 15).

The evaluation of an update by one record (R173, R175, R176): the five comparisons, the move that their result makes,
and the value kept as the last.

An update (R173, R175 to R177, R51): every record takes it; a record that fires raises WATCH_FIRED, and one that
orders a stop stops a driving motor with cause WATCH; the results are formed again, a changed derate moves the
ceiling, and a pause order pauses charging or lets it go on. That an event takes its updates one after the other,
first in, first out, is the model's choice, log entries 5 and 6: R177 lets either of two be first. -/
def Obligations.WatchesAreSetAndFire : Prop :=
  (∀ (tag i : Byte) (s : State), s.serves → s.signals = [] →
    (∀ f : WatchFields, 8 ≤ i.toNat ∨ 16 ≤ f.quantity.toNat ∨ f.conds = 0 ∨ 32 ≤ f.conds.toNat
        ∨ 2 ≤ f.mode.toNat ∨ 4 ≤ f.action.toNat →
      exec (.watchSet tag i f) s = .next (conclude (replied 0x50 tag .badArg [] s)))
    ∧ (8 ≤ i.toNat →
        exec (.watchArmArm tag i) s = .next (conclude (replied 0x51 tag .badArg [] s))
        ∧ exec (.watchArmDisarm tag i) s = .next (conclude (replied 0x51 tag .badArg [] s))
        ∧ exec (.watchClear tag i) s = .next (conclude (replied 0x53 tag .badArg [] s)))
    ∧ ∀ h : i.toNat < 8,
        (∀ f : WatchFields, f.quantity.toNat < 16 → f.conds ≠ 0 → f.conds.toNat < 32 →
          f.mode.toNat < 2 → f.action.toNat < 4 → ∃ t r, exec (.watchSet tag i f) s = .next t
            ∧ t.watch.recs[i.toNat] = some r ∧ resultLaw t
            ∧ (∀ j : Fin 8, j.val ≠ i.toNat → t.watch.recs[j] = s.watch.recs[j])
            ∧ quantities[f.quantity.toNat]? = some r.quantity ∧ r.threshold = f.threshold
            ∧ r.conds = f.conds.setWidth 5 ∧ r.n = max 1 f.n.toNat
            ∧ r.mode = (if f.mode = 0 then .latch else .level)
            ∧ r.action = (if f.action = 0 then .notify
                else if f.action = 1 then .derate (max 10 (min 100 f.p.toNat))
                else if f.action = 2 then .stopMotor else .pauseCharge)
            ∧ r.state = .armed ∧ r.trueCount = 0 ∧ r.falseCount = 0 ∧ r.last = 0x8000)
        ∧ (s.watch.recs[i.toNat] = none →
            exec (.watchArmArm tag i) s = .next (conclude (replied 0x51 tag .notFound [] s))
            ∧ exec (.watchArmDisarm tag i) s = .next (conclude (replied 0x51 tag .notFound [] s))
            ∧ (resultLaw s → exec (.watchClear tag i) s
                = .next (conclude (replied 0x53 tag .ok [i, 0] s))))
        ∧ (∀ r, s.watch.recs[i.toNat] = some r →
            (∃ t, exec (.watchArmArm tag i) s = .next t ∧ resultLaw t
              ∧ t.watch.recs[i.toNat] = some { r with state := .armed, trueCount := 0, falseCount := 0 }
              ∧ ∀ j : Fin 8, j.val ≠ i.toNat → t.watch.recs[j] = s.watch.recs[j])
            ∧ (∃ t, exec (.watchArmDisarm tag i) s = .next t ∧ resultLaw t
              ∧ t.watch.recs[i.toNat]
                  = some { r with state := .disarmed, trueCount := 0, falseCount := 0 }
              ∧ ∀ j : Fin 8, j.val ≠ i.toNat → t.watch.recs[j] = s.watch.recs[j]))
        ∧ (∃ t, exec (.watchClear tag i) s = .next t ∧ resultLaw t
            ∧ t.watch.recs[i.toNat] = none
            ∧ ∀ j : Fin 8, j.val ≠ i.toNat → t.watch.recs[j] = s.watch.recs[j]))
  ∧ (∀ (r : WatchRec) (q : Quantity) (v : Half),
    (r.quantity ≠ q → r.take q v = r)
    ∧ (r.quantity = q → r.take q v = { r.move (r.holds v) with last := v })
    ∧ (r.holds v = true ↔ (r.conds.getLsbD 0 = true ∧ v.toInt < r.threshold.toInt)
        ∨ (r.conds.getLsbD 1 = true ∧ r.threshold.toInt < v.toInt)
        ∨ (r.conds.getLsbD 2 = true ∧ v = r.threshold)
        ∨ (r.conds.getLsbD 3 = true ∧ v.toNat < r.threshold.toNat)
        ∨ (r.conds.getLsbD 4 = true ∧ r.threshold.toNat < v.toNat))
    ∧ (∀ b, r.state = .disarmed → r.move b = r)
    ∧ (r.state = .armed ∨ r.state = .counting →
        r.move false = { r with state := .armed, trueCount := 0 }
        ∧ (r.trueCount + 1 < r.n →
            r.move true = { r with state := .counting, trueCount := r.trueCount + 1 })
        ∧ (r.n ≤ r.trueCount + 1 → r.move true
            = { r with state := .fired, trueCount := r.trueCount + 1, falseCount := 0 }))
    ∧ (∀ b, r.state = .fired → r.mode = .latch → r.move b = r)
    ∧ (r.state = .fired → r.mode = .level → r.move true = { r with falseCount := 0 }
        ∧ (r.falseCount + 1 < r.n → r.move false = { r with falseCount := r.falseCount + 1 })
        ∧ (r.n ≤ r.falseCount + 1 →
            r.move false = { r with state := .armed, trueCount := 0, falseCount := 0 })))
  ∧ (∀ (q : Quantity) (v : Half) (s : State),
    let t := watchUpdate q v s
    let fires := fun (r : WatchRec) => r.state ≠ .fired ∧ (r.take q v).state = .fired
    let stops := ∃ i : Fin 8, ∃ r, s.watch.recs[i] = some r ∧ fires r ∧ r.action = .stopMotor
    (∀ i : Fin 8, t.watch.recs[i] = (s.watch.recs[i]).map (fun r => r.take q v)) ∧ resultLaw t
      ∧ ((∃ i : Fin 8, ∃ r, s.watch.recs[i] = some r ∧ fires r) → hasEvent .watchFired t = true)
      ∧ ((∀ i : Fin 8, ∀ r, s.watch.recs[i] = some r → ¬fires r) →
          hasEvent .watchFired t = hasEvent .watchFired s)
      ∧ (stops → s.drive.state.drives = true →
          t.drive.state.drives = false ∧ t.drive.stopCause = .watch)
      ∧ (stops → s.drive.state = .run →
          t.drive.state = .stopping ∧ t.drive.bridge = .braking ∧ t.drive.pset = 0)
      ∧ (¬stops → t.drive.state = s.drive.state ∧ t.drive.stopCause = s.drive.stopCause)
      ∧ (t.watch.derate ≠ s.watch.derate →
          t.drive.ceiling = s.gov.grant * t.watch.derate / 100)
      ∧ (t.watch.derate = s.watch.derate → t.drive.ceiling = s.drive.ceiling)
      ∧ (s.watch.pauseOrder = false → t.watch.pauseOrder = true →
          (s.dock.state = .identify ∨ s.dock.state = .negotiate ∨ s.dock.state.charges = true
            ∨ (s.dock.state = .paused ∧ s.dock.pause ≠ .watch) →
              t.dock.state = .paused ∧ t.dock.pause = .watch ∧ t.dock.csw = false
                ∧ t.dock.agreement = none))
      ∧ (s.watch.pauseOrder = true → t.watch.pauseOrder = false → s.dock.state = .paused →
          s.dock.pause = .watch → t.dock.state = .identify)
      ∧ (t.watch.pauseOrder = s.watch.pauseOrder → ¬stops → t.dock = s.dock))
  ∧ (∀ (s : State) (n : Nat),
    (s.signals = [] → drain n s = s)
    ∧ ∀ q v rest, s.signals = .update q v :: rest →
        drain (n + 1) s = drain n (watchUpdate q v { s with signals := rest }))

/-! ## The laws of the part, kept by every step -/

/-- The laws of the stack and of the power request (R66, R75) are kept by every step. -/
def Obligations.EveryStepKeepsTheGovernorsLaws : Prop :=
  ∀ s t : State, step s = .next t → (stackLaw s → stackLaw t) ∧ (powerLaw s → powerLaw t)

/-- The laws of the gauge and of the bin (R10, R103) are kept by every step. -/
def Obligations.EveryStepKeepsTheCountersLaws : Prop :=
  ∀ s t : State, step s = .next t → (gaugeLaw s → gaugeLaw t) ∧ (binLaw s → binLaw t)

/-- The laws of the charge switch and of the trip history (R152, R54) are kept by every step. -/
def Obligations.EveryStepKeepsTheSwitchesLaws : Prop :=
  ∀ s t : State, step s = .next t → (switchLaw s → switchLaw t) ∧ (tripLaw s → tripLaw t)

/-- The laws of the dirt level and of the evacuation record (R95, R170) are kept by every step. -/
def Obligations.EveryStepKeepsTheCleaningLaws : Prop :=
  ∀ s t : State, step s = .next t → (dirtLaw s → dirtLaw t) ∧ (evacLaw s → evacLaw t)

/-- The laws of the watches, of their results and of the queues (R51, R177) are kept by every step. The queues' law
allows one refused RESET with a payload beyond the four requests and the RESET of R185, the model's reading, log entry
50. -/
def Obligations.EveryStepKeepsTheWatchesLaws : Prop :=
  ∀ s t : State, step s = .next t →
    (watchLaw s → watchLaw t) ∧ (resultLaw s → resultLaw t) ∧ (queueLaw s → queueLaw t)

/-- The laws of the node list and of the record table (R115, R128, R132) are kept by every step. -/
def Obligations.EveryStepKeepsTheToolLaws : Prop :=
  ∀ s t : State, step s = .next t →
    (nodeLaw s → nodeLaw t) ∧ (nodeLaw s → tableLaw s → tableLaw t)

/-- Stuffing and the check lose nothing: the field bits of a frame sent on the tool line are read back (R112,
R193).

Of two frames that begin in one bit period, the one whose first differing bit is dominant stands on the line whole, and
the other has lost it at that bit (R110): the lower sender address wins, and of two ANNOUNCE from address 15 the lower
serial; two frames that are alike both stand. -/
def Obligations.LineFramesReadBackAndTheDominantOneWins : Prop :=
  (∀ fields : List Bool, fieldsOf (lineBits fields) = some fields)
  ∧ (∀ p x y : List Bool,
    winsLine (lineBits (p ++ false :: x)) (lineBits (p ++ true :: y)) = true
      ∧ onLine (lineBits (p ++ true :: y)) (lineBits (p ++ false :: x)) = lineBits (p ++ false :: x)
      ∧ onLine (lineBits p) (lineBits p) = lineBits p ∧ lostAt (lineBits p) (lineBits p) = none)
  ∧ (∀ (a b : Addr) (x y : List Bool), a.toNat < b.toNat →
    winsLine (lineBits (bitsOf 4 a.toNat ++ x)) (lineBits (bitsOf 4 b.toNat ++ y)) = true)
  ∧ (∀ (a b : Serial) (x y : List Bool), a.toNat < b.toNat →
    winsLine (lineBits (bitsOf 4 15 ++ bitsOf 4 8 ++ bitsOf 32 a.toNat ++ x))
      (lineBits (bitsOf 4 15 ++ bitsOf 4 8 ++ bitsOf 32 b.toNat ++ y)) = true)
end

