-- ==== Sys2Proof/Laws/Arbiter.lean ====
section
/-! SUPPORT. What the steps of a recompute do to one slot (R29, R31, R35, R36): one lemma for each, which a proof
about the whole table cites for each slot in turn. -/

namespace Sys2Proof.Machine

@[simp] theorem aim_target (sl : Slot) (t : Nat × SlotState) : (sl.aim t).target = t.1 := rfl
@[simp] theorem aim_state (sl : Slot) (t : Nat × SlotState) : (sl.aim t).state = t.2 := rfl

@[simp] theorem lowerTool_target (full : Bool) (sl : Slot) : (sl.lowerTool full).target = sl.target := by
  unfold Slot.lowerTool; dsimp only; repeat' split
  all_goals rfl

@[simp] theorem lowerTool_state (full : Bool) (sl : Slot) : (sl.lowerTool full).state = sl.state := by
  unfold Slot.lowerTool; dsimp only; repeat' split
  all_goals rfl

/-- The chain gives a tool slot its share (R29). -/
theorem chainTool_shares (sl b : Slot) (avail aside : Nat)
    (ht : b.target = (chainTool sl avail aside).1) (hs : b.state = (chainTool sl avail aside).2) :
    sharesTool sl avail aside b := by
  unfold sharesTool
  rw [ht, hs]
  unfold chainTool
  dsimp only
  refine ⟨?_, ?_, ?_, ?_⟩ <;> intros <;> (repeat' split) <;> simp_all <;> omega

/-- The chain gives the SUCTION slot its share (R29). -/
theorem chainSuction_shares (sl b : Slot) (avail : Nat)
    (ht : b.target = (chainSuction sl avail).1) (hs : b.state = (chainSuction sl avail).2) :
    sharesSuction sl avail b := by
  unfold sharesSuction
  rw [ht, hs]
  unfold chainSuction
  dsimp only
  refine ⟨?_, ?_, ?_⟩ <;> intros <;> (repeat' split) <;> simp_all <;> omega

/-- A tool slot aimed at a target is lowered to it (R31). -/
theorem lowerTool_lowers (full : Bool) (sl : Slot) (t : Nat × SlotState) :
    lowersTool full sl ((sl.aim t).lowerTool full) := by
  unfold lowersTool
  simp only [lowerTool_target, lowerTool_state, aim_target, aim_state]
  unfold Slot.lowerTool Slot.aim addrUnion
  dsimp only
  refine ⟨fun h => ?_, fun h hf => ?_, fun h hf hn => ?_, fun h hf hn => ?_⟩
  · rw [if_neg (by omega)]
  · rw [if_pos h, hf]; rfl
  · rw [if_pos h, hf, if_pos rfl, if_neg (by simpa [List.isEmpty_iff] using hn)]
  · rw [if_pos h, hf, if_pos rfl, if_pos (by simpa [List.isEmpty_iff] using hn)]

/-- Where TPWR becomes FULL, a slot that stays settling has its deadline (R33). -/
theorem toFull_deadline (sl : Slot) (h : sl.toFull.settling = true) : sl.toFull.settleDl.isSome = true := by
  unfold Slot.toFull at *
  split at h
  · cases h
  · split at h <;> simp_all

/-- A slot settling after a decrease at FULL has its deadline (R33). -/
theorem lowerTool_deadline (sl : Slot) (hd : sl.target < sl.grant) (h : (sl.lowerTool true).settling = true) :
    (sl.lowerTool true).settleDl.isSome = true := by
  unfold Slot.lowerTool at *
  rw [if_pos hd, if_pos rfl] at *
  by_cases he : (addrUnion sl.concerned sl.members).isEmpty = true
  · rw [if_pos he] at h; cases h
  · rw [if_neg he]; rfl

/-- A tool slot is raised, or offered its raise (R35, R36). -/
theorem raiseTool_raises (full offers : Bool) (old free : Nat) (sl : Slot) :
    raisesTool full offers old free sl (sl.raiseTool full offers old free) := by
  unfold raisesTool Slot.raiseTool Slot.markWaiting raiseOf Slot.raiseBy
  dsimp only
  refine ⟨fun hf => ?_, fun o hf ho he hl => ?_, fun o hf ho h => ?_, fun hf ho h => ?_, fun hf ho h => ?_⟩
  · rw [hf]; rfl
  · simp [hf, ho, he ▸ hl, he]
  · have hc : ¬(sl.target = old ∧ o ≤ sl.target) := by omega
    simp only [hf, ho, if_neg hc, Bool.false_eq_true, if_false]; rfl
  · obtain ⟨h1, h2, h3, h4⟩ := h
    have hc : (offers && !sl.settling && sl.grant == 0
        && decide (0 < min (sl.target - sl.grant) (sl.held - sl.grant + free))) = true := by
      rw [h1, h2, h3] at *; simpa using h4
    simp only [hf, ho, hc, Bool.false_eq_true, if_false, if_true]; rfl
  · have hc : (offers && !sl.settling && sl.grant == 0
        && decide (0 < min (sl.target - sl.grant) (sl.held - sl.grant + free))) = false := by
      rw [Bool.eq_false_iff]
      intro hh
      simp only [Bool.and_eq_true, Bool.not_eq_true', beq_iff_eq, decide_eq_true_eq] at hh
      exact h ⟨hh.1.1.1, hh.1.1.2, hh.1.2, hh.2⟩
    simp only [hf, ho, hc, Bool.false_eq_true, if_false]

end Sys2Proof.Machine
end

