-- ==== Sys2Proof/Laws/Handover.lean ====
section
/-! SUPPORT. What the hand-overs inside one event leave as it is: the queue, the pins, the Pack Monitor's
state, the record table and the evacuation record. One lemma for each shared operation and field. -/

namespace Sys2Proof.Machine

@[simp] theorem HostLink.lasting_with (x : HostLink) (events' : BitVec 28) :
    HostLink.lasting { x with events := events' } = x.lasting := rfl

@[simp] theorem Dirt.lasting_with (x : Dirt) (window' : Option Window) (rate' : Option Nat) (level' : Nat) (rise' : Nat) (cand' : Nat) (fall' : Nat) :
    Dirt.lasting { x with window := window', rate := rate', level := level', rise := rise', cand := cand', fall := fall' } = x.lasting := rfl

@[simp] theorem Drive.lasting_with (x : Drive) (state' : MotorState) (bridge' : Bridge) (pset' : Nat) (ceiling' : Nat) (iMotor' : Option Nat) (pMeas' : Option Nat) (speed' : Option Nat) (startPending' : Bool) (refused' : StartRefusal) (stopCause' : StopCause) (armTimer' : Option Nat) (alignTimer' : Option Nat) (spinTimer' : Option Nat) (rampTimer' : Option Nat) (stallTimer' : Option Nat) (coastTimer' : Option Nat) (faultTimer' : Option Nat) :
    Drive.lasting { x with state := state', bridge := bridge', pset := pset', ceiling := ceiling', iMotor := iMotor', pMeas := pMeas', speed := speed', startPending := startPending', refused := refused', stopCause := stopCause', armTimer := armTimer', alignTimer := alignTimer', spinTimer := spinTimer', rampTimer := rampTimer', stallTimer := stallTimer', coastTimer := coastTimer', faultTimer := faultTimer' } = x.lasting := rfl

@[simp] theorem Gov.lasting_with (x : Gov) (stack' : List StackEntry) (grant' : Nat) (pCap' : Nat) (pEff' : Nat) (pset' : Nat) (ceiling' : Nat) (ramping' : Bool) (stopStarved' : Bool) :
    Gov.lasting { x with stack := stack', grant := grant', pCap := pCap', pEff := pEff', pset := pset', ceiling := ceiling', ramping := ramping', stopStarved := stopStarved' } = x.lasting := rfl

@[simp] theorem LoadMon.lasting_with (x : LoadMon) (cls' : BlockClass) (rise' : Nat) (block' : Nat) (release' : Nat) (attempts' : Nat) (phase' : Phase) (timer' : Option Nat) (ratio' : Option Nat) (expected' : Option Int) :
    LoadMon.lasting { x with cls := cls', rise := rise', block := block', release := release', attempts := attempts', phase := phase', timer := timer', ratio := ratio', expected := expected' } = x.lasting := rfl

@[simp] theorem ToolLine.lasting_with (x : ToolLine) (queue' : List TxFrame) (lost' : Option TxFrame) (tpwr' : Tpwr) (brush' : Nat) :
    ToolLine.lasting { x with queue := queue', lost := lost', tpwr := tpwr', brush := brush' } = x.lasting := rfl

@[simp] theorem Dock.lasting_with (x : Dock) (agreement' : Option Agreement) (exch' : Option Exchange) (dueHalt' : Bool) (dueCharge' : Option DockReq) (dueEvac' : Option Nat) (state' : ChargeState) (pause' : PauseCause) (lastFault' : ChargeFault) (iChg' : Nat) (taper' : Option Nat) (resume' : Option ChargePhase) (total' : Nat) (period' : Option Nat) (lastFullLimit' : Bool) (csw' : Bool) (bleed' : List Nat) :
    Dock.lasting { x with agreement := agreement', exch := exch', dueHalt := dueHalt', dueCharge := dueCharge', dueEvac := dueEvac', state := state', pause := pause', lastFault := lastFault', iChg := iChg', taper := taper', resume := resume', total := total', period := period', lastFullLimit := lastFullLimit', csw := csw', bleed := bleed' } = x.lasting := rfl

@[simp] theorem Drive.stopTimers_lasting (d : Drive) : d.stopTimers.lasting = d.lasting := rfl

@[simp] theorem raise_pending (e : Event) (s : State) : (raise e s).pending = s.pending := rfl
@[simp] theorem raise_pins (e : Event) (s : State) : (raise e s).pins = s.pins := rfl
@[simp] theorem raise_pack (e : Event) (s : State) : (raise e s).pack = s.pack := rfl
@[simp] theorem raise_tools (e : Event) (s : State) : (raise e s).tools = s.tools := rfl
@[simp] theorem raise_evac (e : Event) (s : State) : (raise e s).evac = s.evac := rfl
@[simp] theorem raise_host_lasting (e : Event) (s : State) : (raise e s).host.lasting = s.host.lasting := rfl
@[simp] theorem raise_dirt_lasting (e : Event) (s : State) : (raise e s).dirt.lasting = s.dirt.lasting := rfl
@[simp] theorem raise_drive_lasting (e : Event) (s : State) : (raise e s).drive.lasting = s.drive.lasting := rfl
@[simp] theorem raise_gov_lasting (e : Event) (s : State) : (raise e s).gov.lasting = s.gov.lasting := rfl
@[simp] theorem raise_load_lasting (e : Event) (s : State) : (raise e s).load.lasting = s.load.lasting := rfl
@[simp] theorem raise_line_lasting (e : Event) (s : State) : (raise e s).line.lasting = s.line.lasting := rfl
@[simp] theorem raise_dock_lasting (e : Event) (s : State) : (raise e s).dock.lasting = s.dock.lasting := rfl

@[simp] theorem raiseIf_pending (c : Bool) (e : Event) (s : State) : (raiseIf c e s).pending = s.pending := by
  unfold raiseIf; try dsimp only
  (repeat' split) <;> simp
@[simp] theorem raiseIf_pins (c : Bool) (e : Event) (s : State) : (raiseIf c e s).pins = s.pins := by
  unfold raiseIf; try dsimp only
  (repeat' split) <;> simp
@[simp] theorem raiseIf_pack (c : Bool) (e : Event) (s : State) : (raiseIf c e s).pack = s.pack := by
  unfold raiseIf; try dsimp only
  (repeat' split) <;> simp
@[simp] theorem raiseIf_tools (c : Bool) (e : Event) (s : State) : (raiseIf c e s).tools = s.tools := by
  unfold raiseIf; try dsimp only
  (repeat' split) <;> simp
@[simp] theorem raiseIf_evac (c : Bool) (e : Event) (s : State) : (raiseIf c e s).evac = s.evac := by
  unfold raiseIf; try dsimp only
  (repeat' split) <;> simp
@[simp] theorem raiseIf_host_lasting (c : Bool) (e : Event) (s : State) : (raiseIf c e s).host.lasting = s.host.lasting := by
  unfold raiseIf; try dsimp only
  (repeat' split) <;> simp
@[simp] theorem raiseIf_dirt_lasting (c : Bool) (e : Event) (s : State) : (raiseIf c e s).dirt.lasting = s.dirt.lasting := by
  unfold raiseIf; try dsimp only
  (repeat' split) <;> simp
@[simp] theorem raiseIf_drive_lasting (c : Bool) (e : Event) (s : State) : (raiseIf c e s).drive.lasting = s.drive.lasting := by
  unfold raiseIf; try dsimp only
  (repeat' split) <;> simp
@[simp] theorem raiseIf_gov_lasting (c : Bool) (e : Event) (s : State) : (raiseIf c e s).gov.lasting = s.gov.lasting := by
  unfold raiseIf; try dsimp only
  (repeat' split) <;> simp
@[simp] theorem raiseIf_load_lasting (c : Bool) (e : Event) (s : State) : (raiseIf c e s).load.lasting = s.load.lasting := by
  unfold raiseIf; try dsimp only
  (repeat' split) <;> simp
@[simp] theorem raiseIf_line_lasting (c : Bool) (e : Event) (s : State) : (raiseIf c e s).line.lasting = s.line.lasting := by
  unfold raiseIf; try dsimp only
  (repeat' split) <;> simp
@[simp] theorem raiseIf_dock_lasting (c : Bool) (e : Event) (s : State) : (raiseIf c e s).dock.lasting = s.dock.lasting := by
  unfold raiseIf; try dsimp only
  (repeat' split) <;> simp

@[simp] theorem emit_pending (g : Signal) (s : State) : (emit g s).pending = s.pending := rfl
@[simp] theorem emit_pins (g : Signal) (s : State) : (emit g s).pins = s.pins := rfl
@[simp] theorem emit_pack (g : Signal) (s : State) : (emit g s).pack = s.pack := rfl
@[simp] theorem emit_tools (g : Signal) (s : State) : (emit g s).tools = s.tools := rfl
@[simp] theorem emit_evac (g : Signal) (s : State) : (emit g s).evac = s.evac := rfl
@[simp] theorem emit_host_lasting (g : Signal) (s : State) : (emit g s).host.lasting = s.host.lasting := rfl
@[simp] theorem emit_dirt_lasting (g : Signal) (s : State) : (emit g s).dirt.lasting = s.dirt.lasting := rfl
@[simp] theorem emit_drive_lasting (g : Signal) (s : State) : (emit g s).drive.lasting = s.drive.lasting := rfl
@[simp] theorem emit_gov_lasting (g : Signal) (s : State) : (emit g s).gov.lasting = s.gov.lasting := rfl
@[simp] theorem emit_load_lasting (g : Signal) (s : State) : (emit g s).load.lasting = s.load.lasting := rfl
@[simp] theorem emit_line_lasting (g : Signal) (s : State) : (emit g s).line.lasting = s.line.lasting := rfl
@[simp] theorem emit_dock_lasting (g : Signal) (s : State) : (emit g s).dock.lasting = s.dock.lasting := rfl

@[simp] theorem askRecompute_pending (s : State) : (askRecompute s).pending = s.pending := by
  unfold askRecompute; try dsimp only
  (repeat' split) <;> simp
@[simp] theorem askRecompute_pins (s : State) : (askRecompute s).pins = s.pins := by
  unfold askRecompute; try dsimp only
  (repeat' split) <;> simp
@[simp] theorem askRecompute_pack (s : State) : (askRecompute s).pack = s.pack := by
  unfold askRecompute; try dsimp only
  (repeat' split) <;> simp
@[simp] theorem askRecompute_tools (s : State) : (askRecompute s).tools = s.tools := by
  unfold askRecompute; try dsimp only
  (repeat' split) <;> simp
@[simp] theorem askRecompute_evac (s : State) : (askRecompute s).evac = s.evac := by
  unfold askRecompute; try dsimp only
  (repeat' split) <;> simp
@[simp] theorem askRecompute_host_lasting (s : State) : (askRecompute s).host.lasting = s.host.lasting := by
  unfold askRecompute; try dsimp only
  (repeat' split) <;> simp
@[simp] theorem askRecompute_dirt_lasting (s : State) : (askRecompute s).dirt.lasting = s.dirt.lasting := by
  unfold askRecompute; try dsimp only
  (repeat' split) <;> simp
@[simp] theorem askRecompute_drive_lasting (s : State) : (askRecompute s).drive.lasting = s.drive.lasting := by
  unfold askRecompute; try dsimp only
  (repeat' split) <;> simp
@[simp] theorem askRecompute_gov_lasting (s : State) : (askRecompute s).gov.lasting = s.gov.lasting := by
  unfold askRecompute; try dsimp only
  (repeat' split) <;> simp
@[simp] theorem askRecompute_load_lasting (s : State) : (askRecompute s).load.lasting = s.load.lasting := by
  unfold askRecompute; try dsimp only
  (repeat' split) <;> simp
@[simp] theorem askRecompute_line_lasting (s : State) : (askRecompute s).line.lasting = s.line.lasting := by
  unfold askRecompute; try dsimp only
  (repeat' split) <;> simp
@[simp] theorem askRecompute_dock_lasting (s : State) : (askRecompute s).dock.lasting = s.dock.lasting := by
  unfold askRecompute; try dsimp only
  (repeat' split) <;> simp

@[simp] theorem deliver_pending (q : Quantity) (v : Half) (s : State) : (deliver q v s).pending = s.pending := rfl
@[simp] theorem deliver_pins (q : Quantity) (v : Half) (s : State) : (deliver q v s).pins = s.pins := rfl
@[simp] theorem deliver_pack (q : Quantity) (v : Half) (s : State) : (deliver q v s).pack = s.pack := rfl
@[simp] theorem deliver_tools (q : Quantity) (v : Half) (s : State) : (deliver q v s).tools = s.tools := rfl
@[simp] theorem deliver_evac (q : Quantity) (v : Half) (s : State) : (deliver q v s).evac = s.evac := rfl
@[simp] theorem deliver_host_lasting (q : Quantity) (v : Half) (s : State) : (deliver q v s).host.lasting = s.host.lasting := rfl
@[simp] theorem deliver_dirt_lasting (q : Quantity) (v : Half) (s : State) : (deliver q v s).dirt.lasting = s.dirt.lasting := rfl
@[simp] theorem deliver_drive_lasting (q : Quantity) (v : Half) (s : State) : (deliver q v s).drive.lasting = s.drive.lasting := rfl
@[simp] theorem deliver_gov_lasting (q : Quantity) (v : Half) (s : State) : (deliver q v s).gov.lasting = s.gov.lasting := rfl
@[simp] theorem deliver_load_lasting (q : Quantity) (v : Half) (s : State) : (deliver q v s).load.lasting = s.load.lasting := rfl
@[simp] theorem deliver_line_lasting (q : Quantity) (v : Half) (s : State) : (deliver q v s).line.lasting = s.line.lasting := rfl
@[simp] theorem deliver_dock_lasting (q : Quantity) (v : Half) (s : State) : (deliver q v s).dock.lasting = s.dock.lasting := rfl

@[simp] theorem setNode_pending (a : Addr) (f : Node → Node) (s : State) : (setNode a f s).pending = s.pending := rfl
@[simp] theorem setNode_pins (a : Addr) (f : Node → Node) (s : State) : (setNode a f s).pins = s.pins := rfl
@[simp] theorem setNode_pack (a : Addr) (f : Node → Node) (s : State) : (setNode a f s).pack = s.pack := rfl
@[simp] theorem setNode_tools (a : Addr) (f : Node → Node) (s : State) : (setNode a f s).tools = s.tools := rfl
@[simp] theorem setNode_evac (a : Addr) (f : Node → Node) (s : State) : (setNode a f s).evac = s.evac := rfl
@[simp] theorem setNode_host_lasting (a : Addr) (f : Node → Node) (s : State) : (setNode a f s).host.lasting = s.host.lasting := rfl
@[simp] theorem setNode_dirt_lasting (a : Addr) (f : Node → Node) (s : State) : (setNode a f s).dirt.lasting = s.dirt.lasting := rfl
@[simp] theorem setNode_drive_lasting (a : Addr) (f : Node → Node) (s : State) : (setNode a f s).drive.lasting = s.drive.lasting := rfl
@[simp] theorem setNode_gov_lasting (a : Addr) (f : Node → Node) (s : State) : (setNode a f s).gov.lasting = s.gov.lasting := rfl
@[simp] theorem setNode_load_lasting (a : Addr) (f : Node → Node) (s : State) : (setNode a f s).load.lasting = s.load.lasting := rfl
@[simp] theorem setNode_dock_lasting (a : Addr) (f : Node → Node) (s : State) : (setNode a f s).dock.lasting = s.dock.lasting := rfl

@[simp] theorem putFrame_pending (f : TxFrame) (s : State) : (putFrame f s).pending = s.pending := by
  unfold putFrame; try dsimp only
  (repeat' split) <;> simp
@[simp] theorem putFrame_pins (f : TxFrame) (s : State) : (putFrame f s).pins = s.pins := by
  unfold putFrame; try dsimp only
  (repeat' split) <;> simp
@[simp] theorem putFrame_pack (f : TxFrame) (s : State) : (putFrame f s).pack = s.pack := by
  unfold putFrame; try dsimp only
  (repeat' split) <;> simp
@[simp] theorem putFrame_tools (f : TxFrame) (s : State) : (putFrame f s).tools = s.tools := by
  unfold putFrame; try dsimp only
  (repeat' split) <;> simp
@[simp] theorem putFrame_evac (f : TxFrame) (s : State) : (putFrame f s).evac = s.evac := by
  unfold putFrame; try dsimp only
  (repeat' split) <;> simp
@[simp] theorem putFrame_host_lasting (f : TxFrame) (s : State) : (putFrame f s).host.lasting = s.host.lasting := by
  unfold putFrame; try dsimp only
  (repeat' split) <;> simp
@[simp] theorem putFrame_dirt_lasting (f : TxFrame) (s : State) : (putFrame f s).dirt.lasting = s.dirt.lasting := by
  unfold putFrame; try dsimp only
  (repeat' split) <;> simp
@[simp] theorem putFrame_drive_lasting (f : TxFrame) (s : State) : (putFrame f s).drive.lasting = s.drive.lasting := by
  unfold putFrame; try dsimp only
  (repeat' split) <;> simp
@[simp] theorem putFrame_gov_lasting (f : TxFrame) (s : State) : (putFrame f s).gov.lasting = s.gov.lasting := by
  unfold putFrame; try dsimp only
  (repeat' split) <;> simp
@[simp] theorem putFrame_load_lasting (f : TxFrame) (s : State) : (putFrame f s).load.lasting = s.load.lasting := by
  unfold putFrame; try dsimp only
  (repeat' split) <;> simp
@[simp] theorem putFrame_line_lasting (f : TxFrame) (s : State) : (putFrame f s).line.lasting = s.line.lasting := by
  unfold putFrame; try dsimp only
  (repeat' split) <;> simp
@[simp] theorem putFrame_dock_lasting (f : TxFrame) (s : State) : (putFrame f s).dock.lasting = s.dock.lasting := by
  unfold putFrame; try dsimp only
  (repeat' split) <;> simp

@[simp] theorem queueCap_pending (a : Addr) (s : State) : (queueCap a s).pending = s.pending := by
  unfold queueCap; try dsimp only
  (repeat' split) <;> simp
@[simp] theorem queueCap_pins (a : Addr) (s : State) : (queueCap a s).pins = s.pins := by
  unfold queueCap; try dsimp only
  (repeat' split) <;> simp
@[simp] theorem queueCap_pack (a : Addr) (s : State) : (queueCap a s).pack = s.pack := by
  unfold queueCap; try dsimp only
  (repeat' split) <;> simp
@[simp] theorem queueCap_tools (a : Addr) (s : State) : (queueCap a s).tools = s.tools := by
  unfold queueCap; try dsimp only
  (repeat' split) <;> simp
@[simp] theorem queueCap_evac (a : Addr) (s : State) : (queueCap a s).evac = s.evac := by
  unfold queueCap; try dsimp only
  (repeat' split) <;> simp
@[simp] theorem queueCap_host_lasting (a : Addr) (s : State) : (queueCap a s).host.lasting = s.host.lasting := by
  unfold queueCap; try dsimp only
  (repeat' split) <;> simp
@[simp] theorem queueCap_dirt_lasting (a : Addr) (s : State) : (queueCap a s).dirt.lasting = s.dirt.lasting := by
  unfold queueCap; try dsimp only
  (repeat' split) <;> simp
@[simp] theorem queueCap_drive_lasting (a : Addr) (s : State) : (queueCap a s).drive.lasting = s.drive.lasting := by
  unfold queueCap; try dsimp only
  (repeat' split) <;> simp
@[simp] theorem queueCap_gov_lasting (a : Addr) (s : State) : (queueCap a s).gov.lasting = s.gov.lasting := by
  unfold queueCap; try dsimp only
  (repeat' split) <;> simp
@[simp] theorem queueCap_load_lasting (a : Addr) (s : State) : (queueCap a s).load.lasting = s.load.lasting := by
  unfold queueCap; try dsimp only
  (repeat' split) <;> simp
@[simp] theorem queueCap_line_lasting (a : Addr) (s : State) : (queueCap a s).line.lasting = s.line.lasting := by
  unfold queueCap; try dsimp only
  (repeat' split) <;> simp
@[simp] theorem queueCap_dock_lasting (a : Addr) (s : State) : (queueCap a s).dock.lasting = s.dock.lasting := by
  unfold queueCap; try dsimp only
  (repeat' split) <;> simp

@[simp] theorem queueCaps_pending (l : List Addr) (s : State) : (queueCaps l s).pending = s.pending := by
  unfold queueCaps
  induction l generalizing s with
  | nil => rfl
  | cons a l ih => simp [ih]
@[simp] theorem queueCaps_pins (l : List Addr) (s : State) : (queueCaps l s).pins = s.pins := by
  unfold queueCaps
  induction l generalizing s with
  | nil => rfl
  | cons a l ih => simp [ih]
@[simp] theorem queueCaps_pack (l : List Addr) (s : State) : (queueCaps l s).pack = s.pack := by
  unfold queueCaps
  induction l generalizing s with
  | nil => rfl
  | cons a l ih => simp [ih]
@[simp] theorem queueCaps_tools (l : List Addr) (s : State) : (queueCaps l s).tools = s.tools := by
  unfold queueCaps
  induction l generalizing s with
  | nil => rfl
  | cons a l ih => simp [ih]
@[simp] theorem queueCaps_evac (l : List Addr) (s : State) : (queueCaps l s).evac = s.evac := by
  unfold queueCaps
  induction l generalizing s with
  | nil => rfl
  | cons a l ih => simp [ih]
@[simp] theorem queueCaps_host_lasting (l : List Addr) (s : State) : (queueCaps l s).host.lasting = s.host.lasting := by
  unfold queueCaps
  induction l generalizing s with
  | nil => rfl
  | cons a l ih => simp [ih]
@[simp] theorem queueCaps_dirt_lasting (l : List Addr) (s : State) : (queueCaps l s).dirt.lasting = s.dirt.lasting := by
  unfold queueCaps
  induction l generalizing s with
  | nil => rfl
  | cons a l ih => simp [ih]
@[simp] theorem queueCaps_drive_lasting (l : List Addr) (s : State) : (queueCaps l s).drive.lasting = s.drive.lasting := by
  unfold queueCaps
  induction l generalizing s with
  | nil => rfl
  | cons a l ih => simp [ih]
@[simp] theorem queueCaps_gov_lasting (l : List Addr) (s : State) : (queueCaps l s).gov.lasting = s.gov.lasting := by
  unfold queueCaps
  induction l generalizing s with
  | nil => rfl
  | cons a l ih => simp [ih]
@[simp] theorem queueCaps_load_lasting (l : List Addr) (s : State) : (queueCaps l s).load.lasting = s.load.lasting := by
  unfold queueCaps
  induction l generalizing s with
  | nil => rfl
  | cons a l ih => simp [ih]
@[simp] theorem queueCaps_line_lasting (l : List Addr) (s : State) : (queueCaps l s).line.lasting = s.line.lasting := by
  unfold queueCaps
  induction l generalizing s with
  | nil => rfl
  | cons a l ih => simp [ih]
@[simp] theorem queueCaps_dock_lasting (l : List Addr) (s : State) : (queueCaps l s).dock.lasting = s.dock.lasting := by
  unfold queueCaps
  induction l generalizing s with
  | nil => rfl
  | cons a l ih => simp [ih]

@[simp] theorem handBrush_pending (level : Nat) (s : State) : (handBrush level s).pending = s.pending := by
  unfold handBrush; try dsimp only
  (repeat' split) <;> simp
@[simp] theorem handBrush_pins (level : Nat) (s : State) : (handBrush level s).pins = s.pins := by
  unfold handBrush; try dsimp only
  (repeat' split) <;> simp
@[simp] theorem handBrush_pack (level : Nat) (s : State) : (handBrush level s).pack = s.pack := by
  unfold handBrush; try dsimp only
  (repeat' split) <;> simp
@[simp] theorem handBrush_tools (level : Nat) (s : State) : (handBrush level s).tools = s.tools := by
  unfold handBrush; try dsimp only
  (repeat' split) <;> simp
@[simp] theorem handBrush_evac (level : Nat) (s : State) : (handBrush level s).evac = s.evac := by
  unfold handBrush; try dsimp only
  (repeat' split) <;> simp
@[simp] theorem handBrush_host_lasting (level : Nat) (s : State) : (handBrush level s).host.lasting = s.host.lasting := by
  unfold handBrush; try dsimp only
  (repeat' split) <;> simp
@[simp] theorem handBrush_dirt_lasting (level : Nat) (s : State) : (handBrush level s).dirt.lasting = s.dirt.lasting := by
  unfold handBrush; try dsimp only
  (repeat' split) <;> simp
@[simp] theorem handBrush_drive_lasting (level : Nat) (s : State) : (handBrush level s).drive.lasting = s.drive.lasting := by
  unfold handBrush; try dsimp only
  (repeat' split) <;> simp
@[simp] theorem handBrush_gov_lasting (level : Nat) (s : State) : (handBrush level s).gov.lasting = s.gov.lasting := by
  unfold handBrush; try dsimp only
  (repeat' split) <;> simp
@[simp] theorem handBrush_load_lasting (level : Nat) (s : State) : (handBrush level s).load.lasting = s.load.lasting := by
  unfold handBrush; try dsimp only
  (repeat' split) <;> simp
@[simp] theorem handBrush_line_lasting (level : Nat) (s : State) : (handBrush level s).line.lasting = s.line.lasting := by
  unfold handBrush; try dsimp only
  (repeat' split) <;> simp
@[simp] theorem handBrush_dock_lasting (level : Nat) (s : State) : (handBrush level s).dock.lasting = s.dock.lasting := by
  unfold handBrush; try dsimp only
  (repeat' split) <;> simp

@[simp] theorem discardCaps_pending (s : State) : (discardCaps s).pending = s.pending := rfl
@[simp] theorem discardCaps_pins (s : State) : (discardCaps s).pins = s.pins := rfl
@[simp] theorem discardCaps_pack (s : State) : (discardCaps s).pack = s.pack := rfl
@[simp] theorem discardCaps_tools (s : State) : (discardCaps s).tools = s.tools := rfl
@[simp] theorem discardCaps_evac (s : State) : (discardCaps s).evac = s.evac := rfl
@[simp] theorem discardCaps_host_lasting (s : State) : (discardCaps s).host.lasting = s.host.lasting := rfl
@[simp] theorem discardCaps_dirt_lasting (s : State) : (discardCaps s).dirt.lasting = s.dirt.lasting := rfl
@[simp] theorem discardCaps_drive_lasting (s : State) : (discardCaps s).drive.lasting = s.drive.lasting := rfl
@[simp] theorem discardCaps_gov_lasting (s : State) : (discardCaps s).gov.lasting = s.gov.lasting := rfl
@[simp] theorem discardCaps_load_lasting (s : State) : (discardCaps s).load.lasting = s.load.lasting := rfl
@[simp] theorem discardCaps_line_lasting (s : State) : (discardCaps s).line.lasting = s.line.lasting := by
  simp [discardCaps, ToolLine.lasting, Function.comp_def]
@[simp] theorem discardCaps_dock_lasting (s : State) : (discardCaps s).dock.lasting = s.dock.lasting := rfl

@[simp] theorem forcedRelease_pending (c : ReleaseCause) (s : State) : (forcedRelease c s).pending = s.pending := by
  unfold forcedRelease; try dsimp only
  (repeat' split) <;> simp
@[simp] theorem forcedRelease_pins (c : ReleaseCause) (s : State) : (forcedRelease c s).pins = s.pins := by
  unfold forcedRelease; try dsimp only
  (repeat' split) <;> simp
@[simp] theorem forcedRelease_pack (c : ReleaseCause) (s : State) : (forcedRelease c s).pack = s.pack := by
  unfold forcedRelease; try dsimp only
  (repeat' split) <;> simp
@[simp] theorem forcedRelease_tools (c : ReleaseCause) (s : State) : (forcedRelease c s).tools = s.tools := by
  unfold forcedRelease; try dsimp only
  (repeat' split) <;> simp
@[simp] theorem forcedRelease_evac (c : ReleaseCause) (s : State) : (forcedRelease c s).evac = s.evac := by
  unfold forcedRelease; try dsimp only
  (repeat' split) <;> simp
@[simp] theorem forcedRelease_host_lasting (c : ReleaseCause) (s : State) : (forcedRelease c s).host.lasting = s.host.lasting := by
  unfold forcedRelease; try dsimp only
  (repeat' split) <;> simp
@[simp] theorem forcedRelease_dirt_lasting (c : ReleaseCause) (s : State) : (forcedRelease c s).dirt.lasting = s.dirt.lasting := by
  unfold forcedRelease; try dsimp only
  (repeat' split) <;> simp
@[simp] theorem forcedRelease_drive_lasting (c : ReleaseCause) (s : State) : (forcedRelease c s).drive.lasting = s.drive.lasting := by
  unfold forcedRelease; try dsimp only
  (repeat' split) <;> simp
@[simp] theorem forcedRelease_gov_lasting (c : ReleaseCause) (s : State) : (forcedRelease c s).gov.lasting = s.gov.lasting := by
  unfold forcedRelease; try dsimp only
  (repeat' split) <;> simp
@[simp] theorem forcedRelease_load_lasting (c : ReleaseCause) (s : State) : (forcedRelease c s).load.lasting = s.load.lasting := by
  unfold forcedRelease; try dsimp only
  (repeat' split) <;> simp
@[simp] theorem forcedRelease_line_lasting (c : ReleaseCause) (s : State) : (forcedRelease c s).line.lasting = s.line.lasting := by
  unfold forcedRelease; try dsimp only
  (repeat' split) <;> simp
@[simp] theorem forcedRelease_dock_lasting (c : ReleaseCause) (s : State) : (forcedRelease c s).dock.lasting = s.dock.lasting := by
  unfold forcedRelease; try dsimp only
  (repeat' split) <;> simp

@[simp] theorem setTpwr_pending (l : Tpwr) (c : ReleaseCause) (s : State) : (setTpwr l c s).pending = s.pending := by
  unfold setTpwr; try dsimp only
  (repeat' split) <;> simp
@[simp] theorem setTpwr_pins (l : Tpwr) (c : ReleaseCause) (s : State) : (setTpwr l c s).pins = s.pins := by
  unfold setTpwr; try dsimp only
  (repeat' split) <;> simp
@[simp] theorem setTpwr_pack (l : Tpwr) (c : ReleaseCause) (s : State) : (setTpwr l c s).pack = s.pack := by
  unfold setTpwr; try dsimp only
  (repeat' split) <;> simp
@[simp] theorem setTpwr_tools (l : Tpwr) (c : ReleaseCause) (s : State) : (setTpwr l c s).tools = s.tools := by
  unfold setTpwr; try dsimp only
  (repeat' split) <;> simp
@[simp] theorem setTpwr_evac (l : Tpwr) (c : ReleaseCause) (s : State) : (setTpwr l c s).evac = s.evac := by
  unfold setTpwr; try dsimp only
  (repeat' split) <;> simp
@[simp] theorem setTpwr_host_lasting (l : Tpwr) (c : ReleaseCause) (s : State) : (setTpwr l c s).host.lasting = s.host.lasting := by
  unfold setTpwr; try dsimp only
  (repeat' split) <;> simp
@[simp] theorem setTpwr_dirt_lasting (l : Tpwr) (c : ReleaseCause) (s : State) : (setTpwr l c s).dirt.lasting = s.dirt.lasting := by
  unfold setTpwr; try dsimp only
  (repeat' split) <;> simp
@[simp] theorem setTpwr_drive_lasting (l : Tpwr) (c : ReleaseCause) (s : State) : (setTpwr l c s).drive.lasting = s.drive.lasting := by
  unfold setTpwr; try dsimp only
  (repeat' split) <;> simp
@[simp] theorem setTpwr_gov_lasting (l : Tpwr) (c : ReleaseCause) (s : State) : (setTpwr l c s).gov.lasting = s.gov.lasting := by
  unfold setTpwr; try dsimp only
  (repeat' split) <;> simp
@[simp] theorem setTpwr_load_lasting (l : Tpwr) (c : ReleaseCause) (s : State) : (setTpwr l c s).load.lasting = s.load.lasting := by
  unfold setTpwr; try dsimp only
  (repeat' split) <;> simp
@[simp] theorem setTpwr_line_lasting (l : Tpwr) (c : ReleaseCause) (s : State) : (setTpwr l c s).line.lasting = s.line.lasting := by
  unfold setTpwr; try dsimp only
  (repeat' split) <;> simp
@[simp] theorem setTpwr_dock_lasting (l : Tpwr) (c : ReleaseCause) (s : State) : (setTpwr l c s).dock.lasting = s.dock.lasting := by
  unfold setTpwr; try dsimp only
  (repeat' split) <;> simp

@[simp] theorem powerRule_pending (s : State) : (powerRule s).pending = s.pending := by
  unfold powerRule; try dsimp only
  (repeat' split) <;> simp
@[simp] theorem powerRule_pins (s : State) : (powerRule s).pins = s.pins := by
  unfold powerRule; try dsimp only
  (repeat' split) <;> simp
@[simp] theorem powerRule_pack (s : State) : (powerRule s).pack = s.pack := by
  unfold powerRule; try dsimp only
  (repeat' split) <;> simp
@[simp] theorem powerRule_tools (s : State) : (powerRule s).tools = s.tools := by
  unfold powerRule; try dsimp only
  (repeat' split) <;> simp
@[simp] theorem powerRule_evac (s : State) : (powerRule s).evac = s.evac := by
  unfold powerRule; try dsimp only
  (repeat' split) <;> simp
@[simp] theorem powerRule_host_lasting (s : State) : (powerRule s).host.lasting = s.host.lasting := by
  unfold powerRule; try dsimp only
  (repeat' split) <;> simp
@[simp] theorem powerRule_dirt_lasting (s : State) : (powerRule s).dirt.lasting = s.dirt.lasting := by
  unfold powerRule; try dsimp only
  (repeat' split) <;> simp
@[simp] theorem powerRule_drive_lasting (s : State) : (powerRule s).drive.lasting = s.drive.lasting := by
  unfold powerRule; try dsimp only
  (repeat' split) <;> simp
@[simp] theorem powerRule_gov_lasting (s : State) : (powerRule s).gov.lasting = s.gov.lasting := by
  unfold powerRule; try dsimp only
  (repeat' split) <;> simp
@[simp] theorem powerRule_load_lasting (s : State) : (powerRule s).load.lasting = s.load.lasting := by
  unfold powerRule; try dsimp only
  (repeat' split) <;> simp
@[simp] theorem powerRule_line_lasting (s : State) : (powerRule s).line.lasting = s.line.lasting := by
  unfold powerRule; try dsimp only
  (repeat' split) <;> simp
@[simp] theorem powerRule_dock_lasting (s : State) : (powerRule s).dock.lasting = s.dock.lasting := by
  unfold powerRule; try dsimp only
  (repeat' split) <;> simp

@[simp] theorem handTools_pending (s : State) : (handTools s).pending = s.pending := by
  unfold handTools; try dsimp only
  (repeat' split) <;> simp
@[simp] theorem handTools_pins (s : State) : (handTools s).pins = s.pins := by
  unfold handTools; try dsimp only
  (repeat' split) <;> simp
@[simp] theorem handTools_pack (s : State) : (handTools s).pack = s.pack := by
  unfold handTools; try dsimp only
  (repeat' split) <;> simp
@[simp] theorem handTools_tools (s : State) : (handTools s).tools = s.tools := by
  unfold handTools; try dsimp only
  (repeat' split) <;> simp
@[simp] theorem handTools_evac (s : State) : (handTools s).evac = s.evac := by
  unfold handTools; try dsimp only
  (repeat' split) <;> simp
@[simp] theorem handTools_host_lasting (s : State) : (handTools s).host.lasting = s.host.lasting := by
  unfold handTools; try dsimp only
  (repeat' split) <;> simp
@[simp] theorem handTools_dirt_lasting (s : State) : (handTools s).dirt.lasting = s.dirt.lasting := by
  unfold handTools; try dsimp only
  (repeat' split) <;> simp
@[simp] theorem handTools_drive_lasting (s : State) : (handTools s).drive.lasting = s.drive.lasting := by
  unfold handTools; try dsimp only
  (repeat' split) <;> simp
@[simp] theorem handTools_gov_lasting (s : State) : (handTools s).gov.lasting = s.gov.lasting := by
  unfold handTools; try dsimp only
  (repeat' split) <;> simp
@[simp] theorem handTools_load_lasting (s : State) : (handTools s).load.lasting = s.load.lasting := by
  unfold handTools; try dsimp only
  (repeat' split) <;> simp
@[simp] theorem handTools_line_lasting (s : State) : (handTools s).line.lasting = s.line.lasting := by
  unfold handTools; try dsimp only
  (repeat' split) <;> simp
@[simp] theorem handTools_dock_lasting (s : State) : (handTools s).dock.lasting = s.dock.lasting := by
  unfold handTools; try dsimp only
  (repeat' split) <;> simp

@[simp] theorem zeroSetPoint_pending (s : State) : (zeroSetPoint s).pending = s.pending := rfl
@[simp] theorem zeroSetPoint_pins (s : State) : (zeroSetPoint s).pins = s.pins := rfl
@[simp] theorem zeroSetPoint_pack (s : State) : (zeroSetPoint s).pack = s.pack := rfl
@[simp] theorem zeroSetPoint_tools (s : State) : (zeroSetPoint s).tools = s.tools := rfl
@[simp] theorem zeroSetPoint_evac (s : State) : (zeroSetPoint s).evac = s.evac := rfl
@[simp] theorem zeroSetPoint_host_lasting (s : State) : (zeroSetPoint s).host.lasting = s.host.lasting := rfl
@[simp] theorem zeroSetPoint_dirt_lasting (s : State) : (zeroSetPoint s).dirt.lasting = s.dirt.lasting := rfl
@[simp] theorem zeroSetPoint_drive_lasting (s : State) : (zeroSetPoint s).drive.lasting = s.drive.lasting := rfl
@[simp] theorem zeroSetPoint_gov_lasting (s : State) : (zeroSetPoint s).gov.lasting = s.gov.lasting := rfl
@[simp] theorem zeroSetPoint_load_lasting (s : State) : (zeroSetPoint s).load.lasting = s.load.lasting := rfl
@[simp] theorem zeroSetPoint_line_lasting (s : State) : (zeroSetPoint s).line.lasting = s.line.lasting := rfl
@[simp] theorem zeroSetPoint_dock_lasting (s : State) : (zeroSetPoint s).dock.lasting = s.dock.lasting := rfl

@[simp] theorem setActive_pending (b : Bool) (s : State) : (setActive b s).pending = s.pending := by
  unfold setActive; try dsimp only
  (repeat' split) <;> simp
@[simp] theorem setActive_pins (b : Bool) (s : State) : (setActive b s).pins = s.pins := by
  unfold setActive; try dsimp only
  (repeat' split) <;> simp
@[simp] theorem setActive_pack (b : Bool) (s : State) : (setActive b s).pack = s.pack := by
  unfold setActive; try dsimp only
  (repeat' split) <;> simp
@[simp] theorem setActive_tools (b : Bool) (s : State) : (setActive b s).tools = s.tools := by
  unfold setActive; try dsimp only
  (repeat' split) <;> simp
@[simp] theorem setActive_evac (b : Bool) (s : State) : (setActive b s).evac = s.evac := by
  unfold setActive; try dsimp only
  (repeat' split) <;> simp
@[simp] theorem setActive_host_lasting (b : Bool) (s : State) : (setActive b s).host.lasting = s.host.lasting := by
  unfold setActive; try dsimp only
  (repeat' split) <;> simp
@[simp] theorem setActive_dirt_lasting (b : Bool) (s : State) : (setActive b s).dirt.lasting = s.dirt.lasting := by
  unfold setActive; try dsimp only
  (repeat' split) <;> simp
@[simp] theorem setActive_drive_lasting (b : Bool) (s : State) : (setActive b s).drive.lasting = s.drive.lasting := by
  unfold setActive; try dsimp only
  (repeat' split) <;> simp
@[simp] theorem setActive_gov_lasting (b : Bool) (s : State) : (setActive b s).gov.lasting = s.gov.lasting := by
  unfold setActive; try dsimp only
  (repeat' split) <;> simp
@[simp] theorem setActive_load_lasting (b : Bool) (s : State) : (setActive b s).load.lasting = s.load.lasting := by
  unfold setActive; try dsimp only
  (repeat' split) <;> simp
@[simp] theorem setActive_line_lasting (b : Bool) (s : State) : (setActive b s).line.lasting = s.line.lasting := by
  unfold setActive; try dsimp only
  (repeat' split) <;> simp
@[simp] theorem setActive_dock_lasting (b : Bool) (s : State) : (setActive b s).dock.lasting = s.dock.lasting := by
  unfold setActive; try dsimp only
  (repeat' split) <;> simp

@[simp] theorem setStack_pending (st : List StackEntry) (s : State) : (setStack st s).pending = s.pending := by
  unfold setStack; try dsimp only
  (repeat' split) <;> simp
@[simp] theorem setStack_pins (st : List StackEntry) (s : State) : (setStack st s).pins = s.pins := by
  unfold setStack; try dsimp only
  (repeat' split) <;> simp
@[simp] theorem setStack_pack (st : List StackEntry) (s : State) : (setStack st s).pack = s.pack := by
  unfold setStack; try dsimp only
  (repeat' split) <;> simp
@[simp] theorem setStack_tools (st : List StackEntry) (s : State) : (setStack st s).tools = s.tools := by
  unfold setStack; try dsimp only
  (repeat' split) <;> simp
@[simp] theorem setStack_evac (st : List StackEntry) (s : State) : (setStack st s).evac = s.evac := by
  unfold setStack; try dsimp only
  (repeat' split) <;> simp
@[simp] theorem setStack_host_lasting (st : List StackEntry) (s : State) : (setStack st s).host.lasting = s.host.lasting := by
  unfold setStack; try dsimp only
  (repeat' split) <;> simp
@[simp] theorem setStack_dirt_lasting (st : List StackEntry) (s : State) : (setStack st s).dirt.lasting = s.dirt.lasting := by
  unfold setStack; try dsimp only
  (repeat' split) <;> simp
@[simp] theorem setStack_drive_lasting (st : List StackEntry) (s : State) : (setStack st s).drive.lasting = s.drive.lasting := by
  unfold setStack; try dsimp only
  (repeat' split) <;> simp
@[simp] theorem setStack_gov_lasting (st : List StackEntry) (s : State) : (setStack st s).gov.lasting = s.gov.lasting := by
  unfold setStack; try dsimp only
  (repeat' split) <;> simp
@[simp] theorem setStack_load_lasting (st : List StackEntry) (s : State) : (setStack st s).load.lasting = s.load.lasting := by
  unfold setStack; try dsimp only
  (repeat' split) <;> simp
@[simp] theorem setStack_line_lasting (st : List StackEntry) (s : State) : (setStack st s).line.lasting = s.line.lasting := by
  unfold setStack; try dsimp only
  (repeat' split) <;> simp
@[simp] theorem setStack_dock_lasting (st : List StackEntry) (s : State) : (setStack st s).dock.lasting = s.dock.lasting := by
  unfold setStack; try dsimp only
  (repeat' split) <;> simp

@[simp] theorem clearPop_pending (s : State) : (clearPop s).pending = s.pending := by
  unfold clearPop; try dsimp only
  (repeat' split) <;> simp
@[simp] theorem clearPop_pins (s : State) : (clearPop s).pins = s.pins := by
  unfold clearPop; try dsimp only
  (repeat' split) <;> simp
@[simp] theorem clearPop_pack (s : State) : (clearPop s).pack = s.pack := by
  unfold clearPop; try dsimp only
  (repeat' split) <;> simp
@[simp] theorem clearPop_tools (s : State) : (clearPop s).tools = s.tools := by
  unfold clearPop; try dsimp only
  (repeat' split) <;> simp
@[simp] theorem clearPop_evac (s : State) : (clearPop s).evac = s.evac := by
  unfold clearPop; try dsimp only
  (repeat' split) <;> simp
@[simp] theorem clearPop_host_lasting (s : State) : (clearPop s).host.lasting = s.host.lasting := by
  unfold clearPop; try dsimp only
  (repeat' split) <;> simp
@[simp] theorem clearPop_dirt_lasting (s : State) : (clearPop s).dirt.lasting = s.dirt.lasting := by
  unfold clearPop; try dsimp only
  (repeat' split) <;> simp
@[simp] theorem clearPop_drive_lasting (s : State) : (clearPop s).drive.lasting = s.drive.lasting := by
  unfold clearPop; try dsimp only
  (repeat' split) <;> simp
@[simp] theorem clearPop_gov_lasting (s : State) : (clearPop s).gov.lasting = s.gov.lasting := by
  unfold clearPop; try dsimp only
  (repeat' split) <;> simp
@[simp] theorem clearPop_load_lasting (s : State) : (clearPop s).load.lasting = s.load.lasting := by
  unfold clearPop; try dsimp only
  (repeat' split) <;> simp
@[simp] theorem clearPop_line_lasting (s : State) : (clearPop s).line.lasting = s.line.lasting := by
  unfold clearPop; try dsimp only
  (repeat' split) <;> simp
@[simp] theorem clearPop_dock_lasting (s : State) : (clearPop s).dock.lasting = s.dock.lasting := by
  unfold clearPop; try dsimp only
  (repeat' split) <;> simp

@[simp] theorem formLimits_pending (s : State) : (formLimits s).pending = s.pending := rfl
@[simp] theorem formLimits_pins (s : State) : (formLimits s).pins = s.pins := rfl
@[simp] theorem formLimits_pack (s : State) : (formLimits s).pack = s.pack := rfl
@[simp] theorem formLimits_tools (s : State) : (formLimits s).tools = s.tools := rfl
@[simp] theorem formLimits_evac (s : State) : (formLimits s).evac = s.evac := rfl
@[simp] theorem formLimits_host_lasting (s : State) : (formLimits s).host.lasting = s.host.lasting := rfl
@[simp] theorem formLimits_dirt_lasting (s : State) : (formLimits s).dirt.lasting = s.dirt.lasting := rfl
@[simp] theorem formLimits_drive_lasting (s : State) : (formLimits s).drive.lasting = s.drive.lasting := rfl
@[simp] theorem formLimits_gov_lasting (s : State) : (formLimits s).gov.lasting = s.gov.lasting := rfl
@[simp] theorem formLimits_load_lasting (s : State) : (formLimits s).load.lasting = s.load.lasting := rfl
@[simp] theorem formLimits_line_lasting (s : State) : (formLimits s).line.lasting = s.line.lasting := rfl
@[simp] theorem formLimits_dock_lasting (s : State) : (formLimits s).dock.lasting = s.dock.lasting := rfl

@[simp] theorem formCeiling_pending (s : State) : (formCeiling s).pending = s.pending := rfl
@[simp] theorem formCeiling_pins (s : State) : (formCeiling s).pins = s.pins := rfl
@[simp] theorem formCeiling_pack (s : State) : (formCeiling s).pack = s.pack := rfl
@[simp] theorem formCeiling_tools (s : State) : (formCeiling s).tools = s.tools := rfl
@[simp] theorem formCeiling_evac (s : State) : (formCeiling s).evac = s.evac := rfl
@[simp] theorem formCeiling_host_lasting (s : State) : (formCeiling s).host.lasting = s.host.lasting := rfl
@[simp] theorem formCeiling_dirt_lasting (s : State) : (formCeiling s).dirt.lasting = s.dirt.lasting := rfl
@[simp] theorem formCeiling_drive_lasting (s : State) : (formCeiling s).drive.lasting = s.drive.lasting := rfl
@[simp] theorem formCeiling_gov_lasting (s : State) : (formCeiling s).gov.lasting = s.gov.lasting := rfl
@[simp] theorem formCeiling_load_lasting (s : State) : (formCeiling s).load.lasting = s.load.lasting := rfl
@[simp] theorem formCeiling_line_lasting (s : State) : (formCeiling s).line.lasting = s.line.lasting := rfl
@[simp] theorem formCeiling_dock_lasting (s : State) : (formCeiling s).dock.lasting = s.dock.lasting := rfl

@[simp] theorem handSetPoint_pending (s : State) : (handSetPoint s).pending = s.pending := rfl
@[simp] theorem handSetPoint_pins (s : State) : (handSetPoint s).pins = s.pins := rfl
@[simp] theorem handSetPoint_pack (s : State) : (handSetPoint s).pack = s.pack := rfl
@[simp] theorem handSetPoint_tools (s : State) : (handSetPoint s).tools = s.tools := rfl
@[simp] theorem handSetPoint_evac (s : State) : (handSetPoint s).evac = s.evac := rfl
@[simp] theorem handSetPoint_host_lasting (s : State) : (handSetPoint s).host.lasting = s.host.lasting := rfl
@[simp] theorem handSetPoint_dirt_lasting (s : State) : (handSetPoint s).dirt.lasting = s.dirt.lasting := rfl
@[simp] theorem handSetPoint_drive_lasting (s : State) : (handSetPoint s).drive.lasting = s.drive.lasting := rfl
@[simp] theorem handSetPoint_gov_lasting (s : State) : (handSetPoint s).gov.lasting = s.gov.lasting := rfl
@[simp] theorem handSetPoint_load_lasting (s : State) : (handSetPoint s).load.lasting = s.load.lasting := rfl
@[simp] theorem handSetPoint_line_lasting (s : State) : (handSetPoint s).line.lasting = s.line.lasting := rfl
@[simp] theorem handSetPoint_dock_lasting (s : State) : (handSetPoint s).dock.lasting = s.dock.lasting := rfl

@[simp] theorem restartSustain_pending (s : State) : (restartSustain s).pending = s.pending := rfl
@[simp] theorem restartSustain_pins (s : State) : (restartSustain s).pins = s.pins := rfl
@[simp] theorem restartSustain_pack (s : State) : (restartSustain s).pack = s.pack := rfl
@[simp] theorem restartSustain_tools (s : State) : (restartSustain s).tools = s.tools := rfl
@[simp] theorem restartSustain_evac (s : State) : (restartSustain s).evac = s.evac := rfl
@[simp] theorem restartSustain_host_lasting (s : State) : (restartSustain s).host.lasting = s.host.lasting := rfl
@[simp] theorem restartSustain_dirt_lasting (s : State) : (restartSustain s).dirt.lasting = s.dirt.lasting := rfl
@[simp] theorem restartSustain_drive_lasting (s : State) : (restartSustain s).drive.lasting = s.drive.lasting := rfl
@[simp] theorem restartSustain_gov_lasting (s : State) : (restartSustain s).gov.lasting = s.gov.lasting := rfl
@[simp] theorem restartSustain_load_lasting (s : State) : (restartSustain s).load.lasting = s.load.lasting := rfl
@[simp] theorem restartSustain_line_lasting (s : State) : (restartSustain s).line.lasting = s.line.lasting := rfl
@[simp] theorem restartSustain_dock_lasting (s : State) : (restartSustain s).dock.lasting = s.dock.lasting := rfl

@[simp] theorem startSelfTest_pending (s : State) : (startSelfTest s).pending = s.pending := rfl
@[simp] theorem startSelfTest_pins (s : State) : (startSelfTest s).pins = s.pins := rfl
@[simp] theorem startSelfTest_pack (s : State) : (startSelfTest s).pack = s.pack := rfl
@[simp] theorem startSelfTest_tools (s : State) : (startSelfTest s).tools = s.tools := rfl
@[simp] theorem startSelfTest_evac (s : State) : (startSelfTest s).evac = s.evac := rfl
@[simp] theorem startSelfTest_host_lasting (s : State) : (startSelfTest s).host.lasting = s.host.lasting := rfl
@[simp] theorem startSelfTest_drive_lasting (s : State) : (startSelfTest s).drive.lasting = s.drive.lasting := rfl
@[simp] theorem startSelfTest_gov_lasting (s : State) : (startSelfTest s).gov.lasting = s.gov.lasting := rfl
@[simp] theorem startSelfTest_load_lasting (s : State) : (startSelfTest s).load.lasting = s.load.lasting := rfl
@[simp] theorem startSelfTest_line_lasting (s : State) : (startSelfTest s).line.lasting = s.line.lasting := rfl
@[simp] theorem startSelfTest_dock_lasting (s : State) : (startSelfTest s).dock.lasting = s.dock.lasting := rfl

@[simp] theorem limitSetPoint_pending (s : State) : (limitSetPoint s).pending = s.pending := by
  unfold limitSetPoint; try dsimp only
  (repeat' split) <;> simp
@[simp] theorem limitSetPoint_pins (s : State) : (limitSetPoint s).pins = s.pins := by
  unfold limitSetPoint; try dsimp only
  (repeat' split) <;> simp
@[simp] theorem limitSetPoint_pack (s : State) : (limitSetPoint s).pack = s.pack := by
  unfold limitSetPoint; try dsimp only
  (repeat' split) <;> simp
@[simp] theorem limitSetPoint_tools (s : State) : (limitSetPoint s).tools = s.tools := by
  unfold limitSetPoint; try dsimp only
  (repeat' split) <;> simp
@[simp] theorem limitSetPoint_evac (s : State) : (limitSetPoint s).evac = s.evac := by
  unfold limitSetPoint; try dsimp only
  (repeat' split) <;> simp
@[simp] theorem limitSetPoint_host_lasting (s : State) : (limitSetPoint s).host.lasting = s.host.lasting := by
  unfold limitSetPoint; try dsimp only
  (repeat' split) <;> simp
@[simp] theorem limitSetPoint_dirt_lasting (s : State) : (limitSetPoint s).dirt.lasting = s.dirt.lasting := by
  unfold limitSetPoint; try dsimp only
  (repeat' split) <;> simp
@[simp] theorem limitSetPoint_drive_lasting (s : State) : (limitSetPoint s).drive.lasting = s.drive.lasting := by
  unfold limitSetPoint; try dsimp only
  (repeat' split) <;> simp
@[simp] theorem limitSetPoint_gov_lasting (s : State) : (limitSetPoint s).gov.lasting = s.gov.lasting := by
  unfold limitSetPoint; try dsimp only
  (repeat' split) <;> simp
@[simp] theorem limitSetPoint_load_lasting (s : State) : (limitSetPoint s).load.lasting = s.load.lasting := by
  unfold limitSetPoint; try dsimp only
  (repeat' split) <;> simp
@[simp] theorem limitSetPoint_line_lasting (s : State) : (limitSetPoint s).line.lasting = s.line.lasting := by
  unfold limitSetPoint; try dsimp only
  (repeat' split) <;> simp
@[simp] theorem limitSetPoint_dock_lasting (s : State) : (limitSetPoint s).dock.lasting = s.dock.lasting := by
  unfold limitSetPoint; try dsimp only
  (repeat' split) <;> simp

@[simp] theorem loadRest_pending (s : State) : (loadRest s).pending = s.pending := by
  unfold loadRest; try dsimp only
  (repeat' split) <;> simp
@[simp] theorem loadRest_pins (s : State) : (loadRest s).pins = s.pins := by
  unfold loadRest; try dsimp only
  (repeat' split) <;> simp
@[simp] theorem loadRest_pack (s : State) : (loadRest s).pack = s.pack := by
  unfold loadRest; try dsimp only
  (repeat' split) <;> simp
@[simp] theorem loadRest_tools (s : State) : (loadRest s).tools = s.tools := by
  unfold loadRest; try dsimp only
  (repeat' split) <;> simp
@[simp] theorem loadRest_evac (s : State) : (loadRest s).evac = s.evac := by
  unfold loadRest; try dsimp only
  (repeat' split) <;> simp
@[simp] theorem loadRest_host_lasting (s : State) : (loadRest s).host.lasting = s.host.lasting := by
  unfold loadRest; try dsimp only
  (repeat' split) <;> simp
@[simp] theorem loadRest_dirt_lasting (s : State) : (loadRest s).dirt.lasting = s.dirt.lasting := by
  unfold loadRest; try dsimp only
  (repeat' split) <;> simp
@[simp] theorem loadRest_drive_lasting (s : State) : (loadRest s).drive.lasting = s.drive.lasting := by
  unfold loadRest; try dsimp only
  (repeat' split) <;> simp
@[simp] theorem loadRest_gov_lasting (s : State) : (loadRest s).gov.lasting = s.gov.lasting := by
  unfold loadRest; try dsimp only
  (repeat' split) <;> simp
@[simp] theorem loadRest_load_lasting (s : State) : (loadRest s).load.lasting = s.load.lasting := by
  unfold loadRest; try dsimp only
  (repeat' split) <;> simp
@[simp] theorem loadRest_line_lasting (s : State) : (loadRest s).line.lasting = s.line.lasting := by
  unfold loadRest; try dsimp only
  (repeat' split) <;> simp
@[simp] theorem loadRest_dock_lasting (s : State) : (loadRest s).dock.lasting = s.dock.lasting := by
  unfold loadRest; try dsimp only
  (repeat' split) <;> simp

@[simp] theorem zeroLevel_pending (r : Option Nat) (s : State) : (zeroLevel r s).pending = s.pending := by
  unfold zeroLevel; try dsimp only
  (repeat' split) <;> simp
@[simp] theorem zeroLevel_pins (r : Option Nat) (s : State) : (zeroLevel r s).pins = s.pins := by
  unfold zeroLevel; try dsimp only
  (repeat' split) <;> simp
@[simp] theorem zeroLevel_pack (r : Option Nat) (s : State) : (zeroLevel r s).pack = s.pack := by
  unfold zeroLevel; try dsimp only
  (repeat' split) <;> simp
@[simp] theorem zeroLevel_tools (r : Option Nat) (s : State) : (zeroLevel r s).tools = s.tools := by
  unfold zeroLevel; try dsimp only
  (repeat' split) <;> simp
@[simp] theorem zeroLevel_evac (r : Option Nat) (s : State) : (zeroLevel r s).evac = s.evac := by
  unfold zeroLevel; try dsimp only
  (repeat' split) <;> simp
@[simp] theorem zeroLevel_host_lasting (r : Option Nat) (s : State) : (zeroLevel r s).host.lasting = s.host.lasting := by
  unfold zeroLevel; try dsimp only
  (repeat' split) <;> simp
@[simp] theorem zeroLevel_dirt_lasting (r : Option Nat) (s : State) : (zeroLevel r s).dirt.lasting = s.dirt.lasting := by
  unfold zeroLevel; try dsimp only
  (repeat' split) <;> simp
@[simp] theorem zeroLevel_drive_lasting (r : Option Nat) (s : State) : (zeroLevel r s).drive.lasting = s.drive.lasting := by
  unfold zeroLevel; try dsimp only
  (repeat' split) <;> simp
@[simp] theorem zeroLevel_gov_lasting (r : Option Nat) (s : State) : (zeroLevel r s).gov.lasting = s.gov.lasting := by
  unfold zeroLevel; try dsimp only
  (repeat' split) <;> simp
@[simp] theorem zeroLevel_load_lasting (r : Option Nat) (s : State) : (zeroLevel r s).load.lasting = s.load.lasting := by
  unfold zeroLevel; try dsimp only
  (repeat' split) <;> simp
@[simp] theorem zeroLevel_line_lasting (r : Option Nat) (s : State) : (zeroLevel r s).line.lasting = s.line.lasting := by
  unfold zeroLevel; try dsimp only
  (repeat' split) <;> simp
@[simp] theorem zeroLevel_dock_lasting (r : Option Nat) (s : State) : (zeroLevel r s).dock.lasting = s.dock.lasting := by
  unfold zeroLevel; try dsimp only
  (repeat' split) <;> simp

@[simp] theorem dirtRunExit_pending (s : State) : (dirtRunExit s).pending = s.pending := by
  unfold dirtRunExit; try dsimp only
  (repeat' split) <;> simp
@[simp] theorem dirtRunExit_pins (s : State) : (dirtRunExit s).pins = s.pins := by
  unfold dirtRunExit; try dsimp only
  (repeat' split) <;> simp
@[simp] theorem dirtRunExit_pack (s : State) : (dirtRunExit s).pack = s.pack := by
  unfold dirtRunExit; try dsimp only
  (repeat' split) <;> simp
@[simp] theorem dirtRunExit_tools (s : State) : (dirtRunExit s).tools = s.tools := by
  unfold dirtRunExit; try dsimp only
  (repeat' split) <;> simp
@[simp] theorem dirtRunExit_evac (s : State) : (dirtRunExit s).evac = s.evac := by
  unfold dirtRunExit; try dsimp only
  (repeat' split) <;> simp
@[simp] theorem dirtRunExit_host_lasting (s : State) : (dirtRunExit s).host.lasting = s.host.lasting := by
  unfold dirtRunExit; try dsimp only
  (repeat' split) <;> simp
@[simp] theorem dirtRunExit_dirt_lasting (s : State) : (dirtRunExit s).dirt.lasting = s.dirt.lasting := by
  unfold dirtRunExit; try dsimp only
  (repeat' split) <;> simp
@[simp] theorem dirtRunExit_drive_lasting (s : State) : (dirtRunExit s).drive.lasting = s.drive.lasting := by
  unfold dirtRunExit; try dsimp only
  (repeat' split) <;> simp
@[simp] theorem dirtRunExit_gov_lasting (s : State) : (dirtRunExit s).gov.lasting = s.gov.lasting := by
  unfold dirtRunExit; try dsimp only
  (repeat' split) <;> simp
@[simp] theorem dirtRunExit_load_lasting (s : State) : (dirtRunExit s).load.lasting = s.load.lasting := by
  unfold dirtRunExit; try dsimp only
  (repeat' split) <;> simp
@[simp] theorem dirtRunExit_line_lasting (s : State) : (dirtRunExit s).line.lasting = s.line.lasting := by
  unfold dirtRunExit; try dsimp only
  (repeat' split) <;> simp
@[simp] theorem dirtRunExit_dock_lasting (s : State) : (dirtRunExit s).dock.lasting = s.dock.lasting := by
  unfold dirtRunExit; try dsimp only
  (repeat' split) <;> simp

@[simp] theorem leaveRun_pending (s : State) : (leaveRun s).pending = s.pending := by
  unfold leaveRun; try dsimp only
  (repeat' split) <;> simp
@[simp] theorem leaveRun_pins (s : State) : (leaveRun s).pins = s.pins := by
  unfold leaveRun; try dsimp only
  (repeat' split) <;> simp
@[simp] theorem leaveRun_pack (s : State) : (leaveRun s).pack = s.pack := by
  unfold leaveRun; try dsimp only
  (repeat' split) <;> simp
@[simp] theorem leaveRun_tools (s : State) : (leaveRun s).tools = s.tools := by
  unfold leaveRun; try dsimp only
  (repeat' split) <;> simp
@[simp] theorem leaveRun_evac (s : State) : (leaveRun s).evac = s.evac := by
  unfold leaveRun; try dsimp only
  (repeat' split) <;> simp
@[simp] theorem leaveRun_host_lasting (s : State) : (leaveRun s).host.lasting = s.host.lasting := by
  unfold leaveRun; try dsimp only
  (repeat' split) <;> simp
@[simp] theorem leaveRun_dirt_lasting (s : State) : (leaveRun s).dirt.lasting = s.dirt.lasting := by
  unfold leaveRun; try dsimp only
  (repeat' split) <;> simp
@[simp] theorem leaveRun_drive_lasting (s : State) : (leaveRun s).drive.lasting = s.drive.lasting := by
  unfold leaveRun; try dsimp only
  (repeat' split) <;> simp
@[simp] theorem leaveRun_gov_lasting (s : State) : (leaveRun s).gov.lasting = s.gov.lasting := by
  unfold leaveRun; try dsimp only
  (repeat' split) <;> simp
@[simp] theorem leaveRun_load_lasting (s : State) : (leaveRun s).load.lasting = s.load.lasting := by
  unfold leaveRun; try dsimp only
  (repeat' split) <;> simp
@[simp] theorem leaveRun_line_lasting (s : State) : (leaveRun s).line.lasting = s.line.lasting := by
  unfold leaveRun; try dsimp only
  (repeat' split) <;> simp
@[simp] theorem leaveRun_dock_lasting (s : State) : (leaveRun s).dock.lasting = s.dock.lasting := by
  unfold leaveRun; try dsimp only
  (repeat' split) <;> simp

@[simp] theorem changeState_pending (m : MotorState) (s : State) : (changeState m s).pending = s.pending := by
  unfold changeState; try dsimp only
  (repeat' split) <;> simp
@[simp] theorem changeState_pins (m : MotorState) (s : State) : (changeState m s).pins = s.pins := by
  unfold changeState; try dsimp only
  (repeat' split) <;> simp
@[simp] theorem changeState_pack (m : MotorState) (s : State) : (changeState m s).pack = s.pack := by
  unfold changeState; try dsimp only
  (repeat' split) <;> simp
@[simp] theorem changeState_tools (m : MotorState) (s : State) : (changeState m s).tools = s.tools := by
  unfold changeState; try dsimp only
  (repeat' split) <;> simp
@[simp] theorem changeState_evac (m : MotorState) (s : State) : (changeState m s).evac = s.evac := by
  unfold changeState; try dsimp only
  (repeat' split) <;> simp
@[simp] theorem changeState_host_lasting (m : MotorState) (s : State) : (changeState m s).host.lasting = s.host.lasting := by
  unfold changeState; try dsimp only
  (repeat' split) <;> simp
@[simp] theorem changeState_dirt_lasting (m : MotorState) (s : State) : (changeState m s).dirt.lasting = s.dirt.lasting := by
  unfold changeState; try dsimp only
  (repeat' split) <;> simp
@[simp] theorem changeState_drive_lasting (m : MotorState) (s : State) : (changeState m s).drive.lasting = s.drive.lasting := by
  unfold changeState; try dsimp only
  (repeat' split) <;> simp
@[simp] theorem changeState_gov_lasting (m : MotorState) (s : State) : (changeState m s).gov.lasting = s.gov.lasting := by
  unfold changeState; try dsimp only
  (repeat' split) <;> simp
@[simp] theorem changeState_load_lasting (m : MotorState) (s : State) : (changeState m s).load.lasting = s.load.lasting := by
  unfold changeState; try dsimp only
  (repeat' split) <;> simp
@[simp] theorem changeState_line_lasting (m : MotorState) (s : State) : (changeState m s).line.lasting = s.line.lasting := by
  unfold changeState; try dsimp only
  (repeat' split) <;> simp
@[simp] theorem changeState_dock_lasting (m : MotorState) (s : State) : (changeState m s).dock.lasting = s.dock.lasting := by
  unfold changeState; try dsimp only
  (repeat' split) <;> simp

@[simp] theorem setCharge_pending (c : ChargeState) (s : State) : (setCharge c s).pending = s.pending := by
  unfold setCharge; try dsimp only
  (repeat' split) <;> simp
@[simp] theorem setCharge_pins (c : ChargeState) (s : State) : (setCharge c s).pins = s.pins := by
  unfold setCharge; try dsimp only
  (repeat' split) <;> simp
@[simp] theorem setCharge_pack (c : ChargeState) (s : State) : (setCharge c s).pack = s.pack := by
  unfold setCharge; try dsimp only
  (repeat' split) <;> simp
@[simp] theorem setCharge_tools (c : ChargeState) (s : State) : (setCharge c s).tools = s.tools := by
  unfold setCharge; try dsimp only
  (repeat' split) <;> simp
@[simp] theorem setCharge_evac (c : ChargeState) (s : State) : (setCharge c s).evac = s.evac := by
  unfold setCharge; try dsimp only
  (repeat' split) <;> simp
@[simp] theorem setCharge_host_lasting (c : ChargeState) (s : State) : (setCharge c s).host.lasting = s.host.lasting := by
  unfold setCharge; try dsimp only
  (repeat' split) <;> simp
@[simp] theorem setCharge_dirt_lasting (c : ChargeState) (s : State) : (setCharge c s).dirt.lasting = s.dirt.lasting := by
  unfold setCharge; try dsimp only
  (repeat' split) <;> simp
@[simp] theorem setCharge_drive_lasting (c : ChargeState) (s : State) : (setCharge c s).drive.lasting = s.drive.lasting := by
  unfold setCharge; try dsimp only
  (repeat' split) <;> simp
@[simp] theorem setCharge_gov_lasting (c : ChargeState) (s : State) : (setCharge c s).gov.lasting = s.gov.lasting := by
  unfold setCharge; try dsimp only
  (repeat' split) <;> simp
@[simp] theorem setCharge_load_lasting (c : ChargeState) (s : State) : (setCharge c s).load.lasting = s.load.lasting := by
  unfold setCharge; try dsimp only
  (repeat' split) <;> simp
@[simp] theorem setCharge_line_lasting (c : ChargeState) (s : State) : (setCharge c s).line.lasting = s.line.lasting := by
  unfold setCharge; try dsimp only
  (repeat' split) <;> simp
@[simp] theorem setCharge_dock_lasting (c : ChargeState) (s : State) : (setCharge c s).dock.lasting = s.dock.lasting := by
  unfold setCharge; try dsimp only
  (repeat' split) <;> simp

@[simp] theorem openSwitch_pending (s : State) : (openSwitch s).pending = s.pending := rfl
@[simp] theorem openSwitch_pins (s : State) : (openSwitch s).pins = s.pins := rfl
@[simp] theorem openSwitch_pack (s : State) : (openSwitch s).pack = s.pack := rfl
@[simp] theorem openSwitch_tools (s : State) : (openSwitch s).tools = s.tools := rfl
@[simp] theorem openSwitch_evac (s : State) : (openSwitch s).evac = s.evac := rfl
@[simp] theorem openSwitch_host_lasting (s : State) : (openSwitch s).host.lasting = s.host.lasting := rfl
@[simp] theorem openSwitch_dirt_lasting (s : State) : (openSwitch s).dirt.lasting = s.dirt.lasting := rfl
@[simp] theorem openSwitch_drive_lasting (s : State) : (openSwitch s).drive.lasting = s.drive.lasting := rfl
@[simp] theorem openSwitch_gov_lasting (s : State) : (openSwitch s).gov.lasting = s.gov.lasting := rfl
@[simp] theorem openSwitch_load_lasting (s : State) : (openSwitch s).load.lasting = s.load.lasting := rfl
@[simp] theorem openSwitch_line_lasting (s : State) : (openSwitch s).line.lasting = s.line.lasting := rfl
@[simp] theorem openSwitch_dock_lasting (s : State) : (openSwitch s).dock.lasting = s.dock.lasting := rfl

@[simp] theorem startExchange_pending (r : DockReq) (s : State) : (startExchange r s).pending = s.pending := rfl
@[simp] theorem startExchange_pins (r : DockReq) (s : State) : (startExchange r s).pins = s.pins := rfl
@[simp] theorem startExchange_pack (r : DockReq) (s : State) : (startExchange r s).pack = s.pack := rfl
@[simp] theorem startExchange_tools (r : DockReq) (s : State) : (startExchange r s).tools = s.tools := rfl
@[simp] theorem startExchange_evac (r : DockReq) (s : State) : (startExchange r s).evac = s.evac := rfl
@[simp] theorem startExchange_host_lasting (r : DockReq) (s : State) : (startExchange r s).host.lasting = s.host.lasting := rfl
@[simp] theorem startExchange_dirt_lasting (r : DockReq) (s : State) : (startExchange r s).dirt.lasting = s.dirt.lasting := rfl
@[simp] theorem startExchange_drive_lasting (r : DockReq) (s : State) : (startExchange r s).drive.lasting = s.drive.lasting := rfl
@[simp] theorem startExchange_gov_lasting (r : DockReq) (s : State) : (startExchange r s).gov.lasting = s.gov.lasting := rfl
@[simp] theorem startExchange_load_lasting (r : DockReq) (s : State) : (startExchange r s).load.lasting = s.load.lasting := rfl
@[simp] theorem startExchange_line_lasting (r : DockReq) (s : State) : (startExchange r s).line.lasting = s.line.lasting := rfl
@[simp] theorem startExchange_dock_lasting (r : DockReq) (s : State) : (startExchange r s).dock.lasting = s.dock.lasting := rfl

@[simp] theorem trySend_pending (s : State) : (trySend s).pending = s.pending := by
  unfold trySend; try dsimp only
  (repeat' split) <;> simp
@[simp] theorem trySend_pins (s : State) : (trySend s).pins = s.pins := by
  unfold trySend; try dsimp only
  (repeat' split) <;> simp
@[simp] theorem trySend_pack (s : State) : (trySend s).pack = s.pack := by
  unfold trySend; try dsimp only
  (repeat' split) <;> simp
@[simp] theorem trySend_tools (s : State) : (trySend s).tools = s.tools := by
  unfold trySend; try dsimp only
  (repeat' split) <;> simp
@[simp] theorem trySend_evac (s : State) : (trySend s).evac = s.evac := by
  unfold trySend; try dsimp only
  (repeat' split) <;> simp
@[simp] theorem trySend_host_lasting (s : State) : (trySend s).host.lasting = s.host.lasting := by
  unfold trySend; try dsimp only
  (repeat' split) <;> simp
@[simp] theorem trySend_dirt_lasting (s : State) : (trySend s).dirt.lasting = s.dirt.lasting := by
  unfold trySend; try dsimp only
  (repeat' split) <;> simp
@[simp] theorem trySend_drive_lasting (s : State) : (trySend s).drive.lasting = s.drive.lasting := by
  unfold trySend; try dsimp only
  (repeat' split) <;> simp
@[simp] theorem trySend_gov_lasting (s : State) : (trySend s).gov.lasting = s.gov.lasting := by
  unfold trySend; try dsimp only
  (repeat' split) <;> simp
@[simp] theorem trySend_load_lasting (s : State) : (trySend s).load.lasting = s.load.lasting := by
  unfold trySend; try dsimp only
  (repeat' split) <;> simp
@[simp] theorem trySend_line_lasting (s : State) : (trySend s).line.lasting = s.line.lasting := by
  unfold trySend; try dsimp only
  (repeat' split) <;> simp
@[simp] theorem trySend_dock_lasting (s : State) : (trySend s).dock.lasting = s.dock.lasting := by
  unfold trySend; try dsimp only
  (repeat' split) <;> simp

@[simp] theorem makeHaltDue_pending (s : State) : (makeHaltDue s).pending = s.pending := rfl
@[simp] theorem makeHaltDue_pins (s : State) : (makeHaltDue s).pins = s.pins := rfl
@[simp] theorem makeHaltDue_pack (s : State) : (makeHaltDue s).pack = s.pack := rfl
@[simp] theorem makeHaltDue_tools (s : State) : (makeHaltDue s).tools = s.tools := rfl
@[simp] theorem makeHaltDue_evac (s : State) : (makeHaltDue s).evac = s.evac := rfl
@[simp] theorem makeHaltDue_host_lasting (s : State) : (makeHaltDue s).host.lasting = s.host.lasting := rfl
@[simp] theorem makeHaltDue_dirt_lasting (s : State) : (makeHaltDue s).dirt.lasting = s.dirt.lasting := rfl
@[simp] theorem makeHaltDue_drive_lasting (s : State) : (makeHaltDue s).drive.lasting = s.drive.lasting := rfl
@[simp] theorem makeHaltDue_gov_lasting (s : State) : (makeHaltDue s).gov.lasting = s.gov.lasting := rfl
@[simp] theorem makeHaltDue_load_lasting (s : State) : (makeHaltDue s).load.lasting = s.load.lasting := rfl
@[simp] theorem makeHaltDue_line_lasting (s : State) : (makeHaltDue s).line.lasting = s.line.lasting := rfl
@[simp] theorem makeHaltDue_dock_lasting (s : State) : (makeHaltDue s).dock.lasting = s.dock.lasting := rfl

@[simp] theorem cancelCharge_pending (s : State) : (cancelCharge s).pending = s.pending := rfl
@[simp] theorem cancelCharge_pins (s : State) : (cancelCharge s).pins = s.pins := rfl
@[simp] theorem cancelCharge_pack (s : State) : (cancelCharge s).pack = s.pack := rfl
@[simp] theorem cancelCharge_tools (s : State) : (cancelCharge s).tools = s.tools := rfl
@[simp] theorem cancelCharge_evac (s : State) : (cancelCharge s).evac = s.evac := rfl
@[simp] theorem cancelCharge_host_lasting (s : State) : (cancelCharge s).host.lasting = s.host.lasting := rfl
@[simp] theorem cancelCharge_dirt_lasting (s : State) : (cancelCharge s).dirt.lasting = s.dirt.lasting := rfl
@[simp] theorem cancelCharge_drive_lasting (s : State) : (cancelCharge s).drive.lasting = s.drive.lasting := rfl
@[simp] theorem cancelCharge_gov_lasting (s : State) : (cancelCharge s).gov.lasting = s.gov.lasting := rfl
@[simp] theorem cancelCharge_load_lasting (s : State) : (cancelCharge s).load.lasting = s.load.lasting := rfl
@[simp] theorem cancelCharge_line_lasting (s : State) : (cancelCharge s).line.lasting = s.line.lasting := rfl
@[simp] theorem cancelCharge_dock_lasting (s : State) : (cancelCharge s).dock.lasting = s.dock.lasting := rfl

@[simp] theorem abandonCharge_pending (s : State) : (abandonCharge s).pending = s.pending := by
  unfold abandonCharge; try dsimp only
  (repeat' split) <;> simp
@[simp] theorem abandonCharge_pins (s : State) : (abandonCharge s).pins = s.pins := by
  unfold abandonCharge; try dsimp only
  (repeat' split) <;> simp
@[simp] theorem abandonCharge_pack (s : State) : (abandonCharge s).pack = s.pack := by
  unfold abandonCharge; try dsimp only
  (repeat' split) <;> simp
@[simp] theorem abandonCharge_tools (s : State) : (abandonCharge s).tools = s.tools := by
  unfold abandonCharge; try dsimp only
  (repeat' split) <;> simp
@[simp] theorem abandonCharge_evac (s : State) : (abandonCharge s).evac = s.evac := by
  unfold abandonCharge; try dsimp only
  (repeat' split) <;> simp
@[simp] theorem abandonCharge_host_lasting (s : State) : (abandonCharge s).host.lasting = s.host.lasting := by
  unfold abandonCharge; try dsimp only
  (repeat' split) <;> simp
@[simp] theorem abandonCharge_dirt_lasting (s : State) : (abandonCharge s).dirt.lasting = s.dirt.lasting := by
  unfold abandonCharge; try dsimp only
  (repeat' split) <;> simp
@[simp] theorem abandonCharge_drive_lasting (s : State) : (abandonCharge s).drive.lasting = s.drive.lasting := by
  unfold abandonCharge; try dsimp only
  (repeat' split) <;> simp
@[simp] theorem abandonCharge_gov_lasting (s : State) : (abandonCharge s).gov.lasting = s.gov.lasting := by
  unfold abandonCharge; try dsimp only
  (repeat' split) <;> simp
@[simp] theorem abandonCharge_load_lasting (s : State) : (abandonCharge s).load.lasting = s.load.lasting := by
  unfold abandonCharge; try dsimp only
  (repeat' split) <;> simp
@[simp] theorem abandonCharge_line_lasting (s : State) : (abandonCharge s).line.lasting = s.line.lasting := by
  unfold abandonCharge; try dsimp only
  (repeat' split) <;> simp
@[simp] theorem abandonCharge_dock_lasting (s : State) : (abandonCharge s).dock.lasting = s.dock.lasting := by
  unfold abandonCharge; try dsimp only
  (repeat' split) <;> simp

@[simp] theorem enterPause_pending (c : PauseCause) (s : State) : (enterPause c s).pending = s.pending := by
  unfold enterPause; try dsimp only
  (repeat' split) <;> simp
@[simp] theorem enterPause_pins (c : PauseCause) (s : State) : (enterPause c s).pins = s.pins := by
  unfold enterPause; try dsimp only
  (repeat' split) <;> simp
@[simp] theorem enterPause_pack (c : PauseCause) (s : State) : (enterPause c s).pack = s.pack := by
  unfold enterPause; try dsimp only
  (repeat' split) <;> simp
@[simp] theorem enterPause_tools (c : PauseCause) (s : State) : (enterPause c s).tools = s.tools := by
  unfold enterPause; try dsimp only
  (repeat' split) <;> simp
@[simp] theorem enterPause_evac (c : PauseCause) (s : State) : (enterPause c s).evac = s.evac := by
  unfold enterPause; try dsimp only
  (repeat' split) <;> simp
@[simp] theorem enterPause_host_lasting (c : PauseCause) (s : State) : (enterPause c s).host.lasting = s.host.lasting := by
  unfold enterPause; try dsimp only
  (repeat' split) <;> simp
@[simp] theorem enterPause_dirt_lasting (c : PauseCause) (s : State) : (enterPause c s).dirt.lasting = s.dirt.lasting := by
  unfold enterPause; try dsimp only
  (repeat' split) <;> simp
@[simp] theorem enterPause_drive_lasting (c : PauseCause) (s : State) : (enterPause c s).drive.lasting = s.drive.lasting := by
  unfold enterPause; try dsimp only
  (repeat' split) <;> simp
@[simp] theorem enterPause_gov_lasting (c : PauseCause) (s : State) : (enterPause c s).gov.lasting = s.gov.lasting := by
  unfold enterPause; try dsimp only
  (repeat' split) <;> simp
@[simp] theorem enterPause_load_lasting (c : PauseCause) (s : State) : (enterPause c s).load.lasting = s.load.lasting := by
  unfold enterPause; try dsimp only
  (repeat' split) <;> simp
@[simp] theorem enterPause_line_lasting (c : PauseCause) (s : State) : (enterPause c s).line.lasting = s.line.lasting := by
  unfold enterPause; try dsimp only
  (repeat' split) <;> simp
@[simp] theorem enterPause_dock_lasting (c : PauseCause) (s : State) : (enterPause c s).dock.lasting = s.dock.lasting := by
  unfold enterPause; try dsimp only
  (repeat' split) <;> simp

@[simp] theorem enterChargeFault_pending (c : ChargeFault) (s : State) : (enterChargeFault c s).pending = s.pending := by
  unfold enterChargeFault; try dsimp only
  (repeat' split) <;> simp
@[simp] theorem enterChargeFault_pins (c : ChargeFault) (s : State) : (enterChargeFault c s).pins = s.pins := by
  unfold enterChargeFault; try dsimp only
  (repeat' split) <;> simp
@[simp] theorem enterChargeFault_pack (c : ChargeFault) (s : State) : (enterChargeFault c s).pack = s.pack := by
  unfold enterChargeFault; try dsimp only
  (repeat' split) <;> simp
@[simp] theorem enterChargeFault_tools (c : ChargeFault) (s : State) : (enterChargeFault c s).tools = s.tools := by
  unfold enterChargeFault; try dsimp only
  (repeat' split) <;> simp
@[simp] theorem enterChargeFault_evac (c : ChargeFault) (s : State) : (enterChargeFault c s).evac = s.evac := by
  unfold enterChargeFault; try dsimp only
  (repeat' split) <;> simp
@[simp] theorem enterChargeFault_host_lasting (c : ChargeFault) (s : State) : (enterChargeFault c s).host.lasting = s.host.lasting := by
  unfold enterChargeFault; try dsimp only
  (repeat' split) <;> simp
@[simp] theorem enterChargeFault_dirt_lasting (c : ChargeFault) (s : State) : (enterChargeFault c s).dirt.lasting = s.dirt.lasting := by
  unfold enterChargeFault; try dsimp only
  (repeat' split) <;> simp
@[simp] theorem enterChargeFault_drive_lasting (c : ChargeFault) (s : State) : (enterChargeFault c s).drive.lasting = s.drive.lasting := by
  unfold enterChargeFault; try dsimp only
  (repeat' split) <;> simp
@[simp] theorem enterChargeFault_gov_lasting (c : ChargeFault) (s : State) : (enterChargeFault c s).gov.lasting = s.gov.lasting := by
  unfold enterChargeFault; try dsimp only
  (repeat' split) <;> simp
@[simp] theorem enterChargeFault_load_lasting (c : ChargeFault) (s : State) : (enterChargeFault c s).load.lasting = s.load.lasting := by
  unfold enterChargeFault; try dsimp only
  (repeat' split) <;> simp
@[simp] theorem enterChargeFault_line_lasting (c : ChargeFault) (s : State) : (enterChargeFault c s).line.lasting = s.line.lasting := by
  unfold enterChargeFault; try dsimp only
  (repeat' split) <;> simp
@[simp] theorem enterChargeFault_dock_lasting (c : ChargeFault) (s : State) : (enterChargeFault c s).dock.lasting = s.dock.lasting := by
  unfold enterChargeFault; try dsimp only
  (repeat' split) <;> simp

@[simp] theorem enterIdentify_pending (s : State) : (enterIdentify s).pending = s.pending := by
  unfold enterIdentify; try dsimp only
  (repeat' split) <;> simp
@[simp] theorem enterIdentify_pins (s : State) : (enterIdentify s).pins = s.pins := by
  unfold enterIdentify; try dsimp only
  (repeat' split) <;> simp
@[simp] theorem enterIdentify_pack (s : State) : (enterIdentify s).pack = s.pack := by
  unfold enterIdentify; try dsimp only
  (repeat' split) <;> simp
@[simp] theorem enterIdentify_tools (s : State) : (enterIdentify s).tools = s.tools := by
  unfold enterIdentify; try dsimp only
  (repeat' split) <;> simp
@[simp] theorem enterIdentify_evac (s : State) : (enterIdentify s).evac = s.evac := by
  unfold enterIdentify; try dsimp only
  (repeat' split) <;> simp
@[simp] theorem enterIdentify_host_lasting (s : State) : (enterIdentify s).host.lasting = s.host.lasting := by
  unfold enterIdentify; try dsimp only
  (repeat' split) <;> simp
@[simp] theorem enterIdentify_dirt_lasting (s : State) : (enterIdentify s).dirt.lasting = s.dirt.lasting := by
  unfold enterIdentify; try dsimp only
  (repeat' split) <;> simp
@[simp] theorem enterIdentify_drive_lasting (s : State) : (enterIdentify s).drive.lasting = s.drive.lasting := by
  unfold enterIdentify; try dsimp only
  (repeat' split) <;> simp
@[simp] theorem enterIdentify_gov_lasting (s : State) : (enterIdentify s).gov.lasting = s.gov.lasting := by
  unfold enterIdentify; try dsimp only
  (repeat' split) <;> simp
@[simp] theorem enterIdentify_load_lasting (s : State) : (enterIdentify s).load.lasting = s.load.lasting := by
  unfold enterIdentify; try dsimp only
  (repeat' split) <;> simp
@[simp] theorem enterIdentify_line_lasting (s : State) : (enterIdentify s).line.lasting = s.line.lasting := by
  unfold enterIdentify; try dsimp only
  (repeat' split) <;> simp
@[simp] theorem enterIdentify_dock_lasting (s : State) : (enterIdentify s).dock.lasting = s.dock.lasting := by
  unfold enterIdentify; try dsimp only
  (repeat' split) <;> simp

@[simp] theorem leaveAttachWait_pending (s : State) : (leaveAttachWait s).pending = s.pending := by
  unfold leaveAttachWait; try dsimp only
  (repeat' split) <;> simp
@[simp] theorem leaveAttachWait_pins (s : State) : (leaveAttachWait s).pins = s.pins := by
  unfold leaveAttachWait; try dsimp only
  (repeat' split) <;> simp
@[simp] theorem leaveAttachWait_pack (s : State) : (leaveAttachWait s).pack = s.pack := by
  unfold leaveAttachWait; try dsimp only
  (repeat' split) <;> simp
@[simp] theorem leaveAttachWait_tools (s : State) : (leaveAttachWait s).tools = s.tools := by
  unfold leaveAttachWait; try dsimp only
  (repeat' split) <;> simp
@[simp] theorem leaveAttachWait_evac (s : State) : (leaveAttachWait s).evac = s.evac := by
  unfold leaveAttachWait; try dsimp only
  (repeat' split) <;> simp
@[simp] theorem leaveAttachWait_host_lasting (s : State) : (leaveAttachWait s).host.lasting = s.host.lasting := by
  unfold leaveAttachWait; try dsimp only
  (repeat' split) <;> simp
@[simp] theorem leaveAttachWait_dirt_lasting (s : State) : (leaveAttachWait s).dirt.lasting = s.dirt.lasting := by
  unfold leaveAttachWait; try dsimp only
  (repeat' split) <;> simp
@[simp] theorem leaveAttachWait_drive_lasting (s : State) : (leaveAttachWait s).drive.lasting = s.drive.lasting := by
  unfold leaveAttachWait; try dsimp only
  (repeat' split) <;> simp
@[simp] theorem leaveAttachWait_gov_lasting (s : State) : (leaveAttachWait s).gov.lasting = s.gov.lasting := by
  unfold leaveAttachWait; try dsimp only
  (repeat' split) <;> simp
@[simp] theorem leaveAttachWait_load_lasting (s : State) : (leaveAttachWait s).load.lasting = s.load.lasting := by
  unfold leaveAttachWait; try dsimp only
  (repeat' split) <;> simp
@[simp] theorem leaveAttachWait_line_lasting (s : State) : (leaveAttachWait s).line.lasting = s.line.lasting := by
  unfold leaveAttachWait; try dsimp only
  (repeat' split) <;> simp
@[simp] theorem leaveAttachWait_dock_lasting (s : State) : (leaveAttachWait s).dock.lasting = s.dock.lasting := by
  unfold leaveAttachWait; try dsimp only
  (repeat' split) <;> simp

@[simp] theorem enterRest_pending (m : MotorState) (s : State) : (enterRest m s).pending = s.pending := by
  unfold enterRest; try dsimp only
  (repeat' split) <;> simp
@[simp] theorem enterRest_pins (m : MotorState) (s : State) : (enterRest m s).pins = s.pins := by
  unfold enterRest; try dsimp only
  (repeat' split) <;> simp
@[simp] theorem enterRest_pack (m : MotorState) (s : State) : (enterRest m s).pack = s.pack := by
  unfold enterRest; try dsimp only
  (repeat' split) <;> simp
@[simp] theorem enterRest_tools (m : MotorState) (s : State) : (enterRest m s).tools = s.tools := by
  unfold enterRest; try dsimp only
  (repeat' split) <;> simp
@[simp] theorem enterRest_evac (m : MotorState) (s : State) : (enterRest m s).evac = s.evac := by
  unfold enterRest; try dsimp only
  (repeat' split) <;> simp
@[simp] theorem enterRest_host_lasting (m : MotorState) (s : State) : (enterRest m s).host.lasting = s.host.lasting := by
  unfold enterRest; try dsimp only
  (repeat' split) <;> simp
@[simp] theorem enterRest_dirt_lasting (m : MotorState) (s : State) : (enterRest m s).dirt.lasting = s.dirt.lasting := by
  unfold enterRest; try dsimp only
  (repeat' split) <;> simp
@[simp] theorem enterRest_drive_lasting (m : MotorState) (s : State) : (enterRest m s).drive.lasting = s.drive.lasting := by
  unfold enterRest; try dsimp only
  (repeat' split) <;> simp
@[simp] theorem enterRest_gov_lasting (m : MotorState) (s : State) : (enterRest m s).gov.lasting = s.gov.lasting := by
  unfold enterRest; try dsimp only
  (repeat' split) <;> simp
@[simp] theorem enterRest_load_lasting (m : MotorState) (s : State) : (enterRest m s).load.lasting = s.load.lasting := by
  unfold enterRest; try dsimp only
  (repeat' split) <;> simp
@[simp] theorem enterRest_line_lasting (m : MotorState) (s : State) : (enterRest m s).line.lasting = s.line.lasting := by
  unfold enterRest; try dsimp only
  (repeat' split) <;> simp
@[simp] theorem enterRest_dock_lasting (m : MotorState) (s : State) : (enterRest m s).dock.lasting = s.dock.lasting := by
  unfold enterRest; try dsimp only
  (repeat' split) <;> simp

@[simp] theorem reachOff_pending (s : State) : (reachOff s).pending = s.pending := by
  unfold reachOff; try dsimp only
  (repeat' split) <;> simp
@[simp] theorem reachOff_pins (s : State) : (reachOff s).pins = s.pins := by
  unfold reachOff; try dsimp only
  (repeat' split) <;> simp
@[simp] theorem reachOff_pack (s : State) : (reachOff s).pack = s.pack := by
  unfold reachOff; try dsimp only
  (repeat' split) <;> simp
@[simp] theorem reachOff_tools (s : State) : (reachOff s).tools = s.tools := by
  unfold reachOff; try dsimp only
  (repeat' split) <;> simp
@[simp] theorem reachOff_evac (s : State) : (reachOff s).evac = s.evac := by
  unfold reachOff; try dsimp only
  (repeat' split) <;> simp
@[simp] theorem reachOff_host_lasting (s : State) : (reachOff s).host.lasting = s.host.lasting := by
  unfold reachOff; try dsimp only
  (repeat' split) <;> simp
@[simp] theorem reachOff_dirt_lasting (s : State) : (reachOff s).dirt.lasting = s.dirt.lasting := by
  unfold reachOff; try dsimp only
  (repeat' split) <;> simp
@[simp] theorem reachOff_drive_lasting (s : State) : (reachOff s).drive.lasting = s.drive.lasting := by
  unfold reachOff; try dsimp only
  (repeat' split) <;> simp
@[simp] theorem reachOff_gov_lasting (s : State) : (reachOff s).gov.lasting = s.gov.lasting := by
  unfold reachOff; try dsimp only
  (repeat' split) <;> simp
@[simp] theorem reachOff_load_lasting (s : State) : (reachOff s).load.lasting = s.load.lasting := by
  unfold reachOff; try dsimp only
  (repeat' split) <;> simp
@[simp] theorem reachOff_line_lasting (s : State) : (reachOff s).line.lasting = s.line.lasting := by
  unfold reachOff; try dsimp only
  (repeat' split) <;> simp
@[simp] theorem reachOff_dock_lasting (s : State) : (reachOff s).dock.lasting = s.dock.lasting := by
  unfold reachOff; try dsimp only
  (repeat' split) <;> simp

@[simp] theorem enterStopping_pending (c : StopCause) (s : State) : (enterStopping c s).pending = s.pending := by
  unfold enterStopping; try dsimp only
  (repeat' split) <;> simp
@[simp] theorem enterStopping_pins (c : StopCause) (s : State) : (enterStopping c s).pins = s.pins := by
  unfold enterStopping; try dsimp only
  (repeat' split) <;> simp
@[simp] theorem enterStopping_pack (c : StopCause) (s : State) : (enterStopping c s).pack = s.pack := by
  unfold enterStopping; try dsimp only
  (repeat' split) <;> simp
@[simp] theorem enterStopping_tools (c : StopCause) (s : State) : (enterStopping c s).tools = s.tools := by
  unfold enterStopping; try dsimp only
  (repeat' split) <;> simp
@[simp] theorem enterStopping_evac (c : StopCause) (s : State) : (enterStopping c s).evac = s.evac := by
  unfold enterStopping; try dsimp only
  (repeat' split) <;> simp
@[simp] theorem enterStopping_host_lasting (c : StopCause) (s : State) : (enterStopping c s).host.lasting = s.host.lasting := by
  unfold enterStopping; try dsimp only
  (repeat' split) <;> simp
@[simp] theorem enterStopping_dirt_lasting (c : StopCause) (s : State) : (enterStopping c s).dirt.lasting = s.dirt.lasting := by
  unfold enterStopping; try dsimp only
  (repeat' split) <;> simp
@[simp] theorem enterStopping_drive_lasting (c : StopCause) (s : State) : (enterStopping c s).drive.lasting = s.drive.lasting := by
  unfold enterStopping; try dsimp only
  (repeat' split) <;> simp
@[simp] theorem enterStopping_gov_lasting (c : StopCause) (s : State) : (enterStopping c s).gov.lasting = s.gov.lasting := by
  unfold enterStopping; try dsimp only
  (repeat' split) <;> simp
@[simp] theorem enterStopping_load_lasting (c : StopCause) (s : State) : (enterStopping c s).load.lasting = s.load.lasting := by
  unfold enterStopping; try dsimp only
  (repeat' split) <;> simp
@[simp] theorem enterStopping_line_lasting (c : StopCause) (s : State) : (enterStopping c s).line.lasting = s.line.lasting := by
  unfold enterStopping; try dsimp only
  (repeat' split) <;> simp
@[simp] theorem enterStopping_dock_lasting (c : StopCause) (s : State) : (enterStopping c s).dock.lasting = s.dock.lasting := by
  unfold enterStopping; try dsimp only
  (repeat' split) <;> simp

@[simp] theorem stopOrder_pending (c : StopCause) (s : State) : (stopOrder c s).pending = s.pending := by
  unfold stopOrder; try dsimp only
  (repeat' split) <;> simp
@[simp] theorem stopOrder_pins (c : StopCause) (s : State) : (stopOrder c s).pins = s.pins := by
  unfold stopOrder; try dsimp only
  (repeat' split) <;> simp
@[simp] theorem stopOrder_pack (c : StopCause) (s : State) : (stopOrder c s).pack = s.pack := by
  unfold stopOrder; try dsimp only
  (repeat' split) <;> simp
@[simp] theorem stopOrder_tools (c : StopCause) (s : State) : (stopOrder c s).tools = s.tools := by
  unfold stopOrder; try dsimp only
  (repeat' split) <;> simp
@[simp] theorem stopOrder_evac (c : StopCause) (s : State) : (stopOrder c s).evac = s.evac := by
  unfold stopOrder; try dsimp only
  (repeat' split) <;> simp
@[simp] theorem stopOrder_host_lasting (c : StopCause) (s : State) : (stopOrder c s).host.lasting = s.host.lasting := by
  unfold stopOrder; try dsimp only
  (repeat' split) <;> simp
@[simp] theorem stopOrder_dirt_lasting (c : StopCause) (s : State) : (stopOrder c s).dirt.lasting = s.dirt.lasting := by
  unfold stopOrder; try dsimp only
  (repeat' split) <;> simp
@[simp] theorem stopOrder_drive_lasting (c : StopCause) (s : State) : (stopOrder c s).drive.lasting = s.drive.lasting := by
  unfold stopOrder; try dsimp only
  (repeat' split) <;> simp
@[simp] theorem stopOrder_gov_lasting (c : StopCause) (s : State) : (stopOrder c s).gov.lasting = s.gov.lasting := by
  unfold stopOrder; try dsimp only
  (repeat' split) <;> simp
@[simp] theorem stopOrder_load_lasting (c : StopCause) (s : State) : (stopOrder c s).load.lasting = s.load.lasting := by
  unfold stopOrder; try dsimp only
  (repeat' split) <;> simp
@[simp] theorem stopOrder_line_lasting (c : StopCause) (s : State) : (stopOrder c s).line.lasting = s.line.lasting := by
  unfold stopOrder; try dsimp only
  (repeat' split) <;> simp
@[simp] theorem stopOrder_dock_lasting (c : StopCause) (s : State) : (stopOrder c s).dock.lasting = s.dock.lasting := by
  unfold stopOrder; try dsimp only
  (repeat' split) <;> simp

@[simp] theorem enterArming_pending (s : State) : (enterArming s).pending = s.pending := by
  unfold enterArming; try dsimp only
  (repeat' split) <;> simp
@[simp] theorem enterArming_pins (s : State) : (enterArming s).pins = s.pins := by
  unfold enterArming; try dsimp only
  (repeat' split) <;> simp
@[simp] theorem enterArming_pack (s : State) : (enterArming s).pack = s.pack := by
  unfold enterArming; try dsimp only
  (repeat' split) <;> simp
@[simp] theorem enterArming_tools (s : State) : (enterArming s).tools = s.tools := by
  unfold enterArming; try dsimp only
  (repeat' split) <;> simp
@[simp] theorem enterArming_evac (s : State) : (enterArming s).evac = s.evac := by
  unfold enterArming; try dsimp only
  (repeat' split) <;> simp
@[simp] theorem enterArming_host_lasting (s : State) : (enterArming s).host.lasting = s.host.lasting := by
  unfold enterArming; try dsimp only
  (repeat' split) <;> simp
@[simp] theorem enterArming_dirt_lasting (s : State) : (enterArming s).dirt.lasting = s.dirt.lasting := by
  unfold enterArming; try dsimp only
  (repeat' split) <;> simp
@[simp] theorem enterArming_drive_lasting (s : State) : (enterArming s).drive.lasting = s.drive.lasting := by
  unfold enterArming; try dsimp only
  (repeat' split) <;> simp
@[simp] theorem enterArming_gov_lasting (s : State) : (enterArming s).gov.lasting = s.gov.lasting := by
  unfold enterArming; try dsimp only
  (repeat' split) <;> simp
@[simp] theorem enterArming_load_lasting (s : State) : (enterArming s).load.lasting = s.load.lasting := by
  unfold enterArming; try dsimp only
  (repeat' split) <;> simp
@[simp] theorem enterArming_line_lasting (s : State) : (enterArming s).line.lasting = s.line.lasting := by
  unfold enterArming; try dsimp only
  (repeat' split) <;> simp
@[simp] theorem enterArming_dock_lasting (s : State) : (enterArming s).dock.lasting = s.dock.lasting := by
  unfold enterArming; try dsimp only
  (repeat' split) <;> simp

@[simp] theorem repeatCheck_pending (s : State) : (repeatCheck s).pending = s.pending := by
  unfold repeatCheck; try dsimp only
  (repeat' split) <;> simp
@[simp] theorem repeatCheck_pins (s : State) : (repeatCheck s).pins = s.pins := by
  unfold repeatCheck; try dsimp only
  (repeat' split) <;> simp
@[simp] theorem repeatCheck_pack (s : State) : (repeatCheck s).pack = s.pack := by
  unfold repeatCheck; try dsimp only
  (repeat' split) <;> simp
@[simp] theorem repeatCheck_tools (s : State) : (repeatCheck s).tools = s.tools := by
  unfold repeatCheck; try dsimp only
  (repeat' split) <;> simp
@[simp] theorem repeatCheck_evac (s : State) : (repeatCheck s).evac = s.evac := by
  unfold repeatCheck; try dsimp only
  (repeat' split) <;> simp
@[simp] theorem repeatCheck_host_lasting (s : State) : (repeatCheck s).host.lasting = s.host.lasting := by
  unfold repeatCheck; try dsimp only
  (repeat' split) <;> simp
@[simp] theorem repeatCheck_dirt_lasting (s : State) : (repeatCheck s).dirt.lasting = s.dirt.lasting := by
  unfold repeatCheck; try dsimp only
  (repeat' split) <;> simp
@[simp] theorem repeatCheck_drive_lasting (s : State) : (repeatCheck s).drive.lasting = s.drive.lasting := by
  unfold repeatCheck; try dsimp only
  (repeat' split) <;> simp
@[simp] theorem repeatCheck_gov_lasting (s : State) : (repeatCheck s).gov.lasting = s.gov.lasting := by
  unfold repeatCheck; try dsimp only
  (repeat' split) <;> simp
@[simp] theorem repeatCheck_load_lasting (s : State) : (repeatCheck s).load.lasting = s.load.lasting := by
  unfold repeatCheck; try dsimp only
  (repeat' split) <;> simp
@[simp] theorem repeatCheck_line_lasting (s : State) : (repeatCheck s).line.lasting = s.line.lasting := by
  unfold repeatCheck; try dsimp only
  (repeat' split) <;> simp
@[simp] theorem repeatCheck_dock_lasting (s : State) : (repeatCheck s).dock.lasting = s.dock.lasting := by
  unfold repeatCheck; try dsimp only
  (repeat' split) <;> simp

@[simp] theorem pauseOrderChanged_pending (on : Bool) (s : State) : (pauseOrderChanged on s).pending = s.pending := by
  unfold pauseOrderChanged; try dsimp only
  (repeat' split) <;> simp
@[simp] theorem pauseOrderChanged_pins (on : Bool) (s : State) : (pauseOrderChanged on s).pins = s.pins := by
  unfold pauseOrderChanged; try dsimp only
  (repeat' split) <;> simp
@[simp] theorem pauseOrderChanged_pack (on : Bool) (s : State) : (pauseOrderChanged on s).pack = s.pack := by
  unfold pauseOrderChanged; try dsimp only
  (repeat' split) <;> simp
@[simp] theorem pauseOrderChanged_tools (on : Bool) (s : State) : (pauseOrderChanged on s).tools = s.tools := by
  unfold pauseOrderChanged; try dsimp only
  (repeat' split) <;> simp
@[simp] theorem pauseOrderChanged_evac (on : Bool) (s : State) : (pauseOrderChanged on s).evac = s.evac := by
  unfold pauseOrderChanged; try dsimp only
  (repeat' split) <;> simp
@[simp] theorem pauseOrderChanged_host_lasting (on : Bool) (s : State) : (pauseOrderChanged on s).host.lasting = s.host.lasting := by
  unfold pauseOrderChanged; try dsimp only
  (repeat' split) <;> simp
@[simp] theorem pauseOrderChanged_dirt_lasting (on : Bool) (s : State) : (pauseOrderChanged on s).dirt.lasting = s.dirt.lasting := by
  unfold pauseOrderChanged; try dsimp only
  (repeat' split) <;> simp
@[simp] theorem pauseOrderChanged_drive_lasting (on : Bool) (s : State) : (pauseOrderChanged on s).drive.lasting = s.drive.lasting := by
  unfold pauseOrderChanged; try dsimp only
  (repeat' split) <;> simp
@[simp] theorem pauseOrderChanged_gov_lasting (on : Bool) (s : State) : (pauseOrderChanged on s).gov.lasting = s.gov.lasting := by
  unfold pauseOrderChanged; try dsimp only
  (repeat' split) <;> simp
@[simp] theorem pauseOrderChanged_load_lasting (on : Bool) (s : State) : (pauseOrderChanged on s).load.lasting = s.load.lasting := by
  unfold pauseOrderChanged; try dsimp only
  (repeat' split) <;> simp
@[simp] theorem pauseOrderChanged_line_lasting (on : Bool) (s : State) : (pauseOrderChanged on s).line.lasting = s.line.lasting := by
  unfold pauseOrderChanged; try dsimp only
  (repeat' split) <;> simp
@[simp] theorem pauseOrderChanged_dock_lasting (on : Bool) (s : State) : (pauseOrderChanged on s).dock.lasting = s.dock.lasting := by
  unfold pauseOrderChanged; try dsimp only
  (repeat' split) <;> simp

@[simp] theorem handWatch_pending (s : State) : (handWatch s).pending = s.pending := by
  unfold handWatch; try dsimp only
  (repeat' split) <;> simp
@[simp] theorem handWatch_pins (s : State) : (handWatch s).pins = s.pins := by
  unfold handWatch; try dsimp only
  (repeat' split) <;> simp
@[simp] theorem handWatch_pack (s : State) : (handWatch s).pack = s.pack := by
  unfold handWatch; try dsimp only
  (repeat' split) <;> simp
@[simp] theorem handWatch_tools (s : State) : (handWatch s).tools = s.tools := by
  unfold handWatch; try dsimp only
  (repeat' split) <;> simp
@[simp] theorem handWatch_evac (s : State) : (handWatch s).evac = s.evac := by
  unfold handWatch; try dsimp only
  (repeat' split) <;> simp
@[simp] theorem handWatch_host_lasting (s : State) : (handWatch s).host.lasting = s.host.lasting := by
  unfold handWatch; try dsimp only
  (repeat' split) <;> simp
@[simp] theorem handWatch_dirt_lasting (s : State) : (handWatch s).dirt.lasting = s.dirt.lasting := by
  unfold handWatch; try dsimp only
  (repeat' split) <;> simp
@[simp] theorem handWatch_drive_lasting (s : State) : (handWatch s).drive.lasting = s.drive.lasting := by
  unfold handWatch; try dsimp only
  (repeat' split) <;> simp
@[simp] theorem handWatch_gov_lasting (s : State) : (handWatch s).gov.lasting = s.gov.lasting := by
  unfold handWatch; try dsimp only
  (repeat' split) <;> simp
@[simp] theorem handWatch_load_lasting (s : State) : (handWatch s).load.lasting = s.load.lasting := by
  unfold handWatch; try dsimp only
  (repeat' split) <;> simp
@[simp] theorem handWatch_line_lasting (s : State) : (handWatch s).line.lasting = s.line.lasting := by
  unfold handWatch; try dsimp only
  (repeat' split) <;> simp
@[simp] theorem handWatch_dock_lasting (s : State) : (handWatch s).dock.lasting = s.dock.lasting := by
  unfold handWatch; try dsimp only
  (repeat' split) <;> simp

@[simp] theorem watchUpdate_pending (q : Quantity) (v : Half) (s : State) : (watchUpdate q v s).pending = s.pending := by
  unfold watchUpdate; try dsimp only
  (repeat' split) <;> simp
@[simp] theorem watchUpdate_pins (q : Quantity) (v : Half) (s : State) : (watchUpdate q v s).pins = s.pins := by
  unfold watchUpdate; try dsimp only
  (repeat' split) <;> simp
@[simp] theorem watchUpdate_pack (q : Quantity) (v : Half) (s : State) : (watchUpdate q v s).pack = s.pack := by
  unfold watchUpdate; try dsimp only
  (repeat' split) <;> simp
@[simp] theorem watchUpdate_tools (q : Quantity) (v : Half) (s : State) : (watchUpdate q v s).tools = s.tools := by
  unfold watchUpdate; try dsimp only
  (repeat' split) <;> simp
@[simp] theorem watchUpdate_evac (q : Quantity) (v : Half) (s : State) : (watchUpdate q v s).evac = s.evac := by
  unfold watchUpdate; try dsimp only
  (repeat' split) <;> simp
@[simp] theorem watchUpdate_host_lasting (q : Quantity) (v : Half) (s : State) : (watchUpdate q v s).host.lasting = s.host.lasting := by
  unfold watchUpdate; try dsimp only
  (repeat' split) <;> simp
@[simp] theorem watchUpdate_dirt_lasting (q : Quantity) (v : Half) (s : State) : (watchUpdate q v s).dirt.lasting = s.dirt.lasting := by
  unfold watchUpdate; try dsimp only
  (repeat' split) <;> simp
@[simp] theorem watchUpdate_drive_lasting (q : Quantity) (v : Half) (s : State) : (watchUpdate q v s).drive.lasting = s.drive.lasting := by
  unfold watchUpdate; try dsimp only
  (repeat' split) <;> simp
@[simp] theorem watchUpdate_gov_lasting (q : Quantity) (v : Half) (s : State) : (watchUpdate q v s).gov.lasting = s.gov.lasting := by
  unfold watchUpdate; try dsimp only
  (repeat' split) <;> simp
@[simp] theorem watchUpdate_load_lasting (q : Quantity) (v : Half) (s : State) : (watchUpdate q v s).load.lasting = s.load.lasting := by
  unfold watchUpdate; try dsimp only
  (repeat' split) <;> simp
@[simp] theorem watchUpdate_line_lasting (q : Quantity) (v : Half) (s : State) : (watchUpdate q v s).line.lasting = s.line.lasting := by
  unfold watchUpdate; try dsimp only
  (repeat' split) <;> simp
@[simp] theorem watchUpdate_dock_lasting (q : Quantity) (v : Half) (s : State) : (watchUpdate q v s).dock.lasting = s.dock.lasting := by
  unfold watchUpdate; try dsimp only
  (repeat' split) <;> simp

@[simp] theorem grantArrives_pending (g : Nat) (s : State) : (grantArrives g s).pending = s.pending := by
  unfold grantArrives; try dsimp only
  (repeat' split) <;> simp
@[simp] theorem grantArrives_pins (g : Nat) (s : State) : (grantArrives g s).pins = s.pins := by
  unfold grantArrives; try dsimp only
  (repeat' split) <;> simp
@[simp] theorem grantArrives_pack (g : Nat) (s : State) : (grantArrives g s).pack = s.pack := by
  unfold grantArrives; try dsimp only
  (repeat' split) <;> simp
@[simp] theorem grantArrives_tools (g : Nat) (s : State) : (grantArrives g s).tools = s.tools := by
  unfold grantArrives; try dsimp only
  (repeat' split) <;> simp
@[simp] theorem grantArrives_evac (g : Nat) (s : State) : (grantArrives g s).evac = s.evac := by
  unfold grantArrives; try dsimp only
  (repeat' split) <;> simp
@[simp] theorem grantArrives_host_lasting (g : Nat) (s : State) : (grantArrives g s).host.lasting = s.host.lasting := by
  unfold grantArrives; try dsimp only
  (repeat' split) <;> simp
@[simp] theorem grantArrives_dirt_lasting (g : Nat) (s : State) : (grantArrives g s).dirt.lasting = s.dirt.lasting := by
  unfold grantArrives; try dsimp only
  (repeat' split) <;> simp
@[simp] theorem grantArrives_drive_lasting (g : Nat) (s : State) : (grantArrives g s).drive.lasting = s.drive.lasting := by
  unfold grantArrives; try dsimp only
  (repeat' split) <;> simp
@[simp] theorem grantArrives_gov_lasting (g : Nat) (s : State) : (grantArrives g s).gov.lasting = s.gov.lasting := by
  unfold grantArrives; try dsimp only
  (repeat' split) <;> simp
@[simp] theorem grantArrives_load_lasting (g : Nat) (s : State) : (grantArrives g s).load.lasting = s.load.lasting := by
  unfold grantArrives; try dsimp only
  (repeat' split) <;> simp
@[simp] theorem grantArrives_line_lasting (g : Nat) (s : State) : (grantArrives g s).line.lasting = s.line.lasting := by
  unfold grantArrives; try dsimp only
  (repeat' split) <;> simp
@[simp] theorem grantArrives_dock_lasting (g : Nat) (s : State) : (grantArrives g s).dock.lasting = s.dock.lasting := by
  unfold grantArrives; try dsimp only
  (repeat' split) <;> simp

@[simp] theorem recomputeNow_pending (s : State) : (recomputeNow s).pending = s.pending := by
  unfold recomputeNow; try dsimp only
  (repeat' split) <;> simp
@[simp] theorem recomputeNow_pins (s : State) : (recomputeNow s).pins = s.pins := by
  unfold recomputeNow; try dsimp only
  (repeat' split) <;> simp
@[simp] theorem recomputeNow_pack (s : State) : (recomputeNow s).pack = s.pack := by
  unfold recomputeNow; try dsimp only
  (repeat' split) <;> simp
@[simp] theorem recomputeNow_tools (s : State) : (recomputeNow s).tools = s.tools := by
  unfold recomputeNow; try dsimp only
  (repeat' split) <;> simp
@[simp] theorem recomputeNow_evac (s : State) : (recomputeNow s).evac = s.evac := by
  unfold recomputeNow; try dsimp only
  (repeat' split) <;> simp
@[simp] theorem recomputeNow_host_lasting (s : State) : (recomputeNow s).host.lasting = s.host.lasting := by
  unfold recomputeNow; try dsimp only
  (repeat' split) <;> simp
@[simp] theorem recomputeNow_dirt_lasting (s : State) : (recomputeNow s).dirt.lasting = s.dirt.lasting := by
  unfold recomputeNow; try dsimp only
  (repeat' split) <;> simp
@[simp] theorem recomputeNow_drive_lasting (s : State) : (recomputeNow s).drive.lasting = s.drive.lasting := by
  unfold recomputeNow; try dsimp only
  (repeat' split) <;> simp
@[simp] theorem recomputeNow_gov_lasting (s : State) : (recomputeNow s).gov.lasting = s.gov.lasting := by
  unfold recomputeNow; try dsimp only
  (repeat' split) <;> simp
@[simp] theorem recomputeNow_load_lasting (s : State) : (recomputeNow s).load.lasting = s.load.lasting := by
  unfold recomputeNow; try dsimp only
  (repeat' split) <;> simp
@[simp] theorem recomputeNow_line_lasting (s : State) : (recomputeNow s).line.lasting = s.line.lasting := by
  unfold recomputeNow; try dsimp only
  (repeat' split) <;> simp
@[simp] theorem recomputeNow_dock_lasting (s : State) : (recomputeNow s).dock.lasting = s.dock.lasting := by
  unfold recomputeNow; try dsimp only
  (repeat' split) <;> simp

@[simp] theorem cutoffStopNow_pending (s : State) : (cutoffStopNow s).pending = s.pending := by
  unfold cutoffStopNow; try dsimp only
  (repeat' split) <;> simp
@[simp] theorem cutoffStopNow_pins (s : State) : (cutoffStopNow s).pins = s.pins := by
  unfold cutoffStopNow; try dsimp only
  (repeat' split) <;> simp
@[simp] theorem cutoffStopNow_pack (s : State) : (cutoffStopNow s).pack = s.pack := by
  unfold cutoffStopNow; try dsimp only
  (repeat' split) <;> simp
@[simp] theorem cutoffStopNow_tools (s : State) : (cutoffStopNow s).tools = s.tools := by
  unfold cutoffStopNow; try dsimp only
  (repeat' split) <;> simp
@[simp] theorem cutoffStopNow_evac (s : State) : (cutoffStopNow s).evac = s.evac := by
  unfold cutoffStopNow; try dsimp only
  (repeat' split) <;> simp
@[simp] theorem cutoffStopNow_host_lasting (s : State) : (cutoffStopNow s).host.lasting = s.host.lasting := by
  unfold cutoffStopNow; try dsimp only
  (repeat' split) <;> simp
@[simp] theorem cutoffStopNow_dirt_lasting (s : State) : (cutoffStopNow s).dirt.lasting = s.dirt.lasting := by
  unfold cutoffStopNow; try dsimp only
  (repeat' split) <;> simp
@[simp] theorem cutoffStopNow_drive_lasting (s : State) : (cutoffStopNow s).drive.lasting = s.drive.lasting := by
  unfold cutoffStopNow; try dsimp only
  (repeat' split) <;> simp
@[simp] theorem cutoffStopNow_gov_lasting (s : State) : (cutoffStopNow s).gov.lasting = s.gov.lasting := by
  unfold cutoffStopNow; try dsimp only
  (repeat' split) <;> simp
@[simp] theorem cutoffStopNow_load_lasting (s : State) : (cutoffStopNow s).load.lasting = s.load.lasting := by
  unfold cutoffStopNow; try dsimp only
  (repeat' split) <;> simp
@[simp] theorem cutoffStopNow_line_lasting (s : State) : (cutoffStopNow s).line.lasting = s.line.lasting := by
  unfold cutoffStopNow; try dsimp only
  (repeat' split) <;> simp
@[simp] theorem cutoffStopNow_dock_lasting (s : State) : (cutoffStopNow s).dock.lasting = s.dock.lasting := by
  unfold cutoffStopNow; try dsimp only
  (repeat' split) <;> simp

@[simp] theorem take_pending (g : Signal) (s : State) : (take g s).pending = s.pending := by
  cases g <;> simp [take]
@[simp] theorem take_pins (g : Signal) (s : State) : (take g s).pins = s.pins := by
  cases g <;> simp [take]
@[simp] theorem take_pack (g : Signal) (s : State) : (take g s).pack = s.pack := by
  cases g <;> simp [take]
@[simp] theorem take_tools (g : Signal) (s : State) : (take g s).tools = s.tools := by
  cases g <;> simp [take]
@[simp] theorem take_evac (g : Signal) (s : State) : (take g s).evac = s.evac := by
  cases g <;> simp [take]
@[simp] theorem take_host_lasting (g : Signal) (s : State) : (take g s).host.lasting = s.host.lasting := by
  cases g <;> simp [take]
@[simp] theorem take_dirt_lasting (g : Signal) (s : State) : (take g s).dirt.lasting = s.dirt.lasting := by
  cases g <;> simp [take]
@[simp] theorem take_drive_lasting (g : Signal) (s : State) : (take g s).drive.lasting = s.drive.lasting := by
  cases g <;> simp [take]
@[simp] theorem take_gov_lasting (g : Signal) (s : State) : (take g s).gov.lasting = s.gov.lasting := by
  cases g <;> simp [take]
@[simp] theorem take_load_lasting (g : Signal) (s : State) : (take g s).load.lasting = s.load.lasting := by
  cases g <;> simp [take]
@[simp] theorem take_line_lasting (g : Signal) (s : State) : (take g s).line.lasting = s.line.lasting := by
  cases g <;> simp [take]
@[simp] theorem take_dock_lasting (g : Signal) (s : State) : (take g s).dock.lasting = s.dock.lasting := by
  cases g <;> simp [take]

@[simp] theorem drain_pending (n : Nat) (s : State) : (drain n s).pending = s.pending := by
  induction n generalizing s with
  | zero => rfl
  | succ n ih => unfold drain; split <;> simp [ih]
@[simp] theorem drain_pins (n : Nat) (s : State) : (drain n s).pins = s.pins := by
  induction n generalizing s with
  | zero => rfl
  | succ n ih => unfold drain; split <;> simp [ih]
@[simp] theorem drain_pack (n : Nat) (s : State) : (drain n s).pack = s.pack := by
  induction n generalizing s with
  | zero => rfl
  | succ n ih => unfold drain; split <;> simp [ih]
@[simp] theorem drain_tools (n : Nat) (s : State) : (drain n s).tools = s.tools := by
  induction n generalizing s with
  | zero => rfl
  | succ n ih => unfold drain; split <;> simp [ih]
@[simp] theorem drain_evac (n : Nat) (s : State) : (drain n s).evac = s.evac := by
  induction n generalizing s with
  | zero => rfl
  | succ n ih => unfold drain; split <;> simp [ih]
@[simp] theorem drain_host_lasting (n : Nat) (s : State) : (drain n s).host.lasting = s.host.lasting := by
  induction n generalizing s with
  | zero => rfl
  | succ n ih => unfold drain; split <;> simp [ih]
@[simp] theorem drain_dirt_lasting (n : Nat) (s : State) : (drain n s).dirt.lasting = s.dirt.lasting := by
  induction n generalizing s with
  | zero => rfl
  | succ n ih => unfold drain; split <;> simp [ih]
@[simp] theorem drain_drive_lasting (n : Nat) (s : State) : (drain n s).drive.lasting = s.drive.lasting := by
  induction n generalizing s with
  | zero => rfl
  | succ n ih => unfold drain; split <;> simp [ih]
@[simp] theorem drain_gov_lasting (n : Nat) (s : State) : (drain n s).gov.lasting = s.gov.lasting := by
  induction n generalizing s with
  | zero => rfl
  | succ n ih => unfold drain; split <;> simp [ih]
@[simp] theorem drain_load_lasting (n : Nat) (s : State) : (drain n s).load.lasting = s.load.lasting := by
  induction n generalizing s with
  | zero => rfl
  | succ n ih => unfold drain; split <;> simp [ih]
@[simp] theorem drain_line_lasting (n : Nat) (s : State) : (drain n s).line.lasting = s.line.lasting := by
  induction n generalizing s with
  | zero => rfl
  | succ n ih => unfold drain; split <;> simp [ih]
@[simp] theorem drain_dock_lasting (n : Nat) (s : State) : (drain n s).dock.lasting = s.dock.lasting := by
  induction n generalizing s with
  | zero => rfl
  | succ n ih => unfold drain; split <;> simp [ih]

@[simp] theorem settle_pending (s : State) : (settle s).pending = s.pending := drain_pending 400 s
@[simp] theorem settle_pins (s : State) : (settle s).pins = s.pins := drain_pins 400 s
@[simp] theorem settle_pack (s : State) : (settle s).pack = s.pack := drain_pack 400 s
@[simp] theorem settle_tools (s : State) : (settle s).tools = s.tools := drain_tools 400 s
@[simp] theorem settle_evac (s : State) : (settle s).evac = s.evac := drain_evac 400 s
@[simp] theorem settle_host_lasting (s : State) : (settle s).host.lasting = s.host.lasting := drain_host_lasting 400 s
@[simp] theorem settle_dirt_lasting (s : State) : (settle s).dirt.lasting = s.dirt.lasting := drain_dirt_lasting 400 s
@[simp] theorem settle_drive_lasting (s : State) : (settle s).drive.lasting = s.drive.lasting := drain_drive_lasting 400 s
@[simp] theorem settle_gov_lasting (s : State) : (settle s).gov.lasting = s.gov.lasting := drain_gov_lasting 400 s
@[simp] theorem settle_load_lasting (s : State) : (settle s).load.lasting = s.load.lasting := drain_load_lasting 400 s
@[simp] theorem settle_line_lasting (s : State) : (settle s).line.lasting = s.line.lasting := drain_line_lasting 400 s
@[simp] theorem settle_dock_lasting (s : State) : (settle s).dock.lasting = s.dock.lasting := drain_dock_lasting 400 s

@[simp] theorem finish_pending (s : State) : (finish s).pending = s.pending := by
  unfold finish; try dsimp only
  (repeat' split) <;> rfl
@[simp] theorem finish_pins (s : State) : (finish s).pins = s.pins := by
  unfold finish; try dsimp only
  (repeat' split) <;> rfl
@[simp] theorem finish_pack (s : State) : (finish s).pack = s.pack := by
  unfold finish; try dsimp only
  (repeat' split) <;> rfl
@[simp] theorem finish_tools (s : State) : (finish s).tools = s.tools := by
  unfold finish; try dsimp only
  (repeat' split) <;> rfl
@[simp] theorem finish_evac (s : State) : (finish s).evac = s.evac := by
  unfold finish; try dsimp only
  (repeat' split) <;> rfl
@[simp] theorem finish_dirt_lasting (s : State) : (finish s).dirt.lasting = s.dirt.lasting := by
  unfold finish; try dsimp only
  (repeat' split) <;> rfl
@[simp] theorem finish_drive_lasting (s : State) : (finish s).drive.lasting = s.drive.lasting := by
  unfold finish; try dsimp only
  (repeat' split) <;> rfl
@[simp] theorem finish_gov_lasting (s : State) : (finish s).gov.lasting = s.gov.lasting := by
  unfold finish; try dsimp only
  (repeat' split) <;> rfl
@[simp] theorem finish_load_lasting (s : State) : (finish s).load.lasting = s.load.lasting := by
  unfold finish; try dsimp only
  (repeat' split) <;> rfl
@[simp] theorem finish_line_lasting (s : State) : (finish s).line.lasting = s.line.lasting := by
  unfold finish; try dsimp only
  (repeat' split) <;> rfl
@[simp] theorem finish_dock_lasting (s : State) : (finish s).dock.lasting = s.dock.lasting := by
  unfold finish; try dsimp only
  (repeat' split) <;> rfl

@[simp] theorem conclude_pending (s : State) : (conclude s).pending = s.pending := by simp [conclude]
@[simp] theorem conclude_pins (s : State) : (conclude s).pins = s.pins := by simp [conclude]
@[simp] theorem conclude_pack (s : State) : (conclude s).pack = s.pack := by simp [conclude]
@[simp] theorem conclude_tools (s : State) : (conclude s).tools = s.tools := by simp [conclude]
@[simp] theorem conclude_evac (s : State) : (conclude s).evac = s.evac := by simp [conclude]
@[simp] theorem conclude_dirt_lasting (s : State) : (conclude s).dirt.lasting = s.dirt.lasting := by simp [conclude]
@[simp] theorem conclude_drive_lasting (s : State) : (conclude s).drive.lasting = s.drive.lasting := by simp [conclude]
@[simp] theorem conclude_gov_lasting (s : State) : (conclude s).gov.lasting = s.gov.lasting := by simp [conclude]
@[simp] theorem conclude_load_lasting (s : State) : (conclude s).load.lasting = s.load.lasting := by simp [conclude]
@[simp] theorem conclude_line_lasting (s : State) : (conclude s).line.lasting = s.line.lasting := by simp [conclude]
@[simp] theorem conclude_dock_lasting (s : State) : (conclude s).dock.lasting = s.dock.lasting := by simp [conclude]

end Sys2Proof.Machine
end

