-- ==== Sys2Proof/Laws/State.lean ====
section
/-! SUPPORT. One lemma for each field and each update of a single block: the other fields are as before. -/

namespace Sys2Proof.Machine

@[simp] theorem raise_signals (e : Event) (s : State) : (raise e s).signals = s.signals := rfl
@[simp] theorem raise_beat (e : Event) (s : State) : (raise e s).beat = s.beat := rfl
@[simp] theorem raise_free (e : Event) (s : State) : (raise e s).free = s.free := rfl
@[simp] theorem raise_arb (e : Event) (s : State) : (raise e s).arb = s.arb := rfl
@[simp] theorem raise_drive (e : Event) (s : State) : (raise e s).drive = s.drive := rfl
@[simp] theorem raise_gov (e : Event) (s : State) : (raise e s).gov = s.gov := rfl
@[simp] theorem raise_load (e : Event) (s : State) : (raise e s).load = s.load := rfl
@[simp] theorem raise_dirt (e : Event) (s : State) : (raise e s).dirt = s.dirt := rfl
@[simp] theorem raise_line (e : Event) (s : State) : (raise e s).line = s.line := rfl
@[simp] theorem raise_dock (e : Event) (s : State) : (raise e s).dock = s.dock := rfl
@[simp] theorem raise_watch (e : Event) (s : State) : (raise e s).watch = s.watch := rfl

@[simp] theorem emit_beat (g : Signal) (s : State) : (emit g s).beat = s.beat := rfl
@[simp] theorem emit_free (g : Signal) (s : State) : (emit g s).free = s.free := rfl
@[simp] theorem emit_arb (g : Signal) (s : State) : (emit g s).arb = s.arb := rfl
@[simp] theorem emit_drive (g : Signal) (s : State) : (emit g s).drive = s.drive := rfl
@[simp] theorem emit_gov (g : Signal) (s : State) : (emit g s).gov = s.gov := rfl
@[simp] theorem emit_load (g : Signal) (s : State) : (emit g s).load = s.load := rfl
@[simp] theorem emit_dirt (g : Signal) (s : State) : (emit g s).dirt = s.dirt := rfl
@[simp] theorem emit_line (g : Signal) (s : State) : (emit g s).line = s.line := rfl
@[simp] theorem emit_dock (g : Signal) (s : State) : (emit g s).dock = s.dock := rfl
@[simp] theorem emit_watch (g : Signal) (s : State) : (emit g s).watch = s.watch := rfl
@[simp] theorem emit_host (g : Signal) (s : State) : (emit g s).host = s.host := rfl

@[simp] theorem deliver_beat (q : Quantity) (v : Half) (s : State) : (deliver q v s).beat = s.beat := rfl
@[simp] theorem deliver_free (q : Quantity) (v : Half) (s : State) : (deliver q v s).free = s.free := rfl
@[simp] theorem deliver_arb (q : Quantity) (v : Half) (s : State) : (deliver q v s).arb = s.arb := rfl
@[simp] theorem deliver_drive (q : Quantity) (v : Half) (s : State) : (deliver q v s).drive = s.drive := rfl
@[simp] theorem deliver_gov (q : Quantity) (v : Half) (s : State) : (deliver q v s).gov = s.gov := rfl
@[simp] theorem deliver_load (q : Quantity) (v : Half) (s : State) : (deliver q v s).load = s.load := rfl
@[simp] theorem deliver_dirt (q : Quantity) (v : Half) (s : State) : (deliver q v s).dirt = s.dirt := rfl
@[simp] theorem deliver_line (q : Quantity) (v : Half) (s : State) : (deliver q v s).line = s.line := rfl
@[simp] theorem deliver_dock (q : Quantity) (v : Half) (s : State) : (deliver q v s).dock = s.dock := rfl
@[simp] theorem deliver_watch (q : Quantity) (v : Half) (s : State) : (deliver q v s).watch = s.watch := rfl
@[simp] theorem deliver_host (q : Quantity) (v : Half) (s : State) : (deliver q v s).host = s.host := rfl

@[simp] theorem replied_pending (k t : Byte) (st : Status) (p : List Byte) (s : State) :
    (replied k t st p s).pending = s.pending := rfl
@[simp] theorem replied_signals (k t : Byte) (st : Status) (p : List Byte) (s : State) :
    (replied k t st p s).signals = s.signals := rfl
@[simp] theorem replied_beat (k t : Byte) (st : Status) (p : List Byte) (s : State) :
    (replied k t st p s).beat = s.beat := rfl
@[simp] theorem replied_free (k t : Byte) (st : Status) (p : List Byte) (s : State) :
    (replied k t st p s).free = s.free := rfl
@[simp] theorem replied_pins (k t : Byte) (st : Status) (p : List Byte) (s : State) :
    (replied k t st p s).pins = s.pins := rfl
@[simp] theorem replied_pack (k t : Byte) (st : Status) (p : List Byte) (s : State) :
    (replied k t st p s).pack = s.pack := rfl
@[simp] theorem replied_arb (k t : Byte) (st : Status) (p : List Byte) (s : State) :
    (replied k t st p s).arb = s.arb := rfl
@[simp] theorem replied_drive (k t : Byte) (st : Status) (p : List Byte) (s : State) :
    (replied k t st p s).drive = s.drive := rfl
@[simp] theorem replied_gov (k t : Byte) (st : Status) (p : List Byte) (s : State) :
    (replied k t st p s).gov = s.gov := rfl
@[simp] theorem replied_load (k t : Byte) (st : Status) (p : List Byte) (s : State) :
    (replied k t st p s).load = s.load := rfl
@[simp] theorem replied_dirt (k t : Byte) (st : Status) (p : List Byte) (s : State) :
    (replied k t st p s).dirt = s.dirt := rfl
@[simp] theorem replied_line (k t : Byte) (st : Status) (p : List Byte) (s : State) :
    (replied k t st p s).line = s.line := rfl
@[simp] theorem replied_tools (k t : Byte) (st : Status) (p : List Byte) (s : State) :
    (replied k t st p s).tools = s.tools := rfl
@[simp] theorem replied_dock (k t : Byte) (st : Status) (p : List Byte) (s : State) :
    (replied k t st p s).dock = s.dock := rfl
@[simp] theorem replied_evac (k t : Byte) (st : Status) (p : List Byte) (s : State) :
    (replied k t st p s).evac = s.evac := rfl
@[simp] theorem replied_watch (k t : Byte) (st : Status) (p : List Byte) (s : State) :
    (replied k t st p s).watch = s.watch := rfl

@[simp] theorem askRecompute_beat (s : State) : (askRecompute s).beat = s.beat := by
  unfold askRecompute; split <;> rfl
@[simp] theorem askRecompute_free (s : State) : (askRecompute s).free = s.free := by
  unfold askRecompute; split <;> rfl
@[simp] theorem askRecompute_arb (s : State) : (askRecompute s).arb = s.arb := by
  unfold askRecompute; split <;> rfl
@[simp] theorem askRecompute_drive (s : State) : (askRecompute s).drive = s.drive := by
  unfold askRecompute; split <;> rfl
@[simp] theorem askRecompute_gov (s : State) : (askRecompute s).gov = s.gov := by
  unfold askRecompute; split <;> rfl
@[simp] theorem askRecompute_load (s : State) : (askRecompute s).load = s.load := by
  unfold askRecompute; split <;> rfl
@[simp] theorem askRecompute_dirt (s : State) : (askRecompute s).dirt = s.dirt := by
  unfold askRecompute; split <;> rfl
@[simp] theorem askRecompute_line (s : State) : (askRecompute s).line = s.line := by
  unfold askRecompute; split <;> rfl
@[simp] theorem askRecompute_dock (s : State) : (askRecompute s).dock = s.dock := by
  unfold askRecompute; split <;> rfl
@[simp] theorem askRecompute_watch (s : State) : (askRecompute s).watch = s.watch := by
  unfold askRecompute; split <;> rfl

@[simp] theorem finish_signals (s : State) : (finish s).signals = s.signals := by
  unfold finish; split
  · rfl
  · dsimp only; split <;> rfl
@[simp] theorem finish_beat (s : State) : (finish s).beat = s.beat := by
  unfold finish; split
  · rfl
  · dsimp only; split <;> rfl
@[simp] theorem finish_free (s : State) : (finish s).free = s.free := by
  unfold finish; split
  · rfl
  · dsimp only; split <;> rfl
@[simp] theorem finish_arb (s : State) : (finish s).arb = s.arb := by
  unfold finish; split
  · rfl
  · dsimp only; split <;> rfl
@[simp] theorem finish_drive (s : State) : (finish s).drive = s.drive := by
  unfold finish; split
  · rfl
  · dsimp only; split <;> rfl
@[simp] theorem finish_gov (s : State) : (finish s).gov = s.gov := by
  unfold finish; split
  · rfl
  · dsimp only; split <;> rfl
@[simp] theorem finish_load (s : State) : (finish s).load = s.load := by
  unfold finish; split
  · rfl
  · dsimp only; split <;> rfl
@[simp] theorem finish_dirt (s : State) : (finish s).dirt = s.dirt := by
  unfold finish; split
  · rfl
  · dsimp only; split <;> rfl
@[simp] theorem finish_line (s : State) : (finish s).line = s.line := by
  unfold finish; split
  · rfl
  · dsimp only; split <;> rfl
@[simp] theorem finish_dock (s : State) : (finish s).dock = s.dock := by
  unfold finish; split
  · rfl
  · dsimp only; split <;> rfl
@[simp] theorem finish_watch (s : State) : (finish s).watch = s.watch := by
  unfold finish; split
  · rfl
  · dsimp only; split <;> rfl

/-- Raising an event puts it in the set (R187). -/
theorem raise_events (e : Event) (s : State) :
    (raise e s).host.events = s.host.events ||| eventBit e := rfl

/-- An event raised stands in the set (R187). -/
theorem hasEvent_raise (e : Event) (s : State) : hasEvent e (raise e s) = true := by
  cases e <;> simp [hasEvent, raise, eventBit, BitVec.getLsbD_twoPow] <;> exact Or.inr (by decide)

/-- Raising an event takes none away (R187). -/
theorem hasEvent_raise_of (e f : Event) (s : State) (h : hasEvent e s = true) :
    hasEvent e (raise f s) = true := by
  simp only [hasEvent, raise, BitVec.getLsbD_or, Bool.or_eq_true] at h ⊢
  exact Or.inl h

end Sys2Proof.Machine
end

