-- ==== Sys2Proof/Laws/Events.lean ====
section
/-! SUPPORT. The frame of every command: what `event` answers, and when it adds nothing to the command's
own work. -/

namespace Sys2Proof.Machine

theorem drain_of_no_signals (n : Nat) (s : State) (h : s.signals = []) : drain n s = s := by
  cases n with
  | zero => rfl
  | succ n => simp [drain, h]

/-- The first hand-over of the list is taken, then the rest (log entry 5). -/
theorem drain_cons (n : Nat) (g : Signal) (rest : List Signal) (s : State) (h : s.signals = g :: rest) :
    drain (n + 1) s = drain n (take g { s with signals := rest }) := by simp [drain, h]

/-- With no hand-over waiting nothing is taken. -/
theorem settle_of_no_signals (s : State) (h : s.signals = []) : settle s = s :=
  drain_of_no_signals 400 s h

theorem finish_of_no_fence (s : State) (h : s.host.fence = none) : finish s = s := by
  simp [finish, h]

/-- With no hand-over waiting and no FENCE deferred nothing is added. -/
theorem conclude_of_quiet (s : State) (h : s.quiet) : conclude s = s := by
  obtain ⟨hs, hf⟩ := h
  rw [conclude, settle_of_no_signals s hs, finish_of_no_fence s hf]

/-- Every command of a powered part takes its own work and then what follows from it. -/
theorem event_of_powered (w : State → State) (s : State) (h : s.powered) :
    event w s = .next (conclude (w s)) := by
  simp only [State.powered] at h
  simp [event, h]

/-- In SHUTDOWN nothing runs (R20). -/
theorem event_of_shutdown (w : State → State) (s : State) (h : s.pack.power = .shutdown) :
    event w s = .next s := by simp [event, h]

/-- A part that is awake is not woken. -/
theorem wake_of_active (s : State) (h : s.pack.power = .active) : wake s = s := by
  simp [wake, h]

/-- A request that is acted on (R185). -/
theorem arrive_of_serves (act : State → State) (s : State) (h : s.serves) : arrive act s = act s := by
  obtain ⟨hp, hs, -, -⟩ := h
  simp [arrive, hs, wake_of_active s hp]

/-- A request admitted is answered by its block (R185). -/
theorem serve_of_serves (kind tag : Byte) (f : State → Answer) (s : State) (h : s.serves) :
    serve kind tag f s = answered kind tag (f s) := by
  obtain ⟨-, -, hr, hq⟩ := h
  have h1 : ¬ 8 ≤ s.host.replies.length := by omega
  have h2 : ¬ 4 ≤ s.host.requests.length := by omega
  simp [serve, admitted, h1, h2]

/-- What a request served in ACTIVE answers: its block's answer, in the reply queue (R184, R185). -/
theorem ask_of_serves (kind tag : Byte) (f : State → Answer) (s : State) (h : s.serves) :
    ask kind tag f s
      = .next (conclude (replied kind tag (f s).status (f s).payload (f s).state)) := by
  have hp : s.powered := by simp [State.powered, h.1]
  rw [ask, event_of_powered _ _ hp, arrive_of_serves _ _ h, serve_of_serves _ _ _ _ h]
  rfl

/-- What a timer brings at the end of a millisecond: its expiry, at its last one (log entry 1). -/
theorem mem_expiry (c d : Instr) (t : Option Nat) : c ∈ expiry t d ↔ t = some 1 ∧ c = d := by
  unfold expiry; split <;> simp_all

end Sys2Proof.Machine
end

