-- ==== Sys2Proof/Laws/Payloads.lean ====
section
/-! SUPPORT. The encodings of a reading's fields (12.8.1): the place of a value in its list is the number of its
constructor, and the layouts of list items are those of the payloads. One lemma for each enumeration and item. -/

namespace Sys2Proof.Machine

theorem place_power (x : Power) : placeOf [Power.active, .standby, .shutdown] x = u8 x.ctorIdx := by
  cases x <;> rfl

theorem place_slotState (x : SlotState) :
    placeOf [SlotState.idle, .granted, .partly, .inhibited, .passed] x = u8 x.ctorIdx := by cases x <;> rfl

theorem place_releaseCause (x : ReleaseCause) :
    placeOf [ReleaseCause.none, .timeout, .overcurrent, .power] x = u8 x.ctorIdx := by cases x <;> rfl

theorem place_tpwr (x : Tpwr) : placeOf [Tpwr.off, .signal, .full] x = u8 x.ctorIdx := by cases x <;> rfl

theorem place_motorState (x : MotorState) : placeOf motorOrder x = u8 x.ctorIdx := by cases x <;> rfl

theorem place_tripCause (x : TripCause) : placeOf tripOrder x = u8 x.ctorIdx := by cases x <;> rfl

theorem place_startRefusal (x : StartRefusal) :
    placeOf [StartRefusal.none, .notOff, .notReady, .docked, .watch, .starved] x = u8 x.ctorIdx := by
  cases x <;> rfl

theorem place_stopCause (x : StopCause) :
    placeOf [StopCause.none, .trigger, .starved, .blocked, .docked, .watch, .pack, .reset] x = u8 x.ctorIdx := by
  cases x <;> rfl

theorem place_sensorStatus (x : SensorStatus) :
    placeOf [SensorStatus.untested, .present, .absent] x = u8 x.ctorIdx := by cases x <;> rfl

theorem place_nodeState (x : NodeState) :
    placeOf [NodeState.assigning, .active, .silent] x = u8 x.ctorIdx := by cases x <;> rfl

theorem place_floorClass (x : FloorClass) : placeOf floorOrder x = u8 x.ctorIdx := by cases x <;> rfl

theorem place_toolKind (x : ToolKind) : placeOf kindOrder x = u8 x.ctorIdx := by cases x <;> rfl

theorem place_chargeState (x : ChargeState) :
    placeOf [ChargeState.detached, .attachWait, .identify, .negotiate, .coarse, .precharge, .bulk, .taper
      , .topped, .paused, .disabled, .fault] x = u8 x.ctorIdx := by cases x <;> rfl

theorem place_pauseCause (x : PauseCause) :
    placeOf [PauseCause.temp, .watch, .offerChange, .noOffer] x = u8 x.ctorIdx := by cases x <;> rfl

theorem place_chargePhase :
    placeOf [ChargePhase.precharge, .bulk, .taper] = fun x => u8 x.ctorIdx := by funext x; cases x <;> rfl

theorem place_attach (x : Attach) : placeOf [Attach.debouncing, .attached, .detached] x = u8 x.code := by
  cases x <;> rfl

theorem place_coarseClass :
    placeOf [CoarseClass.low, .mid, .high] = fun x => u8 x.ctorIdx := by funext x; cases x <;> rfl

theorem place_dockKind (x : DockKind) : placeOf [DockKind.basic, .evac] x = u8 x.ctorIdx := by cases x <;> rfl

theorem place_watchMode (x : WatchMode) : placeOf [WatchMode.latch, .level] x = u8 x.ctorIdx := by
  cases x <;> rfl

theorem place_watchState (x : WatchState) :
    placeOf [WatchState.disarmed, .armed, .counting, .fired] x = u8 x.ctorIdx := by cases x <;> rfl

theorem idxOf_quantity (x : Quantity) : quantities.idxOf x = x.ctorIdx := by cases x <;> rfl

theorem present_is_optional {α : Type} (enc : α → List Byte) : present enc = optional enc := by
  funext x; cases x <;> rfl

theorem faultField_is_optional (f : ChargeFault) : faultField f = optional u8 f.code := by cases f <;> rfl

/-- The fields of a list of records, one after the other. -/
theorem flatMap_flatten {α β : Type} (f : α → List (List β)) (l : List α) :
    (l.flatMap f).flatten = l.flatMap (fun x => (f x).flatten) := by
  induction l <;> simp_all

/-- A watch record as R181 lists it. -/
theorem watchFields_is_layout (r : WatchRec) : watchFields r = watchLayout r := by
  unfold watchFields watchLayout
  simp only [place_watchMode, place_watchState, idxOf_quantity]
  cases r.action <;> simp [actionFields, actionNumber, u8]

/-- The FIRED records, by their places in the list. -/
theorem firedFields_eq (l : List (Option WatchRec)) (k : Nat) :
    firedFields k l = (l.zipIdx k).filterMap fun x => x.1.bind fun r =>
      if r.state = .fired then some (u8 x.2 ++ u8 (actionNumber r.action)) else none := by
  induction l generalizing k with
  | nil => rfl
  | cons a l ih =>
    cases a with
    | none => simp [firedFields, ih]
    | some r =>
      by_cases h : r.state = .fired
      · simp [firedFields, ih, h, actionCode]; cases r.action <;> simp [actionFields, actionNumber, u8]
      · simp [firedFields, ih, h]

end Sys2Proof.Machine
end

