-- ==== Sys2Proof/Laws/Raised.lean ====
section
/-! SUPPORT. An event once raised stays in the set through the hand-overs of its event (R187). -/

namespace Sys2Proof.Machine

@[simp] theorem raise_keeps (e : Event) (s : State) (i : Nat)
    (h : s.host.events.getLsbD i = true) : (raise e s).host.events.getLsbD i = true := by
  simp [raise, h]
@[simp] theorem raiseIf_keeps (c : Bool) (e : Event) (s : State) (i : Nat)
    (h : s.host.events.getLsbD i = true) : (raiseIf c e s).host.events.getLsbD i = true := by
  unfold raiseIf; try dsimp only
  (repeat' split) <;> simp (maxDischargeDepth := 40) [h]
@[simp] theorem emit_keeps (g : Signal) (s : State) (i : Nat)
    (h : s.host.events.getLsbD i = true) : (emit g s).host.events.getLsbD i = true := by
  exact h
@[simp] theorem askRecompute_keeps (s : State) (i : Nat)
    (h : s.host.events.getLsbD i = true) : (askRecompute s).host.events.getLsbD i = true := by
  unfold askRecompute; try dsimp only
  (repeat' split) <;> simp (maxDischargeDepth := 40) [h]
@[simp] theorem deliver_keeps (q : Quantity) (v : Half) (s : State) (i : Nat)
    (h : s.host.events.getLsbD i = true) : (deliver q v s).host.events.getLsbD i = true := by
  exact h
@[simp] theorem setNode_keeps (a : Addr) (f : Node → Node) (s : State) (i : Nat)
    (h : s.host.events.getLsbD i = true) : (setNode a f s).host.events.getLsbD i = true := by
  exact h
@[simp] theorem putFrame_keeps (f : TxFrame) (s : State) (i : Nat)
    (h : s.host.events.getLsbD i = true) : (putFrame f s).host.events.getLsbD i = true := by
  unfold putFrame; try dsimp only
  (repeat' split) <;> simp (maxDischargeDepth := 40) [h]
@[simp] theorem queueCap_keeps (a : Addr) (s : State) (i : Nat)
    (h : s.host.events.getLsbD i = true) : (queueCap a s).host.events.getLsbD i = true := by
  unfold queueCap; try dsimp only
  (repeat' split) <;> simp (maxDischargeDepth := 40) [h]
@[simp] theorem queueCaps_keeps (l : List Addr) (s : State) (i : Nat)
    (h : s.host.events.getLsbD i = true) : (queueCaps l s).host.events.getLsbD i = true := by
  unfold queueCaps
  induction l generalizing s with
  | nil => exact h
  | cons a l ih => exact ih _ (by simp [h])
@[simp] theorem handBrush_keeps (level : Nat) (s : State) (i : Nat)
    (h : s.host.events.getLsbD i = true) : (handBrush level s).host.events.getLsbD i = true := by
  unfold handBrush; try dsimp only
  (repeat' split) <;> simp (maxDischargeDepth := 40) [h]
@[simp] theorem discardCaps_keeps (s : State) (i : Nat)
    (h : s.host.events.getLsbD i = true) : (discardCaps s).host.events.getLsbD i = true := by
  exact h
@[simp] theorem forcedRelease_keeps (c : ReleaseCause) (s : State) (i : Nat)
    (h : s.host.events.getLsbD i = true) : (forcedRelease c s).host.events.getLsbD i = true := by
  unfold forcedRelease; try dsimp only
  (repeat' split) <;> simp (maxDischargeDepth := 40) [h]
@[simp] theorem setTpwr_keeps (l : Tpwr) (c : ReleaseCause) (s : State) (i : Nat)
    (h : s.host.events.getLsbD i = true) : (setTpwr l c s).host.events.getLsbD i = true := by
  unfold setTpwr; try dsimp only
  (repeat' split) <;> simp (maxDischargeDepth := 40) [h]
@[simp] theorem powerRule_keeps (s : State) (i : Nat)
    (h : s.host.events.getLsbD i = true) : (powerRule s).host.events.getLsbD i = true := by
  unfold powerRule; try dsimp only
  (repeat' split) <;> simp (maxDischargeDepth := 40) [h]
@[simp] theorem handTools_keeps (s : State) (i : Nat)
    (h : s.host.events.getLsbD i = true) : (handTools s).host.events.getLsbD i = true := by
  unfold handTools; try dsimp only
  (repeat' split) <;> simp (maxDischargeDepth := 40) [h]
@[simp] theorem zeroSetPoint_keeps (s : State) (i : Nat)
    (h : s.host.events.getLsbD i = true) : (zeroSetPoint s).host.events.getLsbD i = true := by
  exact h
@[simp] theorem setActive_keeps (b : Bool) (s : State) (i : Nat)
    (h : s.host.events.getLsbD i = true) : (setActive b s).host.events.getLsbD i = true := by
  unfold setActive; try dsimp only
  (repeat' split) <;> simp (maxDischargeDepth := 40) [h]
@[simp] theorem setStack_keeps (st : List StackEntry) (s : State) (i : Nat)
    (h : s.host.events.getLsbD i = true) : (setStack st s).host.events.getLsbD i = true := by
  unfold setStack; try dsimp only
  (repeat' split) <;> simp (maxDischargeDepth := 40) [h]
@[simp] theorem clearPop_keeps (s : State) (i : Nat)
    (h : s.host.events.getLsbD i = true) : (clearPop s).host.events.getLsbD i = true := by
  unfold clearPop; try dsimp only
  (repeat' split) <;> simp (maxDischargeDepth := 40) [h]
@[simp] theorem formLimits_keeps (s : State) (i : Nat)
    (h : s.host.events.getLsbD i = true) : (formLimits s).host.events.getLsbD i = true := by
  exact h
@[simp] theorem formCeiling_keeps (s : State) (i : Nat)
    (h : s.host.events.getLsbD i = true) : (formCeiling s).host.events.getLsbD i = true := by
  exact h
@[simp] theorem handSetPoint_keeps (s : State) (i : Nat)
    (h : s.host.events.getLsbD i = true) : (handSetPoint s).host.events.getLsbD i = true := by
  exact h
@[simp] theorem restartSustain_keeps (s : State) (i : Nat)
    (h : s.host.events.getLsbD i = true) : (restartSustain s).host.events.getLsbD i = true := by
  exact h
@[simp] theorem startSelfTest_keeps (s : State) (i : Nat)
    (h : s.host.events.getLsbD i = true) : (startSelfTest s).host.events.getLsbD i = true := by
  exact h
@[simp] theorem limitSetPoint_keeps (s : State) (i : Nat)
    (h : s.host.events.getLsbD i = true) : (limitSetPoint s).host.events.getLsbD i = true := by
  unfold limitSetPoint; try dsimp only
  (repeat' split) <;> simp (maxDischargeDepth := 40) [h]
@[simp] theorem loadRest_keeps (s : State) (i : Nat)
    (h : s.host.events.getLsbD i = true) : (loadRest s).host.events.getLsbD i = true := by
  unfold loadRest; try dsimp only
  (repeat' split) <;> simp (maxDischargeDepth := 40) [h]
@[simp] theorem zeroLevel_keeps (r : Option Nat) (s : State) (i : Nat)
    (h : s.host.events.getLsbD i = true) : (zeroLevel r s).host.events.getLsbD i = true := by
  unfold zeroLevel; try dsimp only
  (repeat' split) <;> simp (maxDischargeDepth := 40) [h]
@[simp] theorem dirtRunExit_keeps (s : State) (i : Nat)
    (h : s.host.events.getLsbD i = true) : (dirtRunExit s).host.events.getLsbD i = true := by
  unfold dirtRunExit; try dsimp only
  (repeat' split) <;> simp (maxDischargeDepth := 40) [h]
@[simp] theorem leaveRun_keeps (s : State) (i : Nat)
    (h : s.host.events.getLsbD i = true) : (leaveRun s).host.events.getLsbD i = true := by
  unfold leaveRun; try dsimp only
  (repeat' split) <;> simp (maxDischargeDepth := 40) [h]
@[simp] theorem changeState_keeps (m : MotorState) (s : State) (i : Nat)
    (h : s.host.events.getLsbD i = true) : (changeState m s).host.events.getLsbD i = true := by
  unfold changeState; try dsimp only
  (repeat' split) <;> simp (maxDischargeDepth := 40) [h]
@[simp] theorem setCharge_keeps (c : ChargeState) (s : State) (i : Nat)
    (h : s.host.events.getLsbD i = true) : (setCharge c s).host.events.getLsbD i = true := by
  unfold setCharge; try dsimp only
  (repeat' split) <;> simp (maxDischargeDepth := 40) [h]
@[simp] theorem openSwitch_keeps (s : State) (i : Nat)
    (h : s.host.events.getLsbD i = true) : (openSwitch s).host.events.getLsbD i = true := by
  exact h
@[simp] theorem startExchange_keeps (r : DockReq) (s : State) (i : Nat)
    (h : s.host.events.getLsbD i = true) : (startExchange r s).host.events.getLsbD i = true := by
  exact h
@[simp] theorem trySend_keeps (s : State) (i : Nat)
    (h : s.host.events.getLsbD i = true) : (trySend s).host.events.getLsbD i = true := by
  unfold trySend; try dsimp only
  (repeat' split) <;> simp (maxDischargeDepth := 40) [h]
@[simp] theorem makeHaltDue_keeps (s : State) (i : Nat)
    (h : s.host.events.getLsbD i = true) : (makeHaltDue s).host.events.getLsbD i = true := by
  exact h
@[simp] theorem cancelCharge_keeps (s : State) (i : Nat)
    (h : s.host.events.getLsbD i = true) : (cancelCharge s).host.events.getLsbD i = true := by
  exact h
@[simp] theorem abandonCharge_keeps (s : State) (i : Nat)
    (h : s.host.events.getLsbD i = true) : (abandonCharge s).host.events.getLsbD i = true := by
  unfold abandonCharge; try dsimp only
  (repeat' split) <;> simp (maxDischargeDepth := 40) [h]
@[simp] theorem enterPause_keeps (c : PauseCause) (s : State) (i : Nat)
    (h : s.host.events.getLsbD i = true) : (enterPause c s).host.events.getLsbD i = true := by
  unfold enterPause; try dsimp only
  (repeat' split) <;> simp (maxDischargeDepth := 40) [h]
@[simp] theorem enterChargeFault_keeps (c : ChargeFault) (s : State) (i : Nat)
    (h : s.host.events.getLsbD i = true) : (enterChargeFault c s).host.events.getLsbD i = true := by
  unfold enterChargeFault; try dsimp only
  (repeat' split) <;> simp (maxDischargeDepth := 40) [h]
@[simp] theorem enterIdentify_keeps (s : State) (i : Nat)
    (h : s.host.events.getLsbD i = true) : (enterIdentify s).host.events.getLsbD i = true := by
  unfold enterIdentify; try dsimp only
  (repeat' split) <;> simp (maxDischargeDepth := 40) [h]
@[simp] theorem leaveAttachWait_keeps (s : State) (i : Nat)
    (h : s.host.events.getLsbD i = true) : (leaveAttachWait s).host.events.getLsbD i = true := by
  unfold leaveAttachWait; try dsimp only
  (repeat' split) <;> simp (maxDischargeDepth := 40) [h]
@[simp] theorem enterRest_keeps (m : MotorState) (s : State) (i : Nat)
    (h : s.host.events.getLsbD i = true) : (enterRest m s).host.events.getLsbD i = true := by
  unfold enterRest; try dsimp only
  (repeat' split) <;> simp (maxDischargeDepth := 40) [h]
@[simp] theorem reachOff_keeps (s : State) (i : Nat)
    (h : s.host.events.getLsbD i = true) : (reachOff s).host.events.getLsbD i = true := by
  unfold reachOff; try dsimp only
  (repeat' split) <;> simp (maxDischargeDepth := 40) [h]
@[simp] theorem enterStopping_keeps (c : StopCause) (s : State) (i : Nat)
    (h : s.host.events.getLsbD i = true) : (enterStopping c s).host.events.getLsbD i = true := by
  unfold enterStopping; try dsimp only
  (repeat' split) <;> simp (maxDischargeDepth := 40) [h]
@[simp] theorem stopOrder_keeps (c : StopCause) (s : State) (i : Nat)
    (h : s.host.events.getLsbD i = true) : (stopOrder c s).host.events.getLsbD i = true := by
  unfold stopOrder; try dsimp only
  (repeat' split) <;> simp (maxDischargeDepth := 40) [h]
@[simp] theorem enterArming_keeps (s : State) (i : Nat)
    (h : s.host.events.getLsbD i = true) : (enterArming s).host.events.getLsbD i = true := by
  unfold enterArming; try dsimp only
  (repeat' split) <;> simp (maxDischargeDepth := 40) [h]
@[simp] theorem repeatCheck_keeps (s : State) (i : Nat)
    (h : s.host.events.getLsbD i = true) : (repeatCheck s).host.events.getLsbD i = true := by
  unfold repeatCheck; try dsimp only
  (repeat' split) <;> simp (maxDischargeDepth := 40) [h]
@[simp] theorem pauseOrderChanged_keeps (on : Bool) (s : State) (i : Nat)
    (h : s.host.events.getLsbD i = true) : (pauseOrderChanged on s).host.events.getLsbD i = true := by
  unfold pauseOrderChanged; try dsimp only
  (repeat' split) <;> simp (maxDischargeDepth := 40) [h]
@[simp] theorem handWatch_keeps (s : State) (i : Nat)
    (h : s.host.events.getLsbD i = true) : (handWatch s).host.events.getLsbD i = true := by
  unfold handWatch; try dsimp only
  (repeat' split) <;> simp (maxDischargeDepth := 40) [h]
@[simp] theorem watchUpdate_keeps (q : Quantity) (v : Half) (s : State) (i : Nat)
    (h : s.host.events.getLsbD i = true) : (watchUpdate q v s).host.events.getLsbD i = true := by
  unfold watchUpdate; try dsimp only
  (repeat' split) <;> simp (maxDischargeDepth := 40) [h]
@[simp] theorem grantArrives_keeps (g : Nat) (s : State) (i : Nat)
    (h : s.host.events.getLsbD i = true) : (grantArrives g s).host.events.getLsbD i = true := by
  unfold grantArrives; try dsimp only
  (repeat' split) <;> simp (maxDischargeDepth := 40) [h]
@[simp] theorem recomputeNow_keeps (s : State) (i : Nat)
    (h : s.host.events.getLsbD i = true) : (recomputeNow s).host.events.getLsbD i = true := by
  unfold recomputeNow; try dsimp only
  (repeat' split) <;> simp (maxDischargeDepth := 40) [h]
@[simp] theorem cutoffStopNow_keeps (s : State) (i : Nat)
    (h : s.host.events.getLsbD i = true) : (cutoffStopNow s).host.events.getLsbD i = true := by
  unfold cutoffStopNow; try dsimp only
  (repeat' split) <;> simp (maxDischargeDepth := 40) [h]

@[simp] theorem take_keeps (g : Signal) (s : State) (i : Nat)
    (h : s.host.events.getLsbD i = true) : (take g s).host.events.getLsbD i = true := by
  cases g <;> simp (maxDischargeDepth := 40) [take, h]

theorem drain_keeps (n : Nat) (s : State) (i : Nat)
    (h : s.host.events.getLsbD i = true) : (drain n s).host.events.getLsbD i = true := by
  induction n generalizing s with
  | zero => exact h
  | succ n ih => unfold drain; split; exacts [h, ih _ (by simp [h])]

@[simp] theorem settle_keeps (s : State) (i : Nat)
    (h : s.host.events.getLsbD i = true) : (settle s).host.events.getLsbD i = true :=
  drain_keeps 400 s i h

@[simp] theorem conclude_keeps (s : State) (i : Nat)
    (h : s.host.events.getLsbD i = true) : (conclude s).host.events.getLsbD i = true := by
  unfold conclude finish; try dsimp only
  (repeat' split) <;> simp [formFence, h]

/-- An event raised by a command's own work stands in the set at its end. -/
theorem hasEvent_conclude (e : Event) (s : State) (h : hasEvent e s = true) :
    hasEvent e (conclude s) = true := conclude_keeps s _ h

end Sys2Proof.Machine
end

