-- ==== Sys2Proof/WellFormed.lean ====
section
/-! DEFINITION. The commands that the wires and the tables of the spec can bring. The meanings take any
command; these checks say which ones a sender of the hardware can form. -/

namespace Sys2Proof

/-- An ANNOUNCE carries one to four descriptors (R115, R193). -/
def announceCount (descs : List Byte) : Bool := 1 ≤ descs.length && descs.length ≤ 4

/-- An offer list of a dock frame carries at most five offers (R149, R194). -/
def offerCount (offers : List OfferFields) : Bool := offers.length ≤ 5

/-- An OCV_TABLE carries eleven points (R22). -/
def pointCount (points : List Half) : Bool := points.length == 11

/-- A node that has been assigned has one of the addresses 1 to 4 (R115). -/
def nodeAddress (a : Addr) : Bool := 1 ≤ a.toNat && a.toNat ≤ 4

/-- The command can come about. -/
def Instr.wellFormed : Instr → Bool
  | .announce _ _ descs => announceCount descs
  | .status a _ _ _ _ _ => nodeAddress a
  | .ack a _ _ => nodeAddress a
  | .notice a _ _ => nodeAddress a
  | .pollTimerExpiry a => nodeAddress a
  | .quarantineExpiry a => nodeAddress a
  | .dockOffers l => offerCount l
  | .offersChanged l => offerCount l
  | .ocvTable _ points => pointCount points
  | _ => true

end Sys2Proof
end

