-- ==== Sys2Proof/Tests/Slice0.lean ====
section
/-! SUPPORT. Tests: what the well-formedness check refuses, the worked figures of the spec, and for each
statement with hypotheses a state that meets them, with what the command then does. -/

namespace Sys2Proof.Tests

open Sys2Proof Sys2Proof.Machine

/-! ## Well-formedness: one ill-formed command for each check -/

theorem test_announceCount_low : (Instr.announce 15 7 []).wellFormed = false := by decide
theorem test_announceCount_high : (Instr.announce 15 7 [1, 2, 3, 4, 5]).wellFormed = false := by decide
theorem test_nodeAddress_low : (Instr.ack 0 1 1).wellFormed = false := by decide
theorem test_nodeAddress_high : (Instr.status 5 0 0 false false false).wellFormed = false := by decide
theorem test_offerCount :
    (Instr.dockOffers [⟨1, 1⟩, ⟨2, 2⟩, ⟨3, 3⟩, ⟨4, 4⟩, ⟨5, 5⟩, ⟨6, 6⟩]).wellFormed = false := by decide
theorem test_pointCount : (Instr.ocvTable 1 [3000, 3100]).wellFormed = false := by decide
theorem test_wellFormed :
    (Instr.announce 15 7 [0x14, 0x42]).wellFormed = true
      ∧ (Instr.ack 4 1 1).wellFormed = true ∧ (Instr.dockOffers []).wellFormed = true
      ∧ (Instr.notice 1 true 0).wellFormed = true := by decide

/-! ## The worked figures of the spec -/

/-- Section 1.8: f_T 60, f_V 84, limit 12,600 mA; its publication table; Section 1.4: SoC 433. -/
theorem test_limit_figures :
    tempFactor (some 56) = 60 ∧ voltFactor 3240 = 84 ∧ limitOf 25000 60 84 = 12600
      ∧ limitOf 25000 50 84 = 10500 ∧ publish false 12700 12600 = 12600
      ∧ publish false 12850 12600 = 12850 ∧ publish false 12800 12850 = 12800
      ∧ ocvLookup defaultOcv 3700 = 433 := by decide

/-- R38: grants of 2,800 mA permit 3,562 mA. -/
theorem test_permitted_figure :
    permitted { Arb.fresh 500 with
      head := { Slot.empty with grant := 2500 }, lamp := { Slot.empty with grant := 300 } } = 3562 := by
  decide

/-- Section 2.8: the starting table. -/
theorem test_chain_figures :
    (((Arb.fresh 500).recompute 12600 true false).reserve.grant = 500)
      ∧ chainTool { Slot.empty with request := 2500, floor := 1200, yielding := true } 12100 5406
          = (2500, .granted)
      ∧ chainTool { Slot.empty with request := 300, floor := 300 } 9600 5406 = (300, .granted)
      ∧ chainSuction { Slot.empty with request := 17568, floor := 5406 } 9300 = (9300, .partly) := by
  decide

/-- Section 4.4 and R81: P_req 390 W, its claim, and n_exp 1,116. -/
theorem test_governor_figures :
    requestPower 300 30 100 120 = 390 ∧ powerToCurrent 390 22200 = 17568
      ∧ powerToCurrent 120 22200 = 5406 ∧ powerCap 9300 22200 = 206
      ∧ expectedSpeed ⟨900, 1080, 1190, 1270⟩ 300 = 1116 := by decide

/-- R183, R193: the CRC with the polynomial x^8 + x^2 + x + 1 of the bytes 01 and 02, and a frame read back. -/
theorem test_crc_and_line :
    crc8 [0x01] = 0x07 ∧ crc8 [0x02] = 0x0E ∧ crc8 [0x00, 0x01] = 0x07
      ∧ fieldsOf (lineBits (TxFrame.poll 3).fields) = some (TxFrame.poll 3).fields
      ∧ dockCommand [0x46, 0x00, 0x46] = some .dockReady
      ∧ dockCommand [0x46, 0x00, 0x47] = none := by decide +kernel

/-! ## States -/

/-- The state after a command that gives a next state. -/
def after (c : Instr) (s : State) : Option State :=
  match exec c s with
  | .next t => some t
  | .fault _ => none
  | .refused _ => none

/-- A pack record of six cells. -/
def record : PackRecord :=
  { cells := [3700, 3700, 3700, 3700, 3700, 3700], vpack := 22200, vmin := 3700, vmax := 3700
    current := 0, itool := 0, th1 := some 25, th2 := some 25, th3 := some 25, tmax := some 25, die := 30
    fT := 100, fV := 100 }

/-- After a first round, configured and READY. -/
def idle : State :=
  { State.reset with
    pack := { Pack.reset with record := some record, vf := some 3700, reseed := false, published := 15000 }
    host := { HostLink.reset with ready := true, configured := true } }

/-- In a motor state, with a bridge. -/
def motor (m : MotorState) (b : Bridge) : State :=
  { idle with drive := { idle.drive with state := m, bridge := b, debounce := none, settlingIn := false } }

/-- The suction slot granted. -/
def granted (s : State) : State :=
  { s with arb := { s.arb with
      suction := { Slot.empty with request := 9000, floor := 5000, target := 9000, grant := 9000 } } }

/-- A brush node at address 1, attached, with its default record. -/
def node : Node :=
  { addr := 1, serial := 77, descs := [0x14], state := .active, completed := true, missed := 0, seq := 0
    pending := none, ackLimit := 0, jam := false, lamp := false, fault := false, floor := .hard
    brushMa := none, poll := 40, applied := .default (defaultRecord 77 [0x14]), mismatch := false }

/-- The line up, with the node. -/
def lined : State := { idle with line := { ToolLine.reset with resetting := none, nodes := [node] } }

/-- Docked in a charge state, with an exchange. -/
def dockedIn (c : ChargeState) (e : Option Exchange) : State :=
  { idle with dock := { Dock.reset with
      state := c, attach := .attached, coarse := some .mid, period := some 1000, exch := e } }

/-- An exchange whose request has been sent. -/
def sent (r : DockReq) (p : ExPhase) : Exchange := ⟨r, 1, some 200, 0, false, p, .sent, 0⟩

/-- An armed watch on the bin. -/
def watch : WatchRec :=
  { quantity := .binPct, threshold := 50, conds := 2, n := 1, mode := .level, action := .notify
    state := .armed, trueCount := 0, falseCount := 0, last := noneMark }

/-! ## The step, resets, SHUTDOWN -/

/-- In the last bit period of a millisecond. -/
def lastBeat : State := { idle with beat := 19 }

theorem test_tick :
    idle.pending = [] ∧ idle.powered
      ∧ (tick { lastBeat with drive := { idle.drive with faultTimer := some 1 } }).pending
          = [.faultTimerExpiry]
      ∧ (tick { lastBeat with pack := { idle.pack with shutdown := some 1 } }).pending = [.shutdownEntry]
      ∧ (tick { lastBeat with arb := { idle.arb with holdoff := some 1 } }).pending = [.toolHoldoffExpiry]
      ∧ (tick { lastBeat with evac := { idle.evac with timer := some 1 } }).pending
          = [.evacCompletionExpiry]
      ∧ (tick lastBeat).beat = 0 ∧ (tick { idle with evac := { idle.evac with timer := some 1 } }).pending = []
      ∧ (tick { idle with line := { idle.line with resetting := some 1 } }).pending = [.lineResetEnd] := by
  decide

theorem test_frame_of_a_command :
    exec (.quarantineExpiry 1) idle = .next idle ∧ mayChange (.quarantineExpiry 1) = [] :=
  ⟨rfl, rfl⟩

theorem test_resets :
    { idle with pins := ⟨false, true⟩ }.pins.chgin = true ∧ idle.pins.chgin = false
      ∧ { idle with pack := { idle.pack with shutdown := some 0 } }.pack.shutdown.isSome = true
      ∧ (shutdownState idle).pack.power = .shutdown
      ∧ (after (.trigEdge true) (shutdownState idle)).map (·.pins.trig) = some true
      ∧ { idle with host := { idle.host with resetDue := true } }.host.resetDue = true
      ∧ (after .softReset { idle with host := { idle.host with resetDue := true } }).map
          (fun t => (t.host.ready, t.pack.capacity)) = some (false, 2500) := by decide

/-! ## Pack and Arbiter -/

/-- Readings of a cold, resting pack. -/
def readings : Readings := ⟨⟨#[3031, 3031, 3031, 3031, 3031, 3031, 0], rfl⟩, 0, 0, 39, 2100, 4001, 30⟩

theorem test_round :
    idle.powered ∧ 1 ≤ idle.pack.count ∧ idle.pack.record.isSome = true
      ∧ ((convert 6 readings).cells = [3700, 3700, 3700, 3700, 3700, 3700])
      ∧ (convert 6 readings).vpack = 22200 ∧ (convert 6 readings).th1 = none
      ∧ (convert 6 readings).th2 = some 45 ∧ (convert 6 readings).th3 = none
      ∧ idle.pack.rest + (if idle.pack.power = .standby then 1000 else 10) < 1800000 := by decide

/-- The first round seeds the counter; the round of the 30th minute of rest corrects it. -/
theorem test_seed_and_rest :
    (after (.packRound readings) State.reset).map (·.pack.gauge) = some 389700000
      ∧ (after (.packRound readings) { idle with pack := { idle.pack with rest := 1799990 } }).map
          (fun t => (t.pack.gauge, t.pack.rest)) = some (389700000, 0) := by decide

theorem test_lookup :
    defaultOcv.length = 11 ∧ increasing defaultOcv = true ∧ ocvLookup defaultOcv 3000 = 0
      ∧ ocvLookup defaultOcv 4180 = 1000 ∧ ocvLookup defaultOcv 4179 = 999 := by decide

theorem test_correction_and_cutoff :
    { idle with pack := { idle.pack with rest := 1 } }.pack.record = some record
      ∧ (after .ocvCorrection { idle with pack := { idle.pack with rest := 1 } }).map
          (fun t => (t.pack.gauge, t.pack.rest)) = some (389700000, 0)
      ∧ (after .cutoffDeclare { idle with pack := { idle.pack with cutTimer := 500 } }).map
          (fun t => (t.pack.cutoff, t.pack.published, t.line.tpwr, t.pack.shutdown))
          = some (true, 0, .off, some 2000) := by decide

/-- R51: a cut-off with a driving motor that holds a grant records PACK or STARVED, by the free choice. -/
theorem test_cutoff_cause (s : State) (h : s = { granted (motor .run .driving) with
    gov := { Gov.reset with grant := 9000 } }) :
    ((cutoffStopNow s).drive.stopCause = if Config.packStopFirst s.free then .pack else .starved)
      ∧ (declareCutoff s).signals = [.cutoffStop, .recompute] := by
  subst h
  constructor
  · unfold cutoffStopNow
    rw [if_pos (by decide)]
    dsimp only
    split <;> rfl
  · decide

theorem test_tool_slots :
    { idle with line := { idle.line with tpwr := .full } }.line.tpwr = .full
      ∧ (after .toolOvercurrent { idle with
            line := { idle.line with tpwr := .full }, arb := { idle.arb with supCount := 4 } }).map
          (fun t => (t.arb.cause, t.line.tpwr, t.arb.holdoff))
          = some (.overcurrent, .signal, some 1000)
      ∧ (after (.settleDeadlineExpiry .aux) { idle with
            line := { idle.line with tpwr := .full }
            arb := { idle.arb with aux := { Slot.empty with settleDl := some 0 } } }).map
          (·.arb.cause) = some .timeout
      ∧ (after (.offerDeadlineExpiry .head) { idle with arb := { idle.arb with
            head := { Slot.empty with offer := some 500, offerDl := some 0 } } }).map
          (fun t => (t.arb.head.offer, t.arb.holdoff)) = some (none, some 1000)
      ∧ (after .toolHoldoffExpiry { idle with arb := { idle.arb with holdoff := some 0 } }).map
          (·.arb.holdoff) = some none := by decide

/-- R3: 3,300 lies between 3,500 and 3,100, and 3,510 between 3,800 and 3,500, rounded down below 0. -/
theorem test_thermistors :
    (after (.packRound { readings with th1 := 3300, th2 := 3510 }) idle).map
        (fun t => t.pack.record.map (fun p => (p.th1, p.th2, p.th3, p.tmax)))
      = some (some (some 7, some (-1), none, some 7)) := by decide

/-- The six cells at one raw value. -/
def cellsAt (x : BitVec 12) : Readings := { readings with taps := ⟨#[x, x, x, x, x, x, 0], rfl⟩ }

/-- R17, R15, R16: an over-voltage at a dock, a cut-off with the motor running, and the end of one at a dock. -/
theorem test_round_protects :
    (after (.packRound (cellsAt 3500)) (dockedIn .bulk none)).map
        (fun t => (t.pack.overvolt, t.dock.state, t.dock.lastFault, t.dock.csw)) = some (true, .fault, .cellOv, false)
      ∧ (after (.packRound (cellsAt 2000)) { motor .run .driving with
            pack := { idle.pack with vf := some 2500, cutTimer := 490 } }).map
          (fun t => (t.pack.cutoff, t.line.tpwr, t.drive.state)) = some (true, .off, .stopping)
      ∧ (after (.packRound readings) { dockedIn .bulk none with
            pack := { idle.pack with cutoff := true, published := 0 }
            line := { idle.line with tpwr := .off } }).map
          (fun t => (t.pack.cutoff, t.line.tpwr, t.line.resetting)) = some (false, .signal, some 40) := by
  decide

/-- R7, R8, R28: the first round asks for a recompute, and a later one with the same limit hands on its nine updates
alone. -/
theorem test_round_hands_on :
    .recompute ∈ (packRound readings State.reset).signals
      ∧ (packRound readings idle).signals.map (fun g => match g with
          | .update q v => some (q, v)
          | _ => none)
        = [some (.packMv, 22200), some (.cellMinMv, 3700), some (.cellMaxMv, 3700), some (.cellSpreadMv, 0)
          , some (.packMa, 0), some (.tempMaxC, 45), some (.dieTempC, 30), some (.socPm, 0)
          , some (.limitMa, 15000)] := by decide

/-- With TPWR FULL, a grant of 1,000 mA and a count. -/
def supervised (count : Nat) : State :=
  { idle with
    line := { idle.line with tpwr := .full }
    arb := { idle.arb with head := { Slot.empty with grant := 1000 }, supCount := count } }

/-- R38: 1,312 mA are permitted; the fifth excess trips. -/
theorem test_supervision :
    (after (.packRound { readings with tool := 1313 }) (supervised 3)).map
        (fun t => (t.arb.supCount, t.line.tpwr)) = some (4, .full)
      ∧ (after (.packRound { readings with tool := 1312 }) (supervised 3)).map (·.arb.supCount) = some 0
      ∧ (after (.packRound { readings with tool := 1313 }) (supervised 4)).map
          (fun t => (t.arb.supCount, t.line.tpwr, t.arb.cause, t.arb.holdoff, hasEvent .toolOvercurrent t))
        = some (0, .signal, .overcurrent, some 1000, true) := by decide

/-- R33: a slot left settling below FULL for a departed member has its deadline from the change to FULL; a decrease at
FULL starts one where none runs, and leaves a running one alone. -/
theorem test_settle_deadline :
    (powerRule { supervised 0 with
        line := { idle.line with tpwr := .signal }
        arb := { idle.arb with
          head := { Slot.empty with settling := true, held := 500, concerned := [2] }
          lamp := { Slot.empty with grant := 300 } } }).arb.head
        = { Slot.empty with settling := true, held := 500, concerned := [2], settleDl := some 20 }
      ∧ (Slot.lowerTool true { Slot.empty with grant := 9, settling := true, concerned := [2] }).settleDl = some 20
      ∧ (Slot.lowerTool true { Slot.empty with
          grant := 9, settling := true, concerned := [2], settleDl := some 3 }).settleDl = some 3 := by decide

/-! ## Motor -/

theorem test_press :
    (after (.trigEdge true) idle).map (fun t => (t.pins.trig, t.drive.debounce))
        = some (true, some 20)
      ∧ (after .triggerDebounceExpiry { granted (motor .off .off) with
            pins := ⟨true, false⟩
            drive := { (motor .off .off).drive with debounce := some 0 } }).map
          (fun t => (t.drive.state, t.drive.armTimer)) = some (.arming, some 50)
      ∧ (after .triggerDebounceExpiry { motor .off .off with
            pins := ⟨true, false⟩
            drive := { (motor .off .off).drive with debounce := some 0 } }).map
          (fun t => (t.drive.refused, t.drive.startPending)) = some (.starved, true) := by decide

/-- One witness for each refusal cause: NOT_OFF, NOT_READY, DOCKED, WATCH (STARVED stands above). -/
theorem test_refused_presses :
    ({ motor .stopping .braking with pins := ⟨true, false⟩ }).drive.state ≠ .off
      ∧ startRefusal { motor .off .off with host := HostLink.reset } = .notReady
      ∧ startRefusal (dockedIn .bulk none) = .docked
      ∧ startRefusal { motor .off .off with watch := { WatchUnit.reset with
          recs := WatchUnit.reset.recs.set 0 (some { watch with action := .stopMotor, state := .fired }) } }
          = .watch := by decide

theorem test_release :
    ∀ m ∈ [MotorState.off, .stopping, .locked, .arming, .align, .spinup, .run, .fault],
      (after .triggerDebounceExpiry { motor m .off with
          drive := { (motor m .off).drive with debounce := some 0, trig := true } }).map
        (fun t => (t.drive.trig, t.gov.stack.length)) = some (false, 1) := by decide

theorem test_start :
    (after .armingTimerExpiry (motor .arming .testing)).map (·.drive.state) = some .align
      ∧ (after .alignTimerExpiry (motor .align .driving)).map
          (fun t => (t.drive.state, t.dirt.echo, t.drive.rampRate)) = some (.spinup, some 2, 30)
      ∧ (after .spinupLock (motor .spinup .driving)).map (·.drive.state) = some .run
      ∧ (after .openLoopRampStep (motor .spinup .driving)).map (·.drive.rampRate) = some 15
      ∧ (after .openLoopRampStep { motor .spinup .driving with
            drive := { (motor .spinup .driving).drive with crossings := 24, rampRate := 285 } }).map
          (·.drive.state) = some .run
      ∧ (after (.commutation true 0 0) (motor .spinup .driving)).map (·.drive.crossings) = some 1
      ∧ (after (.commutation true 10 10) (motor .run .driving)).map (·.drive.level) = some (-1) := by
  decide

/-- Two earlier trips 10,000 ms and 1 ms before: the third locks. -/
theorem test_trips :
    (after .syncMiss (motor .run .driving)).map (fun t => (t.drive.state, t.drive.faultTimer))
        = some (.fault, some 500)
      ∧ (after .motorOvercurrent { motor .run .driving with
            drive := { (motor .run .driving).drive with
              clock := 10000, trips := [⟨.sync, 0, .run⟩, ⟨.sync, 9999, .run⟩] } }).map
          (·.drive.state) = some .locked
      ∧ (after .motorOvercurrent (motor .stopping .braking)).map (·.drive.tripCause)
          = some .overcurrent
      ∧ (after .stallTimerExpiry { motor .run .driving with
            drive := { (motor .run .driving).drive with stallTimer := some 0 } }).map (·.drive.tripCause)
          = some .stall
      ∧ (after .gateTestFail (motor .arming .testing)).map (·.drive.tripCause) = some .gateTest
      ∧ (after .startFail (motor .spinup .driving)).map (·.drive.tripCause) = some .startFail := by
  decide

/-- Readings of that pack with the die at 126 °C: THERMAL, and TEMP_SENSOR when the last thermistor opens. -/
theorem test_hot_round :
    (after (.packRound { readings with die := 126 }) (motor .stopping .braking)).map
        (fun t => (t.drive.tripCause, t.drive.state)) = some (.thermal, .fault)
      ∧ (after (.packRound { readings with th2 := 39 }) { idle with
            pack := { idle.pack with hadTemp := true } }).map
          (fun t => (hasEvent .tempSensor t, t.pack.lastFT)) = some (true, 50)
      ∧ (after (.packRound { readings with th2 := 1700 }) { idle with
            pack := { idle.pack with hadTemp := true, lastFT := 100 } }).map
          (fun t => (hasEvent .tempLimit t, t.pack.lastFT)) = some (true, 66) := by decide

theorem test_stops :
    (after .rotorAtRest (motor .stopping .braking)).map (·.drive.state) = some .off
      ∧ (after .coastTimerExpiry { motor .stopping .off with
            drive := { (motor .stopping .off).drive with coastTimer := some 0 } }).map (·.drive.state)
          = some .off
      ∧ (after .lossOfBackEmfLock (motor .stopping .braking)).map (·.drive.coastTimer)
          = some (some 500)
      ∧ (after .faultTimerExpiry { motor .fault .off with
            drive := { (motor .fault .off).drive with faultTimer := some 0 } }).map (·.drive.state)
          = some .off
      ∧ (after .faultTimerExpiry { motor .fault .off with
            drive := { (motor .fault .off).drive with faultTimer := some 0, trig := true } }).map
          (·.drive.state) = some .fault := by decide

/-! ## Suction, airflow, dirt -/

theorem test_governor_step :
    idle.gov.step.isSome = true
      ∧ (after (.governorStep 0 0) idle).map (fun t => (t.gov.pReq, t.gov.pset, t.gov.claimReq))
          = some (200, 0, 9010)
      ∧ (after (.governorStep 9000 100) { granted (motor .run .driving) with
            gov := { Gov.reset with grant := 9000, pset := 180 } }).map (·.gov.pset) = some 199
      ∧ (limitSetPoint { granted (motor .run .driving) with
            gov := { Gov.reset with grant := 9000, pset := 180, pReq := 200 }
            watch := { WatchUnit.reset with derate := 50 } }).gov.pset = 99
      ∧ (let t := grantArrives 0 { motor .run .driving with gov := { Gov.reset with grant := 1, pset := 9 } }
         (t.drive.state, t.drive.stopCause, t.gov.pset)) = (.stopping, .starved, 0)
      ∧ (grantArrives 500 { motor .run .driving with gov := { Gov.reset with pset := 9 } }).gov.grant
          = 500 := by decide

/-- R80, R41: after a soft reset the claim is delivered in full, active while the motor still brakes. -/
theorem test_claim_after_a_soft_reset :
    (after .softReset { granted (motor .run .driving) with
        arb := { (granted (motor .run .driving)).arb with active := true }
        host := { idle.host with resetDue := true } }).map
        (fun t => (t.drive.state, t.arb.active, (after (.governorStep 0 0) t).map (·.arb.active)))
      = some (.stopping, false, some true) := by decide

/-- A counted step in RUN: 22,200 mV and 9,000 mA are 199 W, 100 µs are 1,000 speed units against 1,018. -/
theorem test_load_ratio :
    (after (.governorStep 9000 100) { granted (motor .run .driving) with
        gov := { Gov.reset with grant := 9000, pset := 199, factor := 100 } }).map
        (fun t => (t.load.ratio, t.load.expected, t.drive.pMeas, t.drive.speed))
      = some (some 98, some 1018, some 199, some 1000)
      ∧ (after (.governorStep 9000 77) { granted (motor .run .driving) with
          load := { LoadMon.reset with rise := 3, block := 4 }
          gov := { Gov.reset with grant := 9000, pset := 199, factor := 100 } }).map
        (fun t => (t.load.ratio, t.load.rise, t.load.block)) = some (some 127, 4, 5)
      ∧ (after (.governorStep 9000 0) { granted (motor .spinup .driving) with
          drive := { (motor .spinup .driving).drive with rampRate := 45 } }).map (·.drive.speed)
        = some (some 45) := by decide

theorem test_episode :
    (after .pulseTimerExpiry { motor .run .driving with
          load := { LoadMon.reset with phase := .pulse, cls := .blocked, pushMade := true, attempts := 1 }
          gov := { Gov.reset with stack := [⟨1, .base⟩, ⟨15, .clear⟩] } }).map
        (fun t => (t.load.phase, t.load.timer, t.gov.stack.length)) = some (.wait, some 1000, 1)
      ∧ (after .waitTimerExpiry { motor .run .driving with
            load := { LoadMon.reset with phase := .wait, cls := .blocked, attempts := 2 } }).map
          (fun t => (t.load.phase, t.load.attempts, t.gov.stack.length)) = some (.pulse, 3, 2)
      ∧ (after .waitTimerExpiry { motor .run .driving with
            load := { LoadMon.reset with phase := .wait, cls := .blocked, attempts := 3 } }).map
          (fun t => (t.drive.state, t.drive.stopCause)) = some (.stopping, .blocked)
      ∧ decideClass .clear 118 400 110 ⟨20, 39, 0⟩ = .restricted
      ∧ decideClass .blocked 118 400 105 ⟨0, 0, 30⟩ = .clear := by decide

theorem test_dirt :
    (after .piezoEcho { idle with dirt := { Dirt.reset with echo := some 1 } }).map (·.dirt.status)
        = some .present
      ∧ (after .echoTimerExpiry { idle with dirt := { Dirt.reset with echo := some 0 } }).map
          (·.dirt.status) = some .absent
      ∧ (after .echoTimerExpiry { idle with
            dirt := { Dirt.reset with echo := some 0, status := .absent } }).map (·.dirt.echo) = some none
      ∧ (after .echoTimerExpiry { motor .run .driving with
            dirt := { Dirt.reset with echo := some 0, level := 2 } }).map (·.dirt.level) = some 0
      ∧ (after (.impactEnd ⟨600, false⟩) { idle with dirt := { Dirt.reset with window := some ⟨50, 3, 65535⟩ } }).map
          (·.dirt.window) = some (some ⟨50, 3, 65535⟩)
      ∧ (after (.impactEnd ⟨40, false⟩) { idle with dirt := { Dirt.reset with window := some ⟨50, 3, 5⟩ } }).map
          (·.dirt.window) = some (some ⟨50, 3, 5⟩)
      ∧ (after (.impactEnd ⟨41, false⟩) { idle with dirt := { Dirt.reset with window := some ⟨50, 3, 5⟩ } }).map
          (·.dirt.window) = some (some ⟨50, 4, 5⟩) := by decide

theorem test_window_end :
    (after .windowEnd { motor .run .driving with
          gov := { Gov.reset with pset := 200 }
          dirt := { Dirt.reset with
            status := .present, window := some ⟨0, 20, 5⟩, rise := 1, cand := 3, bin := 179990 } }).map
        (fun t => (t.dirt.lastW, t.dirt.lastF, t.dirt.rate, t.dirt.level, t.dirt.bin, t.dirt.full))
        = some (40, 40, some 100, 2, 180030, true)
      ∧ classify 14 { Dirt.reset with level := 1, fall := 9 }
          = { Dirt.reset with level := 0, fall := 0 }
      ∧ classify 20 Dirt.reset = { Dirt.reset with rise := 1, cand := 1 } := by decide

/-- A held level, and a window of an ABSENT sensor. -/
theorem test_held_and_absent_windows :
    (after .windowEnd { motor .run .driving with
            load := { LoadMon.reset with cls := .restricted }
            dirt := { Dirt.reset with
              status := .present, window := some ⟨0, 20, 5⟩, rise := 1, cand := 3, level := 1 } }).map
          (fun t => (t.dirt.level, t.dirt.rise, t.dirt.heldLevel)) = some (1, 1, true)
      ∧ (after .windowEnd { motor .run .driving with
            dirt := { Dirt.reset with status := .absent, window := some ⟨0, 20, 5⟩ } }).map
          (fun t => (t.dirt.level, t.dirt.rate)) = some (0, none) := by decide

/-! ## Tool line and records -/

theorem test_master :
    (after .lineResetEnd idle).map (·.line.resetting) = some none
      ∧ (after .toolMasterFrameEnd { lined with line := { lined.line with wire := some (.poll 1) } }).map
          (·.line.await) = some (some (.poll 1))
      ∧ (tick { lined with line := { lined.line with wire := some (.poll 1), bits := [true] } }).pending
          = [.toolMasterFrameEnd]
      ∧ (after .arbitrationLoss { lined with line := { lined.line with wire := some (.poll 1) } }).map
          (fun t => (t.line.losses, t.line.lost)) = some (1, some (.poll 1))
      ∧ (after .toolMasterSend { lined with line := { lined.line with
            idle := 8, queue := [.poll 1, .cap 1 ⟨20, 2, false⟩ none] } }).map
          (fun t => (t.line.wire, t.line.queue, t.line.idle))
          = some (some (.cap 1 ⟨20, 2, false⟩ (some 1)), [.poll 1], 0)
      ∧ (after .toolMasterSend { lined with line := { lined.line with
            idle := 7, queue := [.poll 1] } }).map (·.line.wire) = some none
      ∧ (after .toolMasterSend { lined with line := { lined.line with
            idle := 8, lost := some (.poll 1), losses := 7 } }).map (·.line.wire)
          = some (some (.poll 1))
      ∧ nodeLaw { lined with line := { lined.line with losses := 8 } }
      ∧ (after .masterLossLimit { lined with line := { lined.line with losses := 8 } }).map
          (fun t => (t.line.nodes, t.line.losses, t.line.resetting)) = some ([], 0, some 40) := by decide

theorem test_announce :
    (after (.announce 15 88 [0x42]) lined).map
        (fun t => ((nodeAt t 2).map (·.serial), t.line.queue))
        = some (some 88, [.assign 2 88, .poll 2])
      ∧ (∀ n ∈ lined.line.nodes, n.serial ≠ 88)
      ∧ ((List.replicate 4 node).length = 4)
      ∧ (after (.announce 15 88 [0x42])
          { lined with line := { lined.line with nodes := List.replicate 4 node } }).map
          (·.line.nodes.length) = some 4
      ∧ (after (.announce 3 88 [0x42]) lined).map (·.line.nodes.length) = some 1 := by decide

/-- R115: a known serial is assigned again at its address, an unsent POLL of it missed; a full quarantine gives no
address. -/
theorem test_announce_again :
    nodeLaw lined ∧ node ∈ lined.line.nodes
      ∧ (after (.announce 15 77 [0x14]) { lined with line := { lined.line with queue := [.poll 1] } }).map
          (fun t => (t.line.queue, (nodeAt t 1).map (fun m => (m.state, m.missed, m.completed))))
          = some ([.assign 1 77, .poll 1], some (.assigning, 1, true))
      ∧ (after (.announce 15 77 [0x14])
          { lined with line := { lined.line with nodes := [{ node with state := .assigning, missed := 2 }] } }).map
          (fun t => (nodeAt t 1).map (fun m => (m.state, m.missed))) = some (some (.assigning, 2))
      ∧ (after (.announce 15 88 [0x42])
          { lined with line := { lined.line with quarantine := [⟨2, 9⟩, ⟨3, 9⟩, ⟨4, 9⟩] } }).map
          (·.line.nodes.length) = some 1 := by decide

theorem test_status :
    nodeAt { lined with line := { lined.line with await := some (.poll 1) } } 1 = some node
      ∧ (after (.status 1 1500 1 true false false)
          { lined with line := { lined.line with await := some (.poll 1) } }).map
          (fun t => (nodeAt t 1).map (fun m => (m.brushMa, m.jam, m.floor)))
          = some (some (some 1500, true, .carpet))
      ∧ (after (.status 1 1500 1 true false false) lined).map (fun t => nodeAt t 1)
          = some (some node) := by decide

/-- A POLL lost while a newer one waits is missed; a lost CAP so replaced is not kept; the idle count starts
again. -/
theorem test_lost_and_replaced :
    (after .arbitrationLoss { lined with line := { lined.line with
          wire := some (.poll 1), queue := [.poll 1], idle := 9 } }).map
        (fun t => (t.line.lost, t.line.idle, (nodeAt t 1).map (·.missed))) = some (none, 0, some 1)
      ∧ (after .arbitrationLoss { lined with line := { lined.line with
            wire := some (.cap 1 ⟨20, 2, false⟩ (some 3)), queue := [.cap 1 ⟨10, 2, false⟩ none] } }).map
          (fun t => (t.line.lost, t.line.losses)) = some (none, 1)
      ∧ (after .toolMasterSend { lined with line := { lined.line with
            idle := 8, lost := some (.cap 1 ⟨20, 2, false⟩ none) } }).map (·.line.wire)
          = some (some (.cap 1 ⟨20, 2, false⟩ (some 1))) := by decide

/-- A STATUS of another sender, or after an idle count of 6, leaves the POLL without a reply. -/
theorem test_discarded_status :
    (after (.status 2 0 0 false false false)
        { lined with line := { lined.line with await := some (.poll 1) } }).map
        (fun t => (t.line.await, (nodeAt t 1).map (·.missed))) = some (none, some 1)
      ∧ (after (.status 1 0 0 false false false)
          { lined with line := { lined.line with await := some (.poll 1), idle := 7 } }).map
          (fun t => (nodeAt t 1).map (·.missed)) = some (some 1)
      ∧ (tick { lined with line := { lined.line with await := some (.poll 1), idle := 6 } }).pending
          = [.replyWindowClose]
      ∧ (tick { lined with line := { lined.line with queue := [.poll 1], idle := 7 } }).pending
          = [.toolMasterSend] := by decide

/-- The node with a pending cap of limit 20, number 5. -/
def capped : State :=
  { lined with line := { lined.line with
      nodes := [{ node with pending := some ⟨⟨20, 2, false⟩, 5⟩, seq := 5 }], await := some (.cap 1) } }

theorem test_ack_and_notice :
    (after (.ack 1 5 20) capped).map (fun t => (nodeAt t 1).map (fun m => (m.pending, m.ackLimit)))
        = some (some (none, 20))
      ∧ (after (.ack 1 5 21) capped).map (fun t => (nodeAt t 1).map (·.ackLimit)) = some (some 21)
      ∧ (after (.ack 1 4 20) capped).map (fun t => (t.line.await, t.line.queue))
          = some (none, [.cap 1 ⟨20, 2, false⟩ (some 5)])
      ∧ (after .replyWindowClose { capped with line := { capped.line with
            queue := [.cap 1 ⟨10, 2, false⟩ none] } }).map (·.line.queue)
          = some [.cap 1 ⟨10, 2, false⟩ none]
      ∧ queued (.cap 1 ⟨20, 2, false⟩ none) capped = false
      ∧ (after (.notice 1 true 0) lined).map (fun t => (nodeAt t 1).map (·.jam)) = some (some true)
      ∧ (after (.notice 1 true 0) { lined with
            line := { lined.line with nodes := [{ node with state := .assigning }] } }).map
          (fun t => (nodeAt t 1).map (·.jam)) = some (some false) := by decide

/-- R32: the ACK of the CAP sent settles the slot, but not while a newer CAP for the node waits. -/
theorem test_newest_cap :
    (after (.ack 1 5 20) { capped with arb := { capped.arb with
          head := { Slot.empty with settling := true, held := 900, concerned := [1], members := [1] } } }).map
        (·.arb.head.settling) = some false
      ∧ (after (.ack 1 5 20) { capped with
            line := { capped.line with queue := [.cap 1 ⟨10, 2, false⟩ none] }
            arb := { capped.arb with
              head := { Slot.empty with
                settling := true, held := 900, concerned := [1], members := [1] } } }).map
          (fun t => (t.arb.head.settling, (nodeAt t 1).map (·.pending)))
          = some (true, some none) := by decide

/-- R36, R37: an offer of 300 mA to two lamp nodes falls with the second node's departure; the same value
offered again goes out in a new CAP. -/
theorem test_offer_made_again :
    (let sl := { Slot.empty with
        request := 300, floor := 300, members := [1, 2], offer := some 300, held := 300, settling := true
        concerned := [2] }
     let gone := sl.depart 2
     (gone.offer, gone.news, ({ gone with news := false }.makeOffer 300).news)) = (none, true, true) := by
  decide

theorem test_line_timers :
    (after .replyWindowClose { lined with line := { lined.line with
          await := some (.poll 1), nodes := [{ node with missed := 1 }] } }).map
        (fun t => (nodeAt t 1).map (fun m => (m.missed, m.state))) = some (some (2, .silent))
      ∧ (after .replyWindowClose { lined with line := { lined.line with
            await := some (.poll 1), nodes := [{ node with missed := 2 }] } }).map
          (fun t => (t.line.nodes, t.line.quarantine)) = some ([], [⟨1, 250⟩])
      ∧ (after (.pollTimerExpiry 1) lined).map (·.line.queue) = some [.poll 1]
      ∧ (after (.quarantineExpiry 2) { lined with line := { lined.line with
            quarantine := [⟨2, 0⟩] } }).map (·.line.quarantine) = some [] := by decide

/-- A record to load. -/
def fields : ToolFields := ⟨77, 0, 90, 900, 1000, 1100, 1200, 2500, 3000, true, 0, false⟩

/-- The table full of pinned records. -/
def full : ToolTable :=
  { ToolTable.reset with slots := Vector.replicate 8 (some { defaultRecord 1 [] with pinned := true }) }

theorem test_records :
    lined.serves ∧ (loadedRecord fields).map (fun r => (r.brush, r.floor)) = some (2500, 2500)
      ∧ loadedRecord { fields with kind := 5 } = none
      ∧ (lined.tools.place 77).map (fun p => (p.slot, p.row)) = some (0, 2)
      ∧ (after (.toolLoad 1 fields) lined).map
          (fun t => (t.tools.order, (nodeAt t 1).map (·.applied))) = some ([0], some (.slot 0))
      ∧ full.find 77 = none ∧ full.place 77 = none
      ∧ lined.tools.find 77 = none
      ∧ (after (.toolDrop 1 1) { lined with tools := { full with order := [0] } }).map
          (fun t => (t.tools.slots[0], t.tools.order)) = some (none, []) := by decide

theorem test_default_record :
    (defaultRecord 1 [0x14, 0x21, 0x41]).brush = 1000 ∧ (defaultRecord 1 [0x14, 0x21, 0x41]).lamp = 150
      ∧ (defaultRecord 1 [0x14, 0x21, 0x41]).airflow = 70
      ∧ (defaultRecord 1 [0x14, 0x41]).kind = .miniHead ∧ (defaultRecord 1 [0x18]).brush = 2000
      ∧ (defaultRecord 1 [0x19]).brush = 0 := by decide

/-! ## Dock, charge, evacuation -/

/-- In BULK with the 10 ms of a detach at a count. -/
def bulkOf (drop : Option Nat) : State :=
  { dockedIn .bulk none with dock := { (dockedIn .bulk none).dock with drop := drop } }

theorem test_chgin :
    idle.dock.state = .detached
      ∧ (after .chginRise idle).map (fun t => (t.dock.state, t.dock.debounce))
          = some (.attachWait, some 150)
      ∧ (after .chginRise { dockedIn .attachWait none with
            dock := { (dockedIn .attachWait none).dock with
              attach := .debouncing, drop := some 4, debounceMs := 250 } }).map
          (fun t => (t.dock.drop, t.dock.debounce)) = some (none, some 150)
      ∧ (after .chginRise { bulkOf (some 4) with pins := ⟨false, false⟩ }).map (·.dock.drop) = some none
      ∧ (after .chginDrop (dockedIn .bulk none)).map (·.dock.drop) = some (some 10)
      ∧ (after .chginDrop idle).map (·.dock.drop) = some none
      ∧ (after .detach { dockedIn .bulk none with evac := { Evac.reset with state := .running } }).map
          (fun t => (t.dock.state, t.evac.outcome, hasEvent .dockDetach t))
          = some (.detached, .detach, true) := by decide

/-- A debounce that completes. -/
def settling (m : MotorState) : State :=
  { motor m .driving with
    dock := { Dock.reset with state := .attachWait, attach := .debouncing, debounce := some 0 } }

theorem test_debounce :
    (after (.attachDebounceDone .mid) (settling .off)).map
        (fun t => (t.dock.state, t.dock.coarse, t.dock.exch.map (·.req)))
        = some (.identify, some .mid, some .hello)
      ∧ (after (.attachDebounceDone .mid) (settling .run)).map
          (fun t => (t.dock.state, t.drive.state)) = some (.attachWait, .stopping) := by decide

theorem test_due_requests :
    (after .dockRequestSend { dockedIn .bulk none with dock := { (dockedIn .bulk none).dock with
          dueHalt := true, dueCharge := some .hello } }).map
        (fun t => (t.dock.exch.map (·.req), t.dock.dueCharge)) = some (some .halt, some .hello)
      ∧ (after .dockRequestSend { dockedIn .paused none with dock := { (dockedIn .paused none).dock with
            pause := .offerChange, dueCharge := some (.chargeReq 1 500) } }).map (·.dock.state)
          = some .negotiate
      ∧ (after .dockRequestSend { dockedIn .bulk none with dock := { (dockedIn .bulk none).dock with
            dueEvac := some 8 } }).map (fun t => t.dock.exch.map (·.req)) = some (some (.evacReq 8)) := by
  decide

theorem test_exchange :
    (after .dockRequestLastByte (dockedIn .identify (some { sent .hello .first with send := .sending }))).map
        (fun t => t.dock.exch.bind (·.deadline)) = some (some 200)
      ∧ (after .dockCollision (dockedIn .identify (some { sent .hello .first with
            send := .sending, collisions := 3 }))).map (fun t => t.dock.exch.map (·.send))
          = some (some .collided)
      ∧ (after .dockCollision (dockedIn .identify (some { sent .hello .first with
            send := .sending, collisions := 4 }))).map (fun t => t.dock.exch.map (·.attempts))
          = some (some 2)
      ∧ (after .dockCollisionResend (dockedIn .identify (some { sent .hello .first with
            send := .collided }))).map (fun t => t.dock.exch.map (·.send)) = some (some .sending)
      ∧ (after .dockDeadlineExpiry (dockedIn .identify (some (sent .hello .first)))).map
          (fun t => t.dock.exch.map (·.attempts)) = some (some 2)
      ∧ (after .dockDeadlineExpiry (dockedIn .identify (some { sent .hello .first with
            attempts := 3 }))).map (fun t => (t.dock.state, t.dock.csw)) = some (.coarse, true) := by
  decide

theorem test_hello :
    (after (.dockIdent 1 1 2) (dockedIn .identify (some (sent .hello .first)))).map
        (fun t => (t.dock.identTaken, t.dock.exch.map (·.phase))) = some (true, some .offers)
      ∧ (after (.dockOffers [⟨20000, 3000⟩, ⟨30000, 1000⟩, ⟨30000, 1000⟩])
          (dockedIn .identify (some (sent .hello .offers)))).map
          (fun t => (t.dock.state, t.dock.exch.map (·.req), t.dock.want))
          = some (.negotiate, some (.chargeReq 2 825), 1000)
      ∧ (after (.dockOffers [⟨20000, 3000⟩]) (dockedIn .identify (some (sent .hello .offers)))).map
          (fun t => (t.dock.state, t.dock.pause)) = some (.paused, .noOffer)
      ∧ chooseOffer { dockedIn .identify (some (sent .hello .offers)) with
          dock := { (dockedIn .identify none).dock with offers := [⟨30000, 1000, false⟩] } }
          = some (1, ⟨30000, 1000, false⟩)
      ∧ 0 < packVolts idle := by decide

theorem test_replies :
    (after .dockAccept (dockedIn .negotiate (some (sent (.chargeReq 1 825) .first)))).map
        (fun t => t.dock.exch.map (·.phase)) = some (some .ready)
      ∧ (after .dockAccept { dockedIn .bulk (some (sent (.evacReq 8) .first)) with
            evac := { Evac.reset with state := .requested, duration := 8 } }).map (·.evac.timer)
          = some (some 13000)
      ∧ (after .dockAccept (dockedIn .bulk (some (sent .halt .first)))).map (·.dock.exch) = some none
      ∧ (after .dockReady { dockedIn .negotiate (some (sent (.chargeReq 1 825) .ready)) with
            dock := { (dockedIn .negotiate (some (sent (.chargeReq 1 825) .ready))).dock with
              offers := [⟨30000, 1000, false⟩], want := 1000 } }).map
          (fun t => (t.dock.state, t.dock.csw, t.dock.iChg)) = some (.bulk, true, 1000)
      ∧ (after .dockReady { dockedIn .bulk (some (sent (.chargeReq 1 825) .ready)) with
            dock := { (dockedIn .bulk (some (sent (.chargeReq 1 825) .ready))).dock with
              agreement := some ⟨1, 30000, 1000, 500⟩ } }).map (fun t => t.dock.agreement.map (·.input))
          = some (some 825)
      ∧ (after (.dockReject 1) (dockedIn .negotiate (some (sent (.chargeReq 1 825) .first)))).map
          (·.dock.state) = some .paused
      ∧ (after (.dockWait 65535) (dockedIn .negotiate (some (sent (.chargeReq 1 825) .first)))).map
          (fun t => t.dock.exch.bind (·.deadline)) = some (some 5000) := by decide

/-- An EVAC_REQ that has been sent, with its WAITs, in a charge state. -/
def evacIn (c : ChargeState) (waits : Nat) : State :=
  { dockedIn c (some { sent (.evacReq 8) .first with waits := waits }) with
    evac := { Evac.reset with state := .requested, duration := 8 } }

theorem test_replies_in_coarse_and_none_awaited :
    (after .dockAccept (dockedIn .coarse (some (sent .halt .first)))).map
        (fun t => (t.dock.state, t.dock.exch.map (·.req))) = some (.identify, some .hello)
      ∧ (after .dockAccept (evacIn .coarse 0)).map (fun t => (t.dock.state, t.evac.state))
          = some (.identify, .running)
      ∧ (after (.dockReject 2) (evacIn .coarse 0)).map (fun t => (t.dock.state, t.evac.reason))
          = some (.identify, some 2)
      ∧ (after (.dockWait 1) (evacIn .coarse 7)).map
          (fun t => (t.dock.state, t.dock.dueCharge, t.dock.exch.bind (·.deadline)))
          = some (.identify, some .hello, some 10)
      ∧ (after (.dockWait 1) (evacIn .coarse 8)).map (fun t => (t.dock.state, t.evac.outcome))
          = some (.identify, .noAccept)
      ∧ (after (.dockWait 1) (dockedIn .identify (some { sent .hello .first with waits := 8 }))).map
          (fun t => (t.dock.state, t.dock.csw)) = some (.coarse, true)
      ∧ (after (.dockWait 1) (dockedIn .bulk (some { sent (.chargeReq 1 5) .first with waits := 8 }))).map
          (·.dock.state) = some .coarse
      ∧ (after (.dockWait 100) { dockedIn .bulk (some { sent (.evacReq 8) .first with waits := 8 }) with
            evac := { Evac.reset with state := .requested } }).map (·.evac.outcome) = some .noAccept
      ∧ (after (.dockOffers [⟨30000, 1000⟩]) (dockedIn .bulk none)).map (·.dock.offers) = some [] := by
  decide

/-- In BULK under an agreement. -/
def bulk : State :=
  { dockedIn .bulk none with dock := { (dockedIn .bulk none).dock with
      agreement := some ⟨1, 30000, 1000, 825⟩, csw := true, iChg := 1000, want := 1000 } }

theorem test_offers_changed :
    (after (.offersChanged [⟨30000, 825⟩]) bulk).map (fun t => (t.dock.state, t.dock.csw))
        = some (.bulk, true)
      ∧ (after (.offersChanged [⟨30000, 824⟩]) bulk).map (fun t => (t.dock.csw, t.dock.resume))
          = some (false, some .bulk)
      ∧ (after (.offersChanged [⟨26200, 2000⟩, ⟨30000, 824⟩, ⟨26200, 2000⟩]) bulk).map
          (fun t => (t.dock.state, t.dock.exch.map (·.req)))
          = some (.negotiate, some (.chargeReq 1 950))
      ∧ (after (.offersChanged [⟨26199, 9000⟩, ⟨26200, 1000⟩])
          (dockedIn .negotiate (some (sent (.chargeReq 1 825) .first)))).map
          (fun t => (t.dock.state, t.dock.exch.map (·.req)))
          = some (.negotiate, some (.chargeReq 2 950))
      ∧ (after (.offersChanged [⟨26200, 1000⟩]) { evacIn .paused 0 with dock := { (evacIn .paused 0).dock with
            pause := .noOffer } }).map (fun t => (t.dock.state, t.dock.pause, t.dock.dueCharge))
          = some (.paused, .offerChange, some (.chargeReq 1 950))
      ∧ (after (.offersChanged []) { dockedIn .negotiate (some (sent (.chargeReq 1 825) .first)) with
            dock := { (dockedIn .negotiate (some (sent (.chargeReq 1 825) .first))).dock with
              dueEvac := some 8 } }).map (fun t => (t.dock.state, t.dock.exch.map (·.req)))
          = some (.paused, some (.evacReq 8))
      ∧ (after (.offersChanged []) (dockedIn .coarse none)).map
          (fun t => (t.dock.state, t.dock.exch.map (·.req))) = some (.identify, some .hello)
      ∧ (after (.offersChanged []) { dockedIn .paused none with dock := { (dockedIn .paused none).dock with
            pause := .temp } }).map (·.dock.state) = some .paused
      ∧ (after (.offersChanged []) (dockedIn .topped none)).map (·.dock.state) = some .topped
      ∧ (after (.offersChanged [⟨30000, 824⟩]) idle).map (·.dock.offers) = some [] := by decide

theorem test_evacuation :
    (after (.evacStatus 1 0) { dockedIn .bulk none with
          evac := { Evac.reset with state := .running, timer := some 5 }
          dirt := { Dirt.reset with bin := 500, sat := true } }).map
        (fun t => (t.evac.outcome, t.dirt.bin, t.dirt.sat)) = some (.done, 0, true)
      ∧ (after (.evacStatus 2 3) { dockedIn .bulk none with
            evac := { Evac.reset with state := .running } }).map (·.evac.outcome) = some .timeout
      ∧ (after .evacCompletionExpiry { idle with
            evac := { Evac.reset with state := .running, timer := some 0 } }).map (·.evac.outcome)
          = some .noReply
      ∧ (after (.evacStart 1 0) { dockedIn .topped none with dock := { (dockedIn .topped none).dock with
            identity := some ⟨.evac, true, 1⟩ } }).map
          (fun t => (t.evac.state, t.dock.exch.map (·.req)))
          = some (.requested, some (.evacReq 8)) := by decide

theorem test_charge_check :
    bulk.dock.period.isSome = true ∧ packDie bulk ≤ 110 ∧ packTmax bulk = some 25
      ∧ 29000 * 10 ≤ offerVolts bulk * 11
      ∧ (chargeCheck 33001 bulk).dock.lastFault = .inputOv
      ∧ (chargeCheck 33000 bulk).dock.state = .bulk
      ∧ (chargeCheck 29000 { bulk with pack := { bulk.pack with
            record := some { record with tmax := some 46 } } }).dock.state = .paused
      ∧ (chargeCheck 29000 { dockedIn .paused none with dock := { (dockedIn .paused none).dock with
            pause := .temp } }).dock.state = .identify
      ∧ (chargeCheck 29000 (dockedIn .precharge none)).dock.state = .bulk
      ∧ (chargeCheck 29000 { bulk with pack := { bulk.pack with
            record := some { record with vmax := 4200 } } }).dock.taper = some 900
      ∧ (chargeCheck 29000 (dockedIn .topped none)).dock.state = .identify := by decide

/-- That pack with a V_min, a V_max and a T_max. -/
def packed (low high : Nat) (t : Int) (s : State) : State :=
  { s with pack := { s.pack with record := some { record with
      cells := [low, 3700, high], vmin := low, vmax := high, tmax := some t } } }

/-- The check that ends a PRECHARGE of 30 minutes. -/
theorem test_precharge_ends :
    (let t := chargeCheck 29000 (packed 3000 3700 25 { bulk with dock := { bulk.dock with
        state := .precharge, precharge := 1799 } })
     (t.dock.state, t.dock.lastFault)) = (.fault, .prechargeTimeout) := by decide

/-- The currents of PRECHARGE, and the request of a smaller input. -/
theorem test_precharge_current :
    (let t := chargeCheck 29000 (packed 3000 3700 25 { bulk with dock := { bulk.dock with
        state := .precharge } })
     (t.dock.state, t.dock.want, t.dock.iChg, t.dock.exch.map (·.req)))
      = (.precharge, 300, 300, some (.chargeReq 1 250)) := by decide +kernel

/-- A difference of 100 mA asks again; the cover of 725 mA holds until then. -/
theorem test_new_request :
    (let t := chargeCheck 29000 { bulk with dock := { bulk.dock with
        agreement := some ⟨1, 30000, 1000, 725⟩ } }
     (t.dock.iChg, t.dock.exch.map (·.req))) = (875, some (.chargeReq 1 825)) := by decide +kernel

/-- A difference of 75 mA does not. -/
theorem test_no_new_request :
    (let t := chargeCheck 29000 { bulk with dock := { bulk.dock with
        agreement := some ⟨1, 30000, 1000, 750⟩ } }
     (t.dock.iChg, t.dock.exch)) = (900, none) := by decide

/-- A check in TAPER. -/
theorem test_taper :
    (let t := chargeCheck 29000 (packed 3700 4200 25 { bulk with dock := { bulk.dock with
        state := .taper, taper := some 200 } })
     (t.dock.state, t.dock.taper)) = (.taper, some 175) := by decide

/-- The check that ends TAPER. -/
theorem test_topped :
    (let t := chargeCheck 29000 (packed 3700 4200 25 { bulk with dock := { bulk.dock with
        state := .taper, taper := some 150 } })
     (t.dock.state, t.dock.taper, t.dock.csw)) = (.topped, some 125, false) := by decide

/-- The cold half. -/
theorem test_cold_half :
    (let t := chargeCheck 29000 (packed 3700 3700 9 { bulk with dock := { bulk.dock with
        lastFullLimit := true } })
     (hasEvent .tempLimit t, t.dock.lastFullLimit, t.dock.want)) = (true, false, 500) := by decide

theorem test_coarse_checks :
    (let t := chargeCheck 29000 (packed 2999 3700 25 (dockedIn .coarse none))
     (t.dock.state, t.dock.precharge, t.dock.taper)) = (.coarse, 1, none)
      ∧ (chargeCheck 29000 (packed 2999 3700 25 { dockedIn .coarse none with
            dock := { (dockedIn .coarse none).dock with precharge := 1799 } })).dock.lastFault
          = .prechargeTimeout
      ∧ (let t := chargeCheck 29000 (packed 3700 4200 25 { dockedIn .coarse none with
            dock := { (dockedIn .coarse none).dock with csw := true, precharge := 5 } })
         (t.dock.state, t.dock.taper, t.dock.iChg, t.dock.precharge)) = (.coarse, some 900, 900, 0)
      ∧ (chargeCheck 29000 (packed 3700 4200 25 { dockedIn .coarse none with
            dock := { (dockedIn .coarse none).dock with taper := some 150 } })).dock.state = .topped
      ∧ (after .prechargeTimeout { dockedIn .coarse none with
            dock := { (dockedIn .coarse none).dock with precharge := 1 } }).map (·.dock.lastFault)
          = some .prechargeTimeout := by decide

theorem test_charge_timers_and_bleeds :
    (after .prechargeTimeout (dockedIn .precharge none)).map (·.dock.lastFault)
        = some .prechargeTimeout
      ∧ (after .totalTimeout (dockedIn .coarse none)).map (·.dock.lastFault) = some .totalTimeout
      ∧ bleedSet [1] [4106, 4120, 4100, 4119, 4125, 4120, 4200] 4100 85 = [2, 5, 6]
      ∧ bleedSet [1] [4106, 4100, 4100, 4119] 4100 85 = [1]
      ∧ bleedSet [] [4120, 4120, 4120, 4120] 4100 85 = [1, 2, 3]
      ∧ ([1, 2, 3, 4, 5, 6].filter fun k => wantsBleed [1] [4106, 4120, 4100, 4119, 4125, 4120] 4100 k)
          = [1, 2, 5, 6]
      ∧ standsAbove [4120, 4120] 1 2 = true ∧ standsAbove [4120, 4120] 2 1 = false
      ∧ (chargeCheck 29000 (packed 3700 3720 25 { bulk with dock := { bulk.dock with
            state := .taper, taper := some 500 } })).dock.bleed = [3] := by decide

/-! ## Host link and requests -/

/-- A frame under way. -/
def receiving (l : List Byte) : State := { idle with host := { idle.host with rx := .frame l } }

theorem test_bytes :
    (after (.hostByteReceived 0xA5 true) idle).map (·.host.rx) = some (.frame [])
      ∧ (after (.hostByteReceived 0xA4 true) idle).map (·.host.rx) = some .hunting
      ∧ (after (.hostByteReceived (crc8 [2, 0x13, 9, 0xE8, 3]) true) (receiving [2, 0x13, 9, 0xE8, 3])).map
          (fun t => (t.host.rx, t.pack.gauge)) = some (.hunting, 900000000)
      ∧ (after (.hostByteReceived 0 true) (receiving [2, 0x13, 9, 0xE8, 3])).map
          (fun t => t.host.replies.map (·.kind)) = some [0xFF]
      ∧ (after (.hostByteReceived 9 true) (receiving [61, 0x13])).map (·.host.rx) = some .discarding
      ∧ (after .hostByteGap (receiving [2])).map (fun t => hasEvent .frameDropped t) = some true := by
  decide +kernel

/-- A queue with a formed reply at its head, and one with a deferred FENCE. -/
def replying (b : Option ReplyBody) : State :=
  { idle with host := { idle.host with
      requests := [⟨0x01, 7⟩], replies := [⟨0x81, 7, b, true, false⟩] } }

theorem test_replies_leave :
    (after .replySent (replying (some ⟨0, []⟩))).map (fun t => (t.host.replies, t.host.requests))
        = some ([], [])
      ∧ (after .replySent (replying none)).map (·.host.replies.length) = some 1
      ∧ (after (.ident 1) { idle with host := { idle.host with
            replies := List.replicate 8 ⟨0x81, 7, none, true, false⟩ } }).map
          (fun t => hasEvent .frameDropped t) = some true
      ∧ (after (.binReset 1) { idle with host := { idle.host with
            requests := List.replicate 4 ⟨1, 1⟩ } }).map (fun t => t.host.replies.map (·.body))
          = some [some ⟨0x0A, []⟩]
      ∧ (after (.binReset 1) { idle with pack := { idle.pack with power := .standby } }).map
          (·.pack.power) = some .active
      ∧ isRequest (.binReset 1) = true := by decide

theorem test_fence :
    idle.serves ∧ (outstanding idle).any = false
      ∧ (after (.fence 3) idle).map (fun t => t.host.replies.map (·.body))
          = some [some ⟨0, [0, 0, 0]⟩]
      ∧ (after (.fence 3) { idle with gov := { idle.gov with ramping := true } }).map (·.host.fence)
          = some (some ⟨3, 2000⟩)
      ∧ (after .fenceTimeout { replying none with
            gov := { idle.gov with ramping := true }
            host := { (replying none).host with fence := some ⟨7, 0⟩ } }).map
          (fun t => t.host.replies.map (·.body)) = some [some ⟨0x0B, [0xD0, 7, 2]⟩]
      ∧ (after (.reset 4) { replying none with host := { (replying none).host with
            fence := some ⟨7, 100⟩ } }).map
          (fun t => (t.host.replies.map (fun r => r.body.map (·.status)), t.host.stopped))
          = some ([some 0x0C, some 0], true) := by decide

theorem test_events :
    idle.serves ∧ idle.quiet
      ∧ (after (.eventsRead 1) idle).map (fun t => (t.host.events, t.host.replies.map (·.body)))
          = some (0, [some ⟨0, [1, 0, 0, 0, 0, 0, 0, 0]⟩])
      ∧ (after (.eventMask 1 (some 0xFFFFFFFF)) idle).map (fun t => (t.host.mask, attnLow t))
          = some (0xFFFFFFF, false) := by decide

theorem test_pack_settings :
    (after (.gaugeSet 1 1500) idle).map (fun t => stateOfCharge t.pack) = some 1000
      ∧ (after (.gaugeSet 1 0xFFFF) idle).map (fun t => t.pack.gauge) = some 0
      ∧ (after (.packConfig 1 9 0 0) idle).map (fun t => (t.pack.count, t.pack.capacity, t.pack.inom))
          = some (7, 1000, 10000)
      ∧ (after (.packConfig 1 7 2500 15000) bulk).map (·.pack.count) = some 6
      ∧ (after (.reserveSet 1 99) idle).map (·.arb.reserve.request) = some 100
      ∧ (after (.reserveSet 1 300) idle).map (·.arb.reserve.request) = some 300
      ∧ (after (.ocvTable 1 [2500, 2600, 2700, 2800, 2900, 3000, 3100, 3200, 3300, 3400, 3500])
            idle).map (·.pack.ocv.length) = some 11 := by decide

theorem test_profiles :
    (after (.profileLock 1 15) idle).map (fun t => t.gov.profiles[15].locked) = some true
      ∧ (after (.profileLock 1 16) idle).map (fun t => t.host.replies.map (fun r => r.body.map (·.status)))
          = some [some 3]
      ∧ (after (.profileWrite 1 3 ⟨true, true, 700, 10, 650, false, 9, 9, 1⟩) idle).map
          (fun t => (t.gov.profiles[3].hard, t.gov.profiles[3].carpet, t.gov.profiles[3].floor))
          = some (600, 20, 20)
      ∧ standsSelected idle.gov.stack 1 = true
      ∧ { idle with host := { idle.host with resetDue := true } }.serves := by decide

theorem test_stack :
    (after (.modeSet 1 2) idle).map (·.gov.stack) = some [⟨2, .base⟩]
      ∧ (after (.modeSet 1 3) idle).map (·.gov.stack) = some [⟨1, .base⟩]
      ∧ (after (.modePush 1 0) idle).map (·.gov.stack) = some [⟨1, .base⟩, ⟨0, .host⟩]
      ∧ topOrigin { idle.gov with stack := [⟨1, .base⟩, ⟨15, .clear⟩] } = some .clear
      ∧ (after (.modePush 1 0) { idle with gov := { idle.gov with
            stack := [⟨1, .base⟩, ⟨0, .host⟩, ⟨0, .host⟩, ⟨0, .host⟩] } }).map (·.gov.stack.length)
          = some 4 := by decide

/-- R185: with four requests pending a RESET with a payload is refused as such; with five it is not. -/
theorem test_refused_reset :
    (let t := frameArrives 0x06 9 [1] { idle with host := { idle.host with
        requests := List.replicate 4 ⟨1, 1⟩ } }
     (t.host.requests.length, t.host.replies.map (·.body))) = (5, [some ⟨3, []⟩])
      ∧ (let t := frameArrives 0x06 9 [1] { idle with host := { idle.host with
            requests := List.replicate 5 ⟨1, 1⟩ } }
         (t.host.requests.length, t.host.replies.map (·.body))) = (5, [some ⟨0x0A, []⟩]) := by decide

/-- R146: a frame's bits read back, 10 of a byte. -/
theorem test_dock_bits :
    (DockReq.bits .halt).length = 10 * (DockReq.bytes .halt).length
      ∧ dockBitsCommand ([0x46, 0x00, 0x46].flatMap byteBits) = some .dockReady
      ∧ byteBits 0x01 = [false, true, false, false, false, false, false, false, false, true] := by
  decide +kernel

theorem test_pop :
    stackLaw idle ∧ idle.gov.stack.length = 1
      ∧ stackLaw { idle with gov := { idle.gov with
          stack := [⟨1, .base⟩, ⟨2, .host⟩, ⟨0, .host⟩, ⟨15, .clear⟩] } }
      ∧ (after (.modePop 1) { idle with gov := { idle.gov with
            stack := [⟨1, .base⟩, ⟨2, .host⟩, ⟨0, .host⟩, ⟨15, .clear⟩] } }).map (·.gov.stack)
          = some [⟨1, .base⟩, ⟨2, .host⟩, ⟨15, .clear⟩]
      ∧ (after (.modePop 1) { idle with gov := { idle.gov with
            stack := [⟨1, .base⟩, ⟨2, .host⟩] } }).map (·.gov.stack) = some [⟨1, .base⟩] := by decide

theorem test_settings :
    (after (.blockConfig 1 (some (200, 455))) idle).map (fun t => (t.load.blockPct, t.load.blockMs))
        = some (150, 450)
      ∧ (after (.dirtConfig 1 (some ⟨0, 4000, 6000, 7000, 0, 0⟩)) idle).map (·.dirt.t1) = some 20
      ∧ (after (.dirtConfig 1 (some ⟨0, 1, 2, 5000, 0, 0⟩)) { idle with dirt := { Dirt.reset with
            bin := 1000 } }).map (fun t => (t.dirt.capacity, t.dirt.sat, t.dirt.full))
          = some (1000, true, true)
      ∧ (after (.chargeConfig 1 (some (5000, 0xFFFF, 174))) idle).map
          (fun t => (t.dock.iMax, t.dock.iTerm, t.dock.debounceMs)) = some (4000, 0, 150)
      ∧ (after (.evacConfig 1 (some (101, 2))) idle).map (fun t => (t.evac.pct, t.evac.setting))
          = some (100, 3)
      ∧ (after (.binReset 1) { idle with dirt := { Dirt.reset with bin := 7, sat := true } }).map
          (fun t => (t.dirt.bin, t.dirt.sat)) = some (0, false) := by decide

theorem test_drive_link_power :
    (after (.faultClear 1) (motor .locked .off)).map (·.drive.state) = some .off
      ∧ (after (.faultClear 1) (motor .run .driving)).map (·.drive.state) = some .run
      ∧ (after (.ready 1) State.reset).map (·.host.ready) = some false
      ∧ (after (.ready 1) { State.reset with host := { HostLink.reset with configured := true } }).map
          (·.host.ready) = some true
      ∧ (after (.sleep 1) lined).map (fun t => (t.pack.power, t.line.tpwr, t.line.nodes))
          = some (.standby, .off, [])
      ∧ (after (.sleep 1) bulk).map (·.pack.power) = some .active := by decide

theorem test_charge_force :
    (after (.chargeForceDisable 1) bulk).map (fun t => (t.dock.state, t.dock.csw))
        = some (.disabled, false)
      ∧ (after (.chargeForceEnable 1) (dockedIn .disabled none)).map (·.dock.state) = some .identify
      ∧ (after (.chargeForceRecover 1) (dockedIn .fault none)).map (·.dock.state) = some .identify
      ∧ (after (.chargeForceRecover 1) bulk).map (·.dock.state) = some .bulk
      ∧ (after (.chargeForceRenegotiate 1) { bulk with dock := { bulk.dock with
            identTaken := true } }).map
          (fun t => (t.dock.state, t.dock.exch.map (·.req), t.dock.dueCharge))
          = some (.identify, some .halt, some .hello) := by decide

theorem test_watches :
    (after (.watchSet 1 7 ⟨13, 50, 2, 0, 1, 1, 5⟩) idle).map
        (fun t => (t.watch.recs[7]).map (fun r => (r.n, r.action, r.state)))
        = some (some (1, .derate 10, .armed))
      ∧ (after (.watchArmArm 1 8) idle).map (fun t => t.host.replies.map (fun r => r.body.map (·.status)))
          = some [some 3]
      ∧ resultLaw idle
      ∧ (after (.watchArmDisarm 1 0) { idle with watch := { WatchUnit.reset with
            recs := WatchUnit.reset.recs.set 0 (some watch) } }).map
          (fun t => (t.watch.recs[0]).map (·.state)) = some (some .disarmed)
      ∧ (watch.take .binPct 51).state = .fired
      ∧ ({ watch with state := .fired, n := 2 } : WatchRec).take .binPct 50
          = { watch with state := .fired, n := 2, falseCount := 1, last := 50 } := by decide

/-- Watches 0 on the bin that stop, derate or pause. -/
def watching (a : WatchAction) (s : State) : State :=
  { s with watch := { s.watch with recs := s.watch.recs.set 0 (some { watch with action := a }) } }

theorem test_watch_updates :
    (let t := watchUpdate .binPct 51 (watching .stopMotor (motor .run .driving))
     (hasEvent .watchFired t, t.drive.state, t.drive.stopCause)) = (true, .stopping, .watch)
      ∧ (let t := watchUpdate .binPct 51 (watching (.derate 40) { idle with
            gov := { Gov.reset with grant := 1000 } })
         (t.watch.derate, t.drive.ceiling)) = (40, 400)
      ∧ (let t := watchUpdate .binPct 51 (watching .pauseCharge bulk)
         (t.dock.state, t.dock.pause, t.dock.agreement)) = (.paused, .watch, none)
      ∧ (let t := watchUpdate .binPct 50 { dockedIn .paused none with
            dock := { (dockedIn .paused none).dock with pause := .watch }
            watch := { WatchUnit.reset with
              pauseOrder := true
              recs := WatchUnit.reset.recs.set 0 (some { watch with
                action := .pauseCharge, state := .fired }) } }
         (t.watch.pauseOrder, t.dock.state)) = (false, .identify)
      ∧ (let t := watchUpdate .binPct 50 (watching .notify idle)
         (hasEvent .watchFired t, (t.watch.recs[0]).map (·.last))) = (false, some 50) := by decide

/-- Section 5.8: the block count runs on from CLEAR to RESTRICTED, so that 40 steps at 131 end in BLOCKED. -/
theorem test_block_count_runs_on :
    (countedStep 131 { idle with load := { LoadMon.reset with rise := 19, block := 19 } }).load
        = { LoadMon.reset with cls := .restricted, block := 20 }
      ∧ (countedStep 131 { motor .run .driving with
            load := { LoadMon.reset with cls := .restricted, block := 39 } }).load
        = { LoadMon.reset with
            cls := .blocked, attempts := 1, phase := .pulse, timer := some 600, pushMade := true } := by
  decide

/-- The node before its first STATUS, polled. -/
def arriving : State :=
  { lined with line := { lined.line with
      await := some (.poll 1)
      nodes := [{ node with state := .assigning, completed := false, applied := .none }] } }

theorem test_first_completion :
    (after (.status 1 0 1 false false false) arriving).map
        (fun t => (t.arb.head.members, t.arb.head.request, t.gov.floor)) = some ([1], 1000, .carpet)
      ∧ (after (.status 1 0 1 false false false) arriving).map
        (fun t => (hasEvent .toolAttach t, hasEvent .toolMiss t, t.tools.miss))
          = some (true, true, [77])
      ∧ (after (.status 1 0 1 false false false) arriving).map (·.line.queue)
          = some [.cap 1 ⟨20, 2, false⟩ none] := by decide

/-- R116, R119: a STATUS of the HEAD member updates BRUSH_MA, and one that ends a new assignment queues a CAP. -/
theorem test_status_leads :
    (let u := takeStatus 1 ⟨300, .hard, false, false, false⟩ { arriving with
        line := { arriving.line with nodes := [{ node with state := .assigning }] } }
     (u.arb.head.members, u.signals, u.line.queue, (nodeAt u 1).map (capBody u)))
        = ([1], [.recompute, .update .brushMa 300], [.cap 1 ⟨0, 2, false⟩ none], some ⟨0, 2, false⟩)
      ∧ (takeStatus 1 ⟨300, .hard, false, false, false⟩ { arriving with
          line := { arriving.line with nodes := [node] } }).line.queue = [] := by decide

/-- The statuses of the queued replies. -/
def statuses (s : State) : List (Option Byte) := s.host.replies.map (fun r => r.body.map (·.status))

theorem test_refusals :
    (after (.evacStart 1 0) idle).map statuses = some [some 4]
      ∧ (after (.evacStart 1 0) (dockedIn .topped none)).map statuses = some [some 4]
      ∧ (after (.evacStart 1 0) { dockedIn .topped (some (sent .hello .first)) with
            dock := { (dockedIn .topped (some (sent .hello .first))).dock with
              identity := some ⟨.evac, true, 1⟩ } }).map statuses = some [some 5]
      ∧ (after (.chargeForceRenegotiate 1) (dockedIn .fault none)).map statuses = some [some 4]
      ∧ (after (.chargeForceRenegotiate 1) (dockedIn .bulk (some (sent .halt .first)))).map statuses
          = some [some 5]
      ∧ (after (.watchSet 1 0 ⟨16, 0, 1, 1, 0, 0, 0⟩) idle).map statuses = some [some 3]
      ∧ (after (.watchSet 1 0 ⟨0, 0, 0, 1, 0, 0, 0⟩) idle).map statuses = some [some 3]
      ∧ (after (.watchArmArm 1 0) idle).map statuses = some [some 6]
      ∧ (after (.watchClear 1 0) idle).map statuses = some [some 0]
      ∧ (after (.ocvTable 1 (List.replicate 11 3000)) idle).map statuses = some [some 3]
      ∧ (after (.toolLoad 1 fields) { lined with tools := full }).map statuses = some [some 8]
      ∧ (after (.modePop 1) idle).map statuses = some [some 9] := by decide

/-! ## Bit periods, arbitration and the wake -/

/-- R110: a recessive sample counts 1, a dominant one sets the count to 0. -/
theorem test_samples :
    (tick lined).line.idle = 1 ∧ (tick (tick lined)).line.idle = 2
      ∧ (tick { lined with line := { lined.line with idle := 5, resetting := some 40 } }).line.idle = 0
      ∧ (tick { lined with line := { lined.line with
            idle := 5, wire := some (.poll 1), bits := [false, true] } }).line.idle = 0
      ∧ (TxFrame.poll 1).bits.length = 32 := by decide +kernel

/-- R110: the lower sender wins the line, and of two ANNOUNCE the lower serial; like frames both stand. -/
theorem test_arbitration :
    winsLine (TxFrame.poll 1).bits (lineBits (bitsOf 4 3 ++ bitsOf 4 1)) = true
      ∧ winsLine (lineBits (bitsOf 4 3 ++ bitsOf 4 1)) (TxFrame.poll 1).bits = false
      ∧ winsLine (lineBits (bitsOf 4 15 ++ bitsOf 4 8 ++ bitsOf 32 77))
          (lineBits (bitsOf 4 15 ++ bitsOf 4 8 ++ bitsOf 32 88)) = true
      ∧ onLine (TxFrame.poll 1).bits (TxFrame.poll 1).bits = (TxFrame.poll 1).bits
      ∧ lostAt (TxFrame.poll 1).bits (TxFrame.poll 1).bits = none
      ∧ (1 : Addr).toNat < (3 : Addr).toNat ∧ (77 : Serial).toNat < (88 : Serial).toNat := by decide +kernel

/-- Asleep, with a cut-off or without. -/
def asleep (cut : Bool) : State :=
  { idle with
    pack := { idle.pack with power := .standby, round := none, cutoff := cut }
    line := { idle.line with tpwr := .off, resetting := none } }

/-- R19, R126. -/
theorem test_wake :
    (let w := wake (asleep false)
     (w.pack.power, w.pack.round, w.line.tpwr, w.line.resetting)) = (.active, some 10, .signal, some 40)
      ∧ (wake (asleep true)).line = (asleep true).line
      ∧ (after (.trigEdge true) (asleep false)).map (fun t => (t.pack.power, t.drive.debounce))
          = some (.active, some 20)
      ∧ (after .chginRise (asleep false)).map (fun t => (t.pack.power, t.dock.state))
          = some (.active, .attachWait)
      ∧ true ≠ (asleep false).pins.trig := by decide

/-! ## Presses that wait, and the driven speed -/

/-- R42: the first settling is no press. R44: a pending press starts once the drive is at rest, and the repeated
check leaves it where SUCTION is still starved, or refuses it for another cause. -/
theorem test_pending_press :
    (after .triggerDebounceExpiry { granted (motor .off .off) with
        pins := ⟨true, false⟩
        drive := { (motor .off .off).drive with debounce := some 0, settlingIn := true } }).map
        (fun t => (t.drive.state, t.drive.trig, t.drive.settlingIn)) = some (.off, true, false)
      ∧ (after .rotorAtRest { granted (motor .stopping .braking) with
            drive := { (motor .stopping .braking).drive with startPending := true } }).map
          (fun t => (t.drive.state, t.drive.startPending)) = some (.arming, false)
      ∧ (let t := repeatCheck { motor .off .off with
           drive := { (motor .off .off).drive with startPending := true } }
         (t.drive.state, t.drive.startPending, t.drive.refused)) = (.off, true, .none)
      ∧ (let t := repeatCheck { dockedIn .bulk none with
           drive := { (motor .off .off).drive with startPending := true } }
         (t.drive.startPending, t.drive.refused)) = (false, .docked) := by decide

/-- R49: 5 ms at 30 and 5 ms at 45 are a mean of 37. -/
theorem test_driven_speed :
    (after (.governorStep 9000 0) { granted (motor .spinup .driving) with
        drive := { (motor .spinup .driving).drive with rampRate := 45, driven := 375, drivenMs := 10 } }).map
        (fun t => (t.drive.speed, t.drive.driven, t.drive.drivenMs)) = some (some 37, 0, 0) := by decide

/-- R86, R88: a change of class to BLOCKED after three attempts ends the episode; a change out of BLOCKED ends the
wait. -/
theorem test_class_changes :
    (let t := countedStep 131 { motor .run .driving with
        load := { LoadMon.reset with cls := .restricted, block := 39, attempts := 3 } }
     (t.load.phase, t.signals, hasEvent .blockage t)) = (.none, [.stop .blocked], true)
      ∧ (countedStep 105 { motor .run .driving with load := { LoadMon.reset with
            cls := .blocked, release := 29, attempts := 2, phase := .wait, timer := some 9 } }).load
          = { LoadMon.reset with cls := .clear } := by decide

/-! ## The table's work -/

/-- HEAD with an outstanding offer to node 1. -/
def offered : Slot :=
  { Slot.empty with
    request := 1000, floor := 500, yielding := true, members := [1], concerned := [1], settling := true
    offer := some 1000, held := 1000, offerDl := some 9 }

/-- The line with that offer. -/
def offering : State :=
  { lined with
    arb := { lined.arb with head := offered }
    line := { lined.line with
      await := some (.cap 1), nodes := [{ node with pending := some ⟨⟨20, 2, false⟩, 5⟩, seq := 5 }] } }

/-- R32, R36, R125: the ACK makes the offer the grant, and TPWR becomes FULL. -/
theorem test_offer_settles :
    (let t := reportAck 1 offering
     (t.arb.head.grant, t.arb.head.offer, t.arb.head.settling, t.signals))
        = (1000, none, false, [.recompute])
      ∧ (after (.ack 1 5 20) offering).map (fun t => (t.arb.head.grant, t.line.tpwr)) = some (1000, .full)
      ∧ (offered.depart 1).offer = none
      ∧ (let t := powerRule { offering with line := { offering.line with tpwr := .full } }
         (t.line.tpwr, t.arb.cause, t.arb.head.offer, t.line.nodes.map (·.pending)))
          = (.signal, .power, none, [none])
      ∧ (let t := handTools { offering with arb := { offering.arb with head := { offered with news := true } } }
         (t.line.queue, t.arb.head.news)) = ([.cap 1 ⟨20, 2, false⟩ none], false)
      ∧ nodeAt lined node.addr = some node := by decide

/-- R29, R31, R35: the starved case, a decrease that its node settles, and an offer that the target has left. -/
theorem test_recompute :
    ((Arb.fresh 500).recompute 400 true false).starved = true
      ∧ (let b := ({ Arb.fresh 300 with head := { offered with
              offer := none, settling := false, concerned := [], held := 0, grant := 1000, request := 600
              floor := 0 } } : Arb).recompute 15000 true false
         (b.head.grant, b.head.held, b.head.settling, b.head.settleDl, b.head.concerned))
          = (600, 1000, true, some 20, [1])
      ∧ (let b := ({ Arb.fresh 300 with aux := { offered with request := 0, floor := 0 } } : Arb).recompute
            15000 false true
         (b.aux.target, b.aux.offer, b.aux.held)) = (0, some 0, 1000)
      ∧ (let b := ({ Arb.fresh 300 with head := { offered with
              offer := none, settling := false, concerned := [], held := 0 } } : Arb).recompute 15000 false true
         (b.head.offer, b.head.offerDl, b.head.grant)) = (some 1000, some 20, 0) := by decide

/-- R27, R122: membership with its claim; a node that leaves for no slot stays concerned, one that moves takes its
grant along. -/
theorem test_membership :
    (let t := refreshTools { lined with line := { lined.line with floor := .carpet } }
     (t.arb.head.members, t.arb.head.request, t.line.floor, t.signals)) = ([1], 1000, .hard, [.recompute])
      ∧ (let t := refreshTools { lined with
            arb := { lined.arb with head := { offered with members := [3] } }
            line := { lined.line with nodes := [node, { node with addr := 3, serial := 5, applied := .none }] } }
         (t.line.queue, t.arb.head.members)) = ([.cap 3 ⟨0, 2, false⟩ none], [1])
      ∧ (let a : Arb := { Arb.fresh 300 with head := { offered with offer := none, grant := 1000 } }
         let b := a.reseatBrushes (some 2) none [1, 2] true
         (b.head.members, b.head.held, b.head.concerned, b.head.settleDl)) = ([2], 1000, [1], some 20)
      ∧ (let a : Arb := { Arb.fresh 300 with head := { offered with offer := none, grant := 1000 } }
         let b := a.reseatBrushes (some 2) (some 1) [1, 2] true
         (b.head.grant, b.head.held, b.aux.members, b.aux.grant, b.aux.concerned)) = (0, 0, [1], 1000, [1]) := by
  decide

/-! ## Records in use -/

/-- The table with a record of the node's serial, which is no mini head. -/
def known : ToolTable :=
  { ToolTable.reset with
    slots := ToolTable.reset.slots.set 3 (some { defaultRecord 77 [0x14] with kind := .miniHead, brush := 700 })
    order := [3] }

/-- Eight records, the least recent of them not pinned. -/
def crowded : ToolTable :=
  { ToolTable.reset with
    slots := (Vector.replicate 8 (some { defaultRecord 1 [] with pinned := true })).set 2
      (some (defaultRecord 9 [])), order := [0, 1, 3, 4, 5, 6, 7, 2] }

/-- R130, R135 to R137: a hit with another kind, the rows of the placement, and a record dropped under its node. -/
theorem test_records_in_use :
    (after (.status 1 0 1 false false false) { arriving with tools := known }).map
        (fun t => (nodeAt t 1).map (fun m => (m.applied, m.mismatch))) = some (some (.slot 3, true))
      ∧ (after (.status 1 0 1 false false false) { arriving with tools := known }).map
          (fun t => (t.arb.head.request, hasEvent .toolMiss t)) = some (700, false)
      ∧ (known.place 77).map (fun p => (p.slot, p.row)) = some (3, 1)
      ∧ (crowded.place 77).map (fun p => (p.slot, p.row, p.evict)) = some (2, 3, true)
      ∧ (let s := { lined with tools := known, line := { lined.line with
              nodes := [{ node with applied := .slot 3, jam := true }] } }
         (after (.toolDrop 1 77) s).map (fun t => (t.tools.slots[3], t.tools.miss, (nodeAt t 1).map (·.jam)))
            = some (none, [77], some true)
          ∧ nodeLaw s ∧ s.serves) := by decide

/-- R134: the nozzle source, its record loaded anew, delivers its figures. -/
theorem test_nozzle :
    (let s := { lined with line := { lined.line with nodes := [{ node with descs := [0x14, 0x41] }] } }
     (deriveNozzle s).tools.nozzle = some 1
      ∧ (after (.toolLoad 1 fields) { s with tools := { s.tools with nozzle := some 1 } }).map
          (fun t => (t.gov.factor, t.gov.curve, (nodeAt t 1).map (·.mismatch)))
          = some (90, ⟨900, 1000, 1100, 1200⟩, some true)) := by decide

/-! ## Soft reset, selections and frames -/

/-- R164, R172, R80, R41: the soft reset of a docked part. -/
theorem test_docked_soft_reset :
    let s := { dockedIn .bulk none with
      dock := { (dockedIn .bulk none).dock with identTaken := true, csw := true, debounceMs := 250 }
      evac := { Evac.reset with state := .running }
      gov := { idle.gov with stack := [⟨2, .base⟩, ⟨0, .host⟩], grant := 9 }
      host := { idle.host with resetDue := true } }
    stackLaw s ∧ (after .softReset s).map
          (fun t => (t.dock.state, t.dock.debounce, t.dock.csw, t.dock.exch.map (·.req)))
        = some (.attachWait, some 250, false, some .halt)
      ∧ (after .softReset s).map (fun t => (t.evac.outcome, t.gov.stack, t.gov.grant, t.arb.reserve.grant))
        = some (.reset, [⟨2, .base⟩], 0, 300) := by decide

/-- R150: the figures of a selection, with a taper target as resume phase. -/
theorem test_selected :
    (let s := { dockedIn .negotiate (some (sent .hello .offers)) with
        dock := { (dockedIn .negotiate (some (sent .hello .offers))).dock with
          offers := [⟨30000, 1000, false⟩], resume := some .taper, taper := some 437 } }
     (selectedCurrent s ⟨30000, 1000, false⟩, selectedInput s ⟨30000, 1000, false⟩, (selectOffer s).dock.want,
        (selectOffer s).dock.dueCharge)) = (425, 350, 425, some (.chargeReq 1 350))
      ∧ selectedInput idle ⟨30000, 800, false⟩ = 800 ∧ selectedInput idle ⟨30000, 1000, false⟩ = 825 := by
  decide +kernel

/-- R163: the causes as places of R160's table. -/
theorem test_fault_codes :
    [ChargeFault.thermal, .inputOv, .totalTimeout, .prechargeTimeout, .cellOv].map ChargeFault.code
        = [some 0, some 1, some 2, some 3, some 4] ∧ ChargeFault.none.code = none
      ∧ stateCause { (dockedIn .fault none).dock with lastFault := .inputOv } = some 1 := by decide

/-- 12.7: a frame of each shape, the kinds and lengths of no frame, and the kind and tag of an OVERRUN. -/
theorem test_catalogue :
    frameArrives 0x43 9 [0x0C] bulk = serve 0x43 9 serveForceRecover bulk
      ∧ (frameArrives 0x43 9 [0] idle).host.replies.map (·.body) = [some ⟨3, []⟩]
      ∧ (frameArrives 0x07 9 [] idle).host.replies.map (·.body) = [some ⟨2, []⟩]
      ∧ (frameArrives 0x11 9 [1] idle).host.replies.map (·.body) = [some ⟨3, []⟩]
      ∧ (frameArrives 0x04 9 [1] idle).host.replies.map (·.body) = [some ⟨3, []⟩]
      ∧ (∀ row ∈ catalogueLengths, row.1 ≠ 0x07) ∧ 1 ∉ [22]
      ∧ (∀ row ∈ catalogue, row.kind ∈ catalogueLengths.map (·.1))
      ∧ requestOf (.binReset 5) = some ⟨0x32, 5⟩
      ∧ (after (.binReset 5) { idle with host := { idle.host with
            requests := List.replicate 4 ⟨1, 1⟩ } }).map (fun t => t.host.replies.map (fun r => (r.kind, r.tag)))
          = some [(0xB2, 5)] := by decide

/-- R186: a state in which every condition is outstanding. -/
theorem test_outstanding :
    outstanding { offering with
      gov := { idle.gov with ramping := true }
      dock := { idle.dock with exch := some (sent .hello .first) }
      line := { offering.line with
        nodes := [{ node with state := .assigning, pending := some ⟨⟨1, 2, false⟩, 1⟩ }] } }
      = ⟨true, true, true, true, true⟩
      ∧ (outstanding { idle with line := { idle.line with lost := some (.cap 1 ⟨1, 2, false⟩ none) } }).cap
        = true := by decide

/-! ## Frames and notices taken again -/

/-- R114, R117: a POLL that is due replaces an unsent one, which was missed; the third miss removes the entry. -/
theorem test_poll_replaced :
    let s := { lined with line := { lined.line with queue := [.poll 1] } }
    queued (.poll 1) s = true
      ∧ (after (.pollTimerExpiry 1) s).map (fun t => (t.line.queue, (nodeAt t 1).map (fun m => (m.missed, m.state))))
          = some ([.poll 1], some (1, .silent))
      ∧ (after (.pollTimerExpiry 1) { lined with line := { lined.line with lost := some (.poll 1) } }).map
          (fun t => (t.line.queue, t.line.lost, (nodeAt t 1).map (·.missed))) = some ([.poll 1], none, some 1)
      ∧ (after (.pollTimerExpiry 1)
          { s with line := { s.line with nodes := [{ node with missed := 2 }] } }).map
          (fun t => (t.line.nodes, t.line.queue, t.line.quarantine.map (·.addr))) = some ([], [], [1]) := by decide

/-- R124: a CAP sent again keeps its number. -/
theorem test_cap_again :
    (after .toolMasterSend { lined with line := { lined.line with
          idle := 8, queue := [.cap 1 ⟨20, 2, false⟩ (some 9)]
          nodes := [{ node with seq := 9, pending := some ⟨⟨20, 2, false⟩, 9⟩ }] } }).map
        (fun t => (t.line.wire, (nodeAt t 1).map (·.seq))) = some (some (.cap 1 ⟨20, 2, false⟩ (some 9)), some 9) := by
  decide

/-- R115: a new entry stands in address order. -/
theorem test_announce_in_order :
    let s := { lined with line := { lined.line with nodes := [{ node with addr := 2 }] } }
    nodeLaw s ∧ (after (.announce 15 88 [0x42]) s).map (fun t => t.line.nodes.map (·.addr)) = some [1, 2] := by
  decide

/-- R155: in TAPER at 4,200 mV the currents follow the lowered target. -/
theorem test_taper_current :
    (let t := chargeCheck 29000 (packed 3700 4200 25 { bulk with dock := { bulk.dock with
        state := .taper, taper := some 500 } })
     (t.dock.taper, t.dock.want, t.dock.iChg)) = (some 450, 450, 450) := by decide

/-- R158: an EVAC_STATUS in COARSE is taken and shows that the dock talks; one that R194 discards is not. -/
theorem test_evac_status_in_coarse :
    let s := { dockedIn .coarse none with evac := { Evac.reset with state := .running, timer := some 5 } }
    (after (.evacStatus 0 0) s).map (fun t => (t.dock.state, t.dock.csw, t.evac.confirmed))
        = some (.identify, false, true)
      ∧ (after (.evacStatus 1 0) s).map (fun t => (t.dock.state, t.evac.outcome)) = some (.identify, .done)
      ∧ (after (.evacStatus 2 4) s).map (fun t => (t.dock.state, t.evac.state)) = some (.coarse, .running) := by
  decide

/-- R99: the first window above a level leaves it. -/
theorem test_first_window_above :
    classify 50 { Dirt.reset with level := 1, fall := 4 }
        = { Dirt.reset with level := 1, rise := 1, cand := 2 }
      ∧ classify 19 { Dirt.reset with rise := 1, cand := 1 } = Dirt.reset := by decide

/-! ## Clauses at their boundaries -/

/-- R96: an impact in progress when a window was discarded is not counted. -/
theorem test_crossed_impact :
    (after (.impactEnd ⟨700, true⟩) { idle with dirt := { Dirt.reset with window := some ⟨50, 3, 5⟩ } }).map
        (·.dirt.window) = some (some ⟨50, 3, 5⟩) := by decide

/-- R158: 300 mA below 3,000 mV, also where the cold halves I_max in use to 250 mA. -/
theorem test_coarse_target :
    let s := { dockedIn .coarse none with dock := { (dockedIn .coarse none).dock with csw := true, iMax := 500 } }
    (let t := chargeCheck 29000 (packed 2999 3700 5 s)
     (t.dock.iTgt, t.dock.iChg)) = (250, 300)
      ∧ (let t := chargeCheck 29000 (packed 3000 3700 5 s)
         (t.dock.iTgt, t.dock.iChg)) = (250, 250) := by decide

/-- R66: a new top hands its brush level on, to a node that declares a brush; the same top hands on nothing. -/
theorem test_brush_handed :
    (after (.modeSet 1 0) lined).map (fun t => (t.line.brush, t.line.queue.length))
        = some (lined.gov.profiles[0].brush, 1)
      ∧ (after (.modeSet 1 1) lined).map (·.line.queue) = some []
      ∧ (after (.modePush 1 2) lined).map (fun t => (t.line.brush, t.line.queue.length)) = some (3, 1)
      ∧ (after (.modePop 1) { lined with gov := { lined.gov with stack := [⟨1, .base⟩, ⟨2, .host⟩] } }).map
          (fun t => (t.line.brush, t.line.queue.length)) = some (2, 1)
      ∧ declaresBrush lined node = true ∧ lined.serves ∧ lined.quiet := by decide

/-- R107: changed thresholds restart the counters and leave the level; a moved bin_pct is delivered. -/
theorem test_dirt_settings :
    let s := { idle with dirt := { Dirt.reset with level := 2, rise := 1, cand := 3, fall := 0, bin := 90000 } }
    let u := (serveDirtConfig (some ⟨600, 21, 50, 120, 100000, 90⟩) s).state
    (u.dirt.level, u.dirt.rise, u.dirt.cand, u.dirt.full, u.signals) = (2, 0, 0, true, [.update .binPct 90])
      ∧ hasEvent .binFull u = true := by decide

/-- R143, R51, R52: a debounce that completes in ALIGN or SPINUP. -/
theorem test_debounce_in_a_start :
    (after (.attachDebounceDone .mid) (settling .align)).map
        (fun t => (t.drive.state, t.drive.stopCause, t.dock.state)) = some (.off, .docked, .identify)
      ∧ (after (.attachDebounceDone .mid) (settling .spinup)).map
          (fun t => (t.drive.state, t.drive.stopCause, t.dock.state)) = some (.stopping, .docked, .attachWait) := by
  decide

/-- R146, R147: the fifth collision of the third attempt. -/
theorem test_last_collision :
    (after .dockCollision (dockedIn .identify (some { sent .hello .first with
          send := .sending, collisions := 4, attempts := 3 }))).map (fun t => (t.dock.state, t.dock.csw))
        = some (.coarse, true) := by decide

/-- R153: the pause for TEMP from IDENTIFY, with its HELLO cancelled. -/
theorem test_identify_pauses :
    (let t := chargeCheck 29000 (packed 3700 3700 46 (dockedIn .identify (some (sent .hello .first))))
     (t.dock.state, t.dock.pause, t.dock.exch)) = (.paused, .temp, none) := by decide

/-- R161, R159, R148: ENABLE and RENEGOTIATE under a pause order, and the HALT of DISABLE. -/
theorem test_forced_under_a_pause :
    let paused := fun (s : State) => { s with
      watch := { s.watch with pauseOrder := true }, dock := { s.dock with identTaken := true } }
    (after (.chargeForceEnable 1) (paused (dockedIn .disabled none))).map (fun t => (t.dock.state, t.dock.pause))
        = some (.paused, .watch)
      ∧ (after (.chargeForceRenegotiate 1) (paused bulk)).map (fun t => (t.dock.state, t.dock.exch.map (·.req)))
          = some (.paused, some .halt)
      ∧ (after (.chargeForceDisable 1) (paused (dockedIn .negotiate (some (sent (.chargeReq 1 825) .first))))).map
          (fun t => (t.dock.state, t.dock.exch.map (·.req), t.dock.dueHalt)) = some (.disabled, some .halt, false)
      ∧ (after (.chargeForceDisable 1) (paused (dockedIn .bulk (some (sent (.evacReq 8) .first))))).map
          (fun t => (t.dock.exch.map (·.req), t.dock.dueHalt)) = some (some (.evacReq 8), true) := by decide

/-! ## A state in which the laws hold, and a step from it -/

/-- Two nodes, one of them on a record of the table. -/
def laws : State :=
  { lined with
    pending := [.pollTimerExpiry 1]
    line := { lined.line with nodes := [node, { node with addr := 2, serial := 88 }] } }

theorem test_laws :
    stackLaw laws ∧ powerLaw laws ∧ gaugeLaw laws ∧ binLaw laws ∧ switchLaw laws ∧ tripLaw laws
      ∧ dirtLaw laws ∧ evacLaw laws ∧ watchLaw laws ∧ resultLaw laws ∧ queueLaw laws ∧ nodeLaw laws := by
  decide

theorem test_tableLaw : tableLaw laws := by
  have none : ∀ i : Fin 8, laws.tools.slots[i] = none := by decide
  refine ⟨fun i j r q h => ?_, fun i r h => ?_, by decide, by decide, fun n hn i h => ?_⟩
  · simp [none i] at h
  · simp [none i] at h
  · have : ∀ n ∈ laws.line.nodes, ∀ i : Fin 8, n.applied ≠ .slot i := by decide
    exact absurd h (this n hn i)

theorem test_laws_step :
    ∃ t, step laws = .next t ∧ t.pending = [] ∧ t.line.queue = [.poll 1] := ⟨_, rfl, by decide⟩

end Sys2Proof.Tests
end

section
/-! Suction profiles and the mode stack (Chapter 4): PROFILE_LOCK and MODE_POP. First a layer of rules: what a queued
CAP and a brush level handed over leave alone, what a new stack and each request on it answer, and that the profile
table outlives a soft reset. -/

namespace Sys2Proof.Machine

/-! ## Queued CAPs and the brush level handed over (R114, R123) -/

/-- A frame that becomes due is a matter of the transmit queue alone. -/
theorem putFrame_writes (f : TxFrame) (s : State) :
    ∃ q w, putFrame f s = { s with line := { s.line with queue := q, lost := w } } := by
  unfold putFrame
  split
  · exact ⟨s.line.queue, s.line.lost, rfl⟩
  · exact ⟨_, _, rfl⟩

theorem queueCap_writes (a : Addr) (s : State) :
    ∃ q w, queueCap a s = { s with line := { s.line with queue := q, lost := w } } := by
  unfold queueCap
  split
  · exact putFrame_writes _ s
  · exact ⟨s.line.queue, s.line.lost, rfl⟩

theorem queueCaps_writes (l : List Addr) (s : State) :
    ∃ q w, queueCaps l s = { s with line := { s.line with queue := q, lost := w } } := by
  induction l generalizing s with
  | nil => exact ⟨s.line.queue, s.line.lost, rfl⟩
  | cons a l ih =>
    obtain ⟨q, w, hl⟩ := ih (queueCap a s)
    obtain ⟨_, _, ha⟩ := queueCap_writes a s
    exact ⟨q, w, hl.trans (by rw [ha])⟩

/-- A brush level handed over changes the level held and the transmit queue. -/
theorem handBrush_writes (level : Nat) (s : State) :
    ∃ q w, handBrush level s = { s with line := { s.line with brush := level, queue := q, lost := w } } :=
  queueCaps_writes _ { s with line := { s.line with brush := level } }

/-- A frame that becomes due on a line that is not silent stands in the queue (R114, R126). -/
theorem mem_putFrame (f : TxFrame) (s : State) (hp : s.line.tpwr ≠ .off) :
    f ∈ (putFrame f s).line.queue := by
  simp [putFrame, hp]

/-- A frame that becomes due replaces none of another kind or address (R114). -/
theorem mem_putFrame_of_mem {f g : TxFrame} {s : State} (hg : g ∈ s.line.queue)
    (hne : g.sameSlot f = false) : g ∈ (putFrame f s).line.queue := by
  unfold putFrame
  split
  · exact hg
  · simp [hg, hne]

/-- The node's CAP stands in the queue as soon as its address is queued (R123). -/
theorem mem_queueCap (a : Addr) (n : Node) (s : State) (hp : s.line.tpwr ≠ .off)
    (hn : nodeAt s a = some n) : .cap a (capBody s n) none ∈ (queueCap a s).line.queue := by
  simp only [queueCap, hn]
  exact mem_putFrame _ s hp

/-- A CAP in the queue stays there when one for another address is queued. -/
theorem mem_queueCap_of_ne {a b : Addr} {body : CapBody} {s : State} (hab : a ≠ b)
    (h : .cap a body none ∈ s.line.queue) : .cap a body none ∈ (queueCap b s).line.queue := by
  unfold queueCap
  split
  · exact mem_putFrame_of_mem h (by simp [TxFrame.sameSlot, TxFrame.addr, hab])
  · exact h

/-- After CAPs for a list of addresses, the CAP of each node on the list stands in the queue, and so does one that
stood there before. -/
theorem mem_queueCaps (l : List Addr) (a : Addr) (n : Node) (s : State) (hp : s.line.tpwr ≠ .off)
    (hn : nodeAt s a = some n) (h : a ∈ l ∨ .cap a (capBody s n) none ∈ s.line.queue) :
    .cap a (capBody s n) none ∈ (queueCaps l s).line.queue := by
  induction l generalizing s with
  | nil => simpa [queueCaps] using h
  | cons b l ih =>
    obtain ⟨q, w, hw⟩ := queueCap_writes b s
    have hbody : capBody (queueCap b s) n = capBody s n := by rw [hw]; rfl
    have hnext : a ∈ l ∨ .cap a (capBody s n) none ∈ (queueCap b s).line.queue := by
      by_cases hab : a = b
      · exact .inr (hab ▸ mem_queueCap a n s hp hn)
      · exact h.imp (fun ha => (List.mem_cons.mp ha).resolve_left hab) (mem_queueCap_of_ne hab)
    rw [← hbody] at hnext ⊢
    exact ih (queueCap b s) (by rw [hw]; exact hp) (by rw [hw]; exact hn) hnext

/-- R123: the level is held, and every node that declares a brush has its CAP queued. -/
theorem brushHanded_handBrush (level : Nat) (s : State) : brushHanded level s (handBrush level s) := by
  obtain ⟨q, w, hw⟩ := handBrush_writes level s
  have hbody (n : Node) :
      capBody (handBrush level s) n = capBody { s with line := { s.line with brush := level } } n := by
    rw [hw]; rfl
  refine ⟨by rw [hw], by rw [hw], fun hp a n hn hd => ?_⟩
  have hlisted : a ∈ (s.line.nodes.filter (declaresBrush s)).map (·.addr) :=
    List.mem_map.mpr ⟨n, List.mem_filter.mpr ⟨List.mem_of_find?_eq_some hn, hd⟩,
      by simpa using List.find?_some hn⟩
  rw [hbody]
  exact mem_queueCaps _ a n _ hp hn (.inl hlisted)

/-! ## A new mode stack (R66) -/

/-- A new stack changes the stack and, through the brush level, the tool line. -/
theorem setStack_writes (st : List StackEntry) (s : State) :
    ∃ l, setStack st s = { s with gov := { s.gov with stack := st }, line := l } := by
  unfold setStack
  dsimp only
  split
  · exact ⟨s.line, rfl⟩
  · obtain ⟨q, w, hw⟩ := handBrush_writes (activeProfile { s.gov with stack := st }).brush
      { s with gov := { s.gov with stack := st } }
    exact ⟨_, hw⟩

@[simp] theorem setStack_gov (st : List StackEntry) (s : State) :
    (setStack st s).gov = { s.gov with stack := st } := by
  obtain ⟨l, hl⟩ := setStack_writes st s
  rw [hl]

@[simp] theorem setStack_host (st : List StackEntry) (s : State) : (setStack st s).host = s.host := by
  obtain ⟨l, hl⟩ := setStack_writes st s
  rw [hl]

@[simp] theorem setStack_signals (st : List StackEntry) (s : State) :
    (setStack st s).signals = s.signals := by
  obtain ⟨l, hl⟩ := setStack_writes st s
  rw [hl]

/-- With the same active profile the tool line is told nothing (R66). -/
theorem setStack_line_of_same_active {st : List StackEntry} {s : State}
    (h : activeIndex { s.gov with stack := st } = activeIndex s.gov) : (setStack st s).line = s.line := by
  simp [setStack, h]

/-- A new active profile hands its brush level to the tool line (R66, R123). -/
theorem setStack_brushHanded {st : List StackEntry} {s : State}
    (h : activeIndex { s.gov with stack := st } ≠ activeIndex s.gov) :
    brushHanded (activeProfile { s.gov with stack := st }).brush s (setStack st s) := by
  unfold setStack
  dsimp only
  rw [if_neg h]
  exact brushHanded_handBrush _ { s with gov := { s.gov with stack := st } }

/-- The entry on top gives the active profile (R66). -/
theorem activeIndex_of_append {g : Gov} {l : List StackEntry} {e : StackEntry} (h : g.stack = l ++ [e]) :
    activeIndex g = e.profile := by
  simp [activeIndex, h]

/-- A stack with an origin on top has an entry of that origin above the rest. -/
theorem stack_eq_of_topOrigin {g : Gov} {o : Origin} (h : topOrigin g = some o) :
    ∃ e, g.stack = g.stack.dropLast ++ [e] ∧ e.origin = o := by
  obtain ⟨e, he, ho⟩ := Option.map_eq_some_iff.mp h
  exact ⟨e, (List.dropLast_append_getLast? e he).symm, ho⟩

/-! ## The highest HOST entry (R69) -/

theorem dropFirstHost_append {l : List StackEntry} {h : StackEntry} (below : List StackEntry)
    (hl : ∀ e ∈ l, e.origin ≠ .host) (hh : h.origin = .host) :
    dropFirstHost (l ++ h :: below) = l ++ below := by
  induction l with
  | nil => simp [dropFirstHost, hh]
  | cons e l ih =>
    obtain ⟨he, hl⟩ := List.forall_mem_cons.mp hl
    simp [dropFirstHost, he, ih hl]

/-- The highest HOST entry goes, and every other entry stays in its place (R69). -/
theorem dropHost_append (pre : List StackEntry) {h : StackEntry} {post : List StackEntry}
    (hh : h.origin = .host) (hpost : ∀ e ∈ post, e.origin ≠ .host) :
    dropHost (pre ++ h :: post) = pre ++ post := by
  have hrev : (pre ++ h :: post).reverse = post.reverse ++ h :: pre.reverse := by simp
  have habove : ∀ e ∈ post.reverse, e.origin ≠ .host := fun e he => hpost e (List.mem_reverse.mp he)
  rw [dropHost, hrev, dropFirstHost_append _ habove hh]
  simp

theorem hasHost_eq_false_iff (st : List StackEntry) :
    hasHost st = false ↔ ∀ e ∈ st, e.origin ≠ .host := by
  simp [hasHost]

/-! ## Requests on profiles and the stack (R63, R64, R67 to R69) -/

/-- A request that leaves no hand-over and meets no FENCE ends with its reply (R184, R185). -/
theorem ask_of_quiet (kind tag : Byte) (f : State → Answer) (s : State) (hs : s.serves)
    (hq : (f s).state.quiet) :
    ask kind tag f s = .next (replied kind tag (f s).status (f s).payload (f s).state) := by
  rw [ask_of_serves kind tag f s hs]
  exact congrArg _ (conclude_of_quiet _ hq)

/-- A request on the stack that is accepted: the new stack, and the reply that lists it. -/
theorem ask_setStack {f : State → Answer} {s : State} {st : List StackEntry} (kind tag : Byte)
    (hs : s.serves) (hq : s.quiet) (hf : f s = accept (setStack st s) (stackPayload st)) :
    ask kind tag f s = .next (replied kind tag .ok (stackPayload st) (setStack st s)) := by
  have hquiet : (f s).state.quiet := by simpa [hf, accept, State.quiet] using hq
  rw [ask_of_quiet kind tag f s hs hquiet, hf]
  rfl

/-- A request that is refused changes nothing but the link (R184). -/
theorem ask_refused {f : State → Answer} {s : State} {st : Status} (kind tag : Byte)
    (hs : s.serves) (hq : s.quiet) (hf : f s = refuse st s) :
    ask kind tag f s = .next (replied kind tag st [] s) := by
  have hquiet : (f s).state.quiet := by rw [hf]; exact hq
  rw [ask_of_quiet kind tag f s hs hquiet, hf]
  rfl

theorem index?_of_lt {n : Nat} {b : Byte} (h : b.toNat < n) : index? n b = some ⟨b.toNat, h⟩ := by
  simp [index?, h]

theorem index?_of_le {n : Nat} {b : Byte} (h : n ≤ b.toNat) : index? n b = none := by
  simp [index?, h]

/-- R64: an index above 15 names no entry. -/
theorem exec_profileLock_of_le (tag i : Byte) {s : State} (hs : s.serves) (hq : s.quiet)
    (h : 16 ≤ i.toNat) : exec (.profileLock tag i) s = .next (replied 0x22 tag .badArg [] s) :=
  ask_refused 0x22 tag hs hq (by simp [serveProfileLock, index?_of_le h])

/-- The profile table with an entry locked (R64). -/
def lockProfile (profiles : Vector Profile 16) (i : Fin 16) : Vector Profile 16 :=
  profiles.set i { profiles[i] with locked := true }

theorem lockProfile_same (profiles : Vector Profile 16) (i : Fin 16) :
    (lockProfile profiles i)[i] = { profiles[i] with locked := true } := by
  simp [lockProfile]

theorem lockProfile_other (profiles : Vector Profile 16) (i j : Fin 16) (h : j.val ≠ i.val) :
    (lockProfile profiles i)[j] = profiles[j] := by
  simpa [lockProfile] using Vector.getElem_set_ne i.isLt j.isLt h.symm

/-- Locking a locked entry is no change. -/
theorem lockProfile_of_locked (profiles : Vector Profile 16) (i : Fin 16)
    (h : profiles[i].locked = true) : lockProfile profiles i = profiles := by
  have hp : { profiles[i] with locked := true } = profiles[i] := by rw [← h]
  rw [lockProfile, hp]
  simp

/-- R64: the entry is locked, and the reply carries it. -/
theorem exec_profileLock_of_lt (tag i : Byte) {s : State} (hs : s.serves) (hq : s.quiet)
    (h : i.toNat < 16) :
    exec (.profileLock tag i) s = .next (replied 0x22 tag .ok
      (profileFields { s.gov.profiles[i.toNat] with locked := true })
      { s with gov := { s.gov with profiles := lockProfile s.gov.profiles ⟨i.toNat, h⟩ } }) := by
  have hserve : serveProfileLock i s = accept
      { s with gov := { s.gov with profiles := lockProfile s.gov.profiles ⟨i.toNat, h⟩ } }
      (profileFields { s.gov.profiles[i.toNat] with locked := true }) := by
    simp [serveProfileLock, index?_of_lt h, lockProfile]
  have hquiet : (serveProfileLock i s).state.quiet := by rw [hserve]; exact hq
  exact (ask_of_quiet 0x22 tag (serveProfileLock i) s hs hquiet).trans (by rw [hserve]; rfl)

/-- R63: a locked entry keeps its values, unless the write is refused before that. -/
theorem exec_profileWrite_of_locked (tag i : Byte) (f : ProfileFields) {s : State} (hs : s.serves)
    (hq : s.quiet) (h : i.toNat < 16) (hlocked : s.gov.profiles[i.toNat].locked = true)
    (he : f.enabled = true) (hsel : f.selectable = true) :
    exec (.profileWrite tag i f) s = .next (replied 0x20 tag .locked [] s) :=
  ask_refused 0x20 tag hs hq (by simp [serveProfileWrite, index?_of_lt h, hlocked, he, hsel])

/-- R67: MODE_SET with a profile that the host may select. -/
theorem exec_modeSet_of_selects (tag i : Byte) {s : State} (hs : s.serves) (hq : s.quiet)
    (h : i.toNat < 16) (hsel : selects s.gov ⟨i.toNat, h⟩ = true) :
    exec (.modeSet tag i) s = .next (replied 0x23 tag .ok
      (stackPayload (setBase ⟨i.toNat, h⟩ s.gov.stack))
      (setStack (setBase ⟨i.toNat, h⟩ s.gov.stack) s)) :=
  ask_setStack 0x23 tag hs hq (by simp [serveModeSet, index?_of_lt h, hsel])

/-- R68: MODE_PUSH with a profile that the host may select, a free place and no CLEAR entry on top. -/
theorem exec_modePush_of_selects (tag i : Byte) {s : State} (hs : s.serves) (hq : s.quiet)
    (h : i.toNat < 16) (hsel : selects s.gov ⟨i.toNat, h⟩ = true)
    (htop : topOrigin s.gov ≠ some .clear) (hroom : s.gov.stack.length < 4) :
    exec (.modePush tag i) s = .next (replied 0x24 tag .ok
      (stackPayload (s.gov.stack ++ [⟨⟨i.toNat, h⟩, .host⟩]))
      (setStack (s.gov.stack ++ [⟨⟨i.toNat, h⟩, .host⟩]) s)) :=
  ask_setStack 0x24 tag hs hq (by
    simp [serveModePush, htop, index?_of_lt h, hsel, Nat.not_le.mpr hroom])

/-- R69: with no HOST entry on the stack MODE_POP answers EMPTY. -/
theorem exec_modePop_of_no_host (tag : Byte) {s : State} (hs : s.serves) (hq : s.quiet)
    (h : ∀ e ∈ s.gov.stack, e.origin ≠ .host) :
    exec (.modePop tag) s = .next (replied 0x25 tag .empty [] s) :=
  ask_refused 0x25 tag hs hq (by simp [serveModePop, (hasHost_eq_false_iff _).mpr h])

/-- R69: MODE_POP takes the highest HOST entry off the stack. -/
theorem exec_modePop_of_host (tag : Byte) {s : State} (hs : s.serves) (hq : s.quiet)
    {pre post : List StackEntry} {h : StackEntry} (hst : s.gov.stack = pre ++ h :: post)
    (hh : h.origin = .host) (hpost : ∀ e ∈ post, e.origin ≠ .host) :
    exec (.modePop tag) s
      = .next (replied 0x25 tag .ok (stackPayload (pre ++ post)) (setStack (pre ++ post) s)) := by
  have hhas : hasHost (pre ++ h :: post) = true := by simp [hasHost, hh]
  exact ask_setStack 0x25 tag hs hq (by
    simp [serveModePop, hst, hhas, dropHost_append pre hh hpost])

/-! ## The profile table at a soft reset (R80) -/

/-- Where the governor's lasting part stands, the profile table does. -/
theorem profiles_of_gov_lasting {s t : State} (h : t.gov.lasting = s.gov.lasting) :
    t.gov.profiles = s.gov.profiles := by
  simpa [Gov.lasting] using congrArg Gov.profiles h

@[simp] theorem queueCaps_profiles (l : List Addr) (s : State) :
    (queueCaps l s).gov.profiles = s.gov.profiles := profiles_of_gov_lasting (by simp)

@[simp] theorem refreshTools_profiles (s : State) :
    (refreshTools s).gov.profiles = s.gov.profiles := by
  have hmembers : (deriveMembers s).gov.profiles = s.gov.profiles := by
    unfold deriveMembers
    dsimp only
    split <;> simp
  have hfloor (u : State) : (deriveFloor u).gov.profiles = u.gov.profiles := by
    unfold deriveFloor
    dsimp only
    split <;> rfl
  have hclaims (u : State) : (deliverClaims u).gov.profiles = u.gov.profiles := by
    unfold deliverClaims
    dsimp only
    split <;> simp
  rw [refreshTools, hclaims, hfloor, hmembers]

@[simp] theorem deriveNozzle_profiles (s : State) :
    (deriveNozzle s).gov.profiles = s.gov.profiles := by
  unfold deriveNozzle
  dsimp only
  split <;> rfl

@[simp] theorem nodeGone_profiles (quiet : Bool) (a : Addr) (s : State) :
    (nodeGone quiet a s).gov.profiles = s.gov.profiles := by
  unfold nodeGone raiseIf
  dsimp only
  repeat' split
  all_goals simp [dropFrames]

@[simp] theorem removeNodes_profiles (quiet : Bool) (s : State) :
    (removeNodes quiet s).gov.profiles = s.gov.profiles := by
  unfold removeNodes
  generalize s.line.nodes.map (·.addr) = l
  induction l generalizing s with
  | nil => rfl
  | cons a l ih => exact (ih _).trans (nodeGone_profiles quiet a s)

@[simp] theorem softLine_profiles (s : State) : (softLine s).gov.profiles = s.gov.profiles := by
  have hreset : (lineReset true s).gov.profiles = s.gov.profiles := by
    unfold lineReset clearTraffic
    dsimp only
    split
    · exact (removeNodes_profiles true _).trans (profiles_of_gov_lasting (by simp))
    · exact removeNodes_profiles true s
  exact hreset

@[simp] theorem softGov_profiles (s : State) : (softGov s).gov.profiles = s.gov.profiles := by
  simp [softGov, collapseStack]

@[simp] theorem softDrive_profiles (s : State) : (softDrive s).gov.profiles = s.gov.profiles :=
  profiles_of_gov_lasting (by unfold softDrive; dsimp only; split <;> simp)

@[simp] theorem softWatch_profiles (s : State) : (softWatch s).gov.profiles = s.gov.profiles :=
  profiles_of_gov_lasting (by simp [softWatch])

/-- R64, R80: the profile table outlives a soft reset. -/
theorem softReset_profiles (s : State) : (softReset s).gov.profiles = s.gov.profiles := by
  have hsettle (u : State) : (settle (askRecompute (trySend u))).gov.profiles = u.gov.profiles :=
    profiles_of_gov_lasting (by simp)
  simp [softReset, hsettle]

theorem exec_softReset_profiles {s : State} (hp : s.powered) (h : s.host.resetDue = true) :
    ∃ t, exec .softReset s = .next t ∧ t.gov.profiles = s.gov.profiles := by
  refine ⟨_, event_of_powered softResetDue s hp, ?_⟩
  calc (conclude (softResetDue s)).gov.profiles
      = (softResetDue s).gov.profiles := profiles_of_gov_lasting (by simp)
    _ = (softReset s).gov.profiles := by rw [softResetDue, if_pos h]
    _ = s.gov.profiles := softReset_profiles s

/-! ## The statements -/

/-- R64: a locked entry refuses a write and is selected like any other. -/
theorem lockedProfile_kept_and_selected (tag i : Byte) {s : State} (hs : s.serves) (hq : s.quiet)
    (h : i.toNat < 16) (hlocked : s.gov.profiles[i.toNat].locked = true) :
    (∀ f : ProfileFields, f.enabled = true → f.selectable = true →
        exec (.profileWrite tag i f) s = .next (replied 0x20 tag .locked [] s))
      ∧ (s.gov.profiles[i.toNat].enabled = true → s.gov.profiles[i.toNat].selectable = true →
          (∀ b, s.gov.stack = [b] → ∃ t, exec (.modeSet tag i) s = .next t
            ∧ (activeIndex t.gov).val = i.toNat)
          ∧ (topOrigin s.gov ≠ some .clear → s.gov.stack.length < 4 →
              ∃ t, exec (.modePush tag i) s = .next t ∧ (activeIndex t.gov).val = i.toNat)) := by
  refine ⟨fun f => exec_profileWrite_of_locked tag i f hs hq h hlocked, fun he hsel => ?_⟩
  have hselects : selects s.gov ⟨i.toNat, h⟩ = true := by simp [selects, he, hsel]
  refine ⟨fun b hb => ⟨_, exec_modeSet_of_selects tag i hs hq h hselects, ?_⟩,
    fun htop hroom => ⟨_, exec_modePush_of_selects tag i hs hq h hselects htop hroom, ?_⟩⟩
  · rw [replied_gov, setStack_gov, hb]
    rfl
  · rw [replied_gov, setStack_gov, activeIndex_of_append rfl]

/-- Settles O45: the lock by its table lemmas, the refusals and the selection by one lemma for each request, the resets
by the profile table's rule. -/
theorem aProfileIsLocked : Obligations.AProfileIsLocked := by
  unfold Obligations.AProfileIsLocked
  intro tag i s hs hq
  refine ⟨exec_profileLock_of_le tag i hs hq, fun h => ⟨⟨_, exec_profileLock_of_lt tag i hs hq h, ?_⟩,
    lockedProfile_kept_and_selected tag i hs hq h⟩, by decide, ?_⟩
  · have hsame : (lockProfile s.gov.profiles ⟨i.toNat, h⟩)[i.toNat]
        = { s.gov.profiles[i.toNat] with locked := true } := lockProfile_same s.gov.profiles ⟨i.toNat, h⟩
    rw [replied_gov]
    exact ⟨hsame, fun j hj => lockProfile_other s.gov.profiles ⟨i.toNat, h⟩ j hj, by rw [hsame],
      lockProfile_of_locked s.gov.profiles ⟨i.toNat, h⟩⟩
  · exact exec_softReset_profiles (by simp [State.powered, hs.1])

/-- At depth 1 the law of R66 leaves the BASE entry alone on the stack. -/
theorem no_host_of_depth_one {s : State} (hlaw : stackLaw s) (hlen : s.gov.stack.length = 1) :
    ∀ e ∈ s.gov.stack, e.origin ≠ .host := by
  obtain ⟨-, -, hbase, -⟩ := hlaw
  obtain ⟨b, hb⟩ := List.length_eq_one_iff.mp hlen
  have : b.origin = .base := by simpa [hb] using hbase
  simp [hb, this]

/-- R69: a HOST entry on top is removed. -/
theorem exec_modePop_of_host_on_top (tag : Byte) {s : State} (hs : s.serves) (hq : s.quiet)
    (htop : topOrigin s.gov = some .host) :
    exec (.modePop tag) s = .next (replied 0x25 tag .ok (stackPayload s.gov.stack.dropLast)
      (setStack s.gov.stack.dropLast s)) := by
  obtain ⟨e, hst, he⟩ := stack_eq_of_topOrigin htop
  simpa using exec_modePop_of_host tag hs hq hst he (List.forall_mem_nil _)

/-- Settles O48: each case of R69 is a stack with a highest HOST entry, or with none. -/
theorem aModePopRemovesAHostEntry : Obligations.AModePopRemovesAHostEntry := by
  unfold Obligations.AModePopRemovesAHostEntry
  intro tag s hs hq hlaw
  refine ⟨fun hlen => exec_modePop_of_no_host tag hs hq (no_host_of_depth_one hlaw hlen),
    fun htop => ⟨_, exec_modePop_of_host_on_top tag hs hq htop, ?_⟩, ?_,
    fun _ => exec_modePop_of_no_host tag hs hq⟩
  · rw [replied_gov, setStack_gov]
    exact ⟨rfl, by simp [replied], setStack_line_of_same_active, setStack_brushHanded⟩
  · intro pre h post c hst hc hh hpost
    have habove : ∀ e ∈ post ++ [c], e.origin ≠ .host :=
      List.forall_mem_append.mpr ⟨hpost, by simp [hc]⟩
    have hafter : activeIndex { s.gov with stack := pre ++ (post ++ [c]) } = c.profile :=
      activeIndex_of_append (l := pre ++ post) (by simp)
    have hbefore : activeIndex s.gov = c.profile :=
      activeIndex_of_append (l := pre ++ h :: post) (by simp [hst])
    have hactive := hafter.trans hbefore.symm
    refine ⟨_, exec_modePop_of_host tag hs hq hst hh habove, ?_⟩
    rw [replied_gov, setStack_gov]
    exact ⟨rfl, hactive, setStack_line_of_same_active hactive, by simp [replied]⟩

end Sys2Proof.Machine
end

section
/-! Events read and masked (Chapter 12): EVENTS_READ and EVENT_MASK. First a layer of rules: that a wake keeps the host
link but for the event set and leaves the part in ACTIVE, so that a request which wakes the part acts as one that finds
it awake; then what each of the two requests answers and what it makes of ATTNn. -/

namespace Sys2Proof.Machine

/-! ## What the release of tool power leaves alone (R113, R118, R126) -/

/-- The Pack Monitor, and the host link but for the event set. -/
def packAndLink (s : State) : Pack × HostLink := (s.pack, s.host.lasting)

theorem packAndLink_eq {s t : State} (hp : t.pack = s.pack) (hh : t.host.lasting = s.host.lasting) :
    packAndLink t = packAndLink s := by
  rw [packAndLink, hp, hh, packAndLink]

@[simp] theorem packAndLink_line (s : State) (l : ToolLine) :
    packAndLink { s with line := l } = packAndLink s := rfl

@[simp] theorem packAndLink_arb (s : State) (a : Arb) :
    packAndLink { s with arb := a } = packAndLink s := rfl

@[simp] theorem deliver_packAndLink (q : Quantity) (v : Half) (s : State) :
    packAndLink (deliver q v s) = packAndLink s := rfl

@[simp] theorem askRecompute_packAndLink (s : State) : packAndLink (askRecompute s) = packAndLink s :=
  packAndLink_eq (by simp) (by simp)

@[simp] theorem raiseIf_packAndLink (c : Bool) (e : Event) (s : State) :
    packAndLink (raiseIf c e s) = packAndLink s :=
  packAndLink_eq (by simp) (by simp)

@[simp] theorem queueCaps_packAndLink (l : List Addr) (s : State) :
    packAndLink (queueCaps l s) = packAndLink s :=
  packAndLink_eq (by simp) (by simp)

@[simp] theorem setTpwr_packAndLink (l : Tpwr) (c : ReleaseCause) (s : State) :
    packAndLink (setTpwr l c s) = packAndLink s :=
  packAndLink_eq (by simp) (by simp)

@[simp] theorem refreshTools_packAndLink (s : State) : packAndLink (refreshTools s) = packAndLink s := by
  have hmembers : packAndLink (deriveMembers s) = packAndLink s := by
    unfold deriveMembers
    dsimp only
    split <;> simp
  have hfloor (u : State) : packAndLink (deriveFloor u) = packAndLink u := by
    unfold deriveFloor
    dsimp only
    split <;> rfl
  have hclaims (u : State) : packAndLink (deliverClaims u) = packAndLink u := by
    unfold deliverClaims
    dsimp only
    split <;> simp
  rw [refreshTools, hclaims, hfloor, hmembers]

@[simp] theorem deriveNozzle_packAndLink (s : State) : packAndLink (deriveNozzle s) = packAndLink s := by
  unfold deriveNozzle
  dsimp only
  split <;> rfl

/-- An entry that leaves the list may raise TOOL_DETACH and writes nothing else of the link (R118). -/
@[simp] theorem nodeGone_packAndLink (quiet : Bool) (a : Addr) (s : State) :
    packAndLink (nodeGone quiet a s) = packAndLink s := by
  have hdrop (u : State) : packAndLink (dropFrames a u) = packAndLink u := rfl
  unfold nodeGone
  dsimp only
  repeat' split
  all_goals simp [hdrop]

@[simp] theorem removeNodes_packAndLink (quiet : Bool) (s : State) :
    packAndLink (removeNodes quiet s) = packAndLink s := by
  unfold removeNodes
  generalize s.line.nodes.map (·.addr) = l
  induction l generalizing s with
  | nil => rfl
  | cons a l ih => exact (ih _).trans (nodeGone_packAndLink quiet a s)

@[simp] theorem lineReset_packAndLink (quiet : Bool) (s : State) :
    packAndLink (lineReset quiet s) = packAndLink s := by
  unfold lineReset clearTraffic
  dsimp only
  split <;> simp

theorem releasePower_packAndLink (s : State) : packAndLink (releasePower s) = packAndLink s := by
  unfold releasePower
  split
  · rfl
  · simp

@[simp] theorem releasePower_pack (s : State) : (releasePower s).pack = s.pack :=
  congrArg (·.1) (releasePower_packAndLink s)

@[simp] theorem releasePower_stopped (s : State) : (releasePower s).host.stopped = s.host.stopped :=
  congrArg (·.2.stopped) (releasePower_packAndLink s)

/-! ## The wake from STANDBY (R19) -/

theorem wake_power {s : State} (h : s.pack.power = .standby) : (wake s).pack.power = .active := by
  rw [wake, if_pos h, releasePower_pack]

theorem wake_stopped (s : State) : (wake s).host.stopped = s.host.stopped := by
  unfold wake
  split
  · rw [releasePower_stopped]
  · rfl

/-- A request whose first byte wakes the part acts as one that finds the part awake. -/
theorem ask_wake (kind tag : Byte) (f : State → Answer) {s : State} (h : s.pack.power = .standby)
    (hs : s.host.stopped = false) : ask kind tag f s = ask kind tag f (wake s) := by
  have hawake := wake_power h
  have harrive : arrive (serve kind tag f) s = arrive (serve kind tag f) (wake s) := by
    simp [arrive, wake_stopped, hs, wake_of_active (wake s) hawake]
  rw [ask, ask, event_of_powered _ s (by simp [State.powered, h]),
    event_of_powered _ (wake s) (by simp [State.powered, hawake]), harrive]

/-! ## The event set and ATTNn (R187) -/

/-- In ACTIVE, ATTNn says whether an unmasked event stands in the set. -/
theorem attnLow_of_active {s : State} (h : s.pack.power = .active) :
    attnLow s = decide (s.host.events &&& ~~~s.host.mask ≠ 0) := by
  rw [attnLow, h, Bool.eq_iff_iff]
  simp

theorem hasEvent_of_no_events (e : Event) {s : State} (h : s.host.events = 0) : hasEvent e s = false := by
  simp [hasEvent, h]

theorem attnLow_of_no_events {s : State} (h : s.host.events = 0) : attnLow s = false := by
  simp [attnLow, h]

/-! ## The two requests (R188) -/

/-- An accepted request that leaves no hand-over and meets no FENCE ends with its reply (R184, R185). -/
theorem ask_accepted {f : State → Answer} {s t : State} {p : List Byte} (kind tag : Byte)
    (hs : s.serves) (hq : t.quiet) (hf : f s = accept t p) :
    ask kind tag f s = .next (replied kind tag .ok p t) := by
  have hquiet : (f s).state.quiet := by rw [hf]; exact hq
  rw [ask_of_quiet kind tag f s hs hquiet, hf]
  rfl

/-- EVENTS_READ answers the set and the mask, and every event leaves the set, masked or not. -/
theorem exec_eventsRead (tag : Byte) {s : State} (hs : s.serves) (hq : s.quiet) :
    exec (.eventsRead tag) s
      = .next (replied 0x02 tag .ok (u32 s.host.events.toNat ++ u32 s.host.mask.toNat)
          { s with host := { s.host with events := 0 } }) :=
  ask_accepted 0x02 tag hs hq rfl

/-- EVENT_MASK without a payload answers the mask in force and the set. -/
theorem exec_eventMask_none (tag : Byte) {s : State} (hs : s.serves) (hq : s.quiet) :
    exec (.eventMask tag none) s
      = .next (replied 0x03 tag .ok (u32 s.host.mask.toNat ++ u32 s.host.events.toNat) s) :=
  ask_accepted 0x03 tag hs hq rfl

/-- EVENT_MASK with a mask takes its bits 0 to 27 and leaves the set as it is. -/
theorem exec_eventMask_some (tag : Byte) (m : Quad) {s : State} (hs : s.serves) (hq : s.quiet) :
    exec (.eventMask tag (some m)) s
      = .next (replied 0x03 tag .ok (u32 (m.toNat % 2 ^ 28) ++ u32 s.host.events.toNat)
          { s with host := { s.host with mask := m.setWidth 28 } }) := by
  refine ask_accepted 0x03 tag hs hq ?_
  rw [serveEventMask, eventBytes, eventBytes, BitVec.toNat_setWidth]

/-- Settles O42: each request by its own lemma, ATTNn by its rule in ACTIVE, and the requests in STANDBY by the wake
that their first byte brings. -/
theorem eventsAreReadAndMasked : Obligations.EventsAreReadAndMasked := by
  unfold Obligations.EventsAreReadAndMasked
  intro tag s
  refine ⟨fun hs hq => ⟨⟨_, exec_eventsRead tag hs hq, rfl, ?_⟩, exec_eventMask_none tag hs hq,
    fun m => ⟨_, exec_eventMask_some tag m hs hq, rfl, rfl, attnLow_of_active hs.1⟩⟩,
    fun hp hst => ⟨ask_wake 0x02 tag serveEventsRead hp hst,
      fun m => ask_wake 0x03 tag (serveEventMask m) hp hst⟩⟩
  refine ⟨fun e => hasEvent_of_no_events e rfl, rfl, ?_, fun e => hasEvent_raise e _⟩
  exact attnLow_of_no_events rfl

end Sys2Proof.Machine
end

section
-- The proofs from here on are elaborated one after another: side by side, those of one long text take more threads
-- than its build has.
set_option Elab.async false

section
/-! What every command and every step keeps. A relation between two states says both what stays as it is, for the
frame of the commands, and which laws of the part carry over (Sys2Proof/Safety.lean). One lemma for each operation of
the model puts its state before and its state after in the relation; the statements about commands and steps are read
off at the end. -/

namespace Sys2Proof.Machine

/-! ## The relation -/

/-- A piece of state is the same in two states. -/
def Kept.same (s t : State) : Kept → Prop
  | .pins => t.pins = s.pins
  | .packSettings => t.pack.count = s.pack.count ∧ t.pack.capacity = s.pack.capacity
      ∧ t.pack.inom = s.pack.inom ∧ t.pack.ocv = s.pack.ocv
  | .profiles => t.gov.profiles = s.gov.profiles
  | .trips => t.drive.trips = s.drive.trips ∧ t.drive.tripCount = s.drive.tripCount
      ∧ t.drive.tripCause = s.drive.tripCause
  | .blockSettings => t.load.blockPct = s.load.blockPct ∧ t.load.blockMs = s.load.blockMs
  | .dirtSettings => t.dirt.large = s.dirt.large ∧ t.dirt.t1 = s.dirt.t1 ∧ t.dirt.t2 = s.dirt.t2
      ∧ t.dirt.t3 = s.dirt.t3 ∧ t.dirt.capacity = s.dirt.capacity ∧ t.dirt.fullPct = s.dirt.fullPct
  | .bin => t.dirt.bin = s.dirt.bin ∧ t.dirt.sat = s.dirt.sat ∧ t.dirt.full = s.dirt.full
  | .records => t.tools.slots = s.tools.slots
  | .chargeSettings => t.dock.iMax = s.dock.iMax ∧ t.dock.iTerm = s.dock.iTerm
      ∧ t.dock.debounceMs = s.dock.debounceMs
  | .disabled => t.dock.disabled = s.dock.disabled
  | .evacSettings => t.evac.pct = s.evac.pct ∧ t.evac.setting = s.evac.setting
  | .mask => t.host.mask = s.host.mask
  | .link => t.host.ready = s.host.ready ∧ t.host.configured = s.host.configured

/-- The laws of the part; the last stands for the host link's queues themselves, which most of its work leaves. -/
inductive Law
  | stack | power | gauge | bin | switch | trip | dirt | evac | watch | result | queue | node | table | queues
deriving DecidableEq

/-- A law holds in a state; the law of the record table stands beside that of the node list. -/
def Law.holds (s : State) : Law → Prop
  | .stack => stackLaw s
  | .power => powerLaw s
  | .gauge => gaugeLaw s
  | .bin => binLaw s
  | .switch => switchLaw s
  | .trip => tripLaw s
  | .dirt => dirtLaw s
  | .evac => evacLaw s
  | .watch => watchLaw s
  | .result => resultLaw s
  | .queue => queueLaw s
  | .node => nodeLaw s
  | .table => nodeLaw s ∧ tableLaw s
  | .queues => True

/-- What the law of the host link's queues looks at. -/
def HostLink.queues (h : HostLink) : List PendingReq × Nat × Bool := (h.requests, h.replies.length, h.stopped)

/-- The second state has the queue of the first, the pieces of state not listed in `K`, and every law of the first that
is not listed in `X`; the host link's queues too, unless they are listed there. -/
structure Keeps (K : List Kept) (X : List Law) (s t : State) : Prop where
  pending : t.pending = s.pending
  queues : .queues ∉ X → t.host.queues = s.host.queues
  same : ∀ k, k ∉ K → k.same s t
  laws : ∀ l, l ∉ X → l.holds s → l.holds t

variable {K : List Kept} {X : List Law} {s t u : State}

theorem Kept.same_refl (s : State) (k : Kept) : k.same s s := by cases k <;> simp [Kept.same]

theorem Kept.same_trans {k : Kept} (h : k.same s t) (h' : k.same t u) : k.same s u := by
  cases k <;> simp_all [Kept.same]

theorem Keeps.refl (s : State) : Keeps K X s s :=
  ⟨rfl, fun _ => rfl, fun k _ => k.same_refl s, fun _ _ h => h⟩

theorem Keeps.trans (h : Keeps K X s t) (h' : Keeps K X t u) : Keeps K X s u :=
  ⟨h'.pending.trans h.pending, fun hq => (h'.queues hq).trans (h.queues hq), fun k hk => Kept.same_trans (h.same k hk) (h'.same k hk),
    fun l hl hs => h'.laws l hl (h.laws l hl hs)⟩

/-- What is kept with every law is kept with fewer. -/
theorem Keeps.weaken (h : Keeps K [] s t) : Keeps K X s t :=
  ⟨h.pending, fun _ => h.queues (by simp), h.same, fun l _ => h.laws l (by simp)⟩

/-- A law left out on the way holds at its end. -/
theorem Keeps.restore {l : Law} (h : Keeps K (l :: X) s t) (hl : l.holds s → l.holds t)
    (hq : Law.queues ≠ l := by decide) : Keeps K X s t :=
  ⟨h.pending, fun hX => h.queues (by simp [hq, hX]), h.same, fun m hm hs => by
    by_cases hml : m = l
    · subst hml; exact hl hs
    · exact h.laws m (by simp [hml, hm]) hs⟩

theorem Keeps.ite {c : Prop} [Decidable c] (ht : c → Keeps K X s t) (hu : ¬ c → Keeps K X s u) :
    Keeps K X s (if c then t else u) := by
  split
  · exact ht ‹_›
  · exact hu ‹_›

/-! ## What the relation looks at -/

/-- The part of a node that the laws look at. -/
def Node.core (n : Node) : Addr × Serial × Bool × Applied := (n.addr, n.serial, n.completed, n.applied)

/-- The part of the state that the frame and the laws look at. -/
def sight (s : State) :=
  ((s.pending, s.pins, s.pack.count, s.pack.capacity, s.pack.inom, s.pack.ocv, s.pack.gauge),
   (s.gov.profiles, s.gov.stack, s.gov.pReq, s.gov.pset),
   (s.drive.trips, s.drive.tripCount, s.drive.tripCause, s.drive.state, s.drive.pset),
   (s.load.blockPct, s.load.blockMs),
   (s.dirt.large, s.dirt.t1, s.dirt.t2, s.dirt.t3, s.dirt.capacity, s.dirt.fullPct, s.dirt.bin, s.dirt.sat,
     s.dirt.full, s.dirt.level, s.dirt.status, s.dirt.window.isSome),
   (s.tools.slots, s.tools.miss, s.line.nodes.map Node.core),
   (s.dock.iMax, s.dock.iTerm, s.dock.debounceMs, s.dock.disabled, s.dock.csw, s.dock.state),
   (s.evac.pct, s.evac.setting, s.evac.state), s.watch,
   (s.host.mask, s.host.ready, s.host.configured, s.host.stopped, s.host.requests, s.host.replies.length))

theorem node_of_core_mem {l m : List Node} (h : m.map Node.core = l.map Node.core) {n : Node} (hn : n ∈ m) :
    ∃ n' ∈ l, n'.core = n.core := by
  have : n.core ∈ l.map Node.core := h ▸ List.mem_map_of_mem hn
  simpa using this

theorem nodeLaw_of_cores (h : t.line.nodes.map Node.core = s.line.nodes.map Node.core) (hs : nodeLaw s) :
    nodeLaw t := by
  have hlen : t.line.nodes.length = s.line.nodes.length := by simpa using congrArg List.length h
  have haddr : t.line.nodes.map (·.addr.toNat) = s.line.nodes.map (·.addr.toNat) := by
    simpa [Function.comp_def, Node.core] using congrArg (List.map (·.1.toNat)) h
  have hserial : t.line.nodes.map (·.serial) = s.line.nodes.map (·.serial) := by
    simpa [Function.comp_def, Node.core] using congrArg (List.map (·.2.1)) h
  unfold nodeLaw
  rw [hlen, haddr, hserial]
  exact hs

theorem tableLaw_of_cores (hslots : t.tools.slots = s.tools.slots) (hmiss : t.tools.miss = s.tools.miss)
    (h : t.line.nodes.map Node.core = s.line.nodes.map Node.core) (hs : tableLaw s) : tableLaw t := by
  obtain ⟨hone, hout, hlen, hnodup, hnodes⟩ := hs
  unfold tableLaw
  rw [hslots, hmiss]
  refine ⟨hone, hout, hlen, hnodup, fun n hn i hi => ?_⟩
  obtain ⟨m, hm, hcore⟩ := node_of_core_mem h hn
  simp only [Node.core, Prod.mk.injEq] at hcore
  obtain ⟨-, hserial, hcomp, happ⟩ := hcore
  simpa [hserial, hcomp] using hnodes m hm i (happ.trans hi)

/-- What is the same to sight keeps everything. -/
theorem Keeps.of_sight (h : sight t = sight s) : Keeps K X s t := by
  simp only [sight, Prod.mk.injEq] at h
  obtain ⟨⟨h1, h2, h3, h4, h5, h6, h7⟩, ⟨g1, g2, g3, g4⟩, ⟨d1, d2, d3, d4, d5⟩, ⟨l1, l2⟩,
    ⟨i1, i2, i3, i4, i5, i6, i7, i8, i9, i10, i11, i12⟩, ⟨t1, t2, t3⟩, ⟨c1, c2, c3, c4, c5, c6⟩,
    ⟨e1, e2, e3⟩, w, ⟨o1, o2, o3, o4, o5, o6⟩⟩ := h
  refine ⟨h1, fun _ => by simp [HostLink.queues, o4, o5, o6], fun k _ => by cases k <;> simp_all [Kept.same], fun l _ hl => ?_⟩
  cases l
  case node => exact nodeLaw_of_cores t3 hl
  case table => exact ⟨nodeLaw_of_cores t3 hl.1, tableLaw_of_cores t1 t2 t3 hl.2⟩
  all_goals simp only [Law.holds, stackLaw, powerLaw, gaugeLaw, binLaw, switchLaw, tripLaw, dirtLaw, evacLaw,
    evacInProgress, watchLaw, resultLaw, queueLaw, h4, h6, h7, g2, g3, g4, d1, d2, d4, d5, i5, i6, i7, i8, i10, i11,
    i12, c5, c6, e3, w, o4, o5, o6] at hl ⊢
  all_goals exact hl

/-- A change before that sight does not see. -/
theorem Keeps.after_sight (h : Keeps K X t u) (hs : sight t = sight s := by rfl) : Keeps K X s u :=
  (Keeps.of_sight hs).trans h

/-- A change after that sight does not see. -/
theorem Keeps.then_sight (h : Keeps K X s t) (hs : sight u = sight t := by rfl) : Keeps K X s u :=
  h.trans (.of_sight hs)

end Sys2Proof.Machine
end

section
namespace Sys2Proof.Machine

variable {K : List Kept} {X : List Law} {s t u : State}

/-! ## Operations that sight does not see: hand-overs, the Arbiter, the transmit queue and the claims -/

theorem sight_ite {c : Prop} [Decidable c] (ht : sight t = sight s) (hu : sight u = sight s) :
    sight (if c then t else u) = sight s := by
  split
  · exact ht
  · exact hu

theorem raise_sight (e : Event) (s : State) : sight (raise e s) = sight s := rfl

theorem raiseIf_sight (c : Bool) (e : Event) (s : State) : sight (raiseIf c e s) = sight s :=
  sight_ite rfl rfl

theorem deliver_sight (q : Quantity) (v : Half) (s : State) : sight (deliver q v s) = sight s := rfl

theorem askRecompute_sight (s : State) : sight (askRecompute s) = sight s := sight_ite rfl rfl

theorem setNode_sight {a : Addr} {f : Node → Node} (hf : ∀ n, (f n).core = n.core) (s : State) :
    sight (setNode a f s) = sight s := by
  have hcores : (setNode a f s).line.nodes.map Node.core = s.line.nodes.map Node.core := by
    simp only [setNode, List.map_map]
    exact List.map_congr_left fun n _ => by simp only [Function.comp_apply]; split <;> simp [hf]
  simp only [sight, hcores]
  rfl

theorem putFrame_sight (f : TxFrame) (s : State) : sight (putFrame f s) = sight s := by
  obtain ⟨q, w, h⟩ := putFrame_writes f s
  rw [h]; rfl

theorem queueCap_sight (a : Addr) (s : State) : sight (queueCap a s) = sight s := by
  obtain ⟨q, w, h⟩ := queueCap_writes a s
  rw [h]; rfl

theorem queueCaps_sight (l : List Addr) (s : State) : sight (queueCaps l s) = sight s := by
  obtain ⟨q, w, h⟩ := queueCaps_writes l s
  rw [h]; rfl

theorem handBrush_sight (level : Nat) (s : State) : sight (handBrush level s) = sight s := by
  obtain ⟨q, w, h⟩ := handBrush_writes level s
  rw [h]; rfl

theorem discardCaps_sight (s : State) : sight (discardCaps s) = sight s := by
  have hcores : (discardCaps s).line.nodes.map Node.core = s.line.nodes.map Node.core := by
    simp [discardCaps, Node.core, Function.comp_def]
  simp only [sight, hcores]
  rfl

theorem forcedRelease_sight (c : ReleaseCause) (s : State) : sight (forcedRelease c s) = sight s :=
  askRecompute_sight _

theorem setTpwr_sight (l : Tpwr) (c : ReleaseCause) (s : State) : sight (setTpwr l c s) = sight s := by
  unfold setTpwr
  refine sight_ite rfl ((askRecompute_sight _).trans ?_)
  have hdiscard : sight (discardCaps { s with line := { s.line with tpwr := l } }) = sight s :=
    discardCaps_sight _
  dsimp only
  repeat' split
  · exact (forcedRelease_sight _ _).trans hdiscard
  · exact hdiscard
  · exact (forcedRelease_sight _ _).trans hdiscard
  · exact hdiscard

theorem powerRule_sight (s : State) : sight (powerRule s) = sight s :=
  sight_ite (setTpwr_sight _ _ _) (sight_ite (setTpwr_sight _ _ _) rfl)

theorem handTools_sight (s : State) : sight (handTools s) = sight s :=
  (powerRule_sight _).trans (queueCaps_sight _ _)

theorem setActive_sight (b : Bool) (s : State) : sight (setActive b s) = sight s :=
  sight_ite rfl (askRecompute_sight _)

theorem reportAck_sight (a : Addr) (s : State) : sight (reportAck a s) = sight s :=
  sight_ite (askRecompute_sight _) rfl

theorem deliverNozzle_sight (s : State) : sight (deliverNozzle s) = sight s := rfl

theorem deriveNozzle_sight (s : State) : sight (deriveNozzle s) = sight s :=
  sight_ite rfl rfl

theorem clearStaleFlags_sight (a : Addr) (s : State) : sight (clearStaleFlags a s) = sight s := by
  refine setNode_sight ?_ s
  intro n
  rfl

theorem deriveMembers_sight (s : State) : sight (deriveMembers s) = sight s :=
  sight_ite rfl ((askRecompute_sight _).trans (queueCaps_sight _ _))

theorem deriveFloor_sight (s : State) : sight (deriveFloor s) = sight s :=
  sight_ite rfl rfl

theorem deliverClaims_sight (s : State) : sight (deliverClaims s) = sight s :=
  sight_ite rfl (askRecompute_sight _)

theorem refreshTools_sight (s : State) : sight (refreshTools s) = sight s :=
  (deliverClaims_sight _).trans ((deriveFloor_sight _).trans (deriveMembers_sight s))

theorem handRecord_sight (a : Addr) (s : State) : sight (handRecord a s) = sight s := by
  have hclear := clearStaleFlags_sight a s
  exact (refreshTools_sight _).trans (sight_ite hclear hclear)

theorem formFence_sight (st : Status) (p : List Byte) (s : State) : sight (formFence st p s) = sight s := by
  simp [sight, formFence]

theorem finish_sight (s : State) : sight (finish s) = sight s := by
  unfold finish
  split
  · rfl
  · exact sight_ite rfl (formFence_sight _ _ _)

theorem clearTraffic_sight (s : State) : sight (clearTraffic s) = sight s := rfl

end Sys2Proof.Machine
end

section
namespace Sys2Proof.Machine

variable {K : List Kept} {X : List Law} {s t u : State}

/-! ## The node list (R115, R118) -/

/-- A change of the tool line matters to the laws of the node list and of the record table alone. -/
theorem Keeps.of_line {l : ToolLine} (hnode : nodeLaw s → nodeLaw { s with line := l })
    (htable : nodeLaw s → tableLaw s → tableLaw { s with line := l }) :
    Keeps K X s { s with line := l } := by
  refine ⟨rfl, fun _ => rfl, fun k _ => by cases k <;> simp [Kept.same], fun m _ h => ?_⟩
  cases m
  case node => exact hnode h
  case table => exact ⟨hnode h.1, htable h.1 h.2⟩
  all_goals exact h

/-- A change of the record table matters to its own law alone. -/
theorem Keeps.of_tools_but_law {x : ToolTable} (hslots : .records ∉ K → x.slots = s.tools.slots) :
    Keeps K (.table :: X) s { s with tools := x } := by
  refine ⟨rfl, fun _ => rfl, fun k hk => ?_, fun m hm h => ?_⟩
  · cases k
    case records => exact hslots hk
    all_goals simp [Kept.same]
  · cases m
    case table => simp at hm
    all_goals exact h

theorem Keeps.of_tools {x : ToolTable} (hslots : .records ∉ K → x.slots = s.tools.slots)
    (htable : nodeLaw s → tableLaw s → tableLaw { s with tools := x }) :
    Keeps K X s { s with tools := x } :=
  (Keeps.of_tools_but_law hslots).restore fun ⟨hn, ht⟩ => ⟨hn, htable hn ht⟩

theorem dropFrames_sight (a : Addr) (s : State) : sight (dropFrames a s) = sight s := rfl

/-- Entries leave the list (R118). -/
theorem keeps_filterNodes (p : Node → Bool) (q : List Quarantined) (s : State) :
    Keeps K X s { s with line := { s.line with nodes := s.line.nodes.filter p, quarantine := q } } := by
  refine .of_line (fun h => ?_) (fun _ h => ?_)
  · obtain ⟨hlen, haddr, hserial⟩ := h
    have hsub : (s.line.nodes.filter p).Sublist s.line.nodes := List.filter_sublist
    exact ⟨hsub.length_le.trans hlen, haddr.sublist (hsub.map _), hserial.sublist (hsub.map _)⟩
  · obtain ⟨hone, hout, hlen, hnodup, hnodes⟩ := h
    exact ⟨hone, hout, hlen, hnodup, fun n hn => hnodes n (List.mem_of_mem_filter hn)⟩

theorem keeps_nodeGone (quiet : Bool) (a : Addr) (s : State) : Keeps K X s (nodeGone quiet a s) := by
  unfold nodeGone
  split
  · exact .refl s
  · refine (keeps_filterNodes (fun m => m.addr != a) (s.line.quarantine ++ [⟨a, 250⟩]) s).trans
      (.of_sight ?_)
    refine sight_ite ?_ (dropFrames_sight _ _)
    have hderived : ∀ u : State, sight (refreshTools (deriveNozzle (askRecompute u))) = sight u := fun u =>
      (refreshTools_sight _).trans ((deriveNozzle_sight _).trans (askRecompute_sight u))
    refine (raiseIf_sight _ _ _).trans ?_
    dsimp only
    split
    · exact (deliver_sight _ _ _).trans (hderived _)
    · exact hderived _

theorem keeps_removeNodes (quiet : Bool) (s : State) : Keeps K X s (removeNodes quiet s) := by
  unfold removeNodes
  generalize s.line.nodes.map (·.addr) = l
  induction l generalizing s with
  | nil => exact .refl s
  | cons a l ih => exact (keeps_nodeGone quiet a s).trans (ih _)

theorem keeps_pollMissed (a : Addr) (s : State) : Keeps K X s (pollMissed a s) := by
  unfold pollMissed
  split
  · exact .refl s
  · exact .ite (fun _ => keeps_nodeGone false a s) fun _ => .of_sight (setNode_sight (by intro n; rfl) s)

theorem keeps_queuePoll (a : Addr) (s : State) : Keeps K X s (queuePoll a s) := by
  have hmissed : Keeps K X s (if queued (.poll a) s then pollMissed a s else s) :=
    .ite (fun _ => keeps_pollMissed a s) fun _ => .refl s
  exact hmissed.trans (.ite (fun _ => .of_sight (putFrame_sight _ _)) fun _ => .refl _)

theorem keeps_lineReset (quiet : Bool) (s : State) : Keeps K X s (lineReset quiet s) := by
  have hpower : Keeps K X s (if s.line.tpwr = .full then setTpwr .signal .power s else s) :=
    .of_sight (sight_ite (setTpwr_sight _ _ _) rfl)
  have hdrive (u : State) : sight { clearTraffic u with line := { (clearTraffic u).line with
      quarantine := [], resetting := some 40, idle := 0 } } = sight u := rfl
  exact (hpower.trans (keeps_removeNodes quiet _)).then_sight (hdrive _)

theorem keeps_holdPower (s : State) : Keeps K X s (holdPower s) := by
  have hpower : Keeps K X s (clearTraffic (setTpwr .off .power s)) :=
    .of_sight ((clearTraffic_sight _).trans (setTpwr_sight _ _ _))
  have hheld (u : State) : sight (deriveFloor { clearTraffic u with line :=
      { (clearTraffic u).line with quarantine := [] } }) = sight u := (deriveFloor_sight _).trans rfl
  exact (hpower.trans (keeps_removeNodes false _)).then_sight (hheld _)

theorem keeps_releasePower (s : State) : Keeps K X s (releasePower s) :=
  .ite (fun _ => .refl s) fun _ => (Keeps.of_sight (setTpwr_sight _ _ _)).trans (keeps_lineReset false _)

theorem keeps_wake (s : State) : Keeps K X s (wake s) :=
  .ite (fun _ => (keeps_releasePower _).after_sight) fun _ => .refl s

/-! ## The node of an address -/

theorem mem_of_nodeAt {a : Addr} {n : Node} (h : nodeAt s a = some n) : n ∈ s.line.nodes ∧ n.addr = a :=
  ⟨List.mem_of_find?_eq_some h, by simpa using List.find?_some h⟩

/-- No two entries have one address (R115). -/
theorem node_unique_of_addr (h : nodeLaw s) {m n : Node} (hm : m ∈ s.line.nodes) (hn : n ∈ s.line.nodes)
    (he : m.addr = n.addr) : m = n := by
  have hinj : (s.line.nodes.map (·.addr.toNat)).Nodup := h.2.1.imp (by intro a b hab; omega)
  exact List.inj_on_of_nodup_map hinj hm hn (by simp [he])

/-- No two entries have one serial (R115). -/
theorem node_unique_of_serial (h : nodeLaw s) {m n : Node} (hm : m ∈ s.line.nodes) (hn : n ∈ s.line.nodes)
    (he : m.serial = n.serial) : m = n :=
  List.inj_on_of_nodup_map h.2.2 hm hn he

theorem mem_setNode {a : Addr} {f : Node → Node} {n : Node} :
    n ∈ (setNode a f s).line.nodes ↔ ∃ m ∈ s.line.nodes, (if m.addr == a then f m else m) = n := by
  simp [setNode]

/-- An entry keeps its address and its serial when it changes (R115). -/
theorem setNode_nodeLaw {a : Addr} {f : Node → Node} (hf : ∀ n, (f n).addr = n.addr ∧ (f n).serial = n.serial)
    (h : nodeLaw s) : nodeLaw (setNode a f s) := by
  have haddr : (setNode a f s).line.nodes.map (·.addr.toNat) = s.line.nodes.map (·.addr.toNat) := by
    simp only [setNode, List.map_map]
    exact List.map_congr_left fun n _ => by simp only [Function.comp_apply]; split <;> simp [hf]
  have hserial : (setNode a f s).line.nodes.map (·.serial) = s.line.nodes.map (·.serial) := by
    simp only [setNode, List.map_map]
    exact List.map_congr_left fun n _ => by simp only [Function.comp_apply]; split <;> simp [hf]
  unfold nodeLaw
  rw [haddr, hserial]
  exact ⟨by simpa [setNode] using h.1, h.2⟩

/-- A node follows a valid record of its own serial, assigned as it is (R130). -/
def follows (slots : Vector (Option ToolRecord) 8) (n : Node) : Prop :=
  ∀ i : Fin 8, n.applied = .slot i → n.completed = true ∧ ∃ r, slots[i] = some r ∧ r.serial = n.serial

theorem setNode_tableLaw {a : Addr} {f : Node → Node} (h : tableLaw s)
    (hf : ∀ n ∈ s.line.nodes, n.addr = a → follows s.tools.slots (f n)) : tableLaw (setNode a f s) := by
  obtain ⟨hone, hout, hlen, hnodup, hnodes⟩ := h
  refine ⟨hone, hout, hlen, hnodup, fun n hn => ?_⟩
  obtain ⟨m, hm, rfl⟩ := mem_setNode.mp hn
  split
  · exact hf m hm (by simpa using ‹(m.addr == a) = true›)
  · exact hnodes m hm

theorem keeps_setNode {a : Addr} {f : Node → Node} (hid : ∀ n, (f n).addr = n.addr ∧ (f n).serial = n.serial)
    (hf : nodeLaw s → tableLaw s → ∀ n ∈ s.line.nodes, n.addr = a → follows s.tools.slots (f n)) :
    Keeps K X s (setNode a f s) :=
  .of_line (setNode_nodeLaw hid) fun hn ht => setNode_tableLaw ht (hf hn ht)

/-! ## The record table (R128 to R137) -/

theorem mem_slotIndices (i : Fin 8) : i ∈ slotIndices := by revert i; decide

theorem holds_iff {x : ToolTable} {serial : Serial} {i : Fin 8} :
    x.holds serial i = true ↔ ∃ r, x.slots[i] = some r ∧ r.serial = serial := by
  unfold ToolTable.holds
  split <;> simp_all

/-- The slot found holds a record of the serial (R130). -/
theorem find_eq_some {x : ToolTable} {serial : Serial} {i : Fin 8} (h : x.find serial = some i) :
    ∃ r, x.slots[i] = some r ∧ r.serial = serial :=
  holds_iff.mp (List.find?_some h)

/-- No slot found: no valid record is of the serial (R130). -/
theorem find_eq_none {x : ToolTable} {serial : Serial} (h : x.find serial = none) (i : Fin 8) (r : ToolRecord)
    (hr : x.slots[i] = some r) : r.serial ≠ serial := fun he =>
  List.find?_eq_none.mp h i (mem_slotIndices i) (holds_iff.mpr ⟨r, hr, he⟩)

theorem addMiss_length {serial : Serial} {l : List Serial} (h : l.length ≤ 4) : (addMiss serial l).length ≤ 4 := by
  unfold addMiss
  split
  · exact h
  · split <;> simp <;> omega

theorem addMiss_nodup {serial : Serial} {l : List Serial} (h : l.Nodup) : (addMiss serial l).Nodup := by
  unfold addMiss
  split
  · exact h
  · have hout : serial ∉ l := by simpa using ‹¬ l.contains serial = true›
    split
    · exact List.nodup_append.mpr ⟨h.sublist (List.tail_sublist l), by simp, by
        rintro a ha b hb rfl; exact hout (List.mem_singleton.mp hb ▸ List.mem_of_mem_tail ha)⟩
    · exact List.nodup_append.mpr ⟨h, by simp, by
        rintro a ha b hb rfl; exact hout (List.mem_singleton.mp hb ▸ ha)⟩

theorem mem_addMiss {a serial : Serial} {l : List Serial} (h : a ∈ addMiss serial l) : a ∈ l ∨ a = serial := by
  unfold addMiss at h
  split at h
  · exact .inl h
  · rcases List.mem_append.mp h with h | h
    · split at h
      · exact .inl (List.mem_of_mem_tail h)
      · exact .inl h
    · exact .inr (List.mem_singleton.mp h)

/-- A miss of a serial that no valid record has (R132). -/
theorem recordMiss_tableLaw {serial : Serial} (ht : tableLaw s)
    (h : ∀ (i : Fin 8) r, s.tools.slots[i] = some r → r.serial ≠ serial) : tableLaw (recordMiss serial s) := by
  obtain ⟨hone, hout, hlen, hnodup, hnodes⟩ := ht
  exact ⟨hone, fun i r hr hmem => (mem_addMiss hmem).elim (hout i r hr) (h i r hr), addMiss_length hlen,
    addMiss_nodup hnodup, hnodes⟩

theorem keeps_recordMiss {serial : Serial}
    (h : ∀ (i : Fin 8) r, s.tools.slots[i] = some r → r.serial ≠ serial) : Keeps K X s (recordMiss serial s) :=
  (Keeps.of_tools_but_law (x := { s.tools with miss := addMiss serial s.tools.miss })
    fun _ => rfl).then_sight.restore fun ⟨hn, ht⟩ => ⟨hn, recordMiss_tableLaw ht h⟩

theorem keeps_applyDefault (a : Addr) (s : State) : Keeps K X s (applyDefault a s) :=
  keeps_setNode (fun _ => ⟨rfl, rfl⟩) fun _ _ n _ _ i hi => by cases hi

/-- A table record is applied to the node of its serial (R130, R136). -/
theorem keeps_applySlot {a : Addr} {i : Fin 8} {r : ToolRecord} (hr : s.tools.slots[i] = some r)
    (h : nodeLaw s → ∀ n ∈ s.line.nodes, n.addr = a → n.completed = true ∧ n.serial = r.serial) :
    Keeps K X s (applySlot a i r s) :=
  keeps_setNode (fun _ => ⟨rfl, rfl⟩) fun hn _ n hmem ha j hj => by
    obtain ⟨hcomp, hserial⟩ := h hn n hmem ha
    cases hj
    exact ⟨hcomp, r, hr, hserial.symm⟩

theorem keeps_lookupRecord {a : Addr} {serial : Serial}
    (h : nodeLaw s → ∀ n ∈ s.line.nodes, n.addr = a → n.completed = true ∧ n.serial = serial) :
    Keeps K X s (lookupRecord a serial s) := by
  unfold lookupRecord
  split
  · rename_i i hfind
    obtain ⟨r, hr, hserial⟩ := find_eq_some hfind
    rw [hr]
    exact (keeps_applySlot (s := { s with tools := { s.tools with order := touch i s.tools.order } }) hr
      (by rw [hserial]; exact h)).after_sight
  · rename_i hfind
    exact (keeps_applyDefault a s).trans (keeps_recordMiss (find_eq_none hfind))

theorem keeps_nodeAnswered (a : Addr) (s : State) : Keeps K X s (nodeAnswered a s) :=
  keeps_setNode (fun _ => ⟨rfl, rfl⟩) fun _ ht n hn _ i hi => ⟨rfl, (ht.2.2.2.2 n hn i hi).2⟩

/-! ## Records loaded and dropped (R135, R137) -/

theorem slots_set_get (x : Vector (Option ToolRecord) 8) (i j : Fin 8) (v : Option ToolRecord) :
    (x.set i v)[j] = if i = j then v else x[j] := by
  by_cases h : i = j
  · subst h; simp
  · have : i.val ≠ j.val := fun he => h (Fin.ext he)
    simpa [h] using Vector.getElem_set_ne i.isLt j.isLt this

/-- A table with a record fewer keeps the law of its records; the nodes must follow what is left. -/
theorem invalidate_tableLaw {t : State} {i : Fin 8} (h : tableLaw s) (hslots : t.tools.slots = s.tools.slots.set i none)
    (hmiss : t.tools.miss = s.tools.miss) (hnodes : ∀ n ∈ t.line.nodes, follows (s.tools.slots.set i none) n) :
    tableLaw t := by
  obtain ⟨hone, hout, hlen, hnodup, -⟩ := h
  have hold : ∀ (j : Fin 8) (r : ToolRecord), t.tools.slots[j] = some r → s.tools.slots[j] = some r := by
    intro j r hj
    rw [hslots, slots_set_get] at hj
    split at hj
    · cases hj
    · exact hj
  refine ⟨fun j k r q hr hq => hone j k r q (hold j r hr) (hold k q hq), fun j r hr => ?_, by rw [hmiss]; exact hlen,
    by rw [hmiss]; exact hnodup, fun n hn => ?_⟩
  · rw [hmiss]; exact hout j r (hold j r hr)
  · rw [hslots]; exact hnodes n hn

theorem mem_attachedNodes {n : Node} : n ∈ attachedNodes s ↔ n ∈ s.line.nodes ∧ n.completed = true := by
  simp [attachedNodes]

/-- A node to which another slot's record applies still follows it. -/
theorem follows_of_ne {i : Fin 8} {n : Node} (h : tableLaw s) (hn : n ∈ s.line.nodes) (hne : n.applied ≠ .slot i) :
    follows (s.tools.slots.set i none) n := fun j hj => by
  obtain ⟨hcomp, r, hr, hserial⟩ := h.2.2.2.2 n hn j hj
  have hij : i ≠ j := fun he => hne (he ▸ hj)
  exact ⟨hcomp, r, by rw [slots_set_get, if_neg hij]; exact hr, hserial⟩

/-- A record dropped, with its node turned to a default record. -/
theorem keeps_invalidate {i : Fin 8} (hK : .records ∈ K) (hu : userOf s i = none) :
    Keeps K X s { s with tools := s.tools.invalidate i } := by
  refine .of_tools (fun h => absurd hK h) fun _ ht => invalidate_tableLaw ht rfl rfl fun n hn => ?_
  refine follows_of_ne ht hn fun happ => ?_
  have hcomp := (ht.2.2.2.2 n hn i happ).1
  have hnot := List.find?_eq_none.mp hu n (mem_attachedNodes.mpr ⟨hn, hcomp⟩)
  simp [happ] at hnot

theorem mem_of_userOf {i : Fin 8} {n : Node} (h : userOf s i = some n) : n ∈ s.line.nodes ∧ n.applied = .slot i :=
  ⟨(mem_attachedNodes.mp (List.mem_of_find?_eq_some h)).1, by simpa using List.find?_some h⟩

/-- The record of a slot dropped, its node turned to a default record, and the miss recorded (R137). -/
def turnToDefault (i : Fin 8) (n : Node) (s : State) : State :=
  recordMiss n.serial (applyDefault n.addr { s with tools := s.tools.invalidate i })

/-- With the record's node turned to a default record, every node follows what is left. -/
theorem applyDefault_tableLaw {i : Fin 8} {n : Node} (hn : nodeLaw s) (ht : tableLaw s) (hu : userOf s i = some n) :
    tableLaw (applyDefault n.addr { s with tools := s.tools.invalidate i }) := by
  obtain ⟨hmem, happ⟩ := mem_of_userOf hu
  refine invalidate_tableLaw ht rfl rfl fun m hm => ?_
  obtain ⟨m', hm', rfl⟩ := mem_setNode.mp hm
  split
  · intro j hj; cases hj
  · rename_i hne
    refine follows_of_ne ht hm' fun happ' => hne ?_
    obtain ⟨-, r, hr, hserial⟩ := ht.2.2.2.2 n hmem i happ
    obtain ⟨-, r', hr', hserial'⟩ := ht.2.2.2.2 m' hm' i happ'
    have hrr : r = r' := Option.some.inj (hr.symm.trans hr')
    have : m' = n := node_unique_of_serial hn hm' hmem (by rw [← hserial', ← hserial, hrr])
    simp [this]

theorem turnToDefault_tableLaw {i : Fin 8} {n : Node} (hn : nodeLaw s) (ht : tableLaw s) (hu : userOf s i = some n) :
    tableLaw (turnToDefault i n s) := by
  refine recordMiss_tableLaw (applyDefault_tableLaw hn ht hu) fun j q hq hserial => ?_
  obtain ⟨hmem, happ⟩ := mem_of_userOf hu
  obtain ⟨-, r, hr, hrn⟩ := ht.2.2.2.2 n hmem i happ
  have hset : (s.tools.slots.set i none)[j] = some q := hq
  rw [slots_set_get] at hset
  split at hset
  · cases hset
  · exact ‹¬ i = j› (ht.1 i j r q hr hset (hrn.trans hserial.symm))

theorem keeps_turnToDefault {i : Fin 8} {n : Node} (hK : .records ∈ K) (hu : userOf s i = some n) :
    Keeps K X s (turnToDefault i n s) := by
  have hinvalid : Keeps K (.table :: X) s { s with tools := s.tools.invalidate i } :=
    .of_tools_but_law fun h => absurd hK h
  have hmiss (u : State) : Keeps K (.table :: X) u (recordMiss n.serial u) :=
    (Keeps.of_tools_but_law (x := { u.tools with miss := addMiss n.serial u.tools.miss }) fun _ => rfl).then_sight
  exact ((hinvalid.trans (keeps_applyDefault _ _)).trans (hmiss _)).restore fun ⟨hn, ht⟩ =>
    ⟨setNode_nodeLaw (by intro m; exact ⟨rfl, rfl⟩) hn, turnToDefault_tableLaw hn ht hu⟩

theorem keeps_dropRecord {i : Fin 8} (hK : .records ∈ K) : Keeps K X s (dropRecord i s) := by
  unfold dropRecord
  dsimp only
  split
  · rename_i n hu
    exact (keeps_turnToDefault hK hu).then_sight (handRecord_sight _ _)
  · rename_i hu
    exact keeps_invalidate hK hu

theorem slots_of_sight (h : sight t = sight s) : t.tools.slots = s.tools.slots :=
  congrArg (·.2.2.2.2.2.1.1) h

theorem dropRecord_slots (i : Fin 8) (s : State) : (dropRecord i s).tools.slots = s.tools.slots.set i none := by
  unfold dropRecord
  dsimp only
  split
  · exact slots_of_sight (handRecord_sight _ _)
  · rfl

/-- A slot takes a record of a serial that no other slot has, in the place of one of its serial or of none. -/
theorem keeps_write {i : Fin 8} {r : ToolRecord} (hK : .records ∈ K)
    (hone : tableLaw s → ∀ (j : Fin 8) q, s.tools.slots[j] = some q → q.serial = r.serial → j = i)
    (hold : ∀ q, s.tools.slots[i] = some q → q.serial = r.serial) :
    Keeps K X s { s with tools := s.tools.write i r } := by
  refine .of_tools (fun h => absurd hK h) fun _ ht => ?_
  have hone := hone ht
  obtain ⟨huniq, hout, hlen, hnodup, hnodes⟩ := ht
  have hget (j : Fin 8) : (s.tools.write i r).slots[j] = if i = j then some r else s.tools.slots[j] :=
    slots_set_get s.tools.slots i j (some r)
  refine ⟨fun j k p q hp hq he => ?_, fun j q hq hmem => ?_, (List.length_filter_le _ _).trans hlen,
    hnodup.sublist List.filter_sublist, fun n hn j hj => ?_⟩
  · simp only [hget] at hp hq
    split at hp <;> split at hq
    · exact ‹i = j›.symm.trans ‹i = k›
    · cases hp; exact ‹i = j›.symm.trans (hone k q hq he.symm).symm
    · cases hq; exact (hone j p hp he).trans ‹i = k›
    · exact huniq j k p q hp hq he
  · simp only [hget] at hq
    obtain ⟨hmem, hne⟩ := List.mem_filter.mp hmem
    split at hq
    · cases hq; simp at hne
    · exact hout j q hq hmem
  · obtain ⟨hcomp, q, hq, hserial⟩ := hnodes n hn j hj
    refine ⟨hcomp, ?_⟩
    simp only [hget]
    split
    · rename_i hij; subst hij; exact ⟨r, rfl, (hold q hq).symm.trans hserial⟩
    · exact ⟨q, hq, hserial⟩

theorem keeps_placeRecord {i : Fin 8} {r : ToolRecord} (hK : .records ∈ K)
    (hone : tableLaw s → ∀ (j : Fin 8) q, s.tools.slots[j] = some q → q.serial = r.serial → j = i)
    (hold : ∀ q, s.tools.slots[i] = some q → q.serial = r.serial) : Keeps K X s (placeRecord i r s) := by
  unfold placeRecord
  dsimp only
  split
  · rename_i n hn
    have hmem := List.mem_of_find?_eq_some hn
    obtain ⟨hin, hcomp⟩ := mem_attachedNodes.mp hmem
    have hserial : n.serial = r.serial := by simpa using List.find?_some hn
    have hslot : (s.tools.write i r).slots[i] = some r :=
      (slots_set_get s.tools.slots i i (some r)).trans (if_pos rfl)
    refine ((keeps_write hK hone hold).trans (keeps_applySlot hslot fun hlaw m hm ha => ?_)).then_sight
      (handRecord_sight _ _)
    rw [node_unique_of_addr hlaw hm hin ha]
    exact ⟨hcomp, hserial⟩
  · exact keeps_write hK hone hold

/-- The three rows of R135: the slot of the serial, a free slot, or the victim's. -/
theorem place_eq_some {x : ToolTable} {serial : Serial} {p : Placement} (h : x.place serial = some p) :
    (p.evict = false ∧ x.find serial = some p.slot)
      ∨ (p.evict = false ∧ x.find serial = none ∧ x.slots[p.slot] = none)
      ∨ (p.evict = true ∧ x.find serial = none) := by
  unfold ToolTable.place at h
  split at h
  · cases h; exact .inl ⟨rfl, ‹_›⟩
  · split at h
    · rename_i hfree
      cases h
      exact .inr (.inl ⟨rfl, ‹_›, by simpa using List.find?_some hfree⟩)
    · split at h
      · cases h; exact .inr (.inr ⟨rfl, ‹_›⟩)
      · cases h

theorem keeps_serveToolLoad (f : ToolFields) (hK : .records ∈ K) :
    Keeps K X s (serveToolLoad f s).state := by
  unfold serveToolLoad
  split
  · exact .refl s
  · rename_i r _
    split
    · exact .refl s
    · rename_i p hp
      rcases place_eq_some hp with ⟨he, hfind⟩ | ⟨he, hfind, hfree⟩ | ⟨he, hfind⟩
      · obtain ⟨old, hold, hserial⟩ := find_eq_some hfind
        have hplace : Keeps K X s (placeRecord p.slot r s) :=
          keeps_placeRecord hK (fun ht j q hq heq => ht.1 j p.slot q old hq hold (heq.trans hserial.symm))
            fun q hq => by rw [Option.some.inj (hq.symm.trans hold)]; exact hserial
        simpa [he, accept] using hplace
      · have hplace : Keeps K X s (placeRecord p.slot r s) :=
          keeps_placeRecord hK (fun _ j q hq he => absurd he (find_eq_none hfind j q hq))
            fun q hq => absurd (hfree.symm.trans hq) (by simp)
        simpa [he, accept] using hplace
      · have hslots := dropRecord_slots p.slot s
        have hplace : Keeps K X (dropRecord p.slot s) (placeRecord p.slot r (dropRecord p.slot s)) := by
          refine keeps_placeRecord hK (fun _ j q hq hserial => ?_) fun q hq => ?_
          · rw [hslots, slots_set_get] at hq
            split at hq
            · cases hq
            · exact absurd hserial (find_eq_none hfind j q hq)
          · rw [hslots, slots_set_get, if_pos rfl] at hq
            cases hq
        simpa [he, accept] using (keeps_dropRecord hK).trans hplace

end Sys2Proof.Machine
end

section
namespace Sys2Proof.Machine

variable {K : List Kept} {X : List Law} {s t u : State}

/-! ## The governor (R66, R75) -/

/-- A change of the governor matters to the laws of the stack and of the power request alone. -/
theorem Keeps.of_gov {g : Gov} (hprofiles : .profiles ∉ K → g.profiles = s.gov.profiles)
    (hstack : stackLaw s → stackLaw { s with gov := g }) (hpower : powerLaw s → powerLaw { s with gov := g }) :
    Keeps K X s { s with gov := g } := by
  refine ⟨rfl, fun _ => rfl, fun k hk => ?_, fun l _ h => ?_⟩
  · cases k
    case profiles => exact hprofiles hk
    all_goals simp [Kept.same]
  · cases l
    case stack => exact hstack h
    case power => exact hpower h
    all_goals exact h

theorem keeps_setStack {st : List StackEntry}
    (h : stackLaw s → stackLaw { s with gov := { s.gov with stack := st } }) : Keeps K X s (setStack st s) :=
  (Keeps.of_gov (g := { s.gov with stack := st }) (fun _ => rfl) h id).then_sight (sight_ite rfl (handBrush_sight _ _))

/-- A part of the stack that has its BASE entry keeps the law (R66). -/
theorem stackLaw_of_sublist {st : List StackEntry} (h : stackLaw s) (hsub : st.Sublist s.gov.stack)
    (hbase : st.head?.map (·.origin) = some .base) : stackLaw { s with gov := { s.gov with stack := st } } := by
  obtain ⟨-, hlen, -, hclear⟩ := h
  refine ⟨?_, hsub.length_le.trans hlen, hbase, ?_⟩
  · cases st
    · simp at hbase
    · simp
  · have hdrop : st.dropLast.Sublist s.gov.stack.dropLast := by
      simpa [List.tail_reverse] using hsub.reverse.tail
    simp only [List.all_eq_true] at hclear ⊢
    exact fun e he => hclear e (hdrop.subset he)

/-- The BASE entry at the bottom of the stack (R66). -/
theorem exists_base_cons (h : stackLaw s) : ∃ b rest, s.gov.stack = b :: rest ∧ b.origin = .base := by
  obtain ⟨-, -, hbase, -⟩ := h
  cases hst : s.gov.stack with
  | nil => simp [hst] at hbase
  | cons b rest => exact ⟨b, rest, rfl, by simpa [hst] using hbase⟩

/-- A stack with no CLEAR entry and a free place takes another entry on top (R68, R70). -/
theorem stackLaw_push {e : StackEntry} (h : stackLaw s) (hroom : s.gov.stack.length < 4)
    (hclear : ∀ e ∈ s.gov.stack, e.origin ≠ .clear) :
    stackLaw { s with gov := { s.gov with stack := s.gov.stack ++ [e] } } := by
  obtain ⟨b, rest, hst, hb⟩ := exists_base_cons h
  refine ⟨by simp, by simp; omega, by simp [hst, hb], by simpa using hclear⟩

theorem keeps_clearPush (s : State) : Keeps K X s (clearPush s) := by
  refine .ite (fun hc => ?_) fun _ => .of_sight rfl
  obtain ⟨hlen, hclear⟩ : s.gov.stack.length < 4 ∧ ∀ e ∈ s.gov.stack, e.origin ≠ .clear := by
    simpa [clearPushAllowed, hasClear] using hc
  exact (keeps_setStack fun h => stackLaw_push h hlen hclear).then_sight

theorem keeps_clearPop (s : State) : Keeps K X s (clearPop s) := by
  refine .ite (fun htop => keeps_setStack fun h => stackLaw_of_sublist h (List.dropLast_sublist _) ?_) fun _ => .refl s
  obtain ⟨b, rest, hst, hb⟩ := exists_base_cons h
  cases rest with
  | nil => simp [topOrigin, hst, hb] at htop
  | cons c rest => simp [hst, hb]

theorem keeps_collapseStack (s : State) : Keeps K X s (collapseStack s) := by
  refine (keeps_setStack fun h => stackLaw_of_sublist h (List.take_sublist _ _) ?_).then_sight
  obtain ⟨b, rest, hst, hb⟩ := exists_base_cons h
  simp [hst, hb]

theorem keeps_setBase (p : Fin 16) (s : State) : Keeps K X s (setStack (setBase p s.gov.stack) s) := by
  refine keeps_setStack fun h => ?_
  obtain ⟨b, rest, hst, hb⟩ := exists_base_cons h
  obtain ⟨-, hlen, -, hclear⟩ := h
  rw [hst] at hlen hclear
  refine ⟨by simp [hst, setBase], by simpa [hst, setBase] using hlen, by simp [hst, setBase, hb], ?_⟩
  cases rest with
  | nil => simp [hst, setBase]
  | cons c rest =>
    simp only [List.dropLast_cons_cons, List.all_cons, Bool.and_eq_true] at hclear
    simp [hst, setBase, hb, hclear.2]

theorem dropFirstHost_sublist (l : List StackEntry) : (dropFirstHost l).Sublist l := by
  induction l with
  | nil => exact .slnil
  | cons e l ih =>
    unfold dropFirstHost
    split
    · exact List.sublist_cons_self e l
    · exact ih.cons_cons e

theorem dropFirstHost_concat {b : StackEntry} (hb : b.origin ≠ .host) (l : List StackEntry) :
    dropFirstHost (l ++ [b]) = dropFirstHost l ++ [b] := by
  induction l with
  | nil => simp [dropFirstHost, hb]
  | cons e l ih =>
    simp only [List.cons_append, dropFirstHost, ih]
    split <;> simp

theorem keeps_dropHost (s : State) : Keeps K X s (setStack (dropHost s.gov.stack) s) := by
  refine keeps_setStack fun h => stackLaw_of_sublist h ?_ ?_
  · simpa [dropHost] using (dropFirstHost_sublist s.gov.stack.reverse).reverse
  · obtain ⟨b, rest, hst, hb⟩ := exists_base_cons h
    simp [dropHost, hst, dropFirstHost_concat (show b.origin ≠ .host by simp [hb]), hb]

/-! ## Set point and ceiling (R75 to R78) -/

/-- Another set point in the governor, at most 600 W where the law holds. -/
theorem keeps_pset {g : Gov} (hprofiles : g.profiles = s.gov.profiles) (hstack : g.stack = s.gov.stack)
    (h : powerLaw s → g.pReq ≤ 600 ∧ g.pset ≤ 600) : Keeps K X s { s with gov := g } := by
  refine .of_gov (fun _ => hprofiles) (fun hs => ?_) fun hp => ⟨(h hp).1, (h hp).2, hp.2.2⟩
  simpa only [stackLaw, hstack] using hs

/-- A change of the drive in which the motor state stays. -/
theorem Keeps.of_drive {d : Drive} (hstate : d.state = s.drive.state)
    (htrips : .trips ∉ K → d.trips = s.drive.trips ∧ d.tripCount = s.drive.tripCount
      ∧ d.tripCause = s.drive.tripCause)
    (hlaw : tripLaw s → tripLaw { s with drive := d }) (hpower : powerLaw s → d.pset ≤ 600) :
    Keeps K X s { s with drive := d } := by
  refine ⟨rfl, fun _ => rfl, fun k hk => ?_, fun l _ h => ?_⟩
  · cases k
    case trips => exact htrips hk
    all_goals simp [Kept.same]
  · cases l
    case trip => exact hlaw h
    case power => exact ⟨h.1, h.2.1, hpower h⟩
    case switch => simpa only [Law.holds, switchLaw, hstate] using h
    case dirt => simpa only [Law.holds, dirtLaw, hstate] using h
    case watch => simpa only [Law.holds, watchLaw, hstate] using h
    all_goals exact h

/-- The drive takes a set point of at most 600 W. -/
theorem keeps_drivePset {d : Drive} (hd : d = { s.drive with pset := d.pset, ceiling := d.ceiling })
    (h : powerLaw s → d.pset ≤ 600) : Keeps K X s { s with drive := d } := by
  refine .of_drive ?_ (fun _ => ?_) (fun hl => ?_) h
  · rw [hd]
  · rw [hd]; exact ⟨rfl, rfl, rfl⟩
  · rw [hd]; exact hl

theorem keeps_zeroSetPoint (s : State) : Keeps K X s (zeroSetPoint s) :=
  (keeps_pset (g := { s.gov with pset := 0, ramping := false }) rfl rfl fun h => ⟨h.1, by simp⟩).trans
    (keeps_drivePset (d := { s.drive with pset := 0 }) rfl fun _ => by simp)

theorem keeps_handSetPoint (s : State) : Keeps K X s (handSetPoint s) :=
  keeps_drivePset rfl fun h => h.2.1

theorem keeps_limitSetPoint (s : State) : Keeps K X s (limitSetPoint s) := by
  refine .ite (fun _ => ?_) fun _ => .of_sight rfl
  refine ((keeps_pset (s := formLimits s) (g := { (formLimits s).gov with
    pset := min (formLimits s).gov.pset (formLimits s).gov.pEff
    ramping := min (formLimits s).gov.pset (formLimits s).gov.pEff < (formLimits s).gov.pEff })
    rfl rfl fun h => ⟨h.1, (min_le_left _ _).trans h.2.1⟩).after_sight).trans (keeps_handSetPoint _)

theorem rampStep_le (pset peff ramp : Nat) : rampStep pset peff ramp ≤ peff := by
  unfold rampStep; split <;> omega

theorem keeps_stepSetPoint (s : State) : Keeps K X s (stepSetPoint s) := by
  refine .ite (fun _ => ?_) fun _ => ?_
  · have hpEff : (formLimits s).gov.pEff ≤ s.gov.pReq := min_le_left _ _
    refine ((keeps_pset (s := formLimits s) (g := { (formLimits s).gov with
      pset := rampStep (formLimits s).gov.pset (formLimits s).gov.pEff (activeProfile (formLimits s).gov).ramp
      ramping := rampStep (formLimits s).gov.pset (formLimits s).gov.pEff (activeProfile (formLimits s).gov).ramp
        < (formLimits s).gov.pEff })
      rfl rfl fun h => ⟨h.1, (rampStep_le _ _ _).trans (hpEff.trans h.1)⟩).after_sight).trans (keeps_handSetPoint _)
  · exact ((keeps_pset (s := formCeiling s) (g := { (formCeiling s).gov with pset := 0 }) rfl rfl
      fun h => ⟨h.1, by simp⟩).after_sight).trans (keeps_handSetPoint _)

theorem requestPower_le (base boost factor floor : Nat) : requestPower base boost factor floor ≤ 600 :=
  min_le_left _ _

theorem keeps_formRequest (s : State) : Keeps K X s (formRequest s) :=
  keeps_pset rfl rfl fun h => ⟨requestPower_le _ _ _ _, h.2.1⟩

theorem deliverSuction_sight (s : State) : sight (deliverSuction s) = sight s :=
  sight_ite rfl (sight_ite (askRecompute_sight _) (askRecompute_sight _))

theorem keeps_governorWork (s : State) : Keeps K X s (governorWork s) := by
  have hboost : Keeps K X s (takeBoost s) := .of_sight (sight_ite rfl rfl)
  exact ((hboost.trans (keeps_formRequest _)).then_sight (deliverSuction_sight _)).trans (keeps_stepSetPoint _)

/-! ## The load monitor and the Dirt Monitor at the end of RUN (R90, R95) -/

theorem keeps_loadRest (s : State) : Keeps K X s (loadRest s) :=
  Keeps.then_sight (.ite (fun _ => keeps_clearPop s) fun _ => .refl s)

/-- A change of level and window: the settings and the bin stay. -/
theorem Keeps.of_dirt {d : Dirt} (hsettings : d.large = s.dirt.large ∧ d.t1 = s.dirt.t1 ∧ d.t2 = s.dirt.t2
      ∧ d.t3 = s.dirt.t3 ∧ d.capacity = s.dirt.capacity ∧ d.fullPct = s.dirt.fullPct)
    (hbin : d.bin = s.dirt.bin ∧ d.sat = s.dirt.sat ∧ d.full = s.dirt.full)
    (hlaw : dirtLaw s → dirtLaw { s with dirt := d }) : Keeps K X s { s with dirt := d } := by
  obtain ⟨h1, h2, h3, h4, h5, h6⟩ := hsettings
  obtain ⟨h7, h8, h9⟩ := hbin
  refine ⟨rfl, fun _ => rfl, fun k _ => by cases k <;> simp [Kept.same, *], fun l _ h => ?_⟩
  cases l
  case dirt => exact hlaw h
  case bin => simpa only [Law.holds, binLaw, h5, h6, h7, h8] using h
  all_goals exact h

theorem keeps_zeroLevel (r : Option Nat) (s : State) : Keeps K X s (zeroLevel r s) :=
  (Keeps.of_dirt (d := { s.dirt with level := 0, rise := 0, cand := 0, fall := 0, rate := r }) (by simp) (by simp)
    fun h => ⟨by simp, h.2⟩).then_sight (raiseIf_sight _ _ _)

theorem keeps_dirtRunExit (s : State) : Keeps K X s (dirtRunExit s) :=
  ((Keeps.of_dirt (d := { s.dirt with window := none }) (by simp) (by simp) fun h => ⟨h.1, by simp⟩).trans
    (keeps_zeroLevel _ _)).then_sight

theorem keeps_leaveRun (s : State) : Keeps K X s (leaveRun s) :=
  (keeps_loadRest s).trans (keeps_dirtRunExit _)

end Sys2Proof.Machine
end

section
namespace Sys2Proof.Machine

variable {K : List Kept} {X : List Law} {s t u : State}

/-! ## What an operation of the charge controller leaves alone -/

/-- The state beside the dock and the event set. -/
def besideDock (s : State) : State :=
  { s with dock := Dock.reset, host := { s.host with events := 0 } }

theorem besideDock_ite {c : Prop} [Decidable c] (ht : besideDock t = besideDock s)
    (hu : besideDock u = besideDock s) : besideDock (if c then t else u) = besideDock s := by
  split
  · exact ht
  · exact hu

theorem setCharge_besideDock (c : ChargeState) (s : State) : besideDock (setCharge c s) = besideDock s :=
  besideDock_ite rfl rfl

theorem openSwitch_besideDock (s : State) : besideDock (openSwitch s) = besideDock s := rfl

theorem closeSwitch_besideDock (s : State) : besideDock (closeSwitch s) = besideDock s := rfl

theorem trySend_besideDock (s : State) : besideDock (trySend s) = besideDock s := by
  unfold trySend
  refine besideDock_ite rfl (besideDock_ite rfl ?_)
  dsimp only
  split
  · exact besideDock_ite (setCharge_besideDock _ _) rfl
  · rfl
  · rfl

theorem dock_besideDock (d : Dock) (s : State) : besideDock { s with dock := d } = besideDock s := rfl

theorem raise_besideDock (e : Event) (s : State) : besideDock (raise e s) = besideDock s := rfl

theorem abandonCharge_besideDock (s : State) : besideDock (abandonCharge s) = besideDock s :=
  (dock_besideDock _ _).trans ((dock_besideDock _ _).trans (dock_besideDock _ s))

theorem enterPause_besideDock (c : PauseCause) (s : State) : besideDock (enterPause c s) = besideDock s := by
  have hopen : besideDock (openSwitch (setCharge .paused s)) = besideDock s := setCharge_besideDock .paused s
  unfold enterPause
  generalize openSwitch (setCharge .paused s) = u at hopen ⊢
  exact (trySend_besideDock _).trans ((abandonCharge_besideDock _).trans ((dock_besideDock _ u).trans hopen))

theorem enterNoOffer_besideDock (s : State) : besideDock (enterNoOffer s) = besideDock s := by
  have hopen : besideDock (openSwitch (setCharge .paused s)) = besideDock s := setCharge_besideDock .paused s
  unfold enterNoOffer
  generalize openSwitch (setCharge .paused s) = u at hopen ⊢
  exact (trySend_besideDock _).trans hopen

theorem enterChargeFault_besideDock (c : ChargeFault) (s : State) : besideDock (enterChargeFault c s) = besideDock s := by
  have hopen : besideDock (openSwitch (setCharge .fault s)) = besideDock s := setCharge_besideDock .fault s
  unfold enterChargeFault
  generalize openSwitch (setCharge .fault s) = u at hopen ⊢
  exact (trySend_besideDock _).trans ((raise_besideDock _ _).trans ((abandonCharge_besideDock _).trans
    ((dock_besideDock _ u).trans hopen)))

theorem enterDisabled_besideDock (s : State) : besideDock (enterDisabled s) = besideDock s := by
  have hopen : besideDock (openSwitch (setCharge .disabled s)) = besideDock s := setCharge_besideDock .disabled s
  unfold enterDisabled
  generalize openSwitch (setCharge .disabled s) = u at hopen ⊢
  exact (trySend_besideDock _).trans ((abandonCharge_besideDock u).trans hopen)

theorem enterIdentify_besideDock (s : State) : besideDock (enterIdentify s) = besideDock s := by
  unfold enterIdentify
  dsimp only
  split
  · exact enterPause_besideDock _ _
  · exact (trySend_besideDock _).trans (setCharge_besideDock _ _)

theorem enterCoarse_besideDock (s : State) : besideDock (enterCoarse s) = besideDock s := by
  unfold enterCoarse
  dsimp only
  split
  · exact (closeSwitch_besideDock _).trans ((setCharge_besideDock .coarse _).trans rfl)
  · exact enterNoOffer_besideDock _

theorem leaveAttachWait_besideDock (s : State) : besideDock (leaveAttachWait s) = besideDock s := by
  unfold leaveAttachWait
  dsimp only
  repeat' split
  · exact setCharge_besideDock _ _
  · exact enterChargeFault_besideDock _ _
  · exact enterPause_besideDock _ _
  · exact enterIdentify_besideDock _
  · rfl

theorem pauseOrderChanged_besideDock (on : Bool) (s : State) :
    besideDock (pauseOrderChanged on s) = besideDock s :=
  besideDock_ite (besideDock_ite (enterPause_besideDock _ _) rfl) (besideDock_ite (enterIdentify_besideDock _) rfl)

/-! ## The dock (R142, R152) -/

/-- A change of the dock matters to the switch and to the evacuation record. -/
theorem Keeps.of_dock {d : Dock}
    (hsettings : .chargeSettings ∉ K → d.iMax = s.dock.iMax ∧ d.iTerm = s.dock.iTerm
      ∧ d.debounceMs = s.dock.debounceMs)
    (hdisabled : .disabled ∉ K → d.disabled = s.dock.disabled)
    (hswitch : switchLaw s → switchLaw { s with dock := d }) (hevac : .evac ∉ X → evacLaw s → d.state ≠ .detached ∨
      d.state = s.dock.state) :
    Keeps K X s { s with dock := d } := by
  refine ⟨rfl, fun _ => rfl, fun k hk => ?_, fun l hl h => ?_⟩
  · cases k
    case chargeSettings => exact hsettings hk
    case disabled => exact hdisabled hk
    all_goals simp [Kept.same]
  · cases l
    case switch => exact hswitch h
    case evac => exact (hevac hl h).elim (fun hd _ => hd) fun hd hp => (hd ▸ h hp : d.state ≠ .detached)
    all_goals exact h

/-- A change of charge state, CSW open at an exit from the charging states. -/
theorem keeps_setCharge_of {new : ChargeState} (h : .evac ∈ X ∨ new ≠ .detached) :
    Keeps K X s (setCharge new s) := by
  refine .ite (fun _ => .refl s) fun _ => Keeps.then_sight (.of_dock (d := { s.dock with
      state := new, csw := s.dock.csw && new.charges, iChg := if new.charges then s.dock.iChg else 0
      bleed := if new = .taper ∨ new = .topped then s.dock.bleed else [] })
    (fun _ => ⟨rfl, rfl, rfl⟩) (fun _ => rfl) (fun hs hc => ?_) fun hX _ => .inl (h.resolve_left hX))
  obtain ⟨hcsw, hnew⟩ := Bool.and_eq_true _ _ ▸ hc
  exact ⟨hnew, (hs hcsw).2⟩

theorem keeps_setCharge (new : ChargeState) (s : State) (h : new ≠ .detached := by decide) :
    Keeps K X s (setCharge new s) := keeps_setCharge_of (.inr h)

theorem setCharge_state (new : ChargeState) (s : State) : (setCharge new s).dock.state = new := by
  unfold setCharge
  split
  · assumption
  · rfl

/-- CSW open, whatever the rest of the dock is, the state staying. -/
theorem Keeps.of_open {d : Dock}
    (hsettings : d.iMax = s.dock.iMax ∧ d.iTerm = s.dock.iTerm ∧ d.debounceMs = s.dock.debounceMs)
    (hdisabled : d.disabled = s.dock.disabled) (hstate : d.state = s.dock.state) (hcsw : d.csw = false) :
    Keeps K X s { s with dock := d } :=
  .of_dock (fun _ => hsettings) (fun _ => hdisabled) (fun _ h => absurd (hcsw.symm.trans h) (by simp))
    fun _ _ => .inr hstate

theorem keeps_openSwitch (s : State) : Keeps K X s (openSwitch s) :=
  .of_open ⟨rfl, rfl, rfl⟩ rfl rfl rfl

/-- CSW closes in a charging state with the motor at rest (R152). -/
theorem keeps_closeSwitch (h : s.dock.state.charges = true) : Keeps K X s (closeSwitch s) :=
  .of_dock (fun _ => ⟨rfl, rfl, rfl⟩) (fun _ => rfl) (fun _ hc => ⟨h, hc⟩) fun _ _ => .inr rfl

theorem startExchange_sight (r : DockReq) (s : State) : sight (startExchange r s) = sight s := rfl

theorem keeps_trySend (s : State) : Keeps K X s (trySend s) := by
  refine .ite (fun _ => .refl s) fun _ => .ite (fun _ => .of_sight rfl) fun _ => ?_
  dsimp only
  split
  · exact .ite (fun _ => (keeps_setCharge .negotiate _).after_sight) fun _ => .of_sight rfl
  · exact .of_sight rfl
  · exact .refl s

theorem abandonCharge_sight (s : State) : sight (abandonCharge s) = sight s := rfl

/-! ## Entries to the charge states (R150, R157 to R161) -/

theorem keeps_enterPause (c : PauseCause) (s : State) : Keeps K X s (enterPause c s) := by
  have hopen : Keeps K X s (openSwitch (setCharge .paused s)) := (keeps_setCharge .paused s).trans (keeps_openSwitch _)
  unfold enterPause
  generalize openSwitch (setCharge .paused s) = u at hopen ⊢
  exact hopen.trans ((keeps_trySend _).after_sight)

theorem keeps_enterNoOffer (s : State) : Keeps K X s (enterNoOffer s) := by
  have hopen : Keeps K X s (openSwitch (setCharge .paused s)) := (keeps_setCharge .paused s).trans (keeps_openSwitch _)
  unfold enterNoOffer
  generalize openSwitch (setCharge .paused s) = u at hopen ⊢
  exact hopen.trans ((keeps_trySend _).after_sight)

theorem keeps_enterChargeFault (c : ChargeFault) (s : State) : Keeps K X s (enterChargeFault c s) := by
  have hopen : Keeps K X s (openSwitch (setCharge .fault s)) := (keeps_setCharge .fault s).trans (keeps_openSwitch _)
  unfold enterChargeFault
  generalize openSwitch (setCharge .fault s) = u at hopen ⊢
  exact hopen.trans ((keeps_trySend _).after_sight)

theorem keeps_enterDisabled (s : State) : Keeps K X s (enterDisabled s) := by
  have hopen : Keeps K X s (openSwitch (setCharge .disabled s)) := (keeps_setCharge .disabled s).trans (keeps_openSwitch _)
  unfold enterDisabled
  generalize openSwitch (setCharge .disabled s) = u at hopen ⊢
  exact hopen.trans ((keeps_trySend _).after_sight)

theorem keeps_enterIdentify (s : State) : Keeps K X s (enterIdentify s) :=
  Keeps.ite (c := s.watch.pauseOrder = true) (fun _ => (keeps_enterPause .watch _).after_sight) fun _ =>
    ((keeps_setCharge .identify _).trans ((keeps_trySend _).after_sight)).after_sight

theorem keeps_enterCoarse (s : State) : Keeps K X s (enterCoarse s) := by
  have hopen : Keeps K X s { openSwitch s with dock := { (openSwitch s).dock with
      resume := none, taper := none, agreement := none, dueCharge := none, precharge := 0 } } :=
    (keeps_openSwitch s).then_sight
  unfold enterCoarse
  dsimp only at hopen ⊢
  split
  · exact hopen.trans ((keeps_setCharge .coarse _).trans (keeps_closeSwitch (by rw [setCharge_state]; rfl)))
  · exact hopen.trans (keeps_enterNoOffer _)

/-- A change of the pack that keeps its settings. -/
theorem Keeps.of_pack {p : Pack} (hset : .packSettings ∉ K → p.count = s.pack.count
      ∧ p.capacity = s.pack.capacity ∧ p.inom = s.pack.inom ∧ p.ocv = s.pack.ocv)
    (hlaw : gaugeLaw s → gaugeLaw { s with pack := p }) : Keeps K X s { s with pack := p } := by
  refine ⟨rfl, fun _ => rfl, fun k hk => ?_, fun l _ h => ?_⟩
  · cases k
    case packSettings => exact hset hk
    all_goals simp [Kept.same]
  · cases l
    case gauge => exact hlaw h
    all_goals exact h

theorem keeps_enterTopped (s : State) : Keeps K X s (enterTopped s) := by
  have hopen : Keeps K X s (openSwitch (setCharge .topped s)) :=
    (keeps_setCharge .topped s).trans (keeps_openSwitch _)
  have hfull (u : State) : Keeps K X u { u with
      dock := { u.dock with agreement := none, total := 0, dueCharge := none }
      pack := { u.pack with gauge := fullCharge u.pack } } :=
    Keeps.after_sight (t := { u with dock := { u.dock with agreement := none, total := 0, dueCharge := none } })
      (.of_pack (fun _ => ⟨rfl, rfl, rfl, rfl⟩) fun h => ⟨le_rfl, h.2⟩)
  have hhalt (u : State) : sight (if (s.dock.state == .coarse) = true then u else makeHaltDue u) = sight u :=
    sight_ite rfl rfl
  exact ((hopen.trans (hfull _)).then_sight (hhalt _)).trans (keeps_trySend _)

/-! ## Offers and agreements (R150 to R157) -/

theorem keeps_selectOffer (s : State) : Keeps K X s (selectOffer s) := by
  unfold selectOffer
  dsimp only
  split
  · exact (keeps_enterNoOffer _).after_sight
  · refine Keeps.trans ?_ (keeps_trySend _)
    exact .ite (fun _ => .of_sight rfl) fun _ => (keeps_setCharge .negotiate _).after_sight

theorem charges_phase (ph : ChargePhase) : ph.state.charges = true := by cases ph <;> rfl

theorem phase_ne_detached (ph : ChargePhase) : ph.state ≠ .detached := by cases ph <;> decide

theorem keeps_makeAgreement (i input : Nat) (s : State) : Keeps K X s (makeAgreement i input s) := by
  unfold makeAgreement
  split
  · exact .refl s
  · have hclosed (u : State) : Keeps K X u (closeSwitch (setCharge s.dock.plan.state u)) :=
      (keeps_setCharge _ u (phase_ne_detached _)).trans
        (keeps_closeSwitch (by rw [setCharge_state]; exact charges_phase _))
    have hcurrent (u : State) : sight { u with dock := { u.dock with
        iChg := if u.dock.csw then u.dock.want else 0 } } = sight u := rfl
    exact (Keeps.after_sight (hclosed _)).then_sight (hcurrent _)

theorem applyCurrent_sight (s : State) : sight (applyCurrent s) = sight s := by
  unfold applyCurrent; split <;> rfl

theorem raiseAgreement_sight (input : Nat) (s : State) : sight (raiseAgreement input s) = sight s :=
  applyCurrent_sight _

theorem keeps_recomputeCurrent (ph : ChargePhase) (s : State) : Keeps K X s (recomputeCurrent ph s) := by
  unfold recomputeCurrent
  split
  · exact .refl s
  · exact (keeps_trySend _).after_sight (applyCurrent_sight _)

/-! ## The charge check (R153 to R158) -/

theorem keeps_checkFaults (chgin : Nat) (s : State) : Keeps K X s (checkFaults chgin s) := by
  refine .ite (fun _ => Keeps.after_sight (t := { s with dock := { s.dock with total := s.dock.total + 1 } }) ?_)
    fun _ => .refl s
  exact .ite (fun _ => keeps_enterChargeFault _ _) fun _ => .ite (fun _ => keeps_enterChargeFault _ _) fun _ =>
    .ite (fun _ => keeps_enterChargeFault _ _) fun _ => .refl _

theorem keeps_checkTemp (s : State) : Keeps K X s (checkTemp s) := by
  unfold checkTemp
  dsimp only
  repeat' split
  · exact (keeps_enterPause _ _).after_sight
  · exact (keeps_enterIdentify _).after_sight
  · exact .of_sight rfl
  · exact .of_sight (raiseIf_sight _ _ _)

theorem keeps_taperOrTop (s : State) : Keeps K X s (taperOrTop s) :=
  .ite (fun _ => keeps_enterTopped s) fun _ => keeps_recomputeCurrent _ s

theorem keeps_coarseWork (s : State) : Keeps K X s (coarseWork s) := by
  have hrecord (tgt pre : Nat) (taper : Option Nat) :
      sight { s with dock := { s.dock with iTgt := tgt, precharge := pre, taper := taper } } = sight s := rfl
  have hcurrent (u : State) (i : Nat) : sight { u with dock := { u.dock with iChg := i } } = sight u := rfl
  unfold coarseWork
  refine .ite (fun _ => (keeps_enterChargeFault _ _).after_sight (hrecord _ _ _)) fun _ => ?_
  split
  · exact .ite (fun _ => (keeps_enterTopped _).after_sight (hrecord _ _ _)) fun _ =>
      .of_sight ((hcurrent _ _).trans (hrecord _ _ _))
  · exact .of_sight ((hcurrent _ _).trans (hrecord _ _ _))

theorem keeps_checkPhase (s : State) : Keeps K X s (checkPhase s) := by
  unfold checkPhase
  split
  case h_1 =>
    refine .ite (fun _ => ?_) fun _ => .ite (fun _ => ?_) fun _ => ?_
    · exact ((keeps_setCharge .bulk _).trans (keeps_recomputeCurrent .bulk _)).after_sight
    · exact (keeps_enterChargeFault _ _).after_sight
    · exact (keeps_recomputeCurrent .precharge _).after_sight
  case h_2 =>
    exact .ite (fun _ => ((keeps_setCharge .taper _).trans (keeps_taperOrTop _)).after_sight) fun _ =>
      keeps_recomputeCurrent .bulk s
  case h_3 => exact .ite (fun _ => (keeps_taperOrTop _).after_sight) fun _ => keeps_taperOrTop s
  case h_4 => exact keeps_coarseWork s
  case h_5 => exact .ite (fun _ => keeps_enterIdentify s) fun _ => .refl s
  all_goals exact .refl s

theorem checkBalance_sight (s : State) : sight (checkBalance s) = sight s := sight_ite rfl rfl

theorem keeps_chargeCheck (chgin : Nat) (s : State) : Keeps K X s (chargeCheck chgin s) := by
  have hperiod : sight { s with dock := { s.dock with period := some 1000 } } = sight s := rfl
  refine .ite (fun _ => .refl s) fun _ => Keeps.then_sight ?_ (deliver_sight _ _ _)
  refine Keeps.then_sight ?_ (checkBalance_sight _)
  exact (((keeps_checkFaults chgin _).after_sight hperiod).trans (keeps_checkTemp _)).trans (keeps_checkPhase _)

/-! ## Attach and detach (R143 to R145), the evacuation record (R165 to R170) -/

theorem keeps_startAttach (s : State) : Keeps K X s (startAttach s) :=
  (keeps_setCharge .attachWait s).then_sight

theorem keeps_leaveAttachWait (s : State) : Keeps K X s (leaveAttachWait s) := by
  refine .ite (fun _ => Keeps.after_sight (t := { s with dock := { s.dock with
    period := some 1000, total := 0, lastFullLimit := false } }) ?_) fun _ => .refl s
  exact .ite (fun _ => keeps_setCharge .disabled _) fun _ => .ite (fun _ => keeps_enterChargeFault _ _) fun _ =>
    .ite (fun _ => keeps_enterPause _ _) fun _ => keeps_enterIdentify _

/-- A change of the evacuation record. -/
theorem Keeps.of_evac {e : Evac}
    (hset : .evacSettings ∉ K → e.pct = s.evac.pct ∧ e.setting = s.evac.setting)
    (hlaw : .evac ∉ X → evacLaw s → evacLaw { s with evac := e }) : Keeps K X s { s with evac := e } := by
  refine ⟨rfl, fun _ => rfl, fun k hk => ?_, fun l hl h => ?_⟩
  · cases k
    case evacSettings => exact hset hk
    all_goals simp [Kept.same]
  · cases l
    case evac => exact hlaw hl h
    all_goals exact h

/-- An ending leaves no evacuation in progress (R165). -/
theorem keeps_endEvac {st : EvacState} (o : EvacOutcome) (s : State) (h : st ≠ .requested ∧ st ≠ .running) :
    Keeps K X s (endEvac st o s) :=
  (Keeps.of_evac (e := { s.evac with state := st, outcome := o, timer := none }) (fun _ => ⟨rfl, rfl⟩)
    fun _ _ hp => by simp [evacInProgress, h] at hp).then_sight

theorem keeps_evacAccepted (s : State) : Keeps K X s (evacAccepted s) :=
  .ite (fun hr => .of_evac (fun _ => ⟨rfl, rfl⟩) fun _ h _ => h (by simp [evacInProgress, hr])) fun _ => .refl s

theorem keeps_evacRejected (reason : Byte) (s : State) : Keeps K X s (evacRejected reason s) :=
  .ite (fun _ => (keeps_endEvac _ _ (by decide)).after_sight) fun _ => .refl s

theorem keeps_evacNoAccept (s : State) : Keeps K X s (evacNoAccept s) :=
  .ite (fun _ => keeps_endEvac _ _ (by decide)) fun _ => .refl s

theorem keeps_abortEvac (o : EvacOutcome) (s : State) : Keeps K X s (abortEvac o s) :=
  .ite (fun _ => keeps_endEvac _ _ (by decide)) fun _ => .refl s

theorem abortEvac_not_inProgress (o : EvacOutcome) (s : State) : evacInProgress (abortEvac o s) = false := by
  unfold abortEvac
  split
  · rfl
  · simpa using ‹¬ evacInProgress s = true›

theorem keeps_startEvac (t : EvacTrigger) (d : Nat) (h : s.dock.state ≠ .detached) :
    Keeps K X s (startEvac t d s) :=
  Keeps.trans (t := evacStartRecord t d s) (.of_evac (fun _ => ⟨rfl, rfl⟩) fun _ _ _ => h)
    ((keeps_trySend _).after_sight)

theorem keeps_autoDecision (s : State) : Keeps K X s (autoDecision s) := by
  refine .ite (fun hc => (keeps_startEvac .auto _ ?_).after_sight) fun _ => .refl s
  simp only [autoConditions, Bool.and_eq_true, bne_iff_ne] at hc
  exact hc.1.1.2.1.1

/-- A detach ends an evacuation in progress, so that the law of the record outlasts it (R145, R170). -/
theorem keeps_detachNow (s : State) : Keeps K X s (detachNow s) := by
  refine .ite (fun _ => .of_sight rfl) fun _ => ?_
  have hdetached : Keeps K (.evac :: X) s (clearDock (setCharge .detached s)) :=
    (keeps_setCharge_of (.inl (by simp))).trans (.of_open ⟨rfl, rfl, rfl⟩ rfl rfl rfl)
  refine Keeps.restore (l := .evac) ?_ fun _ hp => ?_
  · exact ((hdetached.then_sight (raiseIf_sight _ _ _)).trans (keeps_abortEvac .detach _)).then_sight
  · exact absurd hp (by simpa [evacInProgress] using abortEvac_not_inProgress .detach _)

/-! ## Outcomes of exchanges (R147, R148) -/

theorem keeps_exchangeFailed (r : DockReq) (s : State) : Keeps K X s (exchangeFailed r s) := by
  have hcoarse : Keeps K X s (enterCoarse (freeRecord s)) := (keeps_enterCoarse _).after_sight
  have hfree : Keeps K X s (freeRecord s) := .of_sight rfl
  unfold exchangeFailed
  refine Keeps.trans ?_ (keeps_trySend _)
  split
  · split
    · exact hcoarse
    · exact hfree
  · split
    all_goals with_reducible assumption
  · exact (keeps_evacNoAccept _).after_sight
  · exact hfree

theorem resend_sight (n : Nat) (s : State) : sight (resend n s) = sight s := rfl

theorem keeps_attemptMissed (e : Exchange) (s : State) : Keeps K X s (attemptMissed e s) :=
  .ite (fun _ => .of_sight rfl) fun _ => keeps_exchangeFailed _ s

theorem keeps_deadlineExpired (e : Exchange) (s : State) : Keeps K X s (deadlineExpired e s) := by
  unfold deadlineExpired
  split
  · exact .ite (fun _ => .of_sight rfl) fun _ => keeps_attemptMissed e s
  all_goals exact keeps_exchangeFailed _ s

theorem keeps_dockTalks (s : State) : Keeps K X s (dockTalks s) :=
  .ite (fun _ => (keeps_openSwitch s).trans (keeps_enterIdentify _)) fun _ => .refl s

theorem keeps_newOffers (l : List OfferFields) (s : State) : Keeps K X s (newOffers l s) := by
  unfold newOffers
  dsimp only
  split
  · split
    · exact (keeps_trySend _).after_sight
    · exact (((keeps_setCharge .paused _).trans (keeps_openSwitch _)).trans
        ((keeps_selectOffer _).after_sight)).after_sight
  · exact .ite (fun _ => (keeps_selectOffer _).after_sight) fun _ =>
      ((keeps_dockTalks _).trans (keeps_trySend _)).after_sight

theorem keeps_overvoltOrder (s : State) : Keeps K X s (overvoltOrder s) :=
  .ite (fun _ => .refl s) fun _ => keeps_enterChargeFault _ s

theorem keeps_pauseOrderChanged (on : Bool) (s : State) : Keeps K X s (pauseOrderChanged on s) :=
  .ite (fun _ => .ite (fun _ => keeps_enterPause _ s) fun _ => .refl s) fun _ =>
    .ite (fun _ => keeps_enterIdentify s) fun _ => .refl s

end Sys2Proof.Machine
end

section
namespace Sys2Proof.Machine

variable {K : List Kept} {X : List Law} {s t u : State}

/-! ## Changes of motor state (R43, R51, R95, R152) -/

/-- The way into a motor state: from rest only with no dock, into a driving state from one that is not driving only
with no STOP_MOTOR watch FIRED. -/
def mayEnter (new : MotorState) (s : State) : Prop :=
  (new.atRest = true ∨ s.drive.state.atRest = false ∨ s.dock.state = .detached)
    ∧ (new.drives = false ∨ s.drive.state.drives = true ∨ stopFired s.watch = false)

theorem drives_of_atRest {m : MotorState} (h : m.atRest = true) : m.drives = false := by
  revert h
  cases m <;> decide

theorem mayEnter_rest {new : MotorState} (s : State) (h : new.atRest = true) : mayEnter new s :=
  ⟨.inl h, .inl (drives_of_atRest h)⟩

theorem atRest_of_drives {m : MotorState} (h : m.drives = true) : m.atRest = false := by
  revert h
  cases m <;> decide

/-- The state written, the timers stopped: the dirt level is still to follow. -/
theorem keeps_writeState {new : MotorState} (h : mayEnter new s) :
    Keeps K (.dirt :: X) s { s with drive := { s.drive.stopTimers with state := new } } := by
  refine ⟨rfl, fun _ => rfl, fun k _ => by cases k <;> simp [Kept.same, Drive.stopTimers], fun l hl hlaw => ?_⟩
  cases l
  case dirt => simp at hl
  case switch =>
    intro hcsw
    obtain ⟨hcharges, hrest⟩ := hlaw hcsw
    refine ⟨hcharges, ?_⟩
    rcases h.1 with hnew | hnot | hdetached
    · exact hnew
    · exact absurd (hrest.symm.trans hnot) (by simp)
    · rw [hdetached] at hcharges; cases hcharges
  case watch =>
    intro hfired
    rcases h.2 with hnew | hdrives | hnone
    · exact hnew
    · exact absurd (hdrives.symm.trans (hlaw hfired)) (by simp)
    · exact absurd (hfired.symm.trans hnone) (by simp)
  all_goals exact hlaw

theorem zeroLevel_dirt (r : Option Nat) (s : State) : (zeroLevel r s).dirt
    = { s.dirt with level := 0, rise := 0, cand := 0, fall := 0, rate := r } := by
  unfold zeroLevel raiseIf
  split <;> rfl

theorem leaveRun_dirt (s : State) : (leaveRun s).dirt.level = 0 ∧ (leaveRun s).dirt.window = none := by
  have h : (leaveRun s).dirt = (zeroLevel (if (loadRest s).dirt.status = .absent then none else some 0)
    { loadRest s with dirt := { (loadRest s).dirt with window := none } }).dirt := rfl
  rw [h, zeroLevel_dirt]
  exact ⟨rfl, rfl⟩

/-- The level is 0 and no window runs once RUN is left (R95, R97). -/
theorem changeState_dirtLaw (new : MotorState) (h : dirtLaw s) : dirtLaw (changeState new s) := by
  unfold changeState
  dsimp only
  split
  · obtain ⟨hlevel, hwindow⟩ := leaveRun_dirt { s with drive := { s.drive.stopTimers with state := new } }
    exact ⟨by simp [hlevel], by simp [hwindow]⟩
  · rename_i hrun
    refine ⟨fun hl => absurd (h.1 hl).1 hrun, fun hw => absurd (h.2 hw) hrun⟩

theorem keeps_changeState {new : MotorState} (h : mayEnter new s) : Keeps K X s (changeState new s) := by
  refine Keeps.restore (l := .dirt) ((keeps_writeState h).trans ?_) (changeState_dirtLaw new)
  exact .ite (fun _ => keeps_leaveRun _) fun _ => .refl _

@[simp] theorem leaveRun_drive (s : State) : (leaveRun s).drive = s.drive := by
  have hpop (u : State) : (clearPop u).drive = u.drive := by
    unfold clearPop
    split
    · obtain ⟨l, hl⟩ := setStack_writes u.gov.stack.dropLast u
      rw [hl]
    · rfl
  have hrest (u : State) : (loadRest u).drive = u.drive := by
    unfold loadRest
    dsimp only
    split
    · exact hpop u
    · rfl
  simp [leaveRun, dirtRunExit, zeroLevel, raiseIf, apply_ite, hrest]

theorem changeState_drive (new : MotorState) (s : State) :
    (changeState new s).drive = { s.drive.stopTimers with state := new } := by
  unfold changeState
  dsimp only
  split <;> simp

theorem keeps_enterRest {new : MotorState} (s : State) (h : new.atRest = true) : Keeps K X s (enterRest new s) := by
  have hbridge (u : State) : sight (setActive false (deliver .motorSpeed noneMark (deliver .motorW noneMark
      { u with drive := { u.drive with bridge := .off, iMotor := none, pMeas := none, speed := none } })))
        = sight u := setActive_sight _ _
  exact (((keeps_changeState (mayEnter_rest s h)).trans (keeps_zeroSetPoint _)).then_sight (hbridge _)).trans
    (keeps_leaveAttachWait _)

theorem keeps_reachOff (s : State) : Keeps K X s (reachOff s) := by
  have hcheck (u : State) : sight (if u.drive.startPending then emit .startCheck u else u) = sight u :=
    sight_ite rfl rfl
  have hstopped : Keeps K X s (raise .motorStopped (enterRest .off s)) :=
    (keeps_enterRest s rfl).then_sight (raise_sight _ _)
  exact hstopped.then_sight (hcheck _)

theorem keeps_enterStopping {c : StopCause} (h : s.drive.state.drives = true) :
    Keeps K X s (enterStopping c s) := by
  have hmay : mayEnter .stopping { s with drive := { s.drive with stopCause := c } } :=
    ⟨.inr (.inl (atRest_of_drives h)), .inl rfl⟩
  have hstop := ((keeps_changeState (K := K) (X := X) hmay).after_sight (s := s)).trans (keeps_zeroSetPoint _)
  exact .ite (fun _ => hstop.trans (keeps_reachOff _)) fun _ => hstop.then_sight

theorem keeps_stopOrder (c : StopCause) (s : State) : Keeps K X s (stopOrder c s) :=
  .ite (fun h => keeps_enterStopping h) fun _ => .refl s

theorem keeps_enterArming (h : mayEnter .arming s) : Keeps K X s (enterArming s) :=
  ((keeps_changeState (s := { s with drive := { s.drive with startPending := false } }) h).after_sight).then_sight
    (setActive_sight _ _)

theorem keeps_enterAlign (h : s.drive.state.drives = true) : Keeps K X s (enterAlign s) :=
  (keeps_changeState ⟨.inr (.inl (atRest_of_drives h)), .inr (.inl h)⟩).then_sight

theorem keeps_enterSpinup (h : s.drive.state.drives = true) : Keeps K X s (enterSpinup s) :=
  (keeps_changeState ⟨.inr (.inl (atRest_of_drives h)), .inr (.inl h)⟩).then_sight

/-- RUN is entered from SPINUP with a window open (R47, R97). -/
theorem keeps_enterRun (h : s.drive.state.drives = true) : Keeps K X s (enterRun s) := by
  have hrun : Keeps K X s (changeState .run s) :=
    keeps_changeState ⟨.inr (.inl (atRest_of_drives h)), .inr (.inl h)⟩
  have hstate : (changeState .run s).drive.state = .run := by rw [changeState_drive]
  exact (hrun.trans (.of_dirt (d := { (changeState .run s).dirt with window := some ⟨100, 0, 0⟩ }) (by simp) (by simp)
    fun hl => ⟨hl.1, fun _ => hstate⟩)).then_sight

theorem keeps_runIfLocked (h : s.drive.state.drives = true) : Keeps K X s (runIfLocked s) :=
  .ite (fun _ => keeps_enterRun h) fun _ => .refl s

/-! ## Trips, press and release (R43, R50, R54) -/

theorem addTrip_length {t : Trip} {l : List Trip} (h : l.length ≤ 3) : (addTrip t l).length ≤ 3 := by
  unfold addTrip
  split <;> simp <;> omega

theorem bump_le {limit n : Nat} : bump limit n ≤ limit := by
  unfold bump; split <;> omega

theorem keeps_trip {c : TripCause} (hK : .trips ∈ K) (s : State) : Keeps K X s (trip c s) := by
  have hrecord : Keeps K X s { s with drive := { s.drive with
      bridge := .off, tripCause := c, trips := addTrip ⟨c, s.drive.clock, s.drive.state⟩ s.drive.trips
      tripCount := bump 65535 s.drive.tripCount, startPending := false } } :=
    .of_drive rfl (fun h => absurd hK h) (fun h => ⟨addTrip_length h.1, bump_le⟩) fun h => h.2.2
  have hevents (b : Bool) (u : State) : sight (raiseIf b .motorLocked (raise .motorFault u)) = sight u :=
    sight_ite rfl rfl
  have hraised := hrecord.then_sight (hevents (locks (addTrip ⟨c, s.drive.clock, s.drive.state⟩ s.drive.trips)) _)
  have hfault (u : State) : sight { u with drive := { u.drive with faultTimer := some 500 } } = sight u := rfl
  exact .ite (fun _ => hraised.trans (keeps_enterRest _ rfl)) fun _ =>
    (hraised.trans (keeps_enterRest _ rfl)).then_sight (hfault _)

/-- A start that is not refused begins from OFF with no dock and no STOP_MOTOR watch FIRED (R43). -/
theorem mayEnter_arming (h : startRefusal s = .none) : mayEnter .arming s := by
  unfold startRefusal at h
  split_ifs at h with h1 h2 h3 h4
  exact ⟨.inr (.inr (by simpa using h3)), .inr (.inr (by simpa using h4))⟩

theorem keeps_press (s : State) : Keeps K X s (press s) :=
  .ite (fun h => keeps_enterArming (mayEnter_arming h)) fun _ => .of_sight rfl

theorem keeps_repeatCheck (s : State) : Keeps K X s (repeatCheck s) :=
  .ite (fun _ => .ite (fun h => keeps_enterArming (mayEnter_arming h)) fun _ => .of_sight (sight_ite rfl rfl))
    fun _ => .refl s

theorem keeps_leaveFault (s : State) : Keeps K X s (leaveFault s) := keeps_enterRest s rfl

theorem keeps_abortStart (s : State) : Keeps K X s (abortStart s) :=
  ((keeps_enterRest _ rfl).after_sight).then_sight (raise_sight _ _)

theorem keeps_releaseTrigger (s : State) : Keeps K X s (releaseTrigger s) := by
  refine ((keeps_collapseStack _).after_sight (s := s)).trans
    (t := collapseStack { s with drive := { s.drive with startPending := false } }) ?_
  generalize hu : collapseStack { s with drive := { s.drive with startPending := false } } = u
  unfold releaseTrigger
  rw [hu]
  dsimp only
  split
  case h_1 | h_2 | h_3 => exact .refl u
  case h_4 | h_5 | h_6 => exact keeps_abortStart u
  case h_7 h => exact keeps_enterStopping (by rw [h]; rfl)
  case h_8 => exact .ite (fun _ => keeps_leaveFault u) fun _ => .refl u

theorem keeps_debounceExpired (s : State) : Keeps K X s (debounceExpired s) :=
  .ite (fun _ => .of_sight rfl) fun _ => .ite (fun _ => (keeps_press _).after_sight) fun _ =>
    (keeps_releaseTrigger _).after_sight

/-! ## The watches (R51, R173 to R180) -/

/-- The records of the watches replaced: what was ordered and handed on is still to follow. -/
theorem keeps_writeWatch (w : WatchUnit) (s : State) :
    Keeps K (.watch :: .result :: X) s { s with watch := w } := by
  refine ⟨rfl, fun _ => rfl, fun k _ => by cases k <;> simp [Kept.same], fun l hl h => ?_⟩
  cases l
  case watch | result => simp at hl
  all_goals exact h

theorem limitSetPoint_watch (s : State) : (limitSetPoint s).watch = s.watch := by
  unfold limitSetPoint; split <;> rfl

/-- After the combined results are handed on they are those of the records (R177). -/
theorem handWatch_watch (s : State) : (handWatch s).watch = { s.watch with
    derate := derateInForce s.watch.recs.toList, pauseOrder := pauseOrdered s.watch.recs.toList } := by
  unfold handWatch
  dsimp only
  repeat' split
  · rfl
  · rw [limitSetPoint_watch]
  · exact congrArg State.watch (pauseOrderChanged_besideDock _ _)
  · exact (congrArg State.watch (pauseOrderChanged_besideDock _ _)).trans (limitSetPoint_watch _)

theorem handWatch_resultLaw (s : State) : resultLaw (handWatch s) := by
  unfold resultLaw
  rw [handWatch_watch]
  exact ⟨rfl, rfl⟩

theorem stopFired_of_recs {w w' : WatchUnit} (h : w'.recs = w.recs) : stopFired w' = stopFired w := by
  rw [stopFired, h, stopFired]

/-- The results alone replaced: no order to the motor follows. -/
theorem keeps_writeResults (d : Nat) (p : Bool) (s : State) :
    Keeps K (.result :: X) s { s with watch := { s.watch with derate := d, pauseOrder := p } } := by
  refine ⟨rfl, fun _ => rfl, fun k _ => by cases k <;> simp [Kept.same], fun l hl h => ?_⟩
  cases l
  case result => simp at hl
  all_goals exact h

theorem keeps_handWatch (s : State) : Keeps K X s (handWatch s) := by
  refine Keeps.restore (l := .result) ((keeps_writeResults (derateInForce s.watch.recs.toList)
    (pauseOrdered s.watch.recs.toList) s).trans ?_) fun _ => handWatch_resultLaw s
  unfold handWatch
  dsimp only
  repeat' split
  · exact .refl _
  · exact keeps_limitSetPoint _
  · exact keeps_pauseOrderChanged _ _
  · exact (keeps_limitSetPoint _).trans (keeps_pauseOrderChanged _ _)

/-- The records replaced, with the stop order that a newly FIRED one gives. -/
theorem Keeps.then_handWatch (h : Keeps K (.watch :: .result :: X) s t) (hw : watchLaw s → watchLaw t) :
    Keeps K X s (handWatch t) :=
  ((h.restore hw).trans (keeps_handWatch t)).restore fun _ => handWatch_resultLaw t

theorem stopFired_iff (w : WatchUnit) : stopFired w = true ↔ ∃ r ∈ w.recs.toList, firedWith .stopMotor r = true := by
  simp only [stopFired, List.any_eq_true]
  rfl

/-- A request leaves a record that is not FIRED (R178 to R180). -/
theorem keeps_setWatch {i : Fin 8} {r : Option WatchRec} (hr : isFired r = false) (s : State) :
    Keeps K X s (setWatch i r s) := by
  refine (keeps_writeWatch { s.watch with recs := s.watch.recs.set i r } s).then_handWatch fun hlaw hfired => hlaw ?_
  obtain ⟨q, hq, hstop⟩ := (stopFired_iff _).mp hfired
  rw [Vector.toList_set] at hq
  rcases List.mem_or_eq_of_mem_set hq with hold | rfl
  · exact (stopFired_iff _).mpr ⟨q, hold, hstop⟩
  · cases q with
    | none => cases hstop
    | some q => simp_all [firedWith, isFired]

theorem take_action (q : Quantity) (v : Half) (r : WatchRec) : (r.take q v).action = r.action := by
  unfold WatchRec.take WatchRec.move
  repeat' split
  all_goals rfl

theorem isFired_of_firedWith {a : WatchAction} {r : Option WatchRec} (h : firedWith a r = true) :
    isFired r = true := by
  cases r <;> simp_all [firedWith, isFired]

/-- A record FIRED after an update either was so before or is newly FIRED (R176). -/
theorem firedWith_take {a : WatchAction} {q : Quantity} {v : Half} {r : Option WatchRec}
    (h : firedWith a (r.map (WatchRec.take q v)) = true) (hr : isFired r = true) : firedWith a r = true := by
  cases r <;> simp_all [firedWith, isFired, take_action]

theorem newlyFired_map (g : Option WatchRec → Option WatchRec) (l : List (Option WatchRec)) :
    newlyFired l (l.map g) = (l.filter fun r => isFired (g r) && !isFired r).map g := by
  induction l with
  | nil => rfl
  | cons r l ih =>
    simp only [newlyFired, List.map_cons, List.zip_cons_cons, List.filter_cons] at ih ⊢
    split <;> simp [ih]

theorem mapTable_toList {α β : Type} {n : Nat} (f : α → β) (v : Vector α n) :
    (mapTable f v).toList = v.toList.map f := by
  simp [mapTable, Vector.toList]

/-- A STOP_MOTOR record FIRED after an update was FIRED before, or is one of the newly FIRED (R177). -/
theorem stopFired_after_update {q : Quantity} {v : Half} {w : WatchUnit}
    (h : stopFired { w with recs := mapTable (Option.map (WatchRec.take q v)) w.recs } = true) :
    stopFired w = true ∨ (newlyFired w.recs.toList
      (mapTable (Option.map (WatchRec.take q v)) w.recs).toList).any (firedWith .stopMotor) = true := by
  obtain ⟨r', hr', hstop⟩ := (stopFired_iff _).mp h
  rw [mapTable_toList] at hr' ⊢
  obtain ⟨r, hr, rfl⟩ := List.mem_map.mp hr'
  by_cases hold : isFired r = true
  · exact .inl ((stopFired_iff _).mpr ⟨r, hr, firedWith_take hstop hold⟩)
  · refine .inr (List.any_eq_true.mpr ⟨_, ?_, hstop⟩)
    rw [newlyFired_map]
    exact List.mem_map_of_mem (List.mem_filter.mpr ⟨hr, by simp [isFired_of_firedWith hstop, hold]⟩)

theorem setActive_drive (b : Bool) (s : State) : (setActive b s).drive = s.drive := by
  unfold setActive; split <;> simp

theorem enterRest_state (new : MotorState) (s : State) : (enterRest new s).drive.state = new := by
  have hleave := congrArg (·.drive.state) (leaveAttachWait_besideDock (setActive false
    (deliver .motorSpeed noneMark (deliver .motorW noneMark { zeroSetPoint (changeState new s) with drive :=
      { (zeroSetPoint (changeState new s)).drive with bridge := .off, iMotor := none, pMeas := none, speed := none } }))))
  refine Eq.trans hleave ?_
  simp [besideDock, setActive_drive, zeroSetPoint, changeState_drive]

theorem reachOff_state (s : State) : (reachOff s).drive.state = .off := by
  unfold reachOff
  dsimp only
  split <;> exact enterRest_state .off s

/-- After a stop order the motor is not driven (R51). -/
theorem stopOrder_not_drives (c : StopCause) (s : State) : (stopOrder c s).drive.state.drives = false := by
  unfold stopOrder
  split
  · unfold enterStopping
    dsimp only
    split
    · rw [reachOff_state]; rfl
    · simp [zeroSetPoint, changeState_drive, MotorState.drives]
  · simpa using ‹¬ s.drive.state.drives = true›

theorem raiseIf_drive (c : Bool) (e : Event) (s : State) : (raiseIf c e s).drive = s.drive := by
  unfold raiseIf; split <;> rfl

theorem raiseIf_watch (c : Bool) (e : Event) (s : State) : (raiseIf c e s).watch = s.watch := by
  unfold raiseIf; split <;> rfl

theorem keeps_watchUpdate (q : Quantity) (v : Half) (s : State) : Keeps K X s (watchUpdate q v s) := by
  have hwrite := (keeps_writeWatch (K := K) (X := X) { s.watch with
    recs := mapTable (Option.map (WatchRec.take q v)) s.watch.recs } s).then_sight (raiseIf_sight
      (!(newlyFired s.watch.recs.toList (mapTable (Option.map (WatchRec.take q v)) s.watch.recs).toList).isEmpty)
      .watchFired _)
  unfold watchUpdate
  dsimp only
  split
  · exact (hwrite.trans (keeps_stopOrder .watch _)).then_handWatch fun _ _ => stopOrder_not_drives .watch _
  · rename_i hnone
    refine hwrite.then_handWatch fun hlaw hfired => ?_
    rw [raiseIf_watch] at hfired
    rw [raiseIf_drive]
    exact hlaw ((stopFired_after_update hfired).resolve_right hnone)

end Sys2Proof.Machine
end

section
namespace Sys2Proof.Machine

variable {K : List Kept} {X : List Law} {s t u : State}

/-! ## Hand-overs and the end of every event (log entry 5, R186) -/

theorem keeps_grantArrives (g : Nat) (s : State) : Keeps K X s (grantArrives g s) := by
  have hgrant : Keeps K X s (if s.drive.startPending
      then emit .startCheck { s with gov := { s.gov with grant := g } }
      else { s with gov := { s.gov with grant := g } }) := .of_sight (sight_ite rfl rfl)
  have hstages (u : State) : Keeps K X u (if g = 0 ∧ u.drive.state.drives = true then
      stopOrder .starved { u with gov := { u.gov with stopStarved := true, pset := 0 } } else limitSetPoint u) :=
    .ite (fun _ => (keeps_pset (g := { u.gov with stopStarved := true, pset := 0 }) rfl rfl
      fun h => ⟨h.1, by simp⟩).trans (keeps_stopOrder .starved _)) fun _ => keeps_limitSetPoint u
  exact hgrant.trans (hstages _)

theorem keeps_recomputeNow (s : State) : Keeps K X s (recomputeNow s) := by
  have hhanded (a : Arb) (b : Bool) : Keeps K X s (handTools (raiseIf b .allotStarved { s with arb := a })) :=
    .of_sight ((handTools_sight _).trans (raiseIf_sight _ _ _))
  exact .ite (fun _ => hhanded _ _) fun _ => (hhanded _ _).trans (keeps_grantArrives _ _)

theorem keeps_cutoffStopNow (s : State) : Keeps K X s (cutoffStopNow s) :=
  .ite (fun _ => .ite (fun _ => (keeps_stopOrder .pack _).after_sight) fun _ =>
    (keeps_grantArrives 0 _).after_sight) fun _ => keeps_stopOrder .pack s

theorem keeps_take (g : Signal) (s : State) : Keeps K X s (take g s) := by
  cases g with
  | recompute => exact keeps_recomputeNow s
  | update q v => exact keeps_watchUpdate q v s
  | stop c => exact keeps_stopOrder c s
  | cutoffStop => exact keeps_cutoffStopNow s
  | startCheck => exact keeps_repeatCheck s

theorem keeps_drain (n : Nat) (s : State) : Keeps K X s (drain n s) := by
  induction n generalizing s with
  | zero => exact .refl s
  | succ n ih =>
    unfold drain
    split
    · exact .refl s
    · exact ((keeps_take _ _).trans (ih _)).after_sight

theorem keeps_settle (s : State) : Keeps K X s (settle s) := keeps_drain 400 s

theorem keeps_conclude (s : State) : Keeps K X s (conclude s) :=
  (keeps_settle s).then_sight (finish_sight _)

/-- What the command's own work keeps, the command keeps. -/
theorem Keeps.of_event {w : State → State} (hw : Keeps K X s (w s)) (h : event w s = .next t) : Keeps K X s t := by
  unfold event at h
  split at h
  · cases h; exact .refl s
  · cases h; exact hw.trans (keeps_conclude _)

/-! ## The Pack Monitor and the Arbiter (Chapters 1 and 2) -/

theorem ocvAlong_le (v : Nat) (l : List Nat) (base : Nat) : ocvAlong base v l ≤ base + 100 * (l.length - 1) := by
  induction l generalizing base with
  | nil => simp [ocvAlong]
  | cons a l ih =>
    cases l with
    | nil => simp [ocvAlong]
    | cons b l =>
      unfold ocvAlong
      split
      · have : (v - a) * 100 / (b - a) ≤ 100 := by
          rcases Nat.eq_zero_or_pos (b - a) with h0 | hpos
          · simp [h0]
          · exact Nat.div_le_of_le_mul (Nat.mul_le_mul_right _ (by omega))
        simp only [List.length_cons]
        omega
      · have := ih (base + 100)
        simp only [List.length_cons] at this ⊢
        omega

/-- What holds of both branches holds of the whole. -/
theorem ite_cases {α : Sort*} {P : α → Prop} {c : Prop} [Decidable c] {a b : α} (ha : c → P a) (hb : ¬ c → P b) :
    P (if c then a else b) := by
  split
  · exact ha ‹_›
  · exact hb ‹_›

/-- The lookup gives at most the whole charge, in permille (R11). -/
theorem ocvLookup_le {table : List Nat} (h : table.length ≤ 11) (v : Nat) : ocvLookup table v ≤ 1000 := by
  unfold ocvLookup
  split
  · omega
  · have := ocvAlong_le v table 0
    omega

theorem gaugeFromOcv_le {p : Pack} (h : p.ocv.length ≤ 11) (mean : Nat) : gaugeFromOcv p mean ≤ fullCharge p :=
  Nat.div_le_of_le_mul (Nat.mul_le_mul_right _ (ocvLookup_le h mean))

/-- The stages of a round keep the settings, and the gauge within its bounds (R1, R10). -/
theorem gaugeStage_gauge (charges : Bool) (r : PackRecord) {p : Pack} (h : p.ocv.length ≤ 11) :
    (gaugeStage charges r p).gauge ≤ fullCharge p := by
  have hlookup := gaugeFromOcv_le h (r.vpack / p.count)
  have hcounted (g : Nat) : (if p.record.isNone then gaugeFromOcv p (r.vpack / p.count) else min g (fullCharge p))
      ≤ fullCharge p := by
    split
    · exact hlookup
    · exact min_le_right _ _
  exact ite_cases (P := fun q : Pack => q.gauge ≤ fullCharge p) (fun _ => hlookup) fun _ => hcounted _

theorem gaugeStage_settings (charges : Bool) (r : PackRecord) (p : Pack) :
    (gaugeStage charges r p).count = p.count ∧ (gaugeStage charges r p).capacity = p.capacity
      ∧ (gaugeStage charges r p).inom = p.inom ∧ (gaugeStage charges r p).ocv = p.ocv :=
  ite_cases (P := fun q : Pack => q.count = p.count ∧ q.capacity = p.capacity ∧ q.inom = p.inom ∧ q.ocv = p.ocv)
    (fun _ => ⟨rfl, rfl, rfl, rfl⟩) fun _ => ⟨rfl, rfl, rfl, rfl⟩

theorem keeps_roundOf (docked charges : Bool) (r : PackRecord) (s : State) :
    Keeps K X s { s with pack := roundOf docked charges r s.pack } := by
  obtain ⟨hcount, hcap, hinom, hocv⟩ := gaugeStage_settings charges r (protect docked r s.pack)
  refine .of_pack (fun _ => ⟨hcount, hcap, hinom, hocv⟩) fun ⟨_, hlen⟩ => ?_
  have hgauge := gaugeStage_gauge charges r (p := protect docked r s.pack) hlen
  refine ⟨?_, ?_⟩
  · change (gaugeStage charges r (protect docked r s.pack)).gauge ≤
      (gaugeStage charges r (protect docked r s.pack)).capacity * 360000
    rw [hcap]; exact hgauge
  · change (gaugeStage charges r (protect docked r s.pack)).ocv.length ≤ 11
    rw [hocv]; exact hlen

theorem deliverAll_sight (l : List (Quantity × Half)) (s : State) : sight (deliverAll l s) = sight s := by
  unfold deliverAll
  induction l generalizing s with
  | nil => rfl
  | cons q l ih => exact (ih _).trans rfl

theorem overcurrentTrip_sight (s : State) : sight (overcurrentTrip s) = sight s := by
  have hcount (u : State) : sight (let v := startHoldoff u; { v with arb := { v.arb with supCount := 0 } }) = sight u :=
    rfl
  exact (hcount _).trans ((setTpwr_sight _ _ _).trans (raise_sight _ _))

theorem supervise_sight (itool : Nat) (s : State) : sight (supervise itool s) = sight s :=
  sight_ite (sight_ite (overcurrentTrip_sight s) rfl) rfl

theorem keeps_cutoffOrders (s : State) : Keeps K X s (cutoffOrders s) := (keeps_holdPower _).after_sight

theorem keeps_thermalCheck (hK : .trips ∈ K) (die : Int) (s : State) : Keeps K X s (thermalCheck die s) :=
  .ite (fun _ => keeps_trip hK s) fun _ => .refl s

theorem keeps_packRound (hK : .trips ∈ K) (readings : Readings) (s : State) :
    Keeps K X s (packRound readings s) := by
  unfold packRound
  dsimp only
  refine Keeps.trans ?_ (keeps_thermalCheck hK _ _)
  refine Keeps.then_sight ?_ (deliverAll_sight _ _)
  refine Keeps.then_sight ?_ (sight_ite (askRecompute_sight _) rfl)
  refine Keeps.then_sight ?_ (supervise_sight _ _)
  refine Keeps.trans ?_ (.ite (fun _ => keeps_releasePower _) fun _ => .refl _)
  refine Keeps.trans ?_ (.ite (fun _ => (keeps_cutoffOrders _).after_sight) fun _ => .refl _)
  refine Keeps.trans ?_ (.ite (fun _ => keeps_overvoltOrder _) fun _ => .refl _)
  exact (keeps_roundOf _ _ _ _).then_sight ((raiseIf_sight _ _ _).trans ((raiseIf_sight _ _ _).trans
    ((raiseIf_sight _ _ _).trans ((raiseIf_sight _ _ _).trans (raiseIf_sight _ _ _)))))

/-- A gauge set within the whole charge of the pack (R10). -/
theorem gaugeLaw_of_le {p : Pack} (hcap : p.capacity = s.pack.capacity) (hocv : p.ocv = s.pack.ocv)
    (hg : p.gauge ≤ fullCharge s.pack) (h : gaugeLaw s) : gaugeLaw { s with pack := p } := by
  have hfull : fullCharge p = fullCharge s.pack := congrArg (· * 360000) hcap
  have hlen : p.ocv.length ≤ 11 := hocv ▸ h.2
  have hle : p.gauge ≤ fullCharge p := hfull.symm ▸ hg
  exact ⟨hle, hlen⟩

theorem keeps_ocvCorrect (s : State) : Keeps K X s (ocvCorrect s) := by
  unfold ocvCorrect
  split
  · exact .ite (fun _ => .of_pack (fun _ => ⟨rfl, rfl, rfl, rfl⟩) fun h =>
      gaugeLaw_of_le rfl rfl (gaugeFromOcv_le h.2 _) h) fun _ => .refl s
  · exact .refl s

theorem keeps_cutoffReached (s : State) : Keeps K X s (cutoffReached s) :=
  .ite (fun _ => ((keeps_cutoffOrders _).after_sight).then_sight (askRecompute_sight _)) fun _ => .refl s

theorem settleExpired_sight (k : ToolSlot) (s : State) : sight (settleExpired k s) = sight s := by
  refine sight_ite ?_ rfl
  exact Eq.trans (b := sight (if s.line.tpwr = .full then setTpwr .signal .timeout s else forcedRelease .timeout s))
    rfl (sight_ite (setTpwr_sight _ _ _) (forcedRelease_sight _ _))

theorem offerExpired_sight (k : ToolSlot) (s : State) : sight (offerExpired k s) = sight s :=
  sight_ite (askRecompute_sight _) rfl

theorem holdoffExpired_sight (s : State) : sight (holdoffExpired s) = sight s :=
  sight_ite (askRecompute_sight _) rfl

/-! ## The Motor Drive's events (Chapter 3) -/

theorem keeps_triggerSettled (s : State) : Keeps K X s (triggerSettled s) :=
  .ite (fun _ => Keeps.trans (.ite (fun _ => keeps_wake s) fun _ => .refl s) (keeps_debounceExpired _))
    fun _ => .refl s

theorem keeps_commutate (crossing : Bool) (power current : Nat) (s : State) :
    Keeps K X s (commutate crossing power current s) := by
  unfold commutate
  split
  · rename_i h
    exact (keeps_runIfLocked (s := { s with drive := { s.drive with
      crossings := if crossing then s.drive.crossings + 1 else 0 } }) (by rw [h]; rfl)).after_sight
  · exact .of_sight rfl
  all_goals exact .refl s

theorem keeps_rampStepped (s : State) : Keeps K X s (rampStepped s) :=
  .ite (fun h => (keeps_runIfLocked (s := { s with drive := { s.drive with
    rampRate := s.drive.rampRate + 15, rampTimer := some 10 } }) (by rw [h]; rfl)).after_sight) fun _ => .refl s

theorem keeps_faultTimedOut (s : State) : Keeps K X s (faultTimedOut s) :=
  .ite (fun _ => .ite (fun _ => .of_sight rfl) fun _ => (keeps_leaveFault _).after_sight) fun _ => .refl s

/-! ## The governor, the load monitor and the Dirt Monitor (Chapters 4 to 6) -/

theorem measure_sight (current period : Nat) (s : State) : sight (measure current period s) = sight s := rfl

theorem keeps_startAttempt (s : State) : Keeps K X s (startAttempt s) := by
  have hpulse (u : State) : sight { u with load := { u.load with phase := .pulse, timer := some 600 } } = sight u :=
    rfl
  have hcount : sight { s with load := { s.load with attempts := s.load.attempts + 1 } } = sight s := rfl
  exact ((keeps_clearPush _).after_sight hcount).then_sight (hpulse _)

theorem keeps_attemptOrFail (s : State) : Keeps K X s (attemptOrFail s) :=
  .ite (fun _ => keeps_startAttempt s) fun _ => .of_sight rfl

theorem keeps_classChanged (new : BlockClass) (s : State) : Keeps K X s (classChanged new s) := by
  cases new
  case blocked => exact .ite (fun _ => .of_sight rfl) fun _ => (keeps_attemptOrFail _).after_sight
  all_goals exact .of_sight (sight_ite rfl rfl)

theorem keeps_countedStep (l : Nat) (s : State) : Keeps K X s (countedStep l s) :=
  .ite (fun _ => .of_sight rfl) fun _ => (keeps_classChanged _ _).after_sight

theorem keeps_loadStep (pset : Nat) (ramping : Bool) (s : State) : Keeps K X s (loadStep pset ramping s) := by
  unfold loadStep
  dsimp only
  generalize (match (if s.drive.state = .run then some (expectedSpeed s.gov.curve pset) else none) with
    | some n => loadRatio s.drive.state pset ramping s.drive.pMeas s.drive.speed n
    | none => none) = l
  split
  · exact (keeps_countedStep _ _).after_sight
  · exact .of_sight rfl

theorem keeps_governorStep (current period : Nat) (s : State) : Keeps K X s (governorStep current period s) :=
  .ite (fun _ => (((keeps_governorWork _).after_sight).then_sight (measure_sight _ _ _)).trans (keeps_loadStep _ _ _))
    fun _ => .refl s

theorem keeps_pulseEnded (s : State) : Keeps K X s (pulseEnded s) := by
  unfold pulseEnded
  dsimp only
  split
  · have hpop : Keeps K X s (if s.load.pushMade = true then clearPop s else s) :=
      .ite (fun _ => keeps_clearPop s) fun _ => .refl s
    exact .ite (fun _ => hpop.then_sight) fun _ => hpop.then_sight
  · exact .refl s

theorem keeps_echoHeard (s : State) : Keeps K X s (echoHeard s) :=
  .ite (fun _ => .of_dirt ⟨rfl, rfl, rfl, rfl, rfl, rfl⟩ ⟨rfl, rfl, rfl⟩ fun h =>
    ⟨fun hl => ⟨(h.1 hl).1, by simp⟩, h.2⟩) fun _ => .refl s

/-- A missed echo zeroes the level in RUN; outside RUN it was 0 (R94, R95). -/
theorem keeps_echoMissed (s : State) : Keeps K X s (echoMissed s) := by
  refine .ite (fun _ => ?_) fun _ => .refl s
  have habsent : Keeps K (.dirt :: X) s { s with dirt := { s.dirt with echo := none, status := .absent } } := by
    refine ⟨rfl, fun _ => rfl, fun k _ => by cases k <;> simp [Kept.same], fun l hl h => ?_⟩
    cases l
    case dirt => simp at hl
    all_goals exact h
  have hraised := habsent.then_sight (raiseIf_sight (s.dirt.status != .absent) .dirtSensor _)
  dsimp only
  split
  · rename_i hrun
    rw [raiseIf_drive] at hrun
    refine (hraised.trans (keeps_zeroLevel none _)).restore fun h => ⟨by simp [zeroLevel_dirt], fun _ => ?_⟩
    unfold zeroLevel
    rw [raiseIf_drive]
    exact (congrArg Drive.state (raiseIf_drive _ _ _)).trans hrun
  · rename_i hrun
    rw [raiseIf_drive] at hrun
    refine hraised.restore fun h => ?_
    have hdirt : (raiseIf (s.dirt.status != .absent) .dirtSensor { s with dirt :=
        { s.dirt with echo := none, status := .absent } }).dirt
          = { s.dirt with echo := none, status := .absent } := by unfold raiseIf; split <;> rfl
    unfold Law.holds dirtLaw
    rw [hdirt, raiseIf_drive]
    exact ⟨fun hl => absurd (h.1 hl).1 hrun, h.2⟩

theorem keeps_impactEnded (i : Impact) (s : State) : Keeps K X s (impactEnded i s) := by
  unfold impactEnded
  split
  · rename_i w hw
    have hcount (w' : Window) : Keeps K X s { s with dirt := { s.dirt with window := some w' } } :=
      .of_dirt ⟨rfl, rfl, rfl, rfl, rfl, rfl⟩ ⟨rfl, rfl, rfl⟩ fun h => ⟨h.1, fun _ => h.2 (by rw [hw]; rfl)⟩
    dsimp only
    split
    · exact .refl s
    · exact hcount _
  · exact .refl s

/-- What a window end leaves of the Dirt Monitor's settings: all of them. -/
def Dirt.settings (d : Dirt) := (d.large, d.t1, d.t2, d.t3, d.capacity, d.fullPct)

theorem fallRule_keeps (r : Nat) (d : Dirt) : (fallRule r d).settings = d.settings ∧ (fallRule r d).bin = d.bin
    ∧ (fallRule r d).sat = d.sat ∧ (fallRule r d).status = d.status ∧ (fallRule r d).window = d.window := by
  unfold fallRule
  repeat' split
  all_goals exact ⟨rfl, rfl, rfl, rfl, rfl⟩

theorem classify_keeps (r : Nat) (d : Dirt) : (classify r d).settings = d.settings ∧ (classify r d).bin = d.bin
    ∧ (classify r d).sat = d.sat ∧ (classify r d).status = d.status ∧ (classify r d).window = d.window := by
  unfold classify
  dsimp only
  repeat' split
  · exact fallRule_keeps r _
  · exact ⟨rfl, rfl, rfl, rfl, rfl⟩
  · exact fallRule_keeps r _

end Sys2Proof.Machine
end

section
namespace Sys2Proof.Machine

variable {K : List Kept} {X : List Law} {s t u : State}

/-! ## Window ends and the bin (R98 to R107) -/

/-- A change of the Dirt Monitor that may store settings and count into the bin. -/
theorem Keeps.of_bin {d : Dirt} (hsettings : .dirtSettings ∉ K → d.settings = s.dirt.settings)
    (hbin : .bin ∈ K) (hdirt : dirtLaw s → dirtLaw { s with dirt := d })
    (hlaw : binLaw s → binLaw { s with dirt := d }) : Keeps K X s { s with dirt := d } := by
  refine ⟨rfl, fun _ => rfl, fun k hk => ?_, fun l _ h => ?_⟩
  · cases k
    case dirtSettings => simpa [Kept.same, Dirt.settings] using hsettings hk
    case bin => exact absurd hbin hk
    all_goals simp [Kept.same]
  · cases l
    case bin => exact hlaw h
    case dirt => exact hdirt h
    all_goals exact h

theorem keeps_evalFull (hK : .bin ∈ K) (s : State) : Keeps K X s (evalFull s) :=
  (Keeps.of_bin (d := { s.dirt with full := decide (s.dirt.fullPct ≤ binPct s.dirt) }) (fun _ => rfl) hK
    (fun h => h) fun h => h).then_sight (raiseIf_sight _ _ _)

theorem keeps_emptyBin (hK : .bin ∈ K) (s : State) : Keeps K X s (emptyBin s) :=
  ((Keeps.of_bin (d := { s.dirt with bin := 0 }) (fun _ => rfl) hK (fun h => h) fun ⟨hcap, hpct, _, _⟩ =>
    ⟨hcap, hpct, Nat.zero_le _, fun (he : 0 = s.dirt.capacity) => absurd (hcap.trans_eq he.symm) (by decide)⟩).trans
      (keeps_evalFull hK _)).then_sight (deliver_sight _ _ _)

/-- BIN_RESET: the counter and its saturation (R106). -/
theorem keeps_resetBin (hK : .bin ∈ K) (s : State) :
    Keeps K X s (emptyBin { s with dirt := { s.dirt with sat := false } }) := by
  have hcleared : Keeps K (.bin :: X) s { s with dirt := { s.dirt with sat := false } } := by
    refine ⟨rfl, fun _ => rfl, fun k hk => by cases k <;> simp_all [Kept.same], fun l hl h => ?_⟩
    cases l
    case bin => simp at hl
    all_goals exact h
  refine (hcleared.trans (keeps_emptyBin hK _)).restore fun ⟨hcap, hpct, _, _⟩ => ?_
  have hempty (u : State) : (emptyBin u).dirt = { u.dirt with
      bin := 0, full := decide (u.dirt.fullPct ≤ binPct { u.dirt with bin := 0 }) } := by
    unfold emptyBin deliverBin evalFull raiseIf
    dsimp only
    split <;> rfl
  unfold Law.holds binLaw
  rw [hempty]
  exact ⟨hcap, hpct, Nat.zero_le _, fun (he : 0 = s.dirt.capacity) => absurd (hcap.trans_eq he.symm) (by decide)⟩

/-- The bin of a window end holds at most its capacity, and is saturated there (R103). -/
theorem accumulate_binLaw {d : Dirt} (w : Nat) (h : binLaw { s with dirt := d }) :
    binLaw { s with dirt := accumulate w d } := by
  obtain ⟨hcap, hpct, -, -⟩ := h
  exact ⟨hcap, hpct, min_le_right _ _, fun he => by simp only [accumulate] at he ⊢; simp [he]⟩

/-- The dirt record of a window end before its count joins the bin (R98 to R100). -/
def windowRecord (w : Window) (s : State) : Dirt :=
  let wc := weighted w.small w.large
  let f := flowIndex s.gov.pset
  let rate := if s.dirt.status == .absent then none else some (rateOf wc f)
  let d : Dirt := { s.dirt with
    window := some ⟨100, 0, 0⟩, lastSmall := w.small, lastLarge := w.large, lastW := wc, lastF := f
    rate := rate, heldLevel := s.load.cls != .clear }
  match rate with
  | some r => if s.load.cls != .clear then d else classify r d
  | none => { d with level := 0, rise := 0, cand := 0, fall := 0 }

/-- What a window end leaves of the Dirt Monitor's record. -/
theorem windowRecord_keeps (w : Window) (s : State) : (windowRecord w s).settings = s.dirt.settings
    ∧ (windowRecord w s).bin = s.dirt.bin ∧ (windowRecord w s).sat = s.dirt.sat
    ∧ (windowRecord w s).status = s.dirt.status := by
  unfold windowRecord
  dsimp only
  split
  · split
    · exact ⟨rfl, rfl, rfl, rfl⟩
    · obtain ⟨hset, hbin, hsat, hstatus, -⟩ := classify_keeps ‹Nat› { s.dirt with
        window := some ⟨100, 0, 0⟩, lastSmall := w.small, lastLarge := w.large
        lastW := weighted w.small w.large, lastF := flowIndex s.gov.pset
        rate := if s.dirt.status == .absent then none
          else some (rateOf (weighted w.small w.large) (flowIndex s.gov.pset))
        heldLevel := s.load.cls != .clear }
      exact ⟨hset, hbin, hsat, hstatus⟩
  · exact ⟨rfl, rfl, rfl, rfl⟩

/-- With the sensor ABSENT a window end leaves the level 0 (R98). -/
theorem windowRecord_level (w : Window) (h : s.dirt.status = .absent) : (windowRecord w s).level = 0 := by
  unfold windowRecord
  simp [h]

/-- The dirt record of a window end, its count in the bin of a PRESENT sensor (R103). -/
def countedRecord (w : Window) (s : State) : Dirt :=
  if (windowRecord w s).status = .present then accumulate (weighted w.small w.large) (windowRecord w s)
  else windowRecord w s

theorem windowEnd_eq (w : Window) (s : State) : windowEnd w s =
    deliverBin (deliver .dirtRate (reportNat (if s.dirt.status == .absent then none
        else some (rateOf (weighted w.small w.large) (flowIndex s.gov.pset))))
      (evalFull (raiseIf ((windowRecord w s).level != s.dirt.level) .dirtLevel
        { s with dirt := countedRecord w s }))) := rfl

theorem windowRecord_binLaw (w : Window) (h : binLaw s) : binLaw { s with dirt := windowRecord w s } := by
  obtain ⟨hset, hbin, hsat, -⟩ := windowRecord_keeps w s
  simp only [Dirt.settings, Prod.mk.injEq] at hset
  obtain ⟨-, -, -, -, hcap, hpct⟩ := hset
  simpa only [binLaw, hcap, hpct, hbin, hsat] using h

theorem windowRecord_dirtLaw (w : Window) (hw : s.dirt.window.isSome = true) (h : dirtLaw s) :
    dirtLaw { s with dirt := windowRecord w s } := by
  obtain ⟨-, -, -, hstatus⟩ := windowRecord_keeps w s
  refine ⟨fun hlevel => ⟨h.2 hw, fun habsent => ?_⟩, fun _ => h.2 hw⟩
  exact absurd (windowRecord_level w (hstatus ▸ habsent)) (Nat.ne_of_gt hlevel)

theorem keeps_countedRecord (hK : .bin ∈ K) (w : Window) (hw : s.dirt.window.isSome = true) :
    Keeps K X s { s with dirt := countedRecord w s } := by
  have hrecord : Keeps K X s { s with dirt := windowRecord w s } :=
    .of_bin (fun _ => (windowRecord_keeps w s).1) hK (windowRecord_dirtLaw w hw) (windowRecord_binLaw w)
  unfold countedRecord
  split
  · exact hrecord.trans (.of_bin (s := { s with dirt := windowRecord w s }) (fun _ => rfl) hK (fun h => h)
      (accumulate_binLaw _))
  · exact hrecord

theorem keeps_windowEnd (hK : .bin ∈ K) (w : Window) (hw : s.dirt.window.isSome = true) :
    Keeps K X s (windowEnd w s) := by
  rw [windowEnd_eq]
  exact (((keeps_countedRecord hK w hw).then_sight (raiseIf_sight _ _ _)).trans (keeps_evalFull hK _)).then_sight
    ((deliver_sight _ _ _).trans (deliver_sight _ _ _))

theorem keeps_windowEnded (hK : .bin ∈ K) (s : State) : Keeps K X s (windowEnded s) := by
  unfold windowEnded
  split
  · exact keeps_windowEnd hK _ (by rw [‹s.dirt.window = _›]; rfl)
  · exact .refl s

theorem keeps_evacReported (hK : .bin ∈ K) (r : EvacReport) (s : State) : Keeps K X s (evacReported r s) := by
  refine .ite (fun hrunning => ?_) fun _ => .refl s
  cases r
  · exact .of_sight rfl
  · exact (keeps_endEvac _ s (by decide)).trans (keeps_emptyBin hK _)
  · exact keeps_endEvac _ s (by decide)

/-! ## The tool line's events (Chapter 7) -/

theorem keeps_lossReset (s : State) : Keeps K X s (lossReset s) :=
  have hcount (u : State) : sight { u with line := { u.line with losses := 0 } } = sight u := rfl
  (keeps_lineReset false s).then_sight (hcount _)

theorem putOnLine_sight (f : TxFrame) (s : State) : sight (putOnLine f s) = sight s := by
  unfold putOnLine
  split
  · exact (setNode_sight (by intro n; rfl) _).trans rfl
  · rfl

theorem keeps_masterSend (s : State) : Keeps K X s (masterSend s) := by
  refine .ite (fun _ => .ite (fun _ => keeps_lossReset s) fun _ => ?_) fun _ => .refl s
  split
  · refine .of_sight ((putOnLine_sight _ _).trans ?_)
    split <;> rfl
  · exact .refl s

theorem frameEnded_sight (s : State) : sight (frameEnded s) = sight s := by
  unfold frameEnded
  split <;> rfl

theorem keeps_frameLost (s : State) : Keeps K X s (frameLost s) := by
  unfold frameLost
  split
  · refine .ite (fun _ => ?_) fun _ => .of_sight rfl
    split
    · exact (keeps_pollMissed _ _).after_sight
    · exact .of_sight rfl
    · exact .of_sight rfl
  · exact .refl s

theorem keeps_lossLimit (s : State) : Keeps K X s (lossLimit s) :=
  .ite (fun _ => keeps_lossReset s) fun _ => .refl s

/-! ### A new entry of the node list (R115) -/

theorem mem_insertNode {n m : Node} {l : List Node} : m ∈ insertNode n l ↔ m = n ∨ m ∈ l := by
  induction l with
  | nil => simp [insertNode]
  | cons a l ih =>
    unfold insertNode
    split
    · simp
    · simp only [List.mem_cons, ih]
      tauto

theorem insertNode_length (n : Node) (l : List Node) : (insertNode n l).length = l.length + 1 := by
  induction l with
  | nil => rfl
  | cons a l ih =>
    unfold insertNode
    split
    · rfl
    · simp [ih]

theorem insertNode_pairwise {n : Node} {l : List Node} (h : (l.map (·.addr.toNat)).Pairwise (· < ·))
    (hn : ∀ m ∈ l, m.addr ≠ n.addr) : ((insertNode n l).map (·.addr.toNat)).Pairwise (· < ·) := by
  induction l with
  | nil => simp [insertNode]
  | cons a l ih =>
    simp only [List.map_cons, List.pairwise_cons, List.mem_map, forall_exists_index, and_imp,
      forall_apply_eq_imp_iff₂] at h
    obtain ⟨ha, hl⟩ := h
    unfold insertNode
    split
    · rename_i hlt
      simp only [List.map_cons, List.pairwise_cons, List.mem_cons, List.mem_map]
      exact ⟨by rintro _ (rfl | ⟨m, hm, rfl⟩); exacts [hlt, hlt.trans (ha m hm)], by
        rintro _ ⟨m, hm, rfl⟩; exact ha m hm, hl⟩
    · rename_i hge
      have hne : a.addr.toNat ≠ n.addr.toNat := fun he => hn a (by simp) (BitVec.eq_of_toNat_eq he)
      simp only [List.map_cons, List.pairwise_cons, List.mem_map, mem_insertNode]
      refine ⟨?_, ih hl fun m hm => hn m (by simp [hm])⟩
      rintro _ ⟨m, rfl | hm, rfl⟩
      · omega
      · exact ha m hm

theorem insertNode_serials {n : Node} {l : List Node} (h : (l.map (·.serial)).Nodup)
    (hn : ∀ m ∈ l, m.serial ≠ n.serial) : ((insertNode n l).map (·.serial)).Nodup := by
  induction l with
  | nil => simp [insertNode]
  | cons a l ih =>
    simp only [List.map_cons, List.nodup_cons] at h
    unfold insertNode
    split
    · simp only [List.map_cons, List.nodup_cons, List.mem_cons, List.mem_map, not_or]
      exact ⟨⟨fun he => hn a (by simp) he.symm, fun ⟨m, hm, he⟩ => hn m (by simp [hm]) he⟩, by simpa using h.1, h.2⟩
    · simp only [List.map_cons, List.nodup_cons, List.mem_map, mem_insertNode]
      refine ⟨?_, ih h.2 fun m hm => hn m (by simp [hm])⟩
      rintro ⟨m, rfl | hm, he⟩
      · exact hn a (by simp) he.symm
      · exact h.1 (List.mem_map.mpr ⟨m, hm, he⟩)

theorem addrFree_ne {l : ToolLine} {a : Addr} (h : freeAddr l = some a) {m : Node} (hm : m ∈ l.nodes) :
    m.addr ≠ a := by
  have hfree := List.find?_some h
  simp only [addrFree, Bool.and_eq_true, Bool.not_eq_true', List.any_eq_false, beq_iff_eq] at hfree
  exact hfree.1 m hm

/-- A node of a new serial takes the lowest free address (R115). -/
theorem keeps_insertNode {a : Addr} {serial : Serial} (descs : List Byte)
    (hserial : serialNode s serial = none) (hroom : s.line.nodes.length < 4) (ha : freeAddr s.line = some a) :
    Keeps K X s { s with line := { s.line with
      nodes := insertNode (newNode a serial descs) s.line.nodes } } := by
  have hnew : ∀ m ∈ s.line.nodes, m.serial ≠ serial := fun m hm => by
    simpa using List.find?_eq_none.mp hserial m hm
  refine .of_line (fun ⟨_, haddr, hser⟩ => ⟨?_, insertNode_pairwise haddr fun m hm => addrFree_ne ha hm,
    insertNode_serials hser hnew⟩) fun _ ⟨hone, hout, hlen, hnodup, hnodes⟩ => ⟨hone, hout, hlen, hnodup, ?_⟩
  · simp only [insertNode_length]
    omega
  · intro n hn i hi
    rcases mem_insertNode.mp hn with rfl | hn
    · cases hi
    · exact hnodes n hn i hi

theorem keeps_assign (a : Addr) (serial : Serial) (s : State) : Keeps K X s (assign a serial s) :=
  (keeps_queuePoll a _).after_sight (putFrame_sight _ _)

theorem keeps_announced (serial : Serial) (descs : List Byte) (s : State) : Keeps K X s (announced serial descs s) := by
  unfold announced
  split
  · exact .ite (fun _ => keeps_assign _ _ s) fun _ => (keeps_assign _ _ _).after_sight (setNode_sight (by intro n; rfl) s)
  · rename_i hserial
    refine .ite (fun _ => .refl s) fun hroom => ?_
    split
    · exact (keeps_insertNode descs hserial (by omega) ‹_›).trans (keeps_assign _ _ _)
    · exact .refl s

theorem frameHeard_sight (s : State) : sight (frameHeard s) = sight s := rfl

theorem keeps_takeAnnounce (sender : Addr) (serial : Serial) (descs : List Byte) (s : State) :
    Keeps K X s (takeAnnounce sender serial descs s) :=
  .ite (fun _ => .ite (fun _ => (keeps_announced _ _ _).after_sight (frameHeard_sight s))
    fun _ => .of_sight (frameHeard_sight s)) fun _ => .refl s

theorem requeueCap_sight (a : Addr) (s : State) : sight (requeueCap a s) = sight s := by
  unfold requeueCap
  split
  · exact sight_ite rfl (putFrame_sight _ _)
  · rfl

theorem keeps_windowClosed (s : State) : Keeps K X s (windowClosed s) := by
  unfold windowClosed
  dsimp only
  split
  · exact (keeps_pollMissed _ _).after_sight
  · exact .of_sight ((requeueCap_sight _ _).trans rfl)
  · exact .refl s

theorem storeStatus_sight (a : Addr) (f : StatusFields) (s : State) : sight (storeStatus a f s) = sight s := by
  unfold storeStatus
  split
  · exact (raiseIf_sight _ _ _).trans (setNode_sight (by intro n; rfl) s)
  · rfl

theorem takeFields_sight (a : Addr) (f : StatusFields) (s : State) : sight (takeFields a f s) = sight s :=
  (sight_ite (deliver_sight _ _ _) rfl).trans ((refreshTools_sight _).trans (storeStatus_sight a f s))

/-- The node answered, and its lookup (R116, R130). -/
theorem keeps_answeredLookup {n : Node} (hn : n ∈ s.line.nodes) :
    Keeps K X s (lookupRecord n.addr n.serial (nodeAnswered n.addr s)) := by
  refine (keeps_nodeAnswered n.addr s).trans (keeps_lookupRecord fun hlaw m hm ha => ?_)
  obtain ⟨m', hm', rfl⟩ := mem_setNode.mp hm
  split at ha
  · rename_i he
    rw [if_pos he]
    have hlaw' : nodeLaw (nodeAnswered n.addr s) := hlaw
    obtain ⟨hlen, haddr, hserial⟩ := hlaw'
    have hmap : ∀ x : Node, (if x.addr == n.addr then
        ({ x with state := .active, missed := 0, completed := true } : Node) else x).addr = x.addr := by
      intro x; split <;> rfl
    have hnodup : (s.line.nodes.map (·.addr.toNat)).Nodup := by
      have : (nodeAnswered n.addr s).line.nodes.map (·.addr.toNat) = s.line.nodes.map (·.addr.toNat) := by
        simp only [nodeAnswered, setNode, List.map_map]
        exact List.map_congr_left fun x _ => by simp only [Function.comp_apply, hmap]
      rw [this] at haddr
      exact haddr.imp (by intro a b hab; omega)
    have : m' = n := List.inj_on_of_nodup_map hnodup hm' hn (by simpa using congrArg BitVec.toNat ha)
    subst this
    exact ⟨rfl, rfl⟩
  · rename_i he
    exact absurd (by simpa using ha) (by simpa using he)

theorem keeps_firstCompletion {n : Node} (f : StatusFields) (hn : n ∈ s.line.nodes) :
    Keeps K X s (firstCompletion n f s) := by
  have hfields : Keeps K X s (takeFields n.addr f (deriveNozzle
      (raise .toolAttach (lookupRecord n.addr n.serial (nodeAnswered n.addr s))))) :=
    (keeps_answeredLookup hn).then_sight ((takeFields_sight _ _ _).trans (deriveNozzle_sight _))
  unfold firstCompletion
  dsimp only
  split
  · exact hfields.then_sight (sight_ite (queueCap_sight _ _) rfl)
  · exact hfields

theorem keeps_statusTaken {n : Node} (f : StatusFields) (hn : n ∈ s.line.nodes) :
    Keeps K X s (statusTaken n f s) :=
  .ite (fun _ => .ite (fun _ => (keeps_nodeAnswered _ _).then_sight ((queueCap_sight _ _).trans (takeFields_sight _ _ _)))
    fun _ => keeps_firstCompletion f hn) fun _ => (keeps_nodeAnswered _ _).then_sight (takeFields_sight _ _ _)

theorem keeps_takeStatus (sender : Addr) (f : StatusFields) (s : State) : Keeps K X s (takeStatus sender f s) := by
  refine .ite (fun _ => .ite (fun _ => ?_) fun _ => (keeps_windowClosed _).after_sight) fun _ => .refl s
  split
  · rename_i n hn
    exact (keeps_statusTaken (s := frameHeard { s with line := { s.line with await := none } }) f
      (mem_of_nodeAt hn).1).after_sight
  · exact (keeps_windowClosed _).after_sight

theorem ackTaken_sight (a : Addr) (c : Cap) (limit : Byte) (s : State) : sight (ackTaken a c limit s) = sight s := by
  have hlimit : sight (setNode a (fun n => { n with ackLimit := limit.toNat })
      (frameHeard { s with line := { s.line with await := none } })) = sight s := setNode_sight (by intro n; rfl) _
  have hcleared := (setNode_sight (a := a) (f := fun n => { n with pending := none }) (by intro n; rfl) (setNode a
    (fun n => { n with ackLimit := limit.toNat }) (frameHeard { s with line := { s.line with await := none } }))).trans
      hlimit
  exact sight_ite (sight_ite hcleared ((reportAck_sight _ _).trans hcleared)) ((requeueCap_sight _ _).trans hlimit)

theorem keeps_takeAck (sender : Addr) (seq limit : Byte) (s : State) : Keeps K X s (takeAck sender seq limit s) := by
  have hclosed : Keeps K X s (windowClosed (frameHeard s)) := (keeps_windowClosed _).after_sight
  refine .ite (fun _ => .ite (fun _ => ?_) fun _ => hclosed) fun _ => .refl s
  split
  · exact .ite (fun _ => .of_sight (ackTaken_sight _ _ _ _)) fun _ => hclosed
  · exact hclosed

theorem noticeTaken_sight (n : Node) (jam : Bool) (floor : FloorClass) (s : State) :
    sight (noticeTaken n jam floor s) = sight s :=
  (refreshTools_sight _).trans ((raiseIf_sight _ _ _).trans (setNode_sight (by intro n; rfl) s))

theorem takeNotice_sight (sender : Addr) (jam : Bool) (floor : FloorClass) (s : State) :
    sight (takeNotice sender jam floor s) = sight s := by
  refine sight_ite ?_ rfl
  split
  · exact sight_ite rfl ((noticeTaken_sight _ _ _ _).trans (frameHeard_sight s))
  · rfl

theorem keeps_pollDue (a : Addr) (s : State) : Keeps K X s (pollDue a s) :=
  .ite (fun _ => (keeps_queuePoll a _).after_sight (setNode_sight (by intro n; rfl) s)) fun _ => .refl s

end Sys2Proof.Machine
end

section
namespace Sys2Proof.Machine

variable {K : List Kept} {X : List Law} {s t u : State}

/-! ## The pins, and the dock's events (Chapters 9 and 10) -/

theorem keeps_pins (hK : .pins ∈ K) (p : Pins) (s : State) : Keeps K X s { s with pins := p } := by
  refine ⟨rfl, fun _ => rfl, fun k hk => ?_, fun l _ h => by cases l <;> exact h⟩
  cases k
  case pins => exact absurd hK hk
  all_goals simp [Kept.same]

theorem keeps_trigChanged (hK : .pins ∈ K) (pressed : Bool) (s : State) : Keeps K X s (trigChanged pressed s) := by
  have hdebounce (u : State) : sight { u with drive := { u.drive with debounce := some 20 } } = sight u := rfl
  exact .ite (fun _ => .refl s) fun _ => ((keeps_pins hK _ s).trans (keeps_wake _)).then_sight (hdebounce _)

theorem keeps_chginRose (hK : .pins ∈ K) (s : State) : Keeps K X s (chginRose s) := by
  have hwake : Keeps K X s (wake { s with pins := { s.pins with chgin := true } }) :=
    (keeps_pins hK _ s).trans (keeps_wake _)
  have hrest (u : State) : Keeps K X u (if u.dock.state = .detached then startAttach u
      else if u.dock.attach = .debouncing ∧ u.dock.debounce.isNone then
        { u with dock := { u.dock with drop := none, debounce := some u.dock.attachMs } }
      else { u with dock := { u.dock with drop := none } }) :=
    .ite (fun _ => keeps_startAttach u) fun _ => .of_sight (sight_ite rfl rfl)
  exact hwake.trans (hrest _)

theorem keeps_chginFell (hK : .pins ∈ K) (s : State) : Keeps K X s (chginFell s) :=
  (keeps_pins hK _ s).trans (.of_sight (sight_ite rfl rfl))

theorem keeps_detached (hK : .pins ∈ K) (s : State) : Keeps K X s (detached s) :=
  (keeps_pins hK _ s).trans (keeps_detachNow _)

theorem keeps_debounceDone (level : CoarseClass) (s : State) : Keeps K X s (debounceDone level s) :=
  .ite (fun _ => ((keeps_stopOrder .docked _).after_sight).trans (keeps_leaveAttachWait _)) fun _ => .refl s

theorem requestSent_sight (s : State) : sight (requestSent s) = sight s := by
  unfold requestSent
  split
  · exact sight_ite rfl rfl
  · rfl

theorem resendCollided_sight (s : State) : sight (resendCollided s) = sight s := by
  unfold resendCollided
  split
  · exact sight_ite rfl rfl
  · rfl

theorem keeps_collided (s : State) : Keeps K X s (collided s) := by
  unfold collided
  split
  · exact .ite (fun _ => .ite (fun _ => keeps_attemptMissed _ s) fun _ => .of_sight rfl) fun _ => .refl s
  · exact .refl s

theorem keeps_deadlinePassed (s : State) : Keeps K X s (deadlinePassed s) := by
  unfold deadlinePassed
  split
  · exact .ite (fun _ => keeps_deadlineExpired _ s) fun _ => .refl s
  · exact .refl s

theorem setExchange_sight (e : Exchange) (s : State) : sight (setExchange e s) = sight s := rfl

theorem freeRecord_sight (s : State) : sight (freeRecord s) = sight s := rfl

theorem keeps_helloDone (l : List OfferFields) (s : State) : Keeps K X s (helloDone l s) := by
  have hselect (u : State) : Keeps K X u (if u.dock.state = .identify then selectOffer u else u) :=
    .ite (fun _ => keeps_selectOffer u) fun _ => .refl u
  exact ((hselect _).after_sight).trans (keeps_trySend _)

theorem keeps_identTakenNow (i : DockIdentity) (e : Exchange) (s : State) : Keeps K X s (identTakenNow i e s) := by
  have hauto : Keeps K X s (autoDecision (setExchange { e with phase := .offers, deadline := some 200, waiting := false }
      { s with dock := { s.dock with identity := some i, identTaken := true } })) :=
    (keeps_autoDecision _).after_sight
  exact .ite (fun _ => hauto.trans (keeps_helloDone _ _)) fun _ => hauto

theorem keeps_takeIdent (kind support count : Byte) (s : State) : Keeps K X s (takeIdent kind support count s) := by
  unfold takeIdent
  split
  · exact .ite (fun _ => keeps_identTakenNow _ _ s) fun _ => .refl s
  · exact .refl s

theorem keeps_takeOffers (l : List OfferFields) (s : State) : Keeps K X s (takeOffers l s) := by
  unfold takeOffers
  split
  · exact .ite (fun _ => keeps_helloDone l s) fun _ => .refl s
  · exact .refl s

theorem keeps_takeAccept (s : State) : Keeps K X s (takeAccept s) := by
  unfold takeAccept
  split
  · split
    · exact (keeps_dockTalks _).after_sight (setExchange_sight _ s)
    · exact (((keeps_evacAccepted _).after_sight (freeRecord_sight s)).trans (keeps_dockTalks _)).trans (keeps_trySend _)
    · exact ((keeps_dockTalks _).after_sight (freeRecord_sight s)).trans (keeps_trySend _)
    · exact .refl s
  · exact .refl s

theorem keeps_chargeReady (i input : Nat) (s : State) : Keeps K X s (chargeReady i input s) := by
  have hready (u : State) : Keeps K X u
      (if u.dock.state = .negotiate then makeAgreement i input u else raiseAgreement input u) :=
    .ite (fun _ => keeps_makeAgreement i input u) fun _ => .of_sight (raiseAgreement_sight input u)
  exact ((hready _).after_sight (freeRecord_sight s)).trans (keeps_trySend _)

theorem keeps_takeReady (s : State) : Keeps K X s (takeReady s) := by
  unfold takeReady
  split
  · split
    · exact keeps_chargeReady _ _ s
    · exact .refl s
  · exact .refl s

theorem keeps_chargeRejected (i : Nat) (s : State) : Keeps K X s (chargeRejected i s) := by
  have hselect (u : State) : Keeps K X u (if u.dock.state = .negotiate then
      selectOffer { u with dock := { u.dock with offers := markRejected i u.dock.offers } } else u) :=
    .ite (fun _ => (keeps_selectOffer _).after_sight) fun _ => .refl u
  exact ((hselect _).after_sight (freeRecord_sight s)).trans (keeps_trySend _)

theorem keeps_takeReject (reason : Byte) (s : State) : Keeps K X s (takeReject reason s) := by
  unfold takeReject
  split
  · split
    · exact keeps_chargeRejected _ s
    · exact (((keeps_evacRejected reason _).after_sight (freeRecord_sight s)).trans (keeps_dockTalks _)).trans
        (keeps_trySend _)
    · exact .refl s
  · exact .refl s

theorem keeps_takeWait (ms : Half) (s : State) : Keeps K X s (takeWait ms s) := by
  unfold takeWait
  split
  · exact .ite (fun _ => .ite (fun _ => (keeps_dockTalks s).trans (keeps_exchangeFailed _ _))
      fun _ => (keeps_dockTalks _).after_sight (setExchange_sight _ s)) fun _ => .refl s
  · exact .refl s

theorem keeps_takeNewOffers (l : List OfferFields) (s : State) : Keeps K X s (takeNewOffers l s) :=
  .ite (fun _ => keeps_newOffers l s) fun _ => .refl s

theorem keeps_takeEvacStatus (hK : .bin ∈ K) (status reason : Byte) (s : State) :
    Keeps K X s (takeEvacStatus status reason s) := by
  refine .ite (fun _ => ?_) fun _ => .refl s
  split
  · exact (keeps_evacReported hK _ s).trans (keeps_dockTalks _)
  · exact .refl s

theorem keeps_completionMissed (s : State) : Keeps K X s (completionMissed s) :=
  .ite (fun _ => keeps_endEvac _ s (by decide)) fun _ => .refl s

theorem keeps_prechargeOver (s : State) : Keeps K X s (prechargeOver s) :=
  .ite (fun _ => keeps_enterChargeFault _ s) fun _ => .refl s

theorem keeps_totalOver (s : State) : Keeps K X s (totalOver s) :=
  .ite (fun _ => keeps_enterChargeFault _ s) fun _ => .refl s

/-! ## What the requests do (checks 4 to 8 of R184) -/

theorem keeps_host {h : HostLink} (hmask : .mask ∉ K → h.mask = s.host.mask)
    (hlink : .link ∉ K → h.ready = s.host.ready ∧ h.configured = s.host.configured)
    (hqueues : .queues ∉ X → h.queues = s.host.queues) (hlaw : queueLaw s → queueLaw { s with host := h }) :
    Keeps K X s { s with host := h } := by
  refine ⟨rfl, hqueues, fun k hk => ?_, fun l _ hl => ?_⟩
  · cases k
    case mask => exact hmask hk
    case link => exact hlink hk
    all_goals simp [Kept.same]
  · cases l
    case queue => exact hlaw hl
    all_goals exact hl

/-- A request that is refused, or that only reads, changes nothing. -/
theorem keeps_refuse (st : Status) (s : State) : Keeps K X s (refuse st s).state := .refl s

theorem keeps_servePackConfig (hset : .packSettings ∈ K) (hlink : .link ∈ K) (count : Byte) (capacity inom : Half)
    (s : State) : Keeps K X s (servePackConfig count capacity inom s).state := by
  unfold servePackConfig
  dsimp only
  split
  · exact .refl s
  · have hstore (n c i : Nat) : Keeps K X s (storePack n c i s) := by
      refine .trans (.of_pack (p := { s.pack with
        count := n, capacity := c, inom := i, reseed := s.pack.reseed || n != s.pack.count
        gauge := if c = s.pack.capacity then s.pack.gauge
          else s.pack.gauge * (c * 360000) / fullCharge s.pack }) (fun h => absurd hset h) fun ⟨hg, hlen⟩ => ⟨?_, hlen⟩)
        (keeps_host (h := { s.host with configured := true }) (fun _ => rfl) (fun h => absurd hlink h) (fun _ => rfl)
          fun h => h)
      change (if c = s.pack.capacity then s.pack.gauge else s.pack.gauge * (c * 360000) / fullCharge s.pack)
        ≤ c * 360000
      split
      · rename_i hc
        rw [hc]
        exact hg
      · exact Nat.div_le_of_le_mul (Nat.mul_le_mul_right _ hg)
    exact hstore _ _ _

theorem keeps_serveOcvTable (hset : .packSettings ∈ K) (points : List Half) (s : State) :
    Keeps K X s (serveOcvTable points s).state := by
  unfold serveOcvTable
  dsimp only
  split
  · rename_i h
    exact .of_pack (fun h => absurd hset h) fun hlaw => ⟨hlaw.1, h.1.le⟩
  · exact .refl s

theorem clampNat_mem {lo hi : Nat} (hlo : lo ≤ hi) (n : Nat) : lo ≤ clampNat lo hi n ∧ clampNat lo hi n ≤ hi := by
  unfold clampNat
  repeat' split
  all_goals omega

theorem keeps_serveGaugeSet (soc : Half) (s : State) : Keeps K X s (serveGaugeSet soc s).state :=
  have hle : clampHalf 0 1000 soc * fullCharge s.pack / 1000 ≤ fullCharge s.pack :=
    Nat.div_le_of_le_mul (Nat.mul_le_mul_right _ (clampNat_mem (lo := 0) (hi := 1000) (by decide) _).2)
  .of_pack (fun _ => ⟨rfl, rfl, rfl, rfl⟩) fun h => gaugeLaw_of_le rfl rfl hle h

theorem keeps_serveSleep (s : State) : Keeps K X s (serveSleep s).state := by
  unfold serveSleep
  split
  · exact (keeps_holdPower _).after_sight
  · exact .refl s

theorem serveReserveSet_sight (ma : Half) (s : State) : sight (serveReserveSet ma s).state = sight s :=
  sight_ite rfl (askRecompute_sight _)

theorem keeps_profiles (hK : .profiles ∈ K) (v : Vector Profile 16) (s : State) :
    Keeps K X s { s with gov := { s.gov with profiles := v } } :=
  .of_gov (fun h => absurd hK h) (fun h => h) fun h => h

theorem keeps_serveProfileWrite (hK : .profiles ∈ K) (index : Byte) (f : ProfileFields) (s : State) :
    Keeps K X s (serveProfileWrite index f s).state := by
  unfold serveProfileWrite
  split
  · exact .refl s
  · split
    · exact .refl s
    · split
      · exact .refl s
      · exact (keeps_profiles hK _ s).then_sight (sight_ite (handBrush_sight _ _) rfl)

theorem keeps_serveProfileLock (hK : .profiles ∈ K) (index : Byte) (s : State) :
    Keeps K X s (serveProfileLock index s).state := by
  unfold serveProfileLock
  split
  · exact .refl s
  · exact keeps_profiles hK _ s

theorem serveProfileRead_state (index : Byte) (s : State) : (serveProfileRead index s).state = s := by
  unfold serveProfileRead
  split <;> rfl

theorem keeps_serveModeSet (index : Byte) (s : State) : Keeps K X s (serveModeSet index s).state := by
  unfold serveModeSet
  split
  · exact .refl s
  · split
    · exact keeps_setBase _ s
    · exact .refl s

theorem topOrigin_ne_clear (h : stackLaw s) (htop : topOrigin s.gov ≠ some .clear) :
    ∀ e ∈ s.gov.stack, e.origin ≠ .clear := by
  obtain ⟨-, -, -, hclear⟩ := h
  intro e he hec
  rcases List.eq_nil_or_concat s.gov.stack with hnil | ⟨l, a, hl⟩
  · rw [hnil] at he
    cases he
  · rw [List.concat_eq_append] at hl
    rw [hl, List.dropLast_concat, List.all_eq_true] at hclear
    rw [hl] at he
    rcases List.mem_append.mp he with he | he
    · simpa [hec] using hclear e he
    · cases List.mem_singleton.mp he
      exact htop (by simp [topOrigin, hl, hec])

theorem keeps_serveModePush (index : Byte) (s : State) : Keeps K X s (serveModePush index s).state := by
  unfold serveModePush
  split
  · exact .refl s
  · rename_i htop
    split
    · exact .refl s
    · split
      · exact .refl s
      · split
        · exact .refl s
        · exact keeps_setStack fun h => stackLaw_push h (by omega) (topOrigin_ne_clear h htop)

theorem keeps_serveModePop (s : State) : Keeps K X s (serveModePop s).state := by
  unfold serveModePop
  split
  · exact keeps_dropHost s
  · exact .refl s

theorem keeps_serveFaultClear (hK : .trips ∈ K) (s : State) : Keeps K X s (serveFaultClear s).state := by
  unfold serveFaultClear
  split
  · exact .refl s
  · have hcleared : Keeps K X s { s with drive := { s.drive with trips := [], tripCause := .none } } :=
      .of_drive rfl (fun h => absurd hK h) (fun h => ⟨by simp, h.2⟩) fun h => h.2.2
    exact .ite (fun _ => hcleared.trans (keeps_enterRest _ rfl)) fun _ => hcleared

theorem keeps_blockSettings (hK : .blockSettings ∈ K) (pct ms : Nat) (s : State) :
    Keeps K X s { s with load := { s.load with blockPct := pct, blockMs := ms } } := by
  refine ⟨rfl, fun _ => rfl, fun k hk => ?_, fun l _ h => by cases l <;> exact h⟩
  cases k
  case blockSettings => exact absurd hK hk
  all_goals simp [Kept.same]

theorem keeps_serveBlockConfig (settings : Option (Byte × Half)) (hK : .blockSettings ∈ K) (s : State) :
    Keeps K X s (serveBlockConfig settings s).state := by
  have hrestart (u : State) : sight (restartSustain u) = sight u := rfl
  cases settings with
  | none => exact .refl s
  | some p =>
    exact .ite (fun _ => keeps_blockSettings hK _ _ s) fun _ => (keeps_blockSettings hK _ _ s).then_sight (hrestart _)

theorem keeps_dirtStored (hset : .dirtSettings ∈ K) (hbin : .bin ∈ K) {d : Dirt}
    (hdirt : dirtLaw s → dirtLaw { s with dirt := d }) (hlaw : binLaw s → binLaw { s with dirt := d }) :
    Keeps K X s (dirtStored d s) := by
  have hstored : Keeps K X s { s with dirt := d } := .of_bin (fun h => absurd hset h) hbin hdirt hlaw
  have hfull (c : Prop) [Decidable c] : Keeps K X s (if c then evalFull { s with dirt := d } else { s with dirt := d }) :=
    .ite (fun _ => hstored.trans (keeps_evalFull hbin _)) fun _ => hstored
  exact .ite (fun _ => hfull _) fun _ => (hfull _).then_sight (deliver_sight _ _ _)

theorem keeps_serveDirtConfig (settings : Option DirtFields) (hset : .dirtSettings ∈ K) (hbin : .bin ∈ K) (s : State) :
    Keeps K X s (serveDirtConfig settings s).state := by
  cases settings with
  | none => exact .refl s
  | some f =>
    unfold serveDirtConfig
    dsimp only
    split
    · refine keeps_dirtStored hset hbin (fun h => h) fun _ => ?_
      obtain ⟨hcap, -⟩ := clampNat_mem (lo := 1000) (hi := 1000000) (by decide) f.capacity.toNat
      obtain ⟨hpct, -⟩ := clampNat_mem (lo := 50) (hi := 100) (by decide) f.fullPct.toNat
      exact ⟨hcap, hpct, min_le_right _ _, fun he => by simp only [storeDirt] at he ⊢; simp [he]⟩
    · exact .refl s

theorem keeps_serveBinReset (hK : .bin ∈ K) (s : State) : Keeps K X s (serveBinReset s).state := keeps_resetBin hK s

theorem keeps_serveToolDrop (serial : Serial) (hK : .records ∈ K) (s : State) :
    Keeps K X s (serveToolDrop serial s).state := by
  unfold serveToolDrop
  split
  · exact .refl s
  · exact keeps_dropRecord hK

theorem serveToolRead_state (index : Byte) (s : State) : (serveToolRead index s).state = s := by
  unfold serveToolRead
  split <;> rfl

theorem keeps_lowerTarget (s : State) : Keeps K X s (lowerTarget s) := .of_sight rfl

theorem keeps_serveChargeConfig (settings : Option (Half × Half × Byte)) (hK : .chargeSettings ∈ K) (s : State) :
    Keeps K X s (serveChargeConfig settings s).state := by
  cases settings with
  | none => exact .refl s
  | some p =>
    obtain ⟨m, t, d⟩ := p
    exact (Keeps.of_dock (d := { s.dock with
      iMax := clampHalf 300 4000 m, iTerm := clampTerm t, debounceMs := floorTo 25 (clampByte 100 250 d) })
      (fun h => absurd hK h) (fun _ => rfl) (fun h => h) fun _ _ => .inr rfl).trans (keeps_lowerTarget _)

theorem keeps_disabled (hK : .disabled ∈ K) (b : Bool) (s : State) :
    Keeps K X s { s with dock := { s.dock with disabled := b } } :=
  .of_dock (fun _ => ⟨rfl, rfl, rfl⟩) (fun h => absurd hK h) (fun h => h) fun _ _ => .inr rfl

theorem keeps_serveForceDisable (hK : .disabled ∈ K) (s : State) : Keeps K X s (serveForceDisable s).state :=
  .ite (fun _ => (keeps_disabled hK true s).trans (keeps_enterDisabled _)) fun _ => keeps_disabled hK true s

theorem keeps_serveForceEnable (hK : .disabled ∈ K) (s : State) : Keeps K X s (serveForceEnable s).state :=
  .ite (fun _ => (keeps_disabled hK false s).trans (keeps_enterIdentify _)) fun _ => keeps_disabled hK false s

theorem keeps_serveForceRecover (s : State) : Keeps K X s (serveForceRecover s).state := by
  unfold serveForceRecover
  split
  · have hattached (u : State) :
        sight { u with dock := { u.dock with attach := .attached, total := 0 } } = sight u := rfl
    exact ((keeps_setCharge .attachWait s).then_sight (hattached _)).trans (keeps_leaveAttachWait _)
  · exact .refl s

theorem keeps_serveForceRenegotiate (s : State) : Keeps K X s (serveForceRenegotiate s).state := by
  have hhalt (u : State) : sight (makeHaltDue { u with dock :=
      { u.dock with agreement := none, dueCharge := none } }) = sight u := rfl
  unfold serveForceRenegotiate
  split
  · exact .refl s
  · split
    · exact .refl s
    · exact ((keeps_openSwitch s).then_sight (hhalt _)).trans (keeps_enterIdentify _)

theorem keeps_serveEvacConfig (settings : Option (Byte × Byte)) (hK : .evacSettings ∈ K) (s : State) :
    Keeps K X s (serveEvacConfig settings s).state := by
  cases settings with
  | none => exact .refl s
  | some p =>
    exact (Keeps.of_evac (e := { s.evac with pct := clampByte 0 100 p.1, setting := clampByte 3 15 p.2 })
      (fun h => absurd hK h) fun _ h => h).trans (keeps_autoDecision _)

theorem keeps_serveEvacStart (duration : Byte) (s : State) : Keeps K X s (serveEvacStart duration s).state := by
  unfold serveEvacStart
  repeat' split
  · exact .refl s
  · exact .refl s
  · exact .refl s
  · exact .refl s
  · exact keeps_startEvac _ _ fun h => ‹¬ (s.dock.state = .detached ∨ _)› (.inl h)

/-- A record is set ARMED (R178). -/
theorem watchRecord_not_fired {f : WatchFields} {r : WatchRec} (h : watchRecord f = some r) :
    isFired (some r) = false := by
  unfold watchRecord at h
  repeat' split at h
  · cases h
  · cases h; rfl
  · cases h

theorem rearm_not_fired (r : WatchRec) (arm : Bool) : isFired (some (r.rearm arm)) = false := by
  cases arm <;> rfl

theorem keeps_serveWatchSet (index : Byte) (f : WatchFields) (s : State) : Keeps K X s (serveWatchSet index f s).state := by
  unfold serveWatchSet
  split
  · exact keeps_setWatch (watchRecord_not_fired ‹_›) s
  · exact .refl s

theorem keeps_serveWatchArm (arm : Bool) (index : Byte) (s : State) : Keeps K X s (serveWatchArm arm index s).state := by
  unfold serveWatchArm
  split
  · exact .refl s
  · split
    · exact .refl s
    · exact keeps_setWatch (rearm_not_fired _ arm) s

theorem serveWatchRead_state (index : Byte) (s : State) : (serveWatchRead index s).state = s := by
  unfold serveWatchRead
  split <;> rfl

theorem keeps_serveWatchClear (index : Byte) (s : State) : Keeps K X s (serveWatchClear index s).state := by
  unfold serveWatchClear
  split
  · exact .refl s
  · exact keeps_setWatch rfl s

theorem serveEventsRead_sight (s : State) : sight (serveEventsRead s).state = sight s := rfl

theorem keeps_serveEventMask (mask : Option Quad) (hK : .mask ∈ K) (s : State) :
    Keeps K X s (serveEventMask mask s).state := by
  cases mask with
  | none => exact .refl s
  | some m => exact keeps_host (fun h => absurd hK h) (fun _ => ⟨rfl, rfl⟩) (fun _ => rfl) fun h => h

theorem keeps_serveReady (hK : .link ∈ K) (s : State) : Keeps K X s (serveReady s).state := by
  unfold serveReady
  split
  · exact .refl s
  · split
    · exact .refl s
    · exact .then_sight (keeps_host (h := { s.host with ready := true }) (fun _ => rfl) (fun h => absurd hK h)
        (fun _ => rfl) fun h => h) (askRecompute_sight _)

end Sys2Proof.Machine
end

section
namespace Sys2Proof.Machine

variable {K : List Kept} {X : List Law} {s t u : State}

/-! ## The host link (Chapter 12) -/

/-- Work on the link that leaves its settings and keeps the law of its queues. -/
theorem keeps_link {h : HostLink} (hX : .queues ∈ X) (hset : h.mask = s.host.mask ∧ h.ready = s.host.ready
    ∧ h.configured = s.host.configured) (hlaw : queueLaw s → queueLaw { s with host := h }) :
    Keeps K X s { s with host := h } :=
  keeps_host (fun _ => hset.1) (fun _ => hset.2) (fun h => absurd hX h) hlaw

theorem keeps_queueReply (hX : .queues ∈ X) (r : Reply) (h : s.host.replies.length < 8) :
    Keeps K X s (queueReply r s) :=
  keeps_link hX ⟨rfl, rfl, rfl⟩ fun ⟨_, hmost, hlen⟩ => ⟨by simp only [List.length_append, List.length_singleton]; omega,
    hmost, hlen⟩

/-- A request joins the four of the pending list, or is a RESET beyond them (R185, log entry 50). -/
theorem keeps_pend (hX : .queues ∈ X) {kind : Byte} (tag : Byte)
    (h : s.host.requests.length < 4 ∨ kind = kindReset ∧ s.host.requests.length < 5) :
    Keeps K X s (pend kind tag s) := by
  refine keeps_link hX ⟨rfl, rfl, rfl⟩ fun ⟨hreplies, hmost, hlen⟩ => ⟨hreplies, ?_, ?_⟩
  · have hle := List.length_filter_le (fun r : PendingReq => r.kind != kindReset) s.host.requests
    rw [List.filter_append, List.length_append]
    rcases h with h | ⟨rfl, -⟩
    · have := List.length_filter_le (fun r : PendingReq => r.kind != kindReset) [⟨kind, tag⟩]
      simp only [List.length_singleton] at this
      omega
    · simpa using hmost
  · simp only [List.length_append, List.length_singleton]
    split <;> omega

theorem pend_replies (kind tag : Byte) (s : State) : (pend kind tag s).host.replies = s.host.replies := rfl

/-- An answer that leaves the link's queues is queued in them. -/
theorem keeps_answered (hX : .queues ∈ X) {kind : Byte} (tag : Byte) {a : Answer} (ha : Keeps K [] s a.state)
    (hreplies : s.host.replies.length < 8)
    (hroom : s.host.requests.length < 4 ∨ kind = kindReset ∧ s.host.requests.length < 5) :
    Keeps K X s (answered kind tag a) := by
  have hqueues := ha.queues (by simp)
  simp only [HostLink.queues, Prod.mk.injEq] at hqueues
  obtain ⟨hreq, hrep, -⟩ := hqueues
  exact (ha.weaken.trans (keeps_pend hX tag (by rw [hreq]; exact hroom))).trans
    (keeps_queueReply hX _ (by rw [pend_replies, hrep]; exact hreplies))

theorem dropFrame_sight (s : State) : sight (dropFrame s) = sight s := rfl

theorem keeps_admitted (hX : .queues ∈ X) (kind tag : Byte) {act : State → State}
    (h : s.host.replies.length < 8 → s.host.requests.length < 4 → Keeps K X s (act s)) :
    Keeps K X s (admitted kind tag act s) :=
  .ite (fun _ => .of_sight (dropFrame_sight s)) fun hreplies => .ite (fun _ => keeps_queueReply hX _ (by omega))
    fun hroom => h (by omega) (by omega)

theorem keeps_serve (hX : .queues ∈ X) (kind tag : Byte) {f : State → Answer}
    (hf : ∀ u, Keeps K [] u (f u).state) (s : State) : Keeps K X s (serve kind tag f s) :=
  keeps_admitted hX kind tag fun hreplies hroom => keeps_answered hX tag (hf s) hreplies (.inl hroom)

/-- What arrives finds the link's queues as they were, and a receiver that is not stopped. -/
theorem keeps_arrive {act : State → State} (h : ∀ u, u.host.stopped = false → Keeps K X u (act u)) (s : State) :
    Keeps K X s (arrive act s) := by
  refine .ite (fun _ => .refl s) fun hstopped => (keeps_wake s).trans (h _ ?_)
  have hqueues := (keeps_wake (K := []) (X := []) s).queues (by simp)
  simp only [HostLink.queues, Prod.mk.injEq] at hqueues
  rw [hqueues.2.2]
  simpa using hstopped

theorem keeps_badFrame (hX : .queues ∈ X) (tag : Byte) (s : State) : Keeps K X s (badFrame tag s) :=
  .ite (fun _ => .of_sight (dropFrame_sight s)) fun h => keeps_queueReply hX _ (by omega)

theorem keeps_fenceArrives (hX : .queues ∈ X) (tag : Byte) (hreplies : s.host.replies.length < 8)
    (hroom : s.host.requests.length < 4) : Keeps K X s (fenceArrives tag s) := by
  refine .ite (fun _ => keeps_answered hX tag (.refl s) hreplies (.inl hroom)) fun _ => ?_
  refine .ite (fun _ => ?_) fun _ => keeps_answered hX tag (.refl s) hreplies (.inl hroom)
  have hfence (u : State) : sight { u with host := { u.host with fence := some ⟨tag, 2000⟩ } } = sight u := rfl
  exact ((keeps_pend hX tag (.inl hroom)).trans (keeps_queueReply hX _ hreplies)).then_sight (hfence _)

theorem keeps_fenceTimedOut (s : State) : Keeps K X s (fenceTimedOut s) := by
  unfold fenceTimedOut
  split
  · exact .of_sight (formFence_sight _ _ s)
  · exact .refl s

theorem abortFence_sight (s : State) : sight (abortFence s) = sight s := sight_ite (formFence_sight _ _ s) rfl

theorem queues_of_sight (h : sight t = sight s) : t.host.queues = s.host.queues :=
  (Keeps.of_sight (K := []) (X := []) h).queues (by simp)

theorem resetArrives_host (tag : Byte) (s : State) (h : s.host.replies.length < 8) : resetArrives tag s =
    { abortFence s with host := { (abortFence s).host with
      requests := (abortFence s).host.requests ++ [⟨kindReset, tag⟩]
      replies := (abortFence s).host.replies
        ++ [⟨replyKind kindReset, tag, some ⟨Status.ok.code, []⟩, true, true⟩]
      stopped := true, rx := .hunting } } := by
  unfold resetArrives
  rw [if_neg (by omega)]
  rfl

/-- A RESET joins the pending list whatever stands in it, and stops the receiver (R185, R190). -/
theorem keeps_resetArrives (hX : .queues ∈ X) (tag : Byte) (hstopped : s.host.stopped = false) :
    Keeps K X s (resetArrives tag s) := by
  by_cases h : 8 ≤ s.host.replies.length
  · unfold resetArrives
    rw [if_pos h]
    exact .of_sight (dropFrame_sight s)
  · rw [resetArrives_host tag s (by omega)]
    have hqueues := queues_of_sight (abortFence_sight s)
    simp only [HostLink.queues, Prod.mk.injEq] at hqueues
    obtain ⟨hreq, hrep, hstop⟩ := hqueues
    refine (Keeps.of_sight (abortFence_sight s)).trans (keeps_link hX ⟨rfl, rfl, rfl⟩ fun ⟨_, hmost, hlen⟩ =>
      ⟨?_, ?_, ?_⟩)
    · simp only [List.length_append, List.length_singleton]
      omega
    · simpa [List.filter_append] using hmost
    · rw [hstop, hstopped] at hlen
      have hfive : (abortFence s).host.requests.length ≤ 5 := by simpa using hlen
      simp only [List.length_append, List.length_singleton, if_true]
      omega

theorem keeps_badReset (hX : .queues ∈ X) (tag : Byte) (s : State) : Keeps K X s (badReset tag s) :=
  .ite (fun _ => .of_sight (dropFrame_sight s)) fun hreplies => .ite (fun _ => keeps_queueReply hX _ (by omega))
    fun hroom => keeps_answered hX tag (.refl s) (by omega) (.inr ⟨rfl, by omega⟩)

theorem keeps_byteGap (s : State) : Keeps K X s (byteGap s) := by
  unfold byteGap
  split
  · exact .refl s
  · exact .of_sight rfl
  · exact .of_sight rfl

theorem keeps_replySent (hX : .queues ∈ X) (s : State) : Keeps K X s (replySent s) := by
  unfold replySent
  split
  · exact .refl s
  · rename_i r rest hreplies
    split
    · exact .refl s
    · refine keeps_link hX ⟨rfl, rfl, rfl⟩ fun ⟨hrep, hmost, hlen⟩ => ⟨?_, ?_⟩
      · rw [hreplies] at hrep
        exact (Nat.le_succ _).trans hrep
      · have hsub : (if r.forRequest then s.host.requests.tail else s.host.requests).Sublist s.host.requests := by
          split
          · exact List.tail_sublist _
          · exact List.Sublist.refl _
        exact ⟨(hsub.filter _).length_le.trans hmost, hsub.length_le.trans hlen⟩

/-! ## The request catalogue (12.7) -/

/-- Every request that a payload of the catalogue's row spells keeps what is kept. -/
def CatalogueRow.Keeps (K : List Kept) (row : CatalogueRow) : Prop :=
  ∀ p f, row.parse p = some f → ∀ u, Machine.Keeps K [] u (f u).state

theorem bare_keeps {f : State → Answer} {kind : Byte} (hf : ∀ u, Keeps K [] u (f u).state) :
    CatalogueRow.Keeps K ⟨kind, bare f⟩ := by
  intro p g hg
  change bare f p = some g at hg
  unfold bare at hg
  split at hg
  · cases hg; exact hf
  · cases hg

theorem oneByte_keeps {f : Byte → State → Answer} {kind : Byte} (hf : ∀ a u, Keeps K [] u (f a u).state) :
    CatalogueRow.Keeps K ⟨kind, oneByte f⟩ := by
  intro p g hg
  change oneByte f p = some g at hg
  unfold oneByte at hg
  split at hg
  · cases hg; exact hf _
  · cases hg

theorem oneHalf_keeps {f : Half → State → Answer} {kind : Byte} (hf : ∀ a u, Keeps K [] u (f a u).state) :
    CatalogueRow.Keeps K ⟨kind, oneHalf f⟩ := by
  intro p g hg
  change oneHalf f p = some g at hg
  unfold oneHalf at hg
  split at hg
  · cases hg; exact hf _
  · cases hg

/-- A byte on HRX may complete any request: the pieces of state that requests change. -/
def requestKept : List Kept := mayChange (.hostByteReceived 0 true)

theorem serveChargeForce_keeps (options : Byte) (u : State) :
    Keeps requestKept [] u (serveChargeForce options u).state := by
  have hK : Kept.disabled ∈ requestKept := by decide
  unfold serveChargeForce
  repeat' split
  · exact .refl u
  · exact keeps_serveForceDisable hK u
  · exact keeps_serveForceEnable hK u
  · exact keeps_serveForceRecover u
  · exact keeps_serveForceRenegotiate u
  · exact .refl u

theorem serveWatchArmByte_keeps (index choice : Byte) (u : State) :
    Keeps requestKept [] u (serveWatchArmByte index choice u).state := by
  unfold serveWatchArmByte
  repeat' split
  · exact keeps_serveWatchArm true index u
  · exact keeps_serveWatchArm false index u
  · exact .refl u

theorem parseOcvTable_keeps (kind : Byte) : CatalogueRow.Keeps requestKept ⟨kind, parseOcvTable⟩ := by
  intro p f hf
  change parseOcvTable p = some f at hf
  unfold parseOcvTable at hf
  split at hf
  · obtain ⟨points, -, rfl⟩ := Option.map_eq_some_iff.mp hf
    exact keeps_serveOcvTable (by decide) points
  · cases hf

theorem parsePackConfig_keeps (kind : Byte) : CatalogueRow.Keeps requestKept ⟨kind, parsePackConfig⟩ := by
  intro p f hf
  change parsePackConfig p = some f at hf
  unfold parsePackConfig at hf
  split at hf
  · cases hf; exact keeps_servePackConfig (by decide) (by decide) _ _ _
  · cases hf

theorem parseProfileWrite_keeps (kind : Byte) : CatalogueRow.Keeps requestKept ⟨kind, parseProfileWrite⟩ := by
  intro p f hf
  change parseProfileWrite p = some f at hf
  unfold parseProfileWrite at hf
  split at hf
  · cases hf; exact keeps_serveProfileWrite (by decide) _ _
  · cases hf

theorem parseBlockConfig_keeps (kind : Byte) : CatalogueRow.Keeps requestKept ⟨kind, parseBlockConfig⟩ := by
  intro p f hf
  change parseBlockConfig p = some f at hf
  unfold parseBlockConfig at hf
  split at hf
  · cases hf; exact keeps_serveBlockConfig none (by decide)
  · cases hf; exact keeps_serveBlockConfig (some _) (by decide)
  · cases hf

theorem parseDirtConfig_keeps (kind : Byte) : CatalogueRow.Keeps requestKept ⟨kind, parseDirtConfig⟩ := by
  intro p f hf
  change parseDirtConfig p = some f at hf
  unfold parseDirtConfig at hf
  split at hf
  · cases hf; exact keeps_serveDirtConfig none (by decide) (by decide)
  · cases hf; exact keeps_serveDirtConfig (some _) (by decide) (by decide)
  · cases hf

theorem parseToolLoad_keeps (kind : Byte) : CatalogueRow.Keeps requestKept ⟨kind, parseToolLoad⟩ := by
  intro p f hf
  change parseToolLoad p = some f at hf
  unfold parseToolLoad at hf
  split at hf
  · cases hf; exact fun u => keeps_serveToolLoad (s := u) _ (by decide)
  · cases hf

theorem parseToolDrop_keeps (kind : Byte) : CatalogueRow.Keeps requestKept ⟨kind, parseToolDrop⟩ := by
  intro p f hf
  change parseToolDrop p = some f at hf
  unfold parseToolDrop at hf
  split at hf
  · cases hf; exact keeps_serveToolDrop _ (by decide)
  · cases hf

theorem parseEventMask_keeps (kind : Byte) : CatalogueRow.Keeps requestKept ⟨kind, parseEventMask⟩ := by
  intro p f hf
  change parseEventMask p = some f at hf
  unfold parseEventMask at hf
  split at hf
  · cases hf; exact keeps_serveEventMask none (by decide)
  · cases hf; exact keeps_serveEventMask (some _) (by decide)
  · cases hf

theorem parseChargeConfig_keeps (kind : Byte) : CatalogueRow.Keeps requestKept ⟨kind, parseChargeConfig⟩ := by
  intro p f hf
  change parseChargeConfig p = some f at hf
  unfold parseChargeConfig at hf
  split at hf
  · cases hf; exact keeps_serveChargeConfig none (by decide)
  · cases hf; exact keeps_serveChargeConfig (some _) (by decide)
  · cases hf

theorem parseEvacConfig_keeps (kind : Byte) : CatalogueRow.Keeps requestKept ⟨kind, parseEvacConfig⟩ := by
  intro p f hf
  change parseEvacConfig p = some f at hf
  unfold parseEvacConfig at hf
  split at hf
  · cases hf; exact keeps_serveEvacConfig none (by decide)
  · cases hf; exact keeps_serveEvacConfig (some _) (by decide)
  · cases hf

theorem parseWatchSet_keeps (kind : Byte) : CatalogueRow.Keeps requestKept ⟨kind, parseWatchSet⟩ := by
  intro p f hf
  change parseWatchSet p = some f at hf
  unfold parseWatchSet at hf
  split at hf
  · cases hf; exact keeps_serveWatchSet _ _
  · cases hf

theorem parseWatchArm_keeps (kind : Byte) : CatalogueRow.Keeps requestKept ⟨kind, parseWatchArm⟩ := by
  intro p f hf
  change parseWatchArm p = some f at hf
  unfold parseWatchArm at hf
  split at hf
  · cases hf; exact serveWatchArmByte_keeps _ _
  · cases hf

/-- Requests that only read. -/
theorem read_keeps {f : State → Answer} (h : ∀ u, (f u).state = u) (u : State) : Keeps K [] u (f u).state := by
  rw [h]; exact .refl u

theorem catalogue_keeps : ∀ row ∈ catalogue, row.Keeps requestKept := by
  simp only [catalogue, List.mem_append, or_imp, forall_and, List.forall_mem_cons, List.not_mem_nil,
    IsEmpty.forall_iff, implies_true, and_true]
  refine ⟨⟨⟨?_, ?_⟩, ?_⟩, ?_⟩
  · exact ⟨bare_keeps (read_keeps fun _ => rfl), bare_keeps fun u => .of_sight (serveEventsRead_sight u),
      parseEventMask_keeps _, bare_keeps (keeps_serveReady (by decide)), parsePackConfig_keeps _,
      parseOcvTable_keeps _, bare_keeps (read_keeps fun _ => rfl), oneHalf_keeps keeps_serveGaugeSet,
      bare_keeps keeps_serveSleep⟩
  · exact ⟨oneHalf_keeps fun ma u => .of_sight (serveReserveSet_sight ma u), bare_keeps (read_keeps fun _ => rfl),
      parseProfileWrite_keeps _, oneByte_keeps fun i => read_keeps (serveProfileRead_state i),
      oneByte_keeps (keeps_serveProfileLock (by decide)), oneByte_keeps keeps_serveModeSet,
      oneByte_keeps keeps_serveModePush, bare_keeps keeps_serveModePop, bare_keeps (read_keeps fun _ => rfl),
      bare_keeps (keeps_serveFaultClear (by decide)), parseBlockConfig_keeps _⟩
  · exact ⟨parseDirtConfig_keeps _, bare_keeps (read_keeps fun _ => rfl), bare_keeps (keeps_serveBinReset (by decide)),
      parseToolLoad_keeps _, parseToolDrop_keeps _, oneByte_keeps fun i => read_keeps (serveToolRead_state i),
      bare_keeps (read_keeps fun _ => rfl), bare_keeps (read_keeps fun _ => rfl), parseChargeConfig_keeps _,
      bare_keeps (read_keeps fun _ => rfl), bare_keeps (read_keeps fun _ => rfl), oneByte_keeps serveChargeForce_keeps⟩
  · exact ⟨parseEvacConfig_keeps _, oneByte_keeps keeps_serveEvacStart, parseWatchSet_keeps _, parseWatchArm_keeps _,
      oneByte_keeps fun i => read_keeps (serveWatchRead_state i), oneByte_keeps keeps_serveWatchClear⟩

theorem request_keeps (kind : Byte) (payload : List Byte) (u : State) :
    Keeps requestKept [] u (request kind payload u).state := by
  unfold request
  cases hrow : catalogue.find? (·.kind == kind) with
  | none => exact .refl u
  | some row =>
    dsimp only
    cases hparse : row.parse payload with
    | none => exact .refl u
    | some f => exact catalogue_keeps row (List.mem_of_find?_eq_some hrow) payload f hparse u

theorem keeps_frameArrives (hX : .queues ∈ X) (kind tag : Byte) (payload : List Byte) (h : s.host.stopped = false) :
    Keeps requestKept X s (frameArrives kind tag payload s) :=
  .ite (fun _ => .ite (fun _ => keeps_resetArrives hX tag h) fun _ => keeps_badReset hX tag s) fun _ =>
    .ite (fun _ => keeps_admitted hX _ tag fun hreplies hroom => keeps_fenceArrives hX tag hreplies hroom)
      fun _ => keeps_serve hX kind tag (request_keeps kind payload) s

theorem setRx_sight (r : Rx) (s : State) : sight (setRx r s) = sight s := rfl

theorem keeps_assemble (hX : .queues ∈ X) (bytes : List Byte) (h : s.host.stopped = false) :
    Keeps requestKept X s (assemble bytes s) := by
  unfold assemble
  split
  · refine .ite (fun _ => (keeps_badFrame hX _ _).after_sight (setRx_sight _ s)) fun _ => .ite (fun _ => ?_) fun _ =>
      .of_sight (setRx_sight _ s)
    exact .ite (fun _ => (keeps_frameArrives (s := setRx .hunting s) hX _ _ _ h).after_sight (setRx_sight _ s))
      fun _ => (keeps_badFrame hX _ _).after_sight (setRx_sight _ s)
  · exact .of_sight (setRx_sight _ s)

theorem keeps_byteReceived (hX : .queues ∈ X) (b : Byte) (stopBit : Bool) (s : State) :
    Keeps requestKept X s (byteReceived b stopBit s) := by
  refine .ite (fun _ => .refl s) fun h => ?_
  split
  · exact .ite (fun _ => (keeps_wake s).then_sight (setRx_sight _ _)) fun _ => .refl s
  · exact .ite (fun _ => keeps_assemble hX _ (by simpa using h)) fun _ => .of_sight rfl
  · exact .refl s

end Sys2Proof.Machine
end

section
namespace Sys2Proof.Machine

variable {K : List Kept} {X : List Law} {s t u : State}

/-! ## Resets (R20, R25, R190) -/

/-- Every law of the part holds right after reset. -/
theorem reset_laws (l : Law) : l.holds State.reset := by
  have hempty (i : Fin 8) : State.reset.tools.slots[i] = none := by revert i; decide
  cases l
  case node => exact ⟨by decide, by decide, by decide⟩
  case table =>
    refine ⟨⟨by decide, by decide, by decide⟩, fun i j r q hr => ?_, fun i r hr => ?_, by decide, by decide,
      fun n hn => ?_⟩
    · rw [hempty i] at hr; cases hr
    · rw [hempty i] at hr; cases hr
    · cases hn
  case queues => exact trivial
  all_goals
    simp only [Law.holds]
    decide

/-- A reset from the levels on the pins: every piece of state is as after reset but for the queue and the pins. -/
theorem keeps_of_reset {t : State} (hX : .queues ∈ X) (hK : ∀ k, k ≠ .pins → k ∈ K) (hpending : t.pending = s.pending)
    (hpins : t.pins = s.pins) (hlaws : ∀ l : Law, l.holds t) : Keeps K X s t := by
  refine ⟨hpending, fun h => absurd hX h, fun k hk => ?_, fun l _ _ => hlaws l⟩
  by_cases h : k = .pins
  · subst h; exact hpins
  · exact absurd (hK k h) hk

theorem powerOn_pending (s : State) : (powerOn s).pending = s.pending ∧ (powerOn s).pins = s.pins := by
  unfold powerOn
  dsimp only
  split <;> exact ⟨rfl, rfl⟩

theorem powerOn_laws (l : Law) (s : State) : l.holds (powerOn s) := by
  have h := reset_laws l
  unfold powerOn
  dsimp only
  split
  · cases l
    case evac => exact fun _ hstate => by cases hstate
    case switch => exact fun hcsw => by cases hcsw
    all_goals exact h
  · cases l <;> exact h

theorem keeps_powerOn (hX : .queues ∈ X) (hK : ∀ k, k ≠ .pins → k ∈ K) (s : State) : Keeps K X s (powerOn s) :=
  keeps_of_reset hX hK (powerOn_pending s).1 (powerOn_pending s).2 fun l => powerOn_laws l s

theorem shutdownState_laws (l : Law) (s : State) : l.holds (shutdownState s) := by
  have h := reset_laws l
  unfold shutdownState
  cases l <;> exact h

theorem keeps_shutDown (hX : .queues ∈ X) (hK : ∀ k, k ≠ .pins → k ∈ K) (s : State) : Keeps K X s (shutDown s) :=
  .ite (fun _ => keeps_powerOn hX hK s) fun _ => keeps_of_reset hX hK rfl rfl fun l => shutdownState_laws l s

theorem softDock_state (d : Dock) : (softDock d).state ≠ .detached ∨ (softDock d).state = d.state := by
  by_cases h : d.state = .detached
  · exact .inr (by simp [softDock, h])
  · exact .inl (by simp [softDock, h])

/-- The host link, the dock and the evacuation record at a soft reset. -/
theorem keeps_softLinks (hlink : .link ∈ K) (hdisabled : .disabled ∈ K) (s : State) : Keeps K X s { s with
    host := { s.host with ready := false, configured := false }
    dock := softDock s.dock, evac := softEvac s.evac } := by
  refine Keeps.trans (keeps_host (h := { s.host with ready := false, configured := false }) (fun _ => rfl)
    (fun h => absurd hlink h) (fun _ => rfl) fun h => h) (Keeps.trans (.of_dock (d := softDock s.dock)
      (fun _ => ⟨rfl, rfl, rfl⟩) (fun h => absurd hdisabled h) (fun _ hcsw => by cases hcsw)
        fun _ _ => softDock_state s.dock) (.of_evac (e := softEvac s.evac) (fun _ => ⟨rfl, rfl⟩) fun _ _ hp => ?_))
  cases hp

theorem keeps_softWatch (s : State) : Keeps K X s (softWatch s) := by
  refine (keeps_writeWatch { s.watch with recs := Vector.replicate 8 none } s).then_handWatch fun _ hfired => ?_
  exact absurd hfired (by simp [stopFired])

theorem keeps_softDrive (s : State) : Keeps K X s (softDrive s) := by
  have hstop : Keeps K X s (stopOrder .reset { s with drive := { s.drive with startPending := false } }) :=
    (keeps_stopOrder .reset _).after_sight
  exact .ite (fun _ => hstop.trans (keeps_enterRest _ rfl)) fun _ => hstop

theorem keeps_softGov (hK : .blockSettings ∈ K) (s : State) : Keeps K X s (softGov s) := by
  have hgov (u : State) : Keeps K X u { u with gov := { u.gov with
      floor := .hard, factor := 100, curve := .openInlet, boost := 0, grant := 0, delivered := false
      pset := 0, ramping := false, ceiling := 0 } } :=
    keeps_pset rfl rfl fun h => ⟨h.1, Nat.zero_le _⟩
  have hload (u : State) : Keeps K X u { u with load := .reset } := by
    refine ⟨rfl, fun _ => rfl, fun k hk => ?_, fun l _ h => by cases l <;> exact h⟩
    cases k
    case blockSettings => exact absurd hK hk
    all_goals simp [Kept.same]
  exact ((keeps_collapseStack s).trans (hgov _)).trans (hload _)

theorem keeps_softLine (s : State) : Keeps K X s (softLine s) := by
  have hline (u : State) : sight { u with line := { u.line with losses := 0, floor := .hard } } = sight u := rfl
  have htools (u : State) : Keeps K X u { u with tools := { u.tools with miss := [], nozzle := none } } :=
    .of_tools (fun _ => rfl) fun _ ⟨hone, _, _, _, hnodes⟩ => ⟨hone, by simp, by simp, by simp, hnodes⟩
  exact ((keeps_lineReset true s).then_sight (hline _)).trans (htools _)

theorem keeps_softDirt (a : Arb) (s : State) : Keeps K X s { s with arb := a, dirt := softDirt s.dirt } :=
  .trans (.of_dirt (d := softDirt s.dirt) ⟨rfl, rfl, rfl, rfl, rfl, rfl⟩ ⟨rfl, rfl, rfl⟩ fun _ =>
    ⟨fun h => absurd h (Nat.lt_irrefl 0), fun h => by cases h⟩) (.of_sight rfl)

theorem keeps_softReset (hX : .queues ∈ X) (hblock : .blockSettings ∈ K) (hdisabled : .disabled ∈ K) (hmask : .mask ∈ K)
    (hlink : .link ∈ K) (s : State) : Keeps K X s (softReset s) := by
  have hblocks : Keeps K X s (softLine (softGov (softDrive (softWatch { s with
      host := { s.host with ready := false, configured := false }
      dock := softDock s.dock, evac := softEvac s.evac })))) :=
    ((((keeps_softLinks hlink hdisabled s).trans (keeps_softWatch _)).trans (keeps_softDrive _)).trans
      (keeps_softGov hblock _)).trans (keeps_softLine _)
  have hsettled (u : State) : Keeps K X u (settle (askRecompute (trySend u))) :=
    ((keeps_trySend u).then_sight (askRecompute_sight _)).trans (keeps_settle _)
  have hhost (u : State) : Keeps K X u { u with signals := [], host := .reset } :=
    .trans (keeps_host (h := .reset) (fun h => absurd hmask h) (fun h => absurd hlink h) (fun h => absurd hX h)
      fun _ => reset_laws .queue) (.of_sight rfl)
  exact ((hblocks.trans (keeps_softDirt _ _)).trans (hsettled _)).trans (hhost _)

theorem keeps_softResetDue (hX : .queues ∈ X) (hblock : .blockSettings ∈ K) (hdisabled : .disabled ∈ K)
    (hmask : .mask ∈ K) (hlink : .link ∈ K) (s : State) : Keeps K X s (softResetDue s) :=
  .ite (fun _ => keeps_softReset hX hblock hdisabled hmask hlink s) fun _ => .refl s

/-! ## The commands -/

theorem mem_requestKept (k : Kept) (h : k ≠ .pins) : k ∈ requestKept := by
  revert h
  cases k <;> decide

/-- A request keeps what its block keeps. -/
theorem keeps_of_ask {kind tag : Byte} {f : State → Answer} (hf : ∀ u, Keeps K [] u (f u).state)
    (h : ask kind tag f s = .next t) : Keeps K [.queues] s t :=
  Keeps.of_event (keeps_arrive (fun u _ => keeps_serve (by simp) kind tag hf u) s) h

/-- The frame of every command and the laws it keeps, in one relation. -/
theorem keeps_of_exec (c : Instr) (h : exec c s = .next t) : Keeps (mayChange c) [.queues] s t := by
  have hX : Law.queues ∈ [Law.queues] := by simp
  cases c with
  | powerOnReset => cases h; exact keeps_powerOn hX mem_requestKept s
  | shutdownEntry =>
    change (if s.pack.shutdown.isSome then Host.Outcome.next (shutDown s) else .next s) = .next t at h
    split at h
    · cases h; exact keeps_shutDown hX mem_requestKept s
    · cases h; exact .refl s
  | chginRise =>
    change (if s.pack.power = .shutdown then
      Host.Outcome.next (powerOn { s with pins := { s.pins with chgin := true } }) else event chginRose s) = .next t at h
    split at h
    · cases h; exact (keeps_pins (by decide) _ s).trans (keeps_powerOn hX (fun k hk => List.mem_cons_of_mem _ (mem_requestKept k hk)) _)
    · exact .of_event (keeps_chginRose (by decide) s) h
  | chginDrop =>
    change (if s.pack.power = .shutdown then
      Host.Outcome.next { s with pins := { s.pins with chgin := false } } else event chginFell s) = .next t at h
    split at h
    · cases h; exact keeps_pins (by decide) _ s
    · exact .of_event (keeps_chginFell (by decide) s) h
  | trigEdge pressed =>
    change (if s.pack.power = .shutdown then
      Host.Outcome.next { s with pins := { s.pins with trig := pressed } } else event (trigChanged pressed) s)
        = .next t at h
    split at h
    · cases h; exact keeps_pins (.head _) _ s
    · exact .of_event (keeps_trigChanged (.head _) pressed s) h
  | lineResetEnd => exact .of_event (w := lineResetEnded) (.of_sight (sight_ite rfl rfl)) h
  | packRound r => exact .of_event (keeps_packRound (.head _) r s) h
  | ocvCorrection => exact .of_event (keeps_ocvCorrect s) h
  | cutoffDeclare => exact .of_event (keeps_cutoffReached s) h
  | toolOvercurrent => exact .of_event (.of_sight (sight_ite (overcurrentTrip_sight s) rfl)) h
  | settleDeadlineExpiry k => exact .of_event (.of_sight (settleExpired_sight k s)) h
  | offerDeadlineExpiry k => exact .of_event (.of_sight (offerExpired_sight k s)) h
  | toolHoldoffExpiry => exact .of_event (.of_sight (holdoffExpired_sight s)) h
  | triggerDebounceExpiry => exact .of_event (keeps_triggerSettled s) h
  | armingTimerExpiry =>
    exact .of_event (.ite (fun hs => keeps_enterAlign (by rw [hs]; rfl)) fun _ => .refl s) h
  | gateTestFail => exact .of_event (.ite (fun _ => keeps_trip (by decide) s) fun _ => .refl s) h
  | alignTimerExpiry =>
    exact .of_event (.ite (fun hs => keeps_enterSpinup (by rw [hs]; rfl)) fun _ => .refl s) h
  | spinupLock => exact .of_event (.ite (fun hs => keeps_enterRun (by rw [hs]; rfl)) fun _ => .refl s) h
  | startFail => exact .of_event (.ite (fun _ => keeps_trip (by decide) s) fun _ => .refl s) h
  | commutation crossing power current => exact .of_event (keeps_commutate crossing power current s) h
  | motorOvercurrent => exact .of_event (.ite (fun _ => keeps_trip (by decide) s) fun _ => .refl s) h
  | stallTimerExpiry => exact .of_event (.ite (fun _ => keeps_trip (by decide) s) fun _ => .refl s) h
  | syncMiss => exact .of_event (.ite (fun _ => keeps_trip (by decide) s) fun _ => .refl s) h
  | rotorAtRest => exact .of_event (.ite (fun _ => keeps_reachOff s) fun _ => .refl s) h
  | coastTimerExpiry => exact .of_event (.ite (fun _ => keeps_reachOff s) fun _ => .refl s) h
  | faultTimerExpiry => exact .of_event (keeps_faultTimedOut s) h
  | governorStep current period => exact .of_event (keeps_governorStep current period s) h
  | pulseTimerExpiry => exact .of_event (keeps_pulseEnded s) h
  | waitTimerExpiry => exact .of_event (.ite (fun _ => keeps_attemptOrFail s) fun _ => .refl s) h
  | piezoEcho => exact .of_event (keeps_echoHeard s) h
  | echoTimerExpiry => exact .of_event (keeps_echoMissed s) h
  | impactEnd i => exact .of_event (keeps_impactEnded i s) h
  | windowEnd => exact .of_event (keeps_windowEnded (by decide) s) h
  | toolMasterSend => exact .of_event (keeps_masterSend s) h
  | arbitrationLoss => exact .of_event (keeps_frameLost s) h
  | masterLossLimit => exact .of_event (keeps_lossLimit s) h
  | announce sender serial descs => exact .of_event (keeps_takeAnnounce sender serial descs s) h
  | status sender brush floor jam lamp fault => exact .of_event (keeps_takeStatus sender _ s) h
  | ack sender seq limit => exact .of_event (keeps_takeAck sender seq limit s) h
  | notice sender jam floor => exact .of_event (.of_sight (takeNotice_sight sender jam _ s)) h
  | replyWindowClose => exact .of_event (keeps_windowClosed s) h
  | pollTimerExpiry a => exact .of_event (keeps_pollDue a s) h
  | quarantineExpiry a => exact .of_event (w := quarantineOver a) (.of_sight rfl) h
  | attachDebounceDone level => exact .of_event (keeps_debounceDone level s) h
  | detach => exact .of_event (keeps_detached (by decide) s) h
  | dockRequestSend => exact .of_event (keeps_trySend s) h
  | dockCollision => exact .of_event (keeps_collided s) h
  | dockDeadlineExpiry => exact .of_event (keeps_deadlinePassed s) h
  | dockIdent kind support count => exact .of_event (keeps_takeIdent kind support count s) h
  | dockOffers offers => exact .of_event (keeps_takeOffers offers s) h
  | dockAccept => exact .of_event (keeps_takeAccept s) h
  | dockReady => exact .of_event (keeps_takeReady s) h
  | dockReject reason => exact .of_event (keeps_takeReject reason s) h
  | dockWait ms => exact .of_event (keeps_takeWait ms s) h
  | offersChanged offers => exact .of_event (keeps_takeNewOffers offers s) h
  | evacStatus status reason => exact .of_event (keeps_takeEvacStatus (.head _) status reason s) h
  | evacCompletionExpiry => exact .of_event (keeps_completionMissed s) h
  | chargeCheck chgin => exact .of_event (keeps_chargeCheck chgin s) h
  | prechargeTimeout => exact .of_event (keeps_prechargeOver s) h
  | totalTimeout => exact .of_event (keeps_totalOver s) h
  | hostByteReceived b stopBit => exact .of_event (keeps_byteReceived hX b stopBit s) h
  | hostByteGap => exact .of_event (keeps_byteGap s) h
  | replySent => exact .of_event (keeps_replySent hX s) h
  | softReset => exact .of_event (keeps_softResetDue hX (by decide) (by decide) (by decide) (by decide) s) h
  | fenceTimeout => exact .of_event (keeps_fenceTimedOut s) h
  | fence tag =>
    exact .of_event (keeps_arrive (fun u _ => keeps_admitted hX _ tag
      fun hreplies hroom => keeps_fenceArrives hX tag hreplies hroom) s) h
  | reset tag => exact .of_event (keeps_arrive (fun u hu => keeps_resetArrives hX tag hu) s) h
  | ident tag => exact keeps_of_ask (read_keeps fun _ => rfl) h
  | eventsRead tag => exact keeps_of_ask (fun u => .of_sight (serveEventsRead_sight u)) h
  | eventMask tag mask => exact keeps_of_ask (keeps_serveEventMask mask (.head _)) h
  | ready tag => exact keeps_of_ask (keeps_serveReady (.head _)) h
  | packConfig tag count capacity inom =>
    exact keeps_of_ask (keeps_servePackConfig (.head _) (.tail _ (.head _)) count capacity inom) h
  | ocvTable tag points => exact keeps_of_ask (keeps_serveOcvTable (.head _) points) h
  | packRead tag => exact keeps_of_ask (read_keeps fun _ => rfl) h
  | gaugeSet tag soc => exact keeps_of_ask (keeps_serveGaugeSet soc) h
  | sleep tag => exact keeps_of_ask keeps_serveSleep h
  | reserveSet tag ma => exact keeps_of_ask (fun u => .of_sight (serveReserveSet_sight ma u)) h
  | allotRead tag => exact keeps_of_ask (read_keeps fun _ => rfl) h
  | profileWrite tag index f => exact keeps_of_ask (keeps_serveProfileWrite (.head _) index f) h
  | profileRead tag index => exact keeps_of_ask (read_keeps (serveProfileRead_state index)) h
  | profileLock tag index => exact keeps_of_ask (keeps_serveProfileLock (.head _) index) h
  | modeSet tag index => exact keeps_of_ask (keeps_serveModeSet index) h
  | modePush tag index => exact keeps_of_ask (keeps_serveModePush index) h
  | modePop tag => exact keeps_of_ask keeps_serveModePop h
  | motorRead tag => exact keeps_of_ask (read_keeps fun _ => rfl) h
  | faultClear tag => exact keeps_of_ask (keeps_serveFaultClear (.head _)) h
  | blockConfig tag settings => exact keeps_of_ask (keeps_serveBlockConfig settings (.head _)) h
  | dirtConfig tag settings =>
    exact keeps_of_ask (keeps_serveDirtConfig settings (.head _) (.tail _ (.head _))) h
  | dirtRead tag => exact keeps_of_ask (read_keeps fun _ => rfl) h
  | binReset tag => exact keeps_of_ask (keeps_serveBinReset (.head _)) h
  | toolLoad tag f => exact keeps_of_ask (fun u => keeps_serveToolLoad (s := u) f (.head _)) h
  | toolDrop tag serial => exact keeps_of_ask (keeps_serveToolDrop serial (.head _)) h
  | toolRead tag index => exact keeps_of_ask (read_keeps (serveToolRead_state index)) h
  | toolMissRead tag => exact keeps_of_ask (read_keeps fun _ => rfl) h
  | toolList tag => exact keeps_of_ask (read_keeps fun _ => rfl) h
  | chargeConfig tag settings => exact keeps_of_ask (keeps_serveChargeConfig settings (.head _)) h
  | chargeRead tag => exact keeps_of_ask (read_keeps fun _ => rfl) h
  | dockRead tag => exact keeps_of_ask (read_keeps fun _ => rfl) h
  | chargeForceDisable tag => exact keeps_of_ask (keeps_serveForceDisable (.head _)) h
  | chargeForceEnable tag => exact keeps_of_ask (keeps_serveForceEnable (.head _)) h
  | chargeForceRecover tag => exact keeps_of_ask keeps_serveForceRecover h
  | chargeForceRenegotiate tag => exact keeps_of_ask keeps_serveForceRenegotiate h
  | evacConfig tag settings => exact keeps_of_ask (keeps_serveEvacConfig settings (.head _)) h
  | evacStart tag duration => exact keeps_of_ask (keeps_serveEvacStart duration) h
  | watchSet tag index f => exact keeps_of_ask (keeps_serveWatchSet index f) h
  | watchArmArm tag index => exact keeps_of_ask (keeps_serveWatchArm true index) h
  | watchArmDisarm tag index => exact keeps_of_ask (keeps_serveWatchArm false index) h
  | watchRead tag index => exact keeps_of_ask (read_keeps (serveWatchRead_state index)) h
  | watchClear tag index => exact keeps_of_ask (keeps_serveWatchClear index) h
  | lossOfBackEmfLock => exact .of_event (w := lockLost) (.of_sight (sight_ite rfl rfl)) h
  | openLoopRampStep => exact .of_event (keeps_rampStepped s) h
  | dockRequestLastByte => exact .of_event (.of_sight (requestSent_sight s)) h
  | dockCollisionResend => exact .of_event (.of_sight (resendCollided_sight s)) h
  | toolMasterFrameEnd => exact .of_event (.of_sight (frameEnded_sight s)) h

/-! ## The steps -/

theorem elapse_sight (s : State) : sight (elapse s) = sight s := by
  have hnodes : (elapse s).line.nodes.map Node.core = s.line.nodes.map Node.core := by
    change (s.line.nodes.map fun n : Node => { n with poll := n.poll - 1 }).map Node.core = _
    rw [List.map_map]
    rfl
  have hwindow : (elapse s).dirt.window.isSome = s.dirt.window.isSome := by
    change (s.dirt.window.map _).isSome = _
    rw [Option.isSome_map]
  unfold sight
  rw [hnodes, hwindow]
  rfl

theorem laws_of_pending (p : List Instr) (l : Law) : l.holds { s with pending := p } ↔ l.holds s := by
  cases l <;> exact Iff.rfl

/-- A bit period keeps every law. -/
theorem tick_laws (l : Law) (h : l.holds s) : l.holds (tick s) := by
  unfold tick
  split
  · exact h
  · dsimp only
    have hsample : Keeps [] [] s { s with line := s.line.sample, beat := s.beat + 1 } := .of_sight rfl
    have hticked (p : List Instr) : l.holds { s with line := s.line.sample, beat := s.beat + 1, pending := p } :=
      (laws_of_pending p l).mpr (hsample.laws l (by simp) h)
    split
    · exact hticked _
    · have helapsed : ∀ u : State, l.holds u → ∀ p, l.holds { elapse u with beat := 0, pending := p } := fun u hu p =>
        (laws_of_pending p l).mpr (((Keeps.of_sight (K := []) (X := []) (elapse_sight u)).then_sight
          (u := { elapse u with beat := 0 })).laws l (by simp) hu)
      exact helapsed _ (hticked _) _

/-- Every step keeps every law of the part. -/
theorem step_laws (l : Law) (h : step s = .next t) (hl : l.holds s) : l.holds t := by
  unfold step at h
  split at h
  · by_cases hq : l = .queues
    · subst hq; exact trivial
    · exact (keeps_of_exec _ h).laws l (by simpa using hq) ((laws_of_pending _ l).mpr hl)
  · cases h
    exact tick_laws l hl

/-- Settles O54, from what every command keeps. -/
theorem everyStepKeepsTheGovernorsLaws : Obligations.EveryStepKeepsTheGovernorsLaws := fun _ _ h =>
  ⟨step_laws .stack h, step_laws .power h⟩

/-- Settles O55, from what every command keeps. -/
theorem everyStepKeepsTheCountersLaws : Obligations.EveryStepKeepsTheCountersLaws := fun _ _ h =>
  ⟨step_laws .gauge h, step_laws .bin h⟩

/-- Settles O56, from what every command keeps. -/
theorem everyStepKeepsTheSwitchesLaws : Obligations.EveryStepKeepsTheSwitchesLaws := fun _ _ h =>
  ⟨step_laws .switch h, step_laws .trip h⟩

/-- Settles O57, from what every command keeps. -/
theorem everyStepKeepsTheCleaningLaws : Obligations.EveryStepKeepsTheCleaningLaws := fun _ _ h =>
  ⟨step_laws .dirt h, step_laws .evac h⟩

/-- Settles O58, from what every command keeps. -/
theorem everyStepKeepsTheWatchesLaws : Obligations.EveryStepKeepsTheWatchesLaws := fun _ _ h =>
  ⟨step_laws .watch h, step_laws .result h, step_laws .queue h⟩

/-- Settles O59, from what every command keeps; the law of the record table needs that of the node list beside it. -/
theorem everyStepKeepsTheToolLaws : Obligations.EveryStepKeepsTheToolLaws := fun _ _ h =>
  ⟨step_laws .node h, fun hn ht => (step_laws .table h ⟨hn, ht⟩).2⟩

/-- Settles O2: the frame of every command is the first half of what it keeps. -/
theorem commandsLeaveTheRestAlone : Obligations.CommandsLeaveTheRestAlone := fun c s t h =>
  have hk := keeps_of_exec c h
  ⟨hk.pending, hk.same .pins, hk.same .packSettings, hk.same .profiles, hk.same .trips, hk.same .blockSettings,
    hk.same .dirtSettings, hk.same .bin, hk.same .records, hk.same .chargeSettings, hk.same .disabled,
    hk.same .evacSettings, hk.same .mask, hk.same .link⟩

/-- Settles O5. -/
theorem resetMeetsTheLaws : Obligations.ResetMeetsTheLaws :=
  ⟨reset_laws .stack, reset_laws .bin, reset_laws .gauge, reset_laws .trip, reset_laws .switch, reset_laws .dirt,
    reset_laws .watch, reset_laws .result, reset_laws .evac, reset_laws .queue, reset_laws .power, reset_laws .node,
    (reset_laws .table).2⟩

end Sys2Proof.Machine
end

section
namespace Sys2Proof.Machine

/-! ## Steps and power-on resets -/

/-- Settles O1, by the definition of a step. -/
theorem stepTakesTheFrontCommand : Obligations.StepTakesTheFrontCommand := by
  refine ⟨fun c rest s => rfl, fun s hempty => ?_⟩
  unfold step
  rw [hempty]

/-- The power-on reset with CHGIN low, and with CHGIN above 5 V (R25, R164). -/
theorem exec_powerOnReset (s : State) :
    (s.pins.chgin = false → exec .powerOnReset s
      = .next { State.reset with pending := s.pending, free := s.free, pins := s.pins })
    ∧ (s.pins.chgin = true → exec .powerOnReset s
      = .next { State.reset with
          pending := s.pending, free := s.free, pins := s.pins
          dock := { Dock.reset with
            state := .attachWait, attach := .debouncing, debounce := some 150 } }) := by
  have hexec : exec .powerOnReset s = .next (powerOn s) := rfl
  rw [hexec]
  constructor
  · intro h
    unfold powerOn
    rw [if_neg (by simp [h])]
  · intro h
    unfold powerOn
    rw [if_pos h]
    rfl

/-- Settles O4: the reset state is read off, and the two levels of CHGIN are the two branches of the power-on reset. -/
theorem aPowerOnResetLeavesTheTabledValues : Obligations.APowerOnResetLeavesTheTabledValues := by
  refine ⟨⟨?_, ?_, ?_, ?_, ?_, ?_, ?_, ?_, ?_, ?_, ?_, ?_⟩, exec_powerOnReset⟩
  all_goals decide

/-! ## Frames on the tool line as bits (R110, R112, R193) -/

/-- Removing the stuff bits reads back what was stuffed. -/
theorem unstuff_stuff (run : Nat) (l : List Bool) : unstuff run (stuff run l) = some l := by
  induction l generalizing run with
  | nil => rfl
  | cons b l ih =>
    cases b
    · unfold stuff
      by_cases h : run + 1 = 8
      · simp [h, unstuff, ih]
      · rw [if_neg (by simp), if_neg h]
        unfold unstuff
        simp [h, ih]
    · simp [stuff, unstuff, ih]

/-- Stuffing goes through the first bits in the same way whatever follows it. -/
theorem stuff_append (run : Nat) (p : List Bool) :
    ∃ pre run', ∀ q, stuff run (p ++ q) = pre ++ stuff run' q := by
  induction p generalizing run with
  | nil => exact ⟨[], run, fun q => rfl⟩
  | cons b p ih =>
    cases b
    · by_cases h : run + 1 = 8
      · obtain ⟨pre, run', hp⟩ := ih 1
        exact ⟨false :: true :: false :: pre, run', fun q => by simp [stuff, h, hp]⟩
      · obtain ⟨pre, run', hp⟩ := ih (run + 1)
        exact ⟨false :: pre, run', fun q => by simp [stuff, h, hp]⟩
    · obtain ⟨pre, run', hp⟩ := ih 1
      exact ⟨true :: false :: pre, run', fun q => by simp [stuff, hp]⟩

/-- Two frames whose field bits first differ in one bit first differ in that bit on the line, in the same sense. -/
theorem lineBits_split (p x y : List Bool) : ∃ q a b,
    lineBits (p ++ false :: x) = q ++ false :: a ∧ lineBits (p ++ true :: y) = q ++ true :: b := by
  obtain ⟨pre, run, hpre⟩ := stuff_append 1 p
  have hdominant (l : List Bool) : ∃ a, stuff run (false :: l) = false :: a := by
    unfold stuff
    by_cases h : run + 1 = 8 <;> simp [h]
  obtain ⟨a, ha⟩ := hdominant (x ++ bitsOf 8 (crcBits (p ++ false :: x)).toNat)
  refine ⟨false :: pre, a ++ [true], false :: stuff 1 (y ++ bitsOf 8 (crcBits (p ++ true :: y)).toNat) ++ [true],
    ?_, ?_⟩
  · simp [lineBits, hpre, ha]
  · simp [lineBits, hpre, stuff]

theorem onLine_self (l : List Bool) : onLine l l = l := by
  induction l with
  | nil => rfl
  | cons b l ih => simp [onLine, ih]

theorem lostAt_self (l : List Bool) : lostAt l l = none := by
  induction l with
  | nil => rfl
  | cons b l ih => cases b <;> simp [lostAt, ih]

/-- The frame with the dominant bit stands on the line whole (R110). -/
theorem onLine_dominant (q a b : List Bool) : onLine (q ++ false :: a) (q ++ true :: b) = q ++ false :: a
    ∧ onLine (q ++ true :: b) (q ++ false :: a) = q ++ false :: a := by
  induction q with
  | nil => simp [onLine]
  | cons c q ih => simp [onLine, ih]

/-- The frame with the recessive bit reads back that it has lost the line (R110). -/
theorem lostAt_recessive (q a b : List Bool) : (lostAt (q ++ true :: b) (q ++ false :: a)).isSome = true := by
  induction q with
  | nil => simp [lostAt]
  | cons c q ih => cases c <;> simp [lostAt, ih]

theorem winsLine_dominant (q a b : List Bool) : winsLine (q ++ false :: a) (q ++ true :: b) = true := by
  have hline := (onLine_dominant q a b).1
  have hlost := lostAt_recessive q a b
  unfold winsLine
  rw [hline, lostAt_self]
  simpa using hlost

theorem winsLine_lineBits (p x y : List Bool) :
    winsLine (lineBits (p ++ false :: x)) (lineBits (p ++ true :: y)) = true := by
  obtain ⟨q, a, b, ha, hb⟩ := lineBits_split p x y
  rw [ha, hb]
  exact winsLine_dominant q a b

theorem bitsOf_length (k n : Nat) : (bitsOf k n).length = k := by
  induction k with
  | zero => rfl
  | succ k ih => simp [bitsOf, ih]

/-- The low bits of a number are its lowest ones and the next above them. -/
theorem mod_two_pow_succ_testBit (n k : Nat) : n % 2 ^ (k + 1) = n % 2 ^ k + 2 ^ k * (n.testBit k).toNat := by
  rw [Nat.mod_pow_succ, Nat.toNat_testBit]

/-- Of two numbers the bits of the lower one have the first dominant bit. -/
theorem bitsOf_split_of_mod {k m n : Nat} (hlt : m % 2 ^ k < n % 2 ^ k) :
    ∃ p x y, bitsOf k m = p ++ false :: x ∧ bitsOf k n = p ++ true :: y := by
  induction k with
  | zero => simp [Nat.mod_one] at hlt
  | succ k ih =>
    rw [mod_two_pow_succ_testBit, mod_two_pow_succ_testBit] at hlt
    have hm : m % 2 ^ k < 2 ^ k := Nat.mod_lt _ (Nat.two_pow_pos k)
    have hn : n % 2 ^ k < 2 ^ k := Nat.mod_lt _ (Nat.two_pow_pos k)
    unfold bitsOf
    cases hbm : m.testBit k <;> cases hbn : n.testBit k <;> simp only [hbm, hbn, Bool.toNat_false, Bool.toNat_true,
      Nat.mul_zero, Nat.mul_one, Nat.add_zero] at hlt
    · obtain ⟨p, x, y, hx, hy⟩ := ih hlt
      exact ⟨false :: p, x, y, by simp [hx], by simp [hy]⟩
    · exact ⟨[], _, _, rfl, rfl⟩
    · omega
    · obtain ⟨p, x, y, hx, hy⟩ := ih (by omega)
      exact ⟨true :: p, x, y, by simp [hx], by simp [hy]⟩

theorem bitsOf_split {k m n : Nat} (hlt : m < n) (hn : n < 2 ^ k) :
    ∃ p x y, bitsOf k m = p ++ false :: x ∧ bitsOf k n = p ++ true :: y :=
  bitsOf_split_of_mod (by rwa [Nat.mod_eq_of_lt hn, Nat.mod_eq_of_lt (hlt.trans hn)])

/-- The frame field bits of which begin with the lower number wins the line (R110). -/
theorem winsLine_of_lt {k m n : Nat} (pre x y : List Bool) (hlt : m < n) (hn : n < 2 ^ k) :
    winsLine (lineBits (pre ++ bitsOf k m ++ x)) (lineBits (pre ++ bitsOf k n ++ y)) = true := by
  obtain ⟨p, u, v, hu, hv⟩ := bitsOf_split hlt hn
  rw [hu, hv]
  simpa using winsLine_lineBits (pre ++ p) (u ++ x) (v ++ y)

/-- Stuffing and the check lose nothing (R112, R193). -/
theorem fieldsOf_lineBits (fields : List Bool) : fieldsOf (lineBits fields) = some fields := by
  have hline : lineBits fields
      = false :: (stuff 1 (fields ++ bitsOf 8 (crcBits fields).toNat) ++ [true]) := rfl
  rw [hline]
  unfold fieldsOf
  simp [unstuff_stuff, bitsOf_length]

/-- Settles O60. -/
theorem lineFramesReadBackAndTheDominantOneWins : Obligations.LineFramesReadBackAndTheDominantOneWins := by
  refine ⟨fieldsOf_lineBits, fun p x y => ?_, fun a b x y hlt => ?_, fun a b x y hlt => ?_⟩
  · obtain ⟨q, u, v, hu, hv⟩ := lineBits_split p x y
    refine ⟨winsLine_lineBits p x y, ?_, onLine_self _, lostAt_self _⟩
    rw [hu, hv]
    exact (onLine_dominant q u v).2
  · exact winsLine_of_lt [] x y hlt b.isLt
  · exact winsLine_of_lt (bitsOf 4 15 ++ bitsOf 4 8) x y hlt b.isLt

end Sys2Proof.Machine
end

section
namespace Sys2Proof.Machine

/-! ## Numbers in settings and replies (4.4, 12.8) -/

theorem clampNat_eq {lo hi : Nat} (h : lo ≤ hi) (n : Nat) : clampNat lo hi n = max lo (min hi n) := by
  unfold clampNat
  repeat' split
  all_goals omega

theorem clampByte_eq {lo hi : Nat} (h : lo ≤ hi) (b : Byte) : clampByte lo hi b = max lo (min hi b.toNat) :=
  clampNat_eq h _

theorem clampHalf_eq {lo hi : Nat} (h : lo ≤ hi) (b : Half) :
    clampHalf lo hi b = (max (lo : Int) (min (hi : Int) b.toInt)).toNat := by
  have hclamp : clampHalf lo hi b = max lo (min hi b.toInt.toNat) := clampNat_eq h _
  rw [hclamp]
  omega

theorem clampHalf_le {lo hi : Nat} (h : lo ≤ hi) (b : Half) : clampHalf lo hi b ≤ hi := (clampNat_mem h _).2

/-- A natural quantity that does not saturate (4.3). -/
theorem q16_of_le {n : Nat} (h : n ≤ 32767) : q16 n = u16 n := by
  have hreport : (report (some (Int.ofNat n))).toNat = n := by
    have hint : Int.ofNat n = (n : Int) := rfl
    simp only [report, hint]
    rw [if_neg (by omega), if_neg (by omega), BitVec.ofInt_natCast, BitVec.toNat_ofNat]
    omega
  unfold q16 half
  rw [hreport]

theorem half_reportNat (v : Option Nat) : half (reportNat v) = i16 (v.map Int.ofNat) := rfl

/-! ## Readings (R23, R40, R58, R108, R140, R163, R181) -/

theorem packReadPayload_eq (p : Pack) : packReadPayload p = (packReadFields p).flatten := by
  have hcell (k : Nat) : cellField ((p.record.map (·.cells)).getD []) k
      = i16 (p.record.bind fun r => (r.cells[k]?).map Int.ofNat) := by
    unfold cellField
    rw [half_reportNat]
    cases p.record <;> simp
  have hcells : [0, 1, 2, 3, 4, 5, 6].flatMap (cellField ((p.record.map (·.cells)).getD []))
      = ((List.range 7).map fun k => i16 (p.record.bind fun r => (r.cells[k]?).map Int.ofNat)).flatten := by
    rw [← List.flatMap_def]
    exact List.flatMap_congr fun k _ => hcell k
  unfold packReadPayload packReadFields
  simp only [half_reportNat, hcells, Option.map_map, place_power, List.flatten_append,
    List.flatten_cons, List.flatten_nil, List.append_assoc, List.append_nil]
  rfl

theorem slotFields_eq (sl : Slot) : slotFields sl = (slotLayout sl).flatten := by
  simp [slotFields, slotLayout, place_slotState]

theorem toolSlotFields_eq (sl : Slot) : toolSlotFields sl = (toolSlotLayout sl).flatten := by
  simp [toolSlotFields, toolSlotLayout, slotFields_eq, addresses]

theorem allotReadPayload_eq (s : State) : allotReadPayload s = (allotReadFields s).flatten := by
  simp [allotReadPayload, allotReadFields, slotFields_eq, toolSlotFields_eq, place_releaseCause, place_tpwr, Arb.budget,
    Arb.setAside, Arb.freeAmount, Arb.grants, Arb.committed, Slot.committed]

theorem motorReadPayload_eq (d : Drive) : motorReadPayload d = (motorReadFields d).flatten := by
  have htrip : tripFields = fun t : Trip => placeOf tripOrder t.cause ++ u32 t.time.toNat ++ placeOf motorOrder t.state := by
    funext t
    simp [tripFields, place_tripCause, place_motorState]
  unfold motorReadPayload motorReadFields
  simp only [htrip, place_motorState, place_startRefusal, place_stopCause,
    place_tripCause, triggerCode, half_reportNat, List.flatten_cons, List.flatten_nil, List.append_assoc,
    List.append_nil]

theorem dirtReadPayload_eq (d : Dirt) : dirtReadPayload d = (dirtReadFields d).flatten := by
  unfold dirtReadPayload dirtReadFields binPct dirtSettings
  simp only [place_sensorStatus, half_reportNat, List.flatten_cons, List.flatten_nil, List.append_assoc, List.append_nil]

theorem nodeFields_eq (s : State) (n : Node) : nodeFields s n = (nodeLayout s n).flatten := by
  have hmember : brushMembership s.arb n.addr
      = if n.addr ∈ s.arb.head.members then 0 else if n.addr ∈ s.arb.aux.members then 1 else 2 := by
    simp [brushMembership]
  have hcode : n.applied.code = match n.applied with
      | .slot i => i.val
      | .default _ => 8
      | .none => 9 := by cases n.applied <;> rfl
  have hcap : capFields = fun c : Cap => q16 (c.body.limit * 50) ++ u8 c.body.brush ++ flag c.body.lamp ++ [c.seq] := rfl
  have hdescs : listOf (fun b : Byte => [b]) n.descs = u8 n.descs.length ++ n.descs := by simp [listOf]
  have hkind : (defaultRecord n.serial n.descs).kind = derivedKind n.descs := rfl
  unfold nodeFields nodeLayout
  simp only [hmember, hcode, hcap, hdescs, hkind, half_reportNat, place_nodeState, place_floorClass, place_toolKind,
    present_is_optional, List.contains_eq_mem, List.flatten_cons, List.flatten_nil, List.append_assoc, List.append_nil]
    <;> rfl

theorem toolListPayload_eq (s : State) : toolListPayload s = (toolListFields s).flatten := by
  have hnozzle : optAddr s.tools.nozzle = u8 ((s.tools.nozzle.map (·.toNat)).getD 0) := by
    cases s.tools.nozzle <;> rfl
  have hnodes : listOf (nodeFields s) s.line.nodes
      = u8 s.line.nodes.length ++ (s.line.nodes.flatMap (nodeLayout s)).flatten := by
    rw [flatMap_flatten]
    exact congrArg (u8 _ ++ ·) (List.flatMap_congr fun n _ => nodeFields_eq s n)
  have hquarantine : listOf (fun q : Quarantined => u8 q.addr.toNat) s.line.quarantine
      = addresses (s.line.quarantine.map (·.addr)) := by
    simp [addresses, listOf, List.flatMap_map]
  simp only [toolListPayload, toolListFields, hnozzle, hnodes, hquarantine, place_tpwr, place_floorClass, curveFields,
    List.flatten_append, List.flatten_cons, List.flatten_nil, List.append_assoc, List.append_nil]

theorem tempLimit_eq (s : State) : tempLimit s = match packTmax s with
    | some x => if x < 0 ∨ 45 < x then 0 else if x ≤ 9 then iMaxInUse s / 2 else iMaxInUse s
    | none => 0 := by
  unfold tempLimit
  cases packTmax s with
  | none => rfl
  | some x =>
    simp only [band]
    by_cases hout : x < 0 ∨ 45 < x
    · simp [hout]
    · by_cases hlow : x ≤ 9 <;> simp [hout, hlow]

theorem chargeReadPayload_eq (s : State) : chargeReadPayload s = (chargeReadFields s).flatten := by
  have hcause : optional u8 (stateCause s.dock) = if s.dock.state = .paused then
      present (placeOf [PauseCause.temp, .watch, .offerChange, .noOffer]) (some s.dock.pause)
        else if s.dock.state = .fault then faultField s.dock.lastFault else [0] := by
    rw [faultField_is_optional, present_is_optional]
    unfold stateCause
    cases s.dock.state <;> simp [optional, place_pauseCause]
  have hterm : iTermInUse s = if s.dock.iTerm = 0 then max 50 (min 1000 (s.pack.capacity / 20)) else s.dock.iTerm := by
    unfold iTermInUse
    rw [clampNat_eq (by decide)]
  simp only [chargeReadPayload, chargeReadFields, hcause, hterm, tempLimit_eq, iMaxInUse, place_chargeState,
    faultField_is_optional, place_chargePhase, present_is_optional, half_reportNat, listOf, List.flatten_cons,
    List.flatten_nil, List.append_assoc, List.append_nil]
    <;> rfl

theorem dockReadPayload_eq (d : Dock) : dockReadPayload d = (dockReadFields d).flatten := by
  have hkind : DockReq.kind = fun r : DockReq => match r with
      | .hello => 1
      | .chargeReq _ _ => 2
      | .evacReq _ => 3
      | .halt => 4 := by funext r; cases r <;> rfl
  have hphase (e : Exchange) : e.phase.code = if e.phase = .first then 0 else 1 := by cases e.phase <;> rfl
  have hexch : exchangeFields = fun e : Exchange => u8 e.req.kind ++ u8 e.attempts
      ++ u8 (if e.phase = .first then 0 else 1) ++ u8 e.waits ++ q16 (e.deadline.getD 0) := by
    funext e
    simp only [exchangeFields, hphase]
  have hevac : (d.dueEvac.map fun _ => 3).toList = if d.dueEvac.isSome then [3] else [] := by
    cases d.dueEvac <;> rfl
  have hidentity : identityFields = fun i : DockIdentity => placeOf [DockKind.basic, .evac] i.kind ++ flag i.support
      ++ u8 i.count := by
    funext i
    simp only [identityFields, place_dockKind]
  simp only [dockReadPayload, dockReadFields, place_attach, place_coarseClass, present_is_optional, hexch, hidentity,
    dueKinds, hevac, hkind, debounceElapsed, List.flatten_cons, List.flatten_nil, List.append_assoc, List.append_nil]
  rfl

/-- The records of the Watch Unit with their places. -/
theorem recs_zipIdx (v : Vector (Option WatchRec) 8) :
    v.toList.zipIdx 0 = (List.finRange 8).map fun k => (v[k], k.val) := by
  refine List.ext_getElem (by simp) fun n h h' => ?_
  simp

theorem watchReadPayload_eq (i : Fin 8) (w : WatchUnit) : watchReadPayload i w = (watchReadFields i w).flatten := by
  have hfired : firedFields 0 w.recs.toList = (List.finRange 8).filterMap (fun k => (w.recs[k]).bind (fun r =>
      if r.state = .fired then some (u8 k.val ++ u8 (actionNumber r.action)) else none)) := by
    rw [firedFields_eq, recs_zipIdx, List.filterMap_map]
    rfl
  have hwatch : watchFields = watchLayout := funext watchFields_is_layout
  simp only [watchReadPayload, watchReadFields, hfired, hwatch, present_is_optional, listOf, List.flatten_append,
    List.flatten_cons, List.flatten_nil, List.append_assoc, List.append_nil, List.flatMap_id]

/-- What a request answers in ACTIVE, its block's answer given. -/
theorem ask_of_answer {f : State → Answer} {s : State} {a : Answer} (kind tag : Byte) (hs : s.serves) (hf : f s = a) :
    ask kind tag f s = .next (conclude (replied kind tag a.status a.payload a.state)) := by
  rw [ask_of_serves kind tag f s hs, hf]

theorem serveProfileRead_of_lt {i : Byte} (h : i.toNat < 16) (s : State) :
    serveProfileRead i s = accept s (profileReadPayload ⟨i.toNat, h⟩ s) := by
  simp only [serveProfileRead, index?_of_lt h]

theorem serveProfileRead_of_le {i : Byte} (h : 16 ≤ i.toNat) (s : State) :
    serveProfileRead i s = refuse .badArg s := by
  simp only [serveProfileRead, index?_of_le h]

theorem serveToolRead_of_lt {i : Byte} (h : i.toNat < 8) (s : State) :
    serveToolRead i s = accept s (toolReadPayload ⟨i.toNat, h⟩ s) := by
  simp only [serveToolRead, index?_of_lt h]

theorem serveToolRead_of_le {i : Byte} (h : 8 ≤ i.toNat) (s : State) : serveToolRead i s = refuse .badArg s := by
  simp only [serveToolRead, index?_of_le h]

theorem serveWatchRead_of_lt {i : Byte} (h : i.toNat < 8) (s : State) :
    serveWatchRead i s = accept s (watchReadPayload ⟨i.toNat, h⟩ s.watch) := by
  simp only [serveWatchRead, index?_of_lt h]

theorem serveWatchRead_of_le {i : Byte} (h : 8 ≤ i.toNat) (s : State) : serveWatchRead i s = refuse .badArg s := by
  simp only [serveWatchRead, index?_of_le h]

/-- Settles O43: a reading's block answers with the state as it is, and its payload is its fields in their order. -/
theorem readingChangesNothing : Obligations.ReadingChangesNothing := by
  refine ⟨fun tag i s hs => ?_, fun i s => ⟨packReadPayload_eq _, allotReadPayload_eq _, motorReadPayload_eq _,
    dirtReadPayload_eq _, toolListPayload_eq _, chargeReadPayload_eq _, dockReadPayload_eq _, watchReadPayload_eq _ _⟩⟩
  exact ⟨ask_of_serves _ _ serveIdent s hs, ask_of_serves _ _ servePackRead s hs, ask_of_serves _ _ serveAllotRead s hs,
    ask_of_serves _ _ serveMotorRead s hs, ask_of_serves _ _ (serveBlockConfig none) s hs,
    ask_of_serves _ _ (serveDirtConfig none) s hs, ask_of_serves _ _ serveDirtRead s hs,
    ask_of_serves _ _ serveToolMissRead s hs, ask_of_serves _ _ serveToolList s hs,
    ask_of_serves _ _ (serveChargeConfig none) s hs, ask_of_serves _ _ serveChargeRead s hs,
    ask_of_serves _ _ serveDockRead s hs, ask_of_serves _ _ (serveEvacConfig none) s hs,
    fun h => ask_of_answer _ _ hs (serveProfileRead_of_lt h s), fun h => ask_of_answer _ _ hs (serveProfileRead_of_le h s),
    fun h => ⟨ask_of_answer _ _ hs (serveToolRead_of_lt h s), ask_of_answer _ _ hs (serveWatchRead_of_lt h s)⟩,
    fun h => ⟨ask_of_answer _ _ hs (serveToolRead_of_le h s), ask_of_answer _ _ hs (serveWatchRead_of_le h s)⟩⟩

end Sys2Proof.Machine
end

section
namespace Sys2Proof.Machine

/-! ## Settings of the pack, the reserve and the profiles (R21, R22, R24, R39, R63) -/

theorem increasing_iff (l : List Nat) : increasing l = true ↔ l.Pairwise (· < ·) := by
  induction l with
  | nil => simp [increasing]
  | cons a l ih =>
    cases l with
    | nil => simp [increasing]
    | cons b l =>
      simp only [increasing, Bool.and_eq_true, decide_eq_true_eq, ih, List.pairwise_cons, List.mem_cons]
      constructor
      · rintro ⟨hab, hb, hl⟩
        exact ⟨by rintro c (rfl | hc); exacts [hab, hab.trans (hb c hc)], hb, hl⟩
      · rintro ⟨ha, hb, hl⟩
        exact ⟨ha b (.inl rfl), hb, hl⟩

/-- The whole charge is a whole number of permilles, so that a set gauge reads back (R9, R24). -/
theorem permille_of_charge {v c : Nat} (hc : 0 < c) : v * (c * 360000) / 1000 * 1000 / (c * 360000) = v := by
  have hexact : v * (c * 360000) / 1000 = v * (c * 360) := by
    rw [show v * (c * 360000) = v * (c * 360) * 1000 by ring]
    exact Nat.mul_div_cancel _ (by decide)
  rw [hexact, show v * (c * 360) * 1000 = v * (c * 360000) by ring]
  exact Nat.mul_div_cancel _ (by positivity)

/-- GAUGE_SET (R24). -/
theorem exec_gaugeSet (tag : Byte) (soc : Half) {s : State} (hs : s.serves) (hcap : 0 < s.pack.capacity) :
    let v := (max 0 (min 1000 soc.toInt)).toNat
    ∃ t, exec (.gaugeSet tag soc) s = .next t
      ∧ t.pack = { s.pack with gauge := v * (s.pack.capacity * 360000) / 1000, clip := false }
      ∧ stateOfCharge t.pack = v ∧ t.pack.rest = s.pack.rest
      ∧ (s.quiet → t = replied 0x13 tag .ok (u16 v) { s with pack := t.pack }) := by
  intro v
  have hv : clampHalf 0 1000 soc = v := clampHalf_eq (by decide) soc
  have hle : v ≤ 1000 := hv ▸ clampHalf_le (by decide) soc
  let p : Pack := { s.pack with gauge := v * fullCharge s.pack / 1000, clip := false }
  have hexec : exec (.gaugeSet tag soc) s = .next (conclude (replied 0x13 tag .ok (u16 v) { s with pack := p })) := by
    refine ask_of_answer (a := accept { s with pack := p } (u16 v)) _ _ hs ?_
    unfold serveGaugeSet
    dsimp only
    rw [hv, q16_of_le (by omega)]
  have hpack : (conclude (replied 0x13 tag .ok (u16 v) { s with pack := p })).pack = p := conclude_pack _
  refine ⟨_, hexec, hpack, ?_, ?_, fun hq => ?_⟩
  · rw [hpack]
    exact permille_of_charge hcap
  · rw [hpack]
  · rw [hpack]
    exact conclude_of_quiet _ hq

theorem countLocked_iff (s : State) :
    countLocked s = true ↔ s.drive.state.atRest = false ∨ s.dock.state.charges = true := by
  simp [countLocked]

/-- PACK_CONFIG (R21). -/
theorem servePackConfig_refused {count : Byte} (capacity inom : Half) {s : State}
    (hn : max 5 (min 7 count.toNat) ≠ s.pack.count) (hlocked : countLocked s = true) :
    servePackConfig count capacity inom s = refuse .refusedState s := by
  unfold servePackConfig
  rw [clampByte_eq (by decide), if_pos ⟨hn, hlocked⟩]

theorem servePackConfig_stored {count : Byte} (capacity inom : Half) {s : State}
    (h : max 5 (min 7 count.toNat) = s.pack.count ∨ countLocked s = false) :
    servePackConfig count capacity inom s =
      accept (storePack (max 5 (min 7 count.toNat)) (max 1000 (min 8000 capacity.toInt)).toNat
        (max 10000 (min 32000 inom.toInt)).toNat s) (u8 (max 5 (min 7 count.toNat))
          ++ u16 (max 1000 (min 8000 capacity.toInt)).toNat ++ u16 (max 10000 (min 32000 inom.toInt)).toNat) := by
  have hc := clampHalf_eq (lo := 1000) (hi := 8000) (by decide) capacity
  have hi := clampHalf_eq (lo := 10000) (hi := 32000) (by decide) inom
  have hcle := clampHalf_le (lo := 1000) (hi := 8000) (by decide) capacity
  have hile := clampHalf_le (lo := 10000) (hi := 32000) (by decide) inom
  unfold servePackConfig
  dsimp only
  rw [clampByte_eq (by decide), q16_of_le (by omega), q16_of_le (by omega), hc, hi, if_neg]
  · rfl
  · rintro ⟨hn, hlocked⟩
    rcases h with h | h
    · exact hn h
    · rw [h] at hlocked; cases hlocked

theorem storePack_eq (n c i : Nat) (s : State) : storePack n c i s = { s with
    pack := { s.pack with
      count := n, capacity := c, inom := i
      reseed := s.pack.reseed || decide (n ≠ s.pack.count)
      gauge := if c = s.pack.capacity then s.pack.gauge
        else s.pack.gauge * (c * 360000) / (s.pack.capacity * 360000) }
    host := { s.host with configured := true } } := by
  have hcount : (n != s.pack.count) = decide (n ≠ s.pack.count) := by
    by_cases h : n = s.pack.count <;> simp [h]
  unfold storePack fullCharge
  dsimp only
  rw [hcount]

/-- The reserve's numbers as they stand. -/
theorem reserve_same {a : Arb} {v : Nat} (hrequest : a.reserve.request = v) (hfloor : a.reserve.floor = v) :
    { a with reserve := { a.reserve with request := v, floor := v } } = a := by
  obtain ⟨reserve, _⟩ := a
  cases reserve
  simp_all

/-- OCV_TABLE (R22). -/
theorem serveOcvTable_eq (points : List Half) (hlen : points.length = 11) (s : State) :
    let l := points.map (fun p => (max 2500 (min 4500 p.toInt)).toNat)
    (l.Pairwise (· < ·) → serveOcvTable points s = accept { s with pack := { s.pack with ocv := l } } (l.flatMap u16))
    ∧ (¬ l.Pairwise (· < ·) → serveOcvTable points s = refuse .badArg s) := by
  intro l
  have htable : points.map (clampHalf 2500 4500) = l :=
    List.map_congr_left fun p _ => clampHalf_eq (by decide) p
  have hsmall : l.flatMap q16 = l.flatMap u16 := by
    refine List.flatMap_congr fun n hn => q16_of_le ?_
    obtain ⟨p, -, rfl⟩ := List.mem_map.mp hn
    omega
  have hl : l.length = 11 := by simpa [l] using hlen
  unfold serveOcvTable
  dsimp only
  rw [htable, hsmall]
  constructor <;> intro h
  · rw [if_pos ⟨hl, (increasing_iff l).mpr h⟩]
  · rw [if_neg fun h' => h ((increasing_iff l).mp h'.2)]

/-- RESERVE_SET (R39). -/
theorem serveReserveSet_eq (ma : Half) (s : State) :
    let v := (max 100 (min 1000 ma.toInt)).toNat
    let arb := { s.arb with reserve := { s.arb.reserve with request := v, floor := v } }
    serveReserveSet ma s = accept (if arb = s.arb then s else askRecompute { s with arb := arb }) (u16 v) := by
  intro v arb
  have hv : clampHalf 100 1000 ma = v := clampHalf_eq (by decide) ma
  have hle : v ≤ 1000 := hv ▸ clampHalf_le (by decide) ma
  unfold serveReserveSet
  dsimp only
  rw [hv, q16_of_le (by omega)]

/-- Settles O44. -/
theorem thePackAndTheReserveAreSet : Obligations.ThePackAndTheReserveAreSet := by
  refine ⟨fun tag soc s hs hcap => exec_gaugeSet tag soc hs hcap, fun tag s hs => ⟨fun count capacity inom => ⟨?_, ?_⟩,
    fun points hlen => ⟨?_, ?_⟩⟩, fun tag ma s hs => ⟨?_, ?_⟩⟩
  · intro hn hlocked
    exact ask_of_answer _ _ hs (servePackConfig_refused capacity inom hn ((countLocked_iff s).mpr hlocked))
  · intro h
    rw [← storePack_eq]
    refine ask_of_answer _ _ hs (servePackConfig_stored capacity inom (h.imp_right fun ⟨hrest, hcharges⟩ => ?_))
    simp [countLocked, hrest, hcharges]
  · exact fun h => ask_of_answer _ _ hs ((serveOcvTable_eq points hlen s).1 h)
  · exact fun h => ask_of_answer _ _ hs ((serveOcvTable_eq points hlen s).2 h)
  · intro hrequest hfloor
    exact ask_of_answer _ _ hs ((serveReserveSet_eq ma s).trans
      (congrArg (accept · (u16 (max 100 (min 1000 ma.toInt)).toNat)) (if_pos (reserve_same hrequest hfloor))))
  · intro hrequest
    refine ask_of_answer _ _ hs ((serveReserveSet_eq ma s).trans (congrArg (accept · _) (if_neg fun h => hrequest ?_)))
    exact (congrArg (fun a : Arb => a.reserve.request) h).symm

end Sys2Proof.Machine
end

section
namespace Sys2Proof.Machine

/-! ## Profiles written, and the mode stack (R63, R66 to R68) -/

/-- With no hand-over waiting only the FENCE is looked at (R186). -/
theorem conclude_of_no_signals {s : State} (h : s.signals = []) : conclude s = finish s := by
  rw [conclude, settle_of_no_signals s h]

/-- An entry replaced (R63): the profiles, and the brush level handed on. -/
theorem storeProfile_writes (i : Fin 16) (p : Profile) (s : State) : ∃ l, storeProfile i p s
    = { s with gov := { s.gov with profiles := s.gov.profiles.set i p }, line := l } := by
  unfold storeProfile
  dsimp only
  split
  · obtain ⟨q, w, hw⟩ := handBrush_writes p.brush
      { s with gov := { s.gov with profiles := s.gov.profiles.set i p } }
    exact ⟨_, hw⟩
  · exact ⟨s.line, rfl⟩

theorem activeProfile_of_index {g : Gov} {i : Fin 16} (h : activeIndex g = i) : activeProfile g = g.profiles[i] := by
  subst h
  rfl

/-- A changed brush level of the active entry is handed to the tool line (R63, R66). -/
theorem storeProfile_brush {i : Fin 16} {p : Profile} {s : State} (hactive : activeIndex s.gov = i)
    (hbrush : p.brush ≠ s.gov.profiles[i].brush) : (storeProfile i p s).line.brush = p.brush := by
  have hold : (activeProfile s.gov).brush = s.gov.profiles[i].brush := congrArg Profile.brush (activeProfile_of_index hactive)
  have hindex : activeIndex { s.gov with profiles := s.gov.profiles.set i p } = i := hactive
  unfold storeProfile
  dsimp only
  rw [if_pos ⟨hindex, by rw [hold]; exact hbrush⟩]
  exact (brushHanded_handBrush p.brush _).1

theorem profiles_set_get (v : Vector Profile 16) (i j : Fin 16) (p : Profile) :
    (v.set i p)[j] = if i = j then p else v[j] := by
  by_cases h : i = j
  · subst h; simp
  · have : i.val ≠ j.val := fun he => h (Fin.ext he)
    simpa [h] using Vector.getElem_set_ne i.isLt j.isLt this

/-- The four answers of a PROFILE_WRITE (R63). -/
theorem serveProfileWrite_of_le {i : Byte} (f : ProfileFields) (h : 16 ≤ i.toNat) (s : State) :
    serveProfileWrite i f s = refuse .badArg s := by
  simp only [serveProfileWrite, index?_of_le h]

theorem serveProfileWrite_of_lt {i : Byte} (f : ProfileFields) (h : i.toNat < 16) (s : State) :
    serveProfileWrite i f s =
      if (!f.enabled || !f.selectable) && standsSelected s.gov.stack ⟨i.toNat, h⟩ then refuse .refusedState s
      else if s.gov.profiles[i.toNat].locked then refuse .locked s
      else accept (storeProfile ⟨i.toNat, h⟩ (writtenProfile f false) s) (profileFields (writtenProfile f false)) := by
  simp only [serveProfileWrite, index?_of_lt h]
  rfl

/-- The numbers of a written entry, clamped (R63). -/
theorem writtenProfile_numbers (f : ProfileFields) (locked : Bool) :
    (writtenProfile f locked).hard = (max 20 (min 600 f.hard.toInt)).toNat
      ∧ (writtenProfile f locked).carpet = (max 20 (min 600 f.carpet.toInt)).toNat
      ∧ ((writtenProfile f locked).floor : Int)
        = max 20 (min (((min (max 20 (min 600 f.hard.toInt)).toNat (max 20 (min 600 f.carpet.toInt)).toNat : Nat)) : Int)
            f.floor.toInt)
      ∧ (writtenProfile f locked).gain = min 4 f.gain.toNat ∧ (writtenProfile f locked).brush = min 3 f.brush.toNat
      ∧ (writtenProfile f locked).ramp = max 5 (min 100 f.ramp.toNat) := by
  have hhard := clampHalf_eq (lo := 20) (hi := 600) (by decide) f.hard
  have hcarpet := clampHalf_eq (lo := 20) (hi := 600) (by decide) f.carpet
  refine ⟨hhard, hcarpet, ?_, ?_, ?_, clampByte_eq (by decide) _⟩
  · unfold writtenProfile
    dsimp only
    rw [hhard, hcarpet, clampHalf_eq (by omega)]
    omega
  · exact (clampByte_eq (lo := 0) (hi := 4) (by decide) _).trans (by omega)
  · exact (clampByte_eq (lo := 0) (hi := 3) (by decide) _).trans (by omega)

theorem conclude_profiles (s : State) : (conclude s).gov.profiles = s.gov.profiles :=
  profiles_of_gov_lasting (by simp)

/-- What a stored entry leaves in its place, and in the others (R63). -/
theorem exec_profileWrite_stored (tag : Byte) {i : Byte} (f : ProfileFields) {s : State} (hs : s.serves)
    (h : i.toNat < 16) (hselected : ¬ ((!f.enabled || !f.selectable) && standsSelected s.gov.stack ⟨i.toNat, h⟩) = true)
    (hlocked : s.gov.profiles[i.toNat].locked = false) :
    ∃ t, exec (.profileWrite tag i f) s = .next t ∧ t.gov.profiles[i.toNat] = writtenProfile f false
      ∧ (∀ j : Fin 16, j.val ≠ i.toNat → t.gov.profiles[j] = s.gov.profiles[j])
      ∧ t.pack = s.pack ∧ t.tools = s.tools
      ∧ (s.signals = [] → t.gov.stack = s.gov.stack ∧ t.arb = s.arb
        ∧ ((writtenProfile f false).brush ≠ s.gov.profiles[i.toNat].brush → (activeIndex s.gov).val = i.toNat →
            t.line.brush = (writtenProfile f false).brush)) := by
  have hserve := serveProfileWrite_of_lt f h s
  rw [if_neg hselected, if_neg (by simp [hlocked])] at hserve
  obtain ⟨l, hstored⟩ := storeProfile_writes ⟨i.toNat, h⟩ (writtenProfile f false) s
  refine ⟨_, ask_of_answer _ _ hs hserve, ?_, fun j hj => ?_, ?_, ?_, fun hsig => ?_⟩
  · rw [conclude_profiles, hstored]
    exact (profiles_set_get s.gov.profiles ⟨i.toNat, h⟩ ⟨i.toNat, h⟩ _).trans (if_pos rfl)
  · rw [conclude_profiles, hstored]
    exact (profiles_set_get s.gov.profiles ⟨i.toNat, h⟩ j _).trans (if_neg fun he => hj (congrArg Fin.val he).symm)
  · simp [accept, hstored]
  · simp [accept, hstored]
  · have hnone : (replied 0x20 tag .ok (profileFields (writtenProfile f false))
        (storeProfile ⟨i.toNat, h⟩ (writtenProfile f false) s)).signals = [] := by simpa [hstored] using hsig
    change (conclude (replied 0x20 tag .ok (profileFields (writtenProfile f false))
      (storeProfile ⟨i.toNat, h⟩ (writtenProfile f false) s))).gov.stack = _ ∧ _
    rw [accept, conclude_of_no_signals hnone]
    refine ⟨by simp [hstored], by simp [hstored], fun hbrush hactive => ?_⟩
    have hline := storeProfile_brush (i := ⟨i.toNat, h⟩) (Fin.ext hactive) hbrush
    simpa using hline

/-- Settles O46: the refusals in their order, then the stored entry. -/
theorem aProfileIsWritten : Obligations.AProfileIsWritten := by
  intro tag i f s hs
  refine ⟨fun h => ask_of_answer _ _ hs (serveProfileWrite_of_le f h s), fun h => ?_⟩
  have hserve := serveProfileWrite_of_lt f h s
  have hrefused : ((!f.enabled || !f.selectable) && standsSelected s.gov.stack ⟨i.toNat, h⟩) = true
      ↔ (f.enabled = false ∨ f.selectable = false)
        ∧ s.gov.stack.any (fun e => e.profile == ⟨i.toNat, h⟩ && e.origin != .clear) = true := by
    simp only [Bool.and_eq_true, Bool.or_eq_true, Bool.not_eq_true', standsSelected]
  refine ⟨fun hr => ?_, fun hr hlocked => ?_, fun hr hlocked => ?_⟩
  · rw [if_pos (hrefused.mpr hr)] at hserve
    exact ask_of_answer _ _ hs hserve
  · rw [if_neg fun h' => hr (hrefused.mp h'), if_pos hlocked] at hserve
    exact ask_of_answer _ _ hs hserve
  · obtain ⟨t, hexec, hwritten, hothers, hpack, htools, hquiet⟩ :=
      exec_profileWrite_stored tag f hs h (fun h' => hr (hrefused.mp h')) hlocked
    obtain ⟨hhard, hcarpet, hfloor, hgain, hbrush, hramp⟩ := writtenProfile_numbers f false
    exact ⟨t, _, hexec, hwritten, rfl, rfl, rfl, hhard, hcarpet, hfloor, hgain, hbrush, hramp, rfl, hothers, hpack,
      htools, hquiet⟩

/-! ### MODE_SET and MODE_PUSH -/

theorem activeIndex_setBase {g : Gov} {b : StackEntry} {rest : List StackEntry} (hst : g.stack = b :: rest)
    (p : Fin 16) : activeIndex { g with stack := { b with profile := p } :: rest }
      = if rest = [] then p else activeIndex g := by
  rcases List.eq_nil_or_concat rest with rfl | ⟨l, e, rfl⟩
  · simp [activeIndex]
  · simp [activeIndex, hst, List.getLast?_cons]

/-- MODE_SET of a profile that the host may select (R67). -/
theorem modeSet_of_selects (tag : Byte) {i : Byte} {s : State} (hs : s.serves) (hq : s.quiet) (h : i.toNat < 16)
    {b : StackEntry} {rest : List StackEntry} (hsel : selects s.gov ⟨i.toNat, h⟩ = true)
    (hst : s.gov.stack = b :: rest) : ∃ t, exec (.modeSet tag i) s = .next t
      ∧ t.gov = { s.gov with stack := { b with profile := ⟨i.toNat, h⟩ } :: rest }
      ∧ t.host = (replied 0x23 tag .ok (stackPayload t.gov.stack) s).host ∧ t.drive = s.drive
      ∧ (rest ≠ [] ∨ b.profile = ⟨i.toNat, h⟩ → t.line = s.line)
      ∧ (rest = [] → b.profile ≠ ⟨i.toNat, h⟩ → brushHanded s.gov.profiles[i.toNat].brush s t) := by
  have hbase : setBase ⟨i.toNat, h⟩ s.gov.stack = { b with profile := ⟨i.toNat, h⟩ } :: rest := by rw [hst]; rfl
  have hexec := exec_modeSet_of_selects tag i hs hq h hsel
  rw [hbase] at hexec
  obtain ⟨l, hl⟩ := setStack_writes ({ b with profile := ⟨i.toNat, h⟩ } :: rest) s
  have hactive := activeIndex_setBase hst (p := ⟨i.toNat, h⟩)
  refine ⟨_, hexec, by simp, ?_, by simp [hl], fun hsame => ?_, fun hrest hne => ?_⟩
  · simp only [replied_gov, setStack_gov]
    simp only [replied, setStack_host]
  · refine setStack_line_of_same_active (hactive.trans ?_)
    rcases hsame with hrest | hb
    · rw [if_neg hrest]
    · split
      · rename_i hrest
        simp [activeIndex, hst, hrest, hb]
      · rfl
  · have hdiff : activeIndex { s.gov with stack := { b with profile := ⟨i.toNat, h⟩ } :: rest } ≠ activeIndex s.gov := by
      rw [hactive, if_pos hrest]
      simpa [activeIndex, hst, hrest] using hne.symm
    have hhanded := setStack_brushHanded hdiff
    have hprofile : activeProfile { s.gov with stack := { b with profile := ⟨i.toNat, h⟩ } :: rest }
        = s.gov.profiles[i.toNat] := activeProfile_of_index (hactive.trans (if_pos hrest))
    rw [hprofile] at hhanded
    exact hhanded

/-- MODE_PUSH of a profile that the host may select (R68). -/
theorem modePush_of_selects (tag : Byte) {i : Byte} {s : State} (hs : s.serves) (hq : s.quiet) (h : i.toNat < 16)
    (hsel : selects s.gov ⟨i.toNat, h⟩ = true) (htop : topOrigin s.gov ≠ some .clear)
    (hroom : s.gov.stack.length < 4) : ∃ t, exec (.modePush tag i) s = .next t
      ∧ t.gov = { s.gov with stack := s.gov.stack ++ [⟨⟨i.toNat, h⟩, .host⟩] }
      ∧ t.host = (replied 0x24 tag .ok (stackPayload t.gov.stack) s).host
      ∧ t.drive = s.drive
      ∧ ((activeIndex s.gov).val = i.toNat → t.line = s.line)
      ∧ ((activeIndex s.gov).val ≠ i.toNat → brushHanded s.gov.profiles[i.toNat].brush s t) := by
  obtain ⟨l, hl⟩ := setStack_writes (s.gov.stack ++ [⟨⟨i.toNat, h⟩, .host⟩]) s
  have hactive : activeIndex { s.gov with stack := s.gov.stack ++ [⟨⟨i.toNat, h⟩, .host⟩] } = ⟨i.toNat, h⟩ :=
    activeIndex_of_append (l := s.gov.stack) (e := ⟨⟨i.toNat, h⟩, .host⟩) rfl
  refine ⟨_, exec_modePush_of_selects tag i hs hq h hsel htop hroom, by simp, ?_, by simp [hl], fun hsame => ?_,
    fun hne => ?_⟩
  · simp only [replied_gov, setStack_gov]
    simp only [replied, setStack_host]
  · exact setStack_line_of_same_active (hactive.trans (Fin.ext hsame.symm))
  · have hhanded := setStack_brushHanded (s := s) (st := s.gov.stack ++ [⟨⟨i.toNat, h⟩, .host⟩])
      (by rw [hactive]; exact fun he => hne (congrArg Fin.val he).symm)
    have hprofile : activeProfile { s.gov with stack := s.gov.stack ++ [⟨⟨i.toNat, h⟩, .host⟩] }
        = s.gov.profiles[i.toNat] := activeProfile_of_index hactive
    rw [hprofile] at hhanded
    exact hhanded

/-- Settles O47: each answer of MODE_SET and of MODE_PUSH. -/
theorem theModeStackMoves : Obligations.TheModeStackMoves := by
  intro tag i s hs hq
  refine ⟨fun h => ask_refused 0x23 tag hs hq (by simp [serveModeSet, index?_of_le h]),
    fun h => ⟨fun hfree => ?_, fun b rest hfree hst => modeSet_of_selects tag hs hq h hfree hst⟩,
    fun htop => ask_refused 0x24 tag hs hq (by simp [serveModePush, htop]), fun htop => ⟨fun h => ?_, fun h =>
      ⟨fun hfree => ?_, fun hfree hfull => ?_, fun hfree hroom => modePush_of_selects tag hs hq h hfree htop hroom⟩⟩⟩
  · have hsel : selects s.gov ⟨i.toNat, h⟩ = false := hfree
    exact ask_refused 0x23 tag hs hq (by simp [serveModeSet, index?_of_lt h, hsel])
  · exact ask_refused 0x24 tag hs hq (by simp [serveModePush, htop, index?_of_le h])
  · have hsel : selects s.gov ⟨i.toNat, h⟩ = false := hfree
    exact ask_refused 0x24 tag hs hq (by simp [serveModePush, htop, index?_of_lt h, hsel])
  · have hsel : selects s.gov ⟨i.toNat, h⟩ = true := hfree
    exact ask_refused 0x24 tag hs hq (by simp [serveModePush, htop, index?_of_lt h, hsel, hfull])

end Sys2Proof.Machine
end

section
namespace Sys2Proof.Machine

/-! ## What an event raised on a condition leaves -/

@[simp] theorem raiseIf_signals (c : Bool) (e : Event) (s : State) : (raiseIf c e s).signals = s.signals := by
  unfold raiseIf; split <;> rfl
@[simp] theorem raiseIf_arb (c : Bool) (e : Event) (s : State) : (raiseIf c e s).arb = s.arb := by
  unfold raiseIf; split <;> rfl
@[simp] theorem raiseIf_gov (c : Bool) (e : Event) (s : State) : (raiseIf c e s).gov = s.gov := by
  unfold raiseIf; split <;> rfl
@[simp] theorem raiseIf_load (c : Bool) (e : Event) (s : State) : (raiseIf c e s).load = s.load := by
  unfold raiseIf; split <;> rfl
@[simp] theorem raiseIf_dirt (c : Bool) (e : Event) (s : State) : (raiseIf c e s).dirt = s.dirt := by
  unfold raiseIf; split <;> rfl
@[simp] theorem raiseIf_line (c : Bool) (e : Event) (s : State) : (raiseIf c e s).line = s.line := by
  unfold raiseIf; split <;> rfl
@[simp] theorem raiseIf_dock (c : Bool) (e : Event) (s : State) : (raiseIf c e s).dock = s.dock := by
  unfold raiseIf; split <;> rfl
@[simp] theorem raiseIf_free (c : Bool) (e : Event) (s : State) : (raiseIf c e s).free = s.free := by
  unfold raiseIf; split <;> rfl

theorem raiseIf_of_true {c : Bool} (e : Event) (s : State) (h : c = true) : raiseIf c e s = raise e s := by
  rw [raiseIf, if_pos h]

theorem raiseIf_of_false {c : Bool} (e : Event) (s : State) (h : c = false) : raiseIf c e s = s := by
  rw [raiseIf, if_neg (by simp [h])]

/-! ## Settings stored (R92, R107, R162, R171) and the bin emptied (R106) -/

/-- What the hand-overs of an event leave of the Dirt Monitor, field by field. -/
theorem conclude_dirt {α : Type} (f : Dirt → α) (hf : ∀ d : Dirt, f d.lasting = f d) (s : State) :
    f (conclude s).dirt = f s.dirt := by
  rw [← hf, conclude_dirt_lasting, hf]

theorem storeBlock_eq (p : Byte) (m : Half) (s : State) : let pct := max 105 (min 150 p.toNat)
    let ms := (max 200 (min 2000 m.toInt)).toNat / 10 * 10
    (serveBlockConfig (some (p, m)) s).state = if pct = s.load.blockPct ∧ ms = s.load.blockMs then
        { s with load := { s.load with blockPct := pct, blockMs := ms } }
      else { s with load := { s.load with blockPct := pct, blockMs := ms, rise := 0, block := 0, release := 0 } } := by
  intro pct ms
  have hpct : clampByte 105 150 p = pct := clampByte_eq (by decide) p
  have hms : floorTo 10 (clampHalf 200 2000 m) = ms := by rw [floorTo, clampHalf_eq (by decide)]; rfl
  change storeBlock (clampByte 105 150 p) (floorTo 10 (clampHalf 200 2000 m)) s = _
  rw [hpct, hms]
  rfl

/-- BLOCK_CONFIG with settings (R92, R91). -/
theorem exec_blockConfig (tag p : Byte) (m : Half) {s : State} (hs : s.serves) (hsig : s.signals = []) :
    ∃ t, exec (.blockConfig tag (some (p, m))) s = .next t
      ∧ t.load.blockPct = max 105 (min 150 p.toNat)
      ∧ t.load.blockMs = (max 200 (min 2000 m.toInt)).toNat / 10 * 10
      ∧ t.load.cls = s.load.cls ∧ t.load.phase = s.load.phase ∧ t.load.attempts = s.load.attempts
      ∧ (t.load.blockPct ≠ s.load.blockPct ∨ t.load.blockMs ≠ s.load.blockMs →
          t.load.rise = 0 ∧ t.load.block = 0 ∧ t.load.release = 0)
      ∧ t.drive = s.drive ∧ t.gov = s.gov := by
  have hexec := ask_of_serves 0x28 tag (serveBlockConfig (some (p, m))) s hs
  rw [storeBlock_eq] at hexec
  have hnone (l : LoadMon) (st : Status) (b : List Byte) :
      conclude (replied 0x28 tag st b { s with load := l }) = finish (replied 0x28 tag st b { s with load := l }) :=
    conclude_of_no_signals hsig
  refine ⟨_, hexec, ?_⟩
  split
  · rename_i h
    rw [hnone]
    simp [h.1, h.2]
  · rw [hnone]
    simp

/-- The settings of a DIRT_CONFIG as they are stored (R107). -/
theorem serveDirtConfig_some (f : DirtFields) (s : State) :
    let t1 := (max 1 (min 5000 f.t1.toInt)).toNat
    let t2 := (max 1 (min 5000 f.t2.toInt)).toNat
    let t3 := (max 1 (min 5000 f.t3.toInt)).toNat
    let d := storeDirt (max 100 (min 2000 f.large.toInt)).toNat t1 t2 t3 (max 1000 (min 1000000 f.capacity.toNat))
      (max 50 (min 100 f.fullPct.toNat)) s.dirt
    serveDirtConfig (some f) s = if t1 < t2 ∧ t2 < t3
      then accept (dirtStored d s) (dirtConfigPayload (dirtStored d s).dirt) else refuse .badArg s := by
  intro t1 t2 t3 d
  have h1 : clampHalf 1 5000 f.t1 = t1 := clampHalf_eq (by decide) f.t1
  have h2 : clampHalf 1 5000 f.t2 = t2 := clampHalf_eq (by decide) f.t2
  have h3 : clampHalf 1 5000 f.t3 = t3 := clampHalf_eq (by decide) f.t3
  have hlarge : clampHalf 100 2000 f.large = (max 100 (min 2000 f.large.toInt)).toNat := clampHalf_eq (by decide) _
  have hcap := clampNat_eq (lo := 1000) (hi := 1000000) (by decide) f.capacity.toNat
  have hpct := clampByte_eq (lo := 50) (hi := 100) (by decide) f.fullPct
  unfold serveDirtConfig
  dsimp only
  rw [h1, h2, h3, hlarge, hcap, hpct]

theorem dirtStored_dirt (d : Dirt) (s : State) : (dirtStored d s).dirt =
    if d.capacity ≠ s.dirt.capacity ∨ d.fullPct ≠ s.dirt.fullPct
      then { d with full := decide (d.fullPct ≤ binPct d) } else d := by
  unfold dirtStored evalFull deliverBin
  dsimp only
  by_cases hm : d.capacity ≠ s.dirt.capacity ∨ d.fullPct ≠ s.dirt.fullPct <;> by_cases hp : binPct d = binPct s.dirt
    <;> simp [hm, hp]

theorem dirtStored_signals (d : Dirt) {s : State} (hsig : s.signals = []) : (dirtStored d s).signals =
    if binPct d = binPct s.dirt then [] else [.update .binPct (reportNat (some (binPct d)))] := by
  have hreport (u : State) (hu : binPct u.dirt = binPct d) (h : u.signals = []) :
      (deliverBin u).signals = [.update .binPct (reportNat (some (binPct d)))] := by
    simp [deliverBin, deliver, emit, h, hu, reportNat]
  unfold dirtStored
  dsimp only
  split
  · split
    · simpa [evalFull] using hsig
    · exact hsig
  · split
    · exact hreport _ (by simp [evalFull, binPct]) (by simpa [evalFull] using hsig)
    · exact hreport _ rfl hsig

/-- BIN_FULL comes with the full flag (R104). -/
theorem evalFull_event {s : State} (hfull : (evalFull s).dirt.full = true) (hbefore : s.dirt.full = false) :
    hasEvent .binFull (evalFull s) = true := by
  have hnow : decide (s.dirt.fullPct ≤ binPct s.dirt) = true := by simpa [evalFull] using hfull
  have hraised : evalFull s = raise .binFull { s with dirt := { s.dirt with full := true } } := by
    unfold evalFull
    rw [hnow]
    exact raiseIf_of_true _ _ (by simp [hbefore])
  rw [hraised, hasEvent_raise]

theorem dirtStored_event {d : Dirt} {s : State} (hd : d.full = s.dirt.full) (hfull : (dirtStored d s).dirt.full = true)
    (hbefore : s.dirt.full = false) : hasEvent .binFull (dirtStored d s) = true := by
  rw [dirtStored_dirt] at hfull
  split at hfull
  · rename_i hmoved
    have hevent : hasEvent .binFull (evalFull { s with dirt := d }) = true :=
      evalFull_event (by simpa [evalFull] using hfull) (hd.trans hbefore)
    unfold dirtStored
    simp only [hmoved, decide_true, if_true]
    split
    · exact hevent
    · exact hevent
  · rw [hd, hbefore] at hfull
    cases hfull

theorem dirtStored_evac (d : Dirt) (s : State) : (dirtStored d s).evac = s.evac := by
  unfold dirtStored evalFull
  dsimp only
  split <;> split <;> simp [deliverBin]

/-- DIRT_CONFIG in order, up to the hand-overs (R107, R102). -/
theorem dirtStored_facts {large t1 t2 t3 c full : Nat} {s : State} (hsig : s.signals = []) :
    let u := dirtStored (storeDirt large t1 t2 t3 c full s.dirt) s
    let pct := u.dirt.bin * 100 / c
    let same := t1 = s.dirt.t1 ∧ t2 = s.dirt.t2 ∧ t3 = s.dirt.t3
    u.dirt.level = s.dirt.level
      ∧ (same → u.dirt.rise = s.dirt.rise ∧ u.dirt.cand = s.dirt.cand ∧ u.dirt.fall = s.dirt.fall)
      ∧ (¬same → u.dirt.rise = 0 ∧ u.dirt.cand = 0 ∧ u.dirt.fall = 0)
      ∧ u.signals = (if pct = s.dirt.bin * 100 / s.dirt.capacity then []
          else [.update .binPct (reportNat (some pct))]) := by
  intro u pct same
  have hbin : u.dirt.bin = min s.dirt.bin c := by
    rw [dirtStored_dirt]
    split <;> rfl
  refine ⟨?_, fun h => ?_, fun h => ?_, ?_⟩
  · rw [dirtStored_dirt]
    split <;> rfl
  · rw [dirtStored_dirt]
    split <;> simp [storeDirt, show decide (t1 = s.dirt.t1 ∧ t2 = s.dirt.t2 ∧ t3 = s.dirt.t3) = true from decide_eq_true h]
  · rw [dirtStored_dirt]
    split <;> simp [storeDirt, show decide (t1 = s.dirt.t1 ∧ t2 = s.dirt.t2 ∧ t3 = s.dirt.t3) = false from decide_eq_false h]
  · have hpct : binPct (storeDirt large t1 t2 t3 c full s.dirt) = pct := by
      simp only [pct, hbin]
      rfl
    rw [dirtStored_signals _ hsig, hpct]
    rfl

theorem beq_min_right (a c : Nat) : (min a c == c) = decide (c ≤ a) := by
  by_cases h : c ≤ a
  · simp [Nat.min_eq_right h, h]
  · simp [h]

/-- DIRT_CONFIG in order, past the hand-overs (R107, R104). -/
theorem dirtStored_concluded {large t1 t2 t3 c full : Nat} {k tag : Byte} {st : Status} {b : List Byte} {s : State} :
    let t := conclude (replied k tag st b (dirtStored (storeDirt large t1 t2 t3 c full s.dirt) s))
    t.dirt.large = large ∧ t.dirt.t1 = t1 ∧ t.dirt.t2 = t2 ∧ t.dirt.t3 = t3 ∧ t.dirt.capacity = c
      ∧ t.dirt.fullPct = full ∧ t.dirt.bin = min s.dirt.bin c
      ∧ t.dirt.sat = (s.dirt.sat || decide (c ≤ s.dirt.bin))
      ∧ t.dirt.full = (if c = s.dirt.capacity ∧ t.dirt.fullPct = s.dirt.fullPct then s.dirt.full
          else decide (t.dirt.fullPct ≤ t.dirt.bin * 100 / c))
      ∧ (t.dirt.full = true → s.dirt.full = false → hasEvent .binFull t = true)
      ∧ t.dirt.status = s.dirt.status ∧ t.evac = s.evac := by
  intro t
  have hu := dirtStored_dirt (storeDirt large t1 t2 t3 c full s.dirt) s
  have hfield {α : Type} (f : Dirt → α) (hf : ∀ d : Dirt, f d.lasting = f d) :
      f t.dirt = f (dirtStored (storeDirt large t1 t2 t3 c full s.dirt) s).dirt :=
    conclude_dirt f hf (replied k tag st b (dirtStored (storeDirt large t1 t2 t3 c full s.dirt) s))
  have hstored {α : Type} (f : Dirt → α) (hf : ∀ d : Dirt, f d.lasting = f d) (hflag : ∀ d b, f { d with full := b } = f d) :
      f t.dirt = f (storeDirt large t1 t2 t3 c full s.dirt) := by
    rw [hfield f hf, hu]
    split
    · rw [hflag]
    · rfl
  have hpct : t.dirt.fullPct = full := hstored Dirt.fullPct (fun _ => rfl) (fun _ _ => rfl)
  have hbin : t.dirt.bin = min s.dirt.bin c := hstored Dirt.bin (fun _ => rfl) (fun _ _ => rfl)
  have hfull : t.dirt.full = (dirtStored (storeDirt large t1 t2 t3 c full s.dirt) s).dirt.full :=
    hfield Dirt.full (fun _ => rfl)
  refine ⟨hstored Dirt.large (fun _ => rfl) (fun _ _ => rfl), hstored Dirt.t1 (fun _ => rfl) (fun _ _ => rfl),
    hstored Dirt.t2 (fun _ => rfl) (fun _ _ => rfl), hstored Dirt.t3 (fun _ => rfl) (fun _ _ => rfl),
    hstored Dirt.capacity (fun _ => rfl) (fun _ _ => rfl), hpct, hbin, ?_, ?_, ?_,
    hstored Dirt.status (fun _ => rfl) (fun _ _ => rfl), ?_⟩
  · rw [← beq_min_right]
    exact hstored Dirt.sat (fun _ => rfl) (fun _ _ => rfl)
  · rw [hpct, hbin, hfull, hu]
    by_cases hmoved : c = s.dirt.capacity ∧ full = s.dirt.fullPct
    · rw [if_neg (by simpa [storeDirt] using hmoved), if_pos hmoved]
      rfl
    · rw [if_pos (by simpa [storeDirt, or_iff_not_imp_left] using hmoved), if_neg hmoved]
      rfl
  · exact fun h hbefore => conclude_keeps _ _ (dirtStored_event rfl (hfull ▸ h) hbefore)
  · rw [conclude_evac, replied_evac, dirtStored_evac]

/-- DIRT_CONFIG with settings (R107, R102, R104). -/
theorem exec_dirtConfig (tag : Byte) (f : DirtFields) {s : State} (hs : s.serves) :
    let t1 := (max 1 (min 5000 f.t1.toInt)).toNat
    let t2 := (max 1 (min 5000 f.t2.toInt)).toNat
    let t3 := (max 1 (min 5000 f.t3.toInt)).toNat
    let u := dirtStored (storeDirt (max 100 (min 2000 f.large.toInt)).toNat t1 t2 t3
      (max 1000 (min 1000000 f.capacity.toNat)) (max 50 (min 100 f.fullPct.toNat)) s.dirt) s
    exec (.dirtConfig tag (some f)) s = .next (conclude (if t1 < t2 ∧ t2 < t3
      then replied 0x30 tag .ok (dirtConfigPayload u.dirt) u else replied 0x30 tag .badArg [] s)) := by
  intro t1 t2 t3 u
  have hexec := ask_of_serves 0x30 tag (serveDirtConfig (some f)) s hs
  have hserve : serveDirtConfig (some f) s = if t1 < t2 ∧ t2 < t3 then accept u (dirtConfigPayload u.dirt)
      else refuse .badArg s := serveDirtConfig_some f s
  split
  · rename_i h
    rw [hserve, if_pos h] at hexec
    exact hexec
  · rename_i h
    rw [hserve, if_neg h] at hexec
    exact hexec

theorem dirtConfig_settings (tag : Byte) (f : DirtFields) {s : State} (hs : s.serves) (hsig : s.signals = []) :
    let t1 := (max 1 (min 5000 f.t1.toInt)).toNat
    let t2 := (max 1 (min 5000 f.t2.toInt)).toNat
    let t3 := (max 1 (min 5000 f.t3.toInt)).toNat
    let c := max 1000 (min 1000000 f.capacity.toNat)
    (¬(t1 < t2 ∧ t2 < t3) →
      exec (.dirtConfig tag (some f)) s = .next (conclude (replied 0x30 tag .badArg [] s)))
    ∧ (t1 < t2 → t2 < t3 →
      let u := (serveDirtConfig (some f) s).state
      let pct := u.dirt.bin * 100 / c
      let same := t1 = s.dirt.t1 ∧ t2 = s.dirt.t2 ∧ t3 = s.dirt.t3
      exec (.dirtConfig tag (some f)) s
          = .next (conclude (replied 0x30 tag .ok (dirtConfigPayload u.dirt) u))
        ∧ u.dirt.level = s.dirt.level
        ∧ (same → u.dirt.rise = s.dirt.rise ∧ u.dirt.cand = s.dirt.cand ∧ u.dirt.fall = s.dirt.fall)
        ∧ (¬same → u.dirt.rise = 0 ∧ u.dirt.cand = 0 ∧ u.dirt.fall = 0)
        ∧ u.signals = (if pct = s.dirt.bin * 100 / s.dirt.capacity then []
            else [.update .binPct (reportNat (some pct))]))
    ∧ (t1 < t2 → t2 < t3 → ∃ t, exec (.dirtConfig tag (some f)) s = .next t
      ∧ t.dirt.large = (max 100 (min 2000 f.large.toInt)).toNat
      ∧ t.dirt.t1 = t1 ∧ t.dirt.t2 = t2 ∧ t.dirt.t3 = t3 ∧ t.dirt.capacity = c
      ∧ t.dirt.fullPct = max 50 (min 100 f.fullPct.toNat)
      ∧ t.dirt.bin = min s.dirt.bin c
      ∧ t.dirt.sat = (s.dirt.sat || decide (c ≤ s.dirt.bin))
      ∧ t.dirt.full = (if c = s.dirt.capacity ∧ t.dirt.fullPct = s.dirt.fullPct then s.dirt.full
          else decide (t.dirt.fullPct ≤ t.dirt.bin * 100 / c))
      ∧ (t.dirt.full = true → s.dirt.full = false → hasEvent .binFull t = true)
      ∧ t.dirt.status = s.dirt.status ∧ t.evac = s.evac) := by
  intro t1 t2 t3 c
  have hexec := exec_dirtConfig tag f hs
  have hserve := serveDirtConfig_some f s
  dsimp only at hexec hserve
  refine ⟨fun hdis => ?_, fun h12 h23 => ?_, fun h12 h23 => ?_⟩
  · rw [hexec, if_neg hdis]
  · rw [hserve, if_pos ⟨h12, h23⟩]
    rw [if_pos ⟨h12, h23⟩] at hexec
    exact ⟨hexec, dirtStored_facts hsig⟩
  · rw [if_pos ⟨h12, h23⟩] at hexec
    exact ⟨_, hexec, dirtStored_concluded⟩

theorem clampTerm_eq (h : Half) :
    clampTerm h = if h.toInt ≤ 0 then 0 else (max 50 (min 1000 h.toInt)).toNat := by
  unfold clampTerm
  rw [clampHalf_eq (by decide)]
  rfl

/-- A lowered I_tgt lowers the current of a charging state with it (R162). -/
theorem lowerTarget_facts (s : State) : (lowerTarget s).dock.iTgt ≤ s.dock.iTgt
    ∧ (lowerTarget s).dock.iTgt ≤ s.dock.iMax
    ∧ (lowerTarget s).dock.iChg = (if s.dock.state.charges = true ∧ (lowerTarget s).dock.iTgt < s.dock.iTgt
        then min s.dock.iChg (lowerTarget s).dock.iTgt else s.dock.iChg) := by
  refine ⟨Nat.min_le_left _ _, ?_, rfl⟩
  have hmax : iMaxInUse s ≤ s.dock.iMax := by
    unfold iMaxInUse
    split
    · exact le_refl _
    · exact Nat.min_le_left _ _
  calc (lowerTarget s).dock.iTgt ≤ chargeTarget s := Nat.min_le_right _ _
    _ ≤ min (iMaxInUse s) (tempLimit s) := Nat.div_mul_le_self _ _
    _ ≤ s.dock.iMax := (Nat.min_le_left _ _).trans hmax

/-- CHARGE_CONFIG with settings (R162). -/
theorem exec_chargeConfig (tag : Byte) (m term : Half) (d : Byte) {s : State} (hs : s.serves) (hsig : s.signals = []) :
    ∃ t, exec (.chargeConfig tag (some (m, term, d))) s = .next t
      ∧ t.dock.iMax = (max 300 (min 4000 m.toInt)).toNat
      ∧ t.dock.iTerm = (if term.toInt ≤ 0 then 0 else (max 50 (min 1000 term.toInt)).toNat)
      ∧ t.dock.debounceMs = max 100 (min 250 d.toNat) / 25 * 25
      ∧ t.dock.iTgt ≤ s.dock.iTgt ∧ t.dock.iTgt ≤ t.dock.iMax
      ∧ t.dock.iChg = (if s.dock.state.charges = true ∧ t.dock.iTgt < s.dock.iTgt
          then min s.dock.iChg t.dock.iTgt else s.dock.iChg)
      ∧ t.dock.state = s.dock.state ∧ t.dock.csw = s.dock.csw ∧ t.dock.agreement = s.dock.agreement := by
  have hexec := ask_of_serves 0x40 tag (serveChargeConfig (some (m, term, d))) s hs
  have hmax : clampHalf 300 4000 m = (max 300 (min 4000 m.toInt)).toNat := clampHalf_eq (by decide) m
  have hdebounce : floorTo 25 (clampByte 100 250 d) = max 100 (min 250 d.toNat) / 25 * 25 := by
    rw [floorTo, clampByte_eq (by decide)]
  refine ⟨_, hexec, ?_⟩
  have hdock : (conclude (replied 0x40 tag (serveChargeConfig (some (m, term, d)) s).status
      (serveChargeConfig (some (m, term, d)) s).payload (serveChargeConfig (some (m, term, d)) s).state)).dock
        = (serveChargeConfig (some (m, term, d)) s).state.dock := by
    rw [conclude_of_no_signals (by exact hsig), finish_dock, replied_dock]
  rw [hdock]
  obtain ⟨hle, hmaxle, hcurrent⟩ := lowerTarget_facts { s with dock := { s.dock with
    iMax := clampHalf 300 4000 m, iTerm := clampTerm term, debounceMs := floorTo 25 (clampByte 100 250 d) } }
  exact ⟨hmax, clampTerm_eq term, hdebounce, hle, hmaxle, hcurrent, rfl, rfl, rfl⟩

theorem autoConditions_iff (s : State) : autoConditions s = true ↔
    0 < s.evac.pct ∧ (∃ i, s.dock.identity = some i ∧ i.support = true)
      ∧ s.evac.pct ≤ s.dirt.bin * 100 / s.dirt.capacity
      ∧ s.dock.state ≠ .detached ∧ s.dock.state ≠ .attachWait ∧ s.dock.state ≠ .fault
      ∧ evacInProgress s = false ∧ s.evac.auto = false := by
  change _ ↔ 0 < s.evac.pct ∧ _ ∧ s.evac.pct ≤ binPct s.dirt ∧ _
  simp [autoConditions, and_assoc, Option.any_eq_true]

/-- The automatic decision (R166, R165). -/
theorem autoDecision_evac (s : State) : (autoDecision s).evac = if autoConditions s then
    { s.evac with
      auto := true, state := .requested, trigger := .auto, duration := s.evac.setting, binPct := binPct s.dirt
      outcome := .none, reason := none, confirmed := false } else s.evac := by
  unfold autoDecision startEvac
  split
  · rw [trySend_evac]
    rfl
  · rfl

/-- EVAC_CONFIG with settings (R171, R166). -/
theorem exec_evacConfig (tag p d : Byte) {s : State} (hs : s.serves) :
    ∃ t, exec (.evacConfig tag (some (p, d))) s = .next t
      ∧ t.evac.pct = min 100 p.toNat ∧ t.evac.setting = max 3 (min 15 d.toNat)
      ∧ (if 0 < t.evac.pct ∧ (∃ i, s.dock.identity = some i ∧ i.support = true)
            ∧ t.evac.pct ≤ s.dirt.bin * 100 / s.dirt.capacity
            ∧ s.dock.state ≠ .detached ∧ s.dock.state ≠ .attachWait ∧ s.dock.state ≠ .fault
            ∧ evacInProgress s = false ∧ s.evac.auto = false
          then t.evac.state = .requested ∧ t.evac.trigger = .auto
            ∧ t.evac.duration = t.evac.setting ∧ t.evac.auto = true
          else t.evac.state = s.evac.state ∧ t.evac.auto = s.evac.auto
            ∧ t.evac.timer = s.evac.timer) := by
  have hexec := ask_of_serves 0x48 tag (serveEvacConfig (some (p, d))) s hs
  have hpct : clampByte 0 100 p = min 100 p.toNat := by
    rw [clampByte_eq (by decide), Nat.zero_max]
  have hsetting : clampByte 3 15 d = max 3 (min 15 d.toNat) := clampByte_eq (by decide) d
  refine ⟨_, hexec, ?_⟩
  rw [conclude_evac, replied_evac]
  have hstart := autoConditions_iff { s with evac := { s.evac with pct := clampByte 0 100 p, setting := clampByte 3 15 d } }
  have hevac : (serveEvacConfig (some (p, d)) s).state.evac = (autoDecision
      { s with evac := { s.evac with pct := clampByte 0 100 p, setting := clampByte 3 15 d } }).evac := rfl
  rw [hevac, autoDecision_evac]
  split
  · rename_i h
    refine ⟨hpct, hsetting, ?_⟩
    split
    · exact ⟨rfl, rfl, rfl, rfl⟩
    · rename_i hc
      exact absurd (hstart.mp h) hc
  · rename_i h
    refine ⟨hpct, hsetting, ?_⟩
    split
    · rename_i hc
      exact absurd (hstart.mpr hc) h
    · exact ⟨rfl, rfl, rfl⟩

/-- BIN_RESET (R105, R106). -/
theorem exec_binReset (tag : Byte) {s : State} (hs : s.serves) (hpct : 1 ≤ s.dirt.fullPct) :
    exec (.binReset tag) s = .next (conclude (deliver .binPct 0
      (replied 0x32 tag .ok [0, 0, 0, 0, 0, 0] { s with
        dirt := { s.dirt with bin := 0, sat := false, full := false } }))) := by
  have hempty (c : Nat) : 0 * 100 / c = 0 := by simp
  have heval (d : Dirt) (hbin : d.bin = 0) (hfull : 1 ≤ d.fullPct) :
      evalFull { s with dirt := d } = { s with dirt := { d with full := false } } := by
    have hflag : decide (d.fullPct ≤ binPct d) = false := by
      simp only [binPct, hbin, hempty, decide_eq_false_iff_not]
      omega
    unfold evalFull
    dsimp only
    rw [hflag, Bool.false_and, raiseIf_of_false _ _ rfl]
  have hstate : (serveBinReset s).state
      = deliver .binPct 0 { s with dirt := { s.dirt with bin := 0, sat := false, full := false } } := by
    change emptyBin _ = _
    unfold emptyBin deliverBin
    rw [heval { s.dirt with sat := false, bin := 0 } rfl hpct]
    simp only [binPct, hempty]
    rfl
  have hpayload : (serveBinReset s).payload = [0, 0, 0, 0, 0, 0] := by
    change binResetPayload (serveBinReset s).state.dirt = _
    rw [hstate]
    simp only [deliver_dirt, binResetPayload, binPct, hempty]
    rfl
  have hexec := ask_of_serves 0x32 tag serveBinReset s hs
  rw [hstate, hpayload] at hexec
  exact hexec

/-- Settles O49: each command is its serve function, whose stored values are the clamped ones, and what the hand-overs
keep of the Dirt Monitor and of the sequencer is read off the state before them. -/
theorem settingsAreClampedAndTheBinIsReset : Obligations.SettingsAreClampedAndTheBinIsReset :=
  ⟨fun tag _ hs hsig => ⟨fun p m => exec_blockConfig tag p m hs hsig, fun f => dirtConfig_settings tag f hs hsig,
      fun m term d => exec_chargeConfig tag m term d hs hsig, fun p d => exec_evacConfig tag p d hs⟩,
    fun tag _ hs hpct => exec_binReset tag hs hpct⟩

end Sys2Proof.Machine
end

section
namespace Sys2Proof.Machine

variable {s t u : State}

/-! ## What the work on the tool line leaves alone -/

/-- The state beside the table, the tool line, the records, the governor's inputs from them, the sustain counts, the
hand-overs and the event set. -/
def besideTools (s : State) : State :=
  { s with
    arb := Arb.fresh 0, line := ToolLine.reset, tools := ToolTable.reset, signals := []
    gov := { s.gov with floor := .hard, factor := 100, curve := .openInlet }
    load := { s.load with rise := 0, block := 0, release := 0 }
    host := { s.host with events := 0 } }

theorem besideTools_ite {c : Prop} [Decidable c] (ht : besideTools t = besideTools s)
    (hu : besideTools u = besideTools s) : besideTools (if c then t else u) = besideTools s := by
  split
  · exact ht
  · exact hu

theorem raise_besideTools (e : Event) (s : State) : besideTools (raise e s) = besideTools s := rfl

theorem raiseIf_besideTools (c : Bool) (e : Event) (s : State) : besideTools (raiseIf c e s) = besideTools s :=
  besideTools_ite rfl rfl

theorem deliver_besideTools (q : Quantity) (v : Half) (s : State) : besideTools (deliver q v s) = besideTools s := rfl

theorem askRecompute_besideTools (s : State) : besideTools (askRecompute s) = besideTools s := besideTools_ite rfl rfl

theorem setNode_besideTools (a : Addr) (f : Node → Node) (s : State) : besideTools (setNode a f s) = besideTools s := rfl

theorem putFrame_besideTools (f : TxFrame) (s : State) : besideTools (putFrame f s) = besideTools s :=
  besideTools_ite rfl rfl

theorem queueCap_besideTools (a : Addr) (s : State) : besideTools (queueCap a s) = besideTools s := by
  obtain ⟨q, w, h⟩ := queueCap_writes a s
  rw [h]; rfl

theorem queueCaps_besideTools (l : List Addr) (s : State) : besideTools (queueCaps l s) = besideTools s := by
  obtain ⟨q, w, h⟩ := queueCaps_writes l s
  rw [h]; rfl

theorem handBrush_besideTools (level : Nat) (s : State) : besideTools (handBrush level s) = besideTools s := by
  obtain ⟨q, w, h⟩ := handBrush_writes level s
  rw [h]; rfl

theorem forcedRelease_besideTools (c : ReleaseCause) (s : State) : besideTools (forcedRelease c s) = besideTools s :=
  askRecompute_besideTools _

theorem setTpwr_besideTools (l : Tpwr) (c : ReleaseCause) (s : State) : besideTools (setTpwr l c s) = besideTools s := by
  unfold setTpwr
  refine besideTools_ite rfl ((askRecompute_besideTools _).trans ?_)
  dsimp only
  split <;> split
  · exact forcedRelease_besideTools _ _
  · rfl
  · exact forcedRelease_besideTools _ _
  · rfl

theorem powerRule_besideTools (s : State) : besideTools (powerRule s) = besideTools s :=
  besideTools_ite (setTpwr_besideTools _ _ _) (besideTools_ite (setTpwr_besideTools _ _ _) rfl)

theorem handTools_besideTools (s : State) : besideTools (handTools s) = besideTools s :=
  (powerRule_besideTools _).trans (queueCaps_besideTools _ _)

theorem deliverNozzle_besideTools (s : State) : besideTools (deliverNozzle s) = besideTools s := rfl

theorem deriveNozzle_besideTools (s : State) : besideTools (deriveNozzle s) = besideTools s := besideTools_ite rfl rfl

theorem deriveMembers_besideTools (s : State) : besideTools (deriveMembers s) = besideTools s :=
  besideTools_ite rfl ((askRecompute_besideTools _).trans (queueCaps_besideTools _ _))

theorem deriveFloor_besideTools (s : State) : besideTools (deriveFloor s) = besideTools s := besideTools_ite rfl rfl

theorem deliverClaims_besideTools (s : State) : besideTools (deliverClaims s) = besideTools s :=
  besideTools_ite rfl (askRecompute_besideTools _)

theorem refreshTools_besideTools (s : State) : besideTools (refreshTools s) = besideTools s :=
  (deliverClaims_besideTools _).trans ((deriveFloor_besideTools _).trans (deriveMembers_besideTools s))

theorem handRecord_besideTools (a : Addr) (s : State) : besideTools (handRecord a s) = besideTools s :=
  (refreshTools_besideTools _).trans (besideTools_ite rfl rfl)

theorem nodeGone_besideTools (quiet : Bool) (a : Addr) (s : State) : besideTools (nodeGone quiet a s) = besideTools s := by
  unfold nodeGone
  split
  · rfl
  · dsimp only
    refine besideTools_ite ((raiseIf_besideTools _ _ _).trans ?_) rfl
    have hgone (u : State) (hu : besideTools u = besideTools s) :
        besideTools (refreshTools (deriveNozzle (askRecompute u))) = besideTools s := by
      rw [refreshTools_besideTools, deriveNozzle_besideTools, askRecompute_besideTools, hu]
    refine besideTools_ite ((deliver_besideTools _ _ _).trans ?_) ?_
    · exact hgone _ rfl
    · exact hgone _ rfl

theorem removeNodes_besideTools (quiet : Bool) (s : State) : besideTools (removeNodes quiet s) = besideTools s := by
  unfold removeNodes
  generalize s.line.nodes.map (·.addr) = l
  induction l generalizing s with
  | nil => rfl
  | cons a l ih => exact (ih _).trans (nodeGone_besideTools quiet a s)

theorem lineReset_besideTools (quiet : Bool) (s : State) : besideTools (lineReset quiet s) = besideTools s := by
  have hremoved (u : State) (hu : besideTools u = besideTools s) : besideTools (removeNodes quiet u) = besideTools s :=
    (removeNodes_besideTools quiet u).trans hu
  unfold lineReset
  exact hremoved _ (besideTools_ite (setTpwr_besideTools _ _ _) rfl)

theorem holdPower_besideTools (s : State) : besideTools (holdPower s) = besideTools s := by
  have hremoved (u : State) (hu : besideTools u = besideTools s) : besideTools (removeNodes false u) = besideTools s :=
    (removeNodes_besideTools false u).trans hu
  unfold holdPower
  exact (deriveFloor_besideTools _).trans (hremoved (clearTraffic (setTpwr .off .power s)) (setTpwr_besideTools _ _ _))

theorem releasePower_besideTools (s : State) : besideTools (releasePower s) = besideTools s :=
  besideTools_ite rfl ((lineReset_besideTools _ _).trans (setTpwr_besideTools _ _ _))

theorem setActive_besideTools (b : Bool) (s : State) : besideTools (setActive b s) = besideTools s :=
  besideTools_ite rfl (askRecompute_besideTools _)

theorem drive_of_besideTools (h : besideTools t = besideTools s) : t.drive = s.drive := (congrArg State.drive h :)
theorem dock_of_besideTools (h : besideTools t = besideTools s) : t.dock = s.dock := (congrArg State.dock h :)
theorem watch_of_besideTools (h : besideTools t = besideTools s) : t.watch = s.watch := (congrArg State.watch h :)
theorem dirt_of_besideTools (h : besideTools t = besideTools s) : t.dirt = s.dirt := (congrArg State.dirt h :)

/-! ## What the hand-overs leave of a drive that rests -/

/-- The drive but for what orders and limits write to one that does not drive. -/
def Drive.settled (d : Drive) : Drive := { d with pset := 0, ceiling := 0, refused := .none, startPending := false }

/-- The motor does not drive, and no pending press can start it. -/
def resting (d : Drive) : Prop := d.state.drives = false ∧ (d.startPending = true → d.state ≠ .off)

/-- The drive rests on as it was; a pending press may have been refused. -/
def restsOn (d e : Drive) : Prop := e.settled = d.settled ∧ (e.startPending = true → d.startPending = true)

theorem restsOn.refl (d : Drive) : restsOn d d := ⟨rfl, id⟩

theorem restsOn.trans {d e f : Drive} (h : restsOn d e) (h' : restsOn e f) : restsOn d f :=
  ⟨h'.1.trans h.1, fun hp => h.2 (h'.2 hp)⟩

theorem restsOn.state {d e : Drive} (h : restsOn d e) : e.state = d.state := (congrArg Drive.state h.1 :)

theorem restsOn.resting {d e : Drive} (h : restsOn d e) (hd : resting d) : resting e :=
  ⟨h.state ▸ hd.1, fun hp => h.state ▸ hd.2 (h.2 hp)⟩

theorem limitSetPoint_restsOn (s : State) : restsOn s.drive (limitSetPoint s).drive := by
  unfold limitSetPoint
  split
  · exact ⟨rfl, id⟩
  · exact ⟨rfl, id⟩

theorem pauseOrderChanged_drive (on : Bool) (s : State) : (pauseOrderChanged on s).drive = s.drive :=
  (congrArg State.drive (pauseOrderChanged_besideDock on s) :)

theorem handWatch_restsOn (s : State) : restsOn s.drive (handWatch s).drive := by
  unfold handWatch
  dsimp only
  have hlimit (u : State) (hu : u.drive = s.drive) : restsOn s.drive (limitSetPoint u).drive :=
    hu ▸ limitSetPoint_restsOn u
  split <;> split
  · exact restsOn.refl _
  · exact hlimit _ rfl
  · rw [pauseOrderChanged_drive]
    exact restsOn.refl _
  · rw [pauseOrderChanged_drive]
    exact hlimit _ rfl

theorem stopOrder_of_rest {c : StopCause} (h : s.drive.state.drives = false) : stopOrder c s = s := by
  rw [stopOrder, if_neg (by simp [h])]

theorem watchUpdate_restsOn (q : Quantity) (v : Half) (h : resting s.drive) :
    restsOn s.drive (watchUpdate q v s).drive := by
  have hwatch (u : State) (hu : u.drive = s.drive) : restsOn s.drive (handWatch u).drive := hu ▸ handWatch_restsOn u
  unfold watchUpdate
  dsimp only
  split
  · rw [stopOrder_of_rest (by rw [raiseIf_drive]; exact h.1)]
    exact hwatch _ (raiseIf_drive _ _ _)
  · exact hwatch _ (raiseIf_drive _ _ _)

theorem grantArrives_restsOn (g : Nat) (h : resting s.drive) : restsOn s.drive (grantArrives g s).drive := by
  have hlimit (u : State) (hu : u.drive = s.drive) : restsOn s.drive (limitSetPoint u).drive :=
    hu ▸ limitSetPoint_restsOn u
  unfold grantArrives
  dsimp only
  split <;> split
  · rename_i hc
    exact absurd hc.2 (by simp [h.1])
  · exact hlimit _ rfl
  · rename_i hc
    exact absurd hc.2 (by simp [h.1])
  · exact hlimit _ rfl

theorem recomputeNow_restsOn (h : resting s.drive) : restsOn s.drive (recomputeNow s).drive := by
  have hhanded (b : Bool) (a : Arb) : (handTools (raiseIf b .allotStarved { s with arb := a })).drive = s.drive := by
    rw [drive_of_besideTools (handTools_besideTools _), raiseIf_drive]
  have hgrant (g : Nat) (u : State) (hu : u.drive = s.drive) :
      restsOn s.drive (if g = u.gov.grant then u else grantArrives g u).drive := by
    split
    · exact hu ▸ restsOn.refl _
    · exact hu ▸ grantArrives_restsOn g (hu ▸ h)
  exact hgrant _ _ (hhanded _ _)

theorem startRefusal_of_not_off (h : s.drive.state ≠ .off) : startRefusal s = .notOff := by
  rw [startRefusal, if_pos h]

theorem repeatCheck_restsOn (h : resting s.drive) : restsOn s.drive (repeatCheck s).drive := by
  unfold repeatCheck
  split
  · rename_i hp
    rw [startRefusal_of_not_off (h.2 hp)]
    dsimp only
    rw [if_neg (by decide)]
    split
    · exact restsOn.refl _
    · exact ⟨rfl, fun hf => nomatch hf⟩
  · exact restsOn.refl _

theorem take_restsOn (g : Signal) (h : resting s.drive) : restsOn s.drive (take g s).drive := by
  cases g with
  | recompute => exact recomputeNow_restsOn h
  | update q v => exact watchUpdate_restsOn q v h
  | stop c =>
    change restsOn s.drive (stopOrder c s).drive
    rw [stopOrder_of_rest h.1]
    exact restsOn.refl _
  | cutoffStop =>
    change restsOn s.drive (cutoffStopNow s).drive
    unfold cutoffStopNow
    rw [if_neg (by simp [h.1]), stopOrder_of_rest h.1]
    exact restsOn.refl _
  | startCheck => exact repeatCheck_restsOn h

theorem drain_restsOn (n : Nat) (h : resting s.drive) : restsOn s.drive (drain n s).drive := by
  induction n generalizing s with
  | zero => exact restsOn.refl _
  | succ n ih =>
    unfold drain
    split
    · exact restsOn.refl _
    · rename_i sig rest _
      have htaken : restsOn s.drive (take sig { s with signals := rest }).drive := take_restsOn sig h
      exact htaken.trans (ih (htaken.resting h))

/-- A drive that rests before the hand-overs rests on through them. -/
theorem conclude_restsOn (h : resting s.drive) : restsOn s.drive (conclude s).drive := by
  rw [conclude, finish_drive]
  exact drain_restsOn 400 h

end Sys2Proof.Machine
end

section
namespace Sys2Proof.Machine

variable {s t u : State}

/-! ## What the work on the motor leaves alone -/

/-- The state beside the drive, the dock, the hand-overs, the event set, the free values used, and what follows the motor in the other
blocks: the stack and the set point, the load monitor's episode, the dirt level and window, the active flag and the
brush level of the line. -/
def besideMotor (s : State) : State :=
  { s with
    free := 0, drive := Drive.reset, dock := Dock.reset, gov := { s.gov with stack := [], pset := 0, ramping := false }, load := s.load.lasting, dirt := s.dirt.lasting
    signals := [], arb := { s.arb with active := false }, host := { s.host with events := 0 }
    line := { s.line with queue := [], lost := none, brush := 0 } }

theorem besideMotor_ite {c : Prop} [Decidable c] (ht : besideMotor t = besideMotor s)
    (hu : besideMotor u = besideMotor s) : besideMotor (if c then t else u) = besideMotor s := by
  split
  · exact ht
  · exact hu

theorem besideMotor_of_besideDock (h : besideDock t = besideDock s) : besideMotor t = besideMotor s :=
  (congrArg besideMotor h :)

theorem raiseIf_besideMotor (c : Bool) (e : Event) (s : State) : besideMotor (raiseIf c e s) = besideMotor s :=
  besideMotor_ite rfl rfl

theorem setStack_besideMotor (st : List StackEntry) (s : State) : besideMotor (setStack st s) = besideMotor s := by
  have hbrush (level : Nat) (u : State) : besideMotor (handBrush level u) = besideMotor u := by
    obtain ⟨q, w, h⟩ := handBrush_writes level u
    rw [h]; rfl
  unfold setStack
  exact besideMotor_ite rfl (hbrush _ _)

theorem clearPop_besideMotor (s : State) : besideMotor (clearPop s) = besideMotor s :=
  besideMotor_ite (setStack_besideMotor _ _) rfl

theorem loadRest_besideMotor (s : State) : besideMotor (loadRest s) = besideMotor s := by
  have hload (u : State) (m : LoadMon) (hm : m.lasting = u.load.lasting) :
      besideMotor { u with load := m } = besideMotor u := by
    simp only [besideMotor, hm]
  unfold loadRest
  exact (hload _ _ rfl).trans (besideMotor_ite (clearPop_besideMotor _) rfl)

theorem dirtRunExit_besideMotor (s : State) : besideMotor (dirtRunExit s) = besideMotor s :=
  raiseIf_besideMotor _ _ _

theorem leaveRun_besideMotor (s : State) : besideMotor (leaveRun s) = besideMotor s :=
  (dirtRunExit_besideMotor _).trans (loadRest_besideMotor s)

theorem changeState_besideMotor (new : MotorState) (s : State) : besideMotor (changeState new s) = besideMotor s :=
  besideMotor_ite (leaveRun_besideMotor _) rfl

theorem setActive_besideMotor (b : Bool) (s : State) : besideMotor (setActive b s) = besideMotor s :=
  besideMotor_ite rfl (besideMotor_ite rfl rfl)

theorem zeroSetPoint_besideMotor (s : State) : besideMotor (zeroSetPoint s) = besideMotor s := rfl

theorem enterRest_besideMotor (new : MotorState) (s : State) : besideMotor (enterRest new s) = besideMotor s := by
  unfold enterRest
  exact (besideMotor_of_besideDock (leaveAttachWait_besideDock _)).trans
    ((setActive_besideMotor _ _).trans (changeState_besideMotor new s))

theorem reachOff_besideMotor (s : State) : besideMotor (reachOff s) = besideMotor s := by
  unfold reachOff
  exact besideMotor_ite (enterRest_besideMotor .off s) (enterRest_besideMotor .off s)

theorem enterStopping_besideMotor (c : StopCause) (s : State) : besideMotor (enterStopping c s) = besideMotor s := by
  have hstop (u : State) : besideMotor (zeroSetPoint (changeState .stopping u)) = besideMotor u :=
    changeState_besideMotor .stopping u
  unfold enterStopping
  exact besideMotor_ite ((reachOff_besideMotor _).trans (hstop _)) (hstop { s with drive := { s.drive with stopCause := c } })

theorem stopOrder_besideMotor (c : StopCause) (s : State) : besideMotor (stopOrder c s) = besideMotor s :=
  besideMotor_ite (enterStopping_besideMotor c s) rfl

theorem enterArming_besideMotor (s : State) : besideMotor (enterArming s) = besideMotor s := by
  have harming (u : State) : besideMotor (changeState .arming u) = besideMotor u := changeState_besideMotor .arming u
  unfold enterArming
  exact (setActive_besideMotor _ _).trans (harming { s with drive := { s.drive with startPending := false } })

theorem repeatCheck_besideMotor (s : State) : besideMotor (repeatCheck s) = besideMotor s := by
  unfold repeatCheck
  exact besideMotor_ite (besideMotor_ite (enterArming_besideMotor s) (besideMotor_ite rfl rfl)) rfl

/-- The state beside the motor and what the governor forms from its grant. -/
def besideLimits (s : State) : State := { besideMotor s with gov := s.gov.lasting }

theorem besideLimits_of_besideMotor (h : besideMotor t = besideMotor s) : besideLimits t = besideLimits s :=
  (congrArg (fun u : State => { u with gov := u.gov.lasting }) h :)

theorem besideLimits_ite {c : Prop} [Decidable c] (ht : besideLimits t = besideLimits s)
    (hu : besideLimits u = besideLimits s) : besideLimits (if c then t else u) = besideLimits s := by
  split
  · exact ht
  · exact hu

theorem stopOrder_besideLimits (c : StopCause) (s : State) : besideLimits (stopOrder c s) = besideLimits s :=
  besideLimits_of_besideMotor (stopOrder_besideMotor c s)

theorem limitSetPoint_besideLimits (s : State) : besideLimits (limitSetPoint s) = besideLimits s := by
  unfold limitSetPoint
  exact besideLimits_ite rfl rfl

theorem grantArrives_besideLimits (g : Nat) (s : State) : besideLimits (grantArrives g s) = besideLimits s := by
  unfold grantArrives
  have hpending (u : State) : besideLimits (if u.drive.startPending then emit .startCheck u else u) = besideLimits u :=
    besideLimits_ite rfl rfl
  exact besideLimits_ite ((stopOrder_besideLimits _ _).trans (hpending { s with gov := { s.gov with grant := g } }))
    ((limitSetPoint_besideLimits _).trans (hpending { s with gov := { s.gov with grant := g } }))

theorem cutoffStopNow_besideLimits (s : State) : besideLimits (cutoffStopNow s) = besideLimits s := by
  unfold cutoffStopNow
  exact besideLimits_ite (besideLimits_ite (stopOrder_besideLimits _ _) (grantArrives_besideLimits _ _))
    (stopOrder_besideLimits _ _)

theorem handWatch_besideLimits (s : State) :
    besideLimits (handWatch s) = { besideLimits s with watch := (handWatch s).watch } := by
  have hlimit (u : State) : besideLimits (limitSetPoint u) = { besideLimits u with watch := (limitSetPoint u).watch } := by
    rw [limitSetPoint_besideLimits, limitSetPoint_watch]
    rfl
  have hpause (on : Bool) (u : State) (h : besideLimits u = { besideLimits s with watch := u.watch }) :
      besideLimits (pauseOrderChanged on u) = { besideLimits s with watch := (pauseOrderChanged on u).watch } := by
    have hbeside := pauseOrderChanged_besideDock on u
    rw [besideLimits_of_besideMotor (besideMotor_of_besideDock hbeside), h, show (pauseOrderChanged on u).watch = u.watch from
      (congrArg State.watch hbeside :)]
  have hresult (d : Nat) (p : Bool) : let v : State := { s with watch := { s.watch with derate := d, pauseOrder := p } }
      besideLimits (if d = s.watch.derate then v else limitSetPoint v)
        = { besideLimits s with watch := (if d = s.watch.derate then v else limitSetPoint v).watch } := by
    intro v
    split
    · rfl
    · exact hlimit v
  unfold handWatch
  dsimp only
  split
  · exact hresult _ _
  · exact hpause _ _ (hresult _ _)

theorem watchUpdate_besideLimits (q : Quantity) (v : Half) (s : State) :
    besideLimits (watchUpdate q v s) = { besideLimits s with watch := (watchUpdate q v s).watch } := by
  have hwatch (u : State) (h : besideLimits u = { besideLimits s with watch := u.watch }) :
      besideLimits (handWatch u) = { besideLimits s with watch := (handWatch u).watch } := by
    rw [handWatch_besideLimits, h]
  have hstop (c : StopCause) (u : State) : (stopOrder c u).watch = u.watch :=
    (congrArg State.watch (stopOrder_besideLimits c u) :)
  unfold watchUpdate
  dsimp only
  refine hwatch _ ?_
  have hraised (b : Bool) (r : Vector (Option WatchRec) 8) :
      besideLimits (raiseIf b .watchFired { s with watch := { s.watch with recs := r } })
        = { besideLimits s with watch := (raiseIf b .watchFired { s with watch := { s.watch with recs := r } }).watch } := by
    rw [besideLimits_of_besideMotor (raiseIf_besideMotor _ _ _), raiseIf_watch]
    rfl
  split
  · rw [stopOrder_besideLimits, hstop]
    exact hraised _ _
  · exact hraised _ _

/-! ## A silent tool line stays silent -/

theorem tpwr_of_besideLimits (h : besideLimits t = { besideLimits s with watch := t.watch }) : t.line.tpwr = s.line.tpwr :=
  (congrArg (·.line.tpwr) h :)

theorem handTools_tpwr_off (h : s.line.tpwr = .off) : (handTools s).line.tpwr = .off := by
  have hqueued (l : List Addr) (u : State) : (queueCaps l u).line.tpwr = u.line.tpwr := by
    obtain ⟨q, w, hq⟩ := queueCaps_writes l u
    rw [hq]
  have hrule (u : State) (hu : u.line.tpwr = .off) : powerRule u = u := by
    simp [powerRule, hu]
  have hall (l : List Addr) (u : State) (hu : u.line.tpwr = .off) : (powerRule (queueCaps l u)).line.tpwr = .off := by
    have hq : (queueCaps l u).line.tpwr = .off := (hqueued l u).trans hu
    rw [hrule _ hq, hq]
  exact hall _ _ h

theorem take_tpwr_off (g : Signal) (h : s.line.tpwr = .off) : (take g s).line.tpwr = .off := by
  have hmotor {t u : State} (ht : besideLimits t = besideLimits u) : t.line.tpwr = u.line.tpwr :=
    (congrArg (·.line.tpwr) ht :)
  cases g with
  | recompute =>
    have hgrant (g : Nat) (u : State) (hu : u.line.tpwr = .off) :
        (if g = u.gov.grant then u else grantArrives g u).line.tpwr = .off := by
      split
      · exact hu
      · exact (hmotor (grantArrives_besideLimits g u)).trans hu
    exact hgrant _ _ (handTools_tpwr_off (by rw [raiseIf_line]; exact h))
  | update q v => exact (tpwr_of_besideLimits (watchUpdate_besideLimits q v s)).trans h
  | stop c => exact (hmotor (stopOrder_besideLimits c s)).trans h
  | cutoffStop => exact (hmotor (cutoffStopNow_besideLimits s)).trans h
  | startCheck => exact (hmotor (besideLimits_of_besideMotor (repeatCheck_besideMotor s))).trans h

theorem drain_tpwr_off (n : Nat) (h : s.line.tpwr = .off) : (drain n s).line.tpwr = .off := by
  induction n generalizing s with
  | zero => exact h
  | succ n ih =>
    unfold drain
    split
    · exact h
    · exact ih (take_tpwr_off _ h)

theorem conclude_tpwr_off (h : s.line.tpwr = .off) : (conclude s).line.tpwr = .off := by
  rw [conclude, finish_line]
  exact drain_tpwr_off 400 h

end Sys2Proof.Machine
end

section
namespace Sys2Proof.Machine

variable {s t u : State}

/-! ## Nodes removed from the list (R118, R113, R126) -/

/-- The tool line but for what is queued and the floor class in use, and the record table but for the nozzle source. -/
def lineAndRecords (s : State) : ToolLine × ToolTable :=
  ({ s.line with queue := [], lost := none, floor := .hard }, { s.tools with nozzle := none })

theorem lineAndRecords_ite {c : Prop} [Decidable c] (ht : lineAndRecords t = lineAndRecords s)
    (hu : lineAndRecords u = lineAndRecords s) : lineAndRecords (if c then t else u) = lineAndRecords s := by
  split
  · exact ht
  · exact hu

theorem raiseIf_lineAndRecords (c : Bool) (e : Event) (s : State) :
    lineAndRecords (raiseIf c e s) = lineAndRecords s := lineAndRecords_ite rfl rfl

theorem askRecompute_lineAndRecords (s : State) : lineAndRecords (askRecompute s) = lineAndRecords s :=
  lineAndRecords_ite rfl rfl

theorem queueCaps_lineAndRecords (l : List Addr) (s : State) : lineAndRecords (queueCaps l s) = lineAndRecords s := by
  obtain ⟨q, w, h⟩ := queueCaps_writes l s
  rw [h]; rfl

theorem deriveNozzle_lineAndRecords (s : State) : lineAndRecords (deriveNozzle s) = lineAndRecords s :=
  lineAndRecords_ite rfl rfl

theorem refreshTools_lineAndRecords (s : State) : lineAndRecords (refreshTools s) = lineAndRecords s := by
  have hmembers : lineAndRecords (deriveMembers s) = lineAndRecords s :=
    lineAndRecords_ite rfl ((askRecompute_lineAndRecords _).trans (queueCaps_lineAndRecords _ _))
  have hfloor (u : State) : lineAndRecords (deriveFloor u) = lineAndRecords u := lineAndRecords_ite rfl rfl
  have hclaims (u : State) : lineAndRecords (deliverClaims u) = lineAndRecords u :=
    lineAndRecords_ite rfl (askRecompute_lineAndRecords _)
  exact (hclaims _).trans ((hfloor _).trans hmembers)

/-- A node that leaves (R118): the list without it, its address quarantined; the line and the records otherwise stay. -/
theorem nodeGone_lineAndRecords {quiet : Bool} {a : Addr} {n : Node} {s : State} (h : nodeAt s a = some n) :
    lineAndRecords (nodeGone quiet a s) = lineAndRecords { s with line := { s.line with
      nodes := s.line.nodes.filter (fun m => m.addr != a), quarantine := s.line.quarantine ++ [⟨a, 250⟩] } } := by
  have hgone (u : State) : lineAndRecords (refreshTools (deriveNozzle (askRecompute u))) = lineAndRecords u := by
    rw [refreshTools_lineAndRecords, deriveNozzle_lineAndRecords, askRecompute_lineAndRecords]
  unfold nodeGone
  rw [h]
  dsimp only
  refine lineAndRecords_ite ((raiseIf_lineAndRecords _ _ _).trans ?_) rfl
  exact lineAndRecords_ite (hgone _) (hgone _)

theorem nodeGone_nodes (quiet : Bool) (a : Addr) (s : State) :
    (nodeGone quiet a s).line.nodes = s.line.nodes.filter (fun m => m.addr != a) := by
  cases h : nodeAt s a with
  | none =>
    have hnone : nodeGone quiet a s = s := by rw [nodeGone, h]
    rw [hnone, eq_comm, List.filter_eq_self]
    intro m hm
    have := List.find?_eq_none.mp h m hm
    simpa using this
  | some n => exact (congrArg (·.1.nodes) (nodeGone_lineAndRecords h) :)

theorem removeNodes_nodes (quiet : Bool) (s : State) : (removeNodes quiet s).line.nodes = [] := by
  have hfold (l : List Addr) (s : State) :
      (l.foldl (fun s a => nodeGone quiet a s) s).line.nodes = s.line.nodes.filter (fun m => !l.contains m.addr) := by
    induction l generalizing s with
    | nil => simp
    | cons a l ih =>
      rw [List.foldl_cons, ih, nodeGone_nodes, List.filter_filter]
      congr 1
      funext m
      by_cases hm : m.addr = a <;> simp [hm]
  unfold removeNodes
  rw [hfold, List.filter_eq_nil_iff]
  intro m hm
  simpa using ⟨m, hm, rfl⟩

theorem nodeGone_line (quiet : Bool) (a : Addr) (s : State) : ∃ l q, lineAndRecords (nodeGone quiet a s)
    = lineAndRecords { s with line := { s.line with nodes := l, quarantine := q } } := by
  cases h : nodeAt s a with
  | none => exact ⟨s.line.nodes, s.line.quarantine, by rw [nodeGone, h]⟩
  | some n => exact ⟨_, _, nodeGone_lineAndRecords h⟩

/-- What the removal of every node leaves of the line and of the records. -/
theorem removeNodes_line (quiet : Bool) (s : State) : ∃ q, lineAndRecords (removeNodes quiet s)
    = lineAndRecords { s with line := { s.line with nodes := [], quarantine := q } } := by
  have hfold (l : List Addr) (s : State) : ∃ m q, lineAndRecords (l.foldl (fun s a => nodeGone quiet a s) s)
      = lineAndRecords { s with line := { s.line with nodes := m, quarantine := q } } := by
    induction l generalizing s with
    | nil => exact ⟨s.line.nodes, s.line.quarantine, rfl⟩
    | cons a l ih =>
      obtain ⟨m, q, hrest⟩ := ih (nodeGone quiet a s)
      obtain ⟨m', q', hgone⟩ := nodeGone_line quiet a s
      refine ⟨m, q, hrest.trans ?_⟩
      exact (congrArg (fun p : ToolLine × ToolTable => ({ p.1 with nodes := m, quarantine := q }, p.2)) hgone :)
  obtain ⟨m, q, h⟩ := hfold (s.line.nodes.map (·.addr)) s
  refine ⟨q, h.trans ?_⟩
  have hm : m = [] := (congrArg (·.1.nodes) h :).symm.trans (removeNodes_nodes quiet s)
  rw [hm]

theorem setTpwr_tpwr (l : Tpwr) (c : ReleaseCause) (s : State) : (setTpwr l c s).line.tpwr = l := by
  have hask (u : State) : (askRecompute u).line = u.line := by
    unfold askRecompute; split <;> rfl
  unfold setTpwr
  split
  · assumption
  · dsimp only
    rw [hask]
    split <;> split <;> simp [discardCaps, forcedRelease, hask]

/-- TPWR switched OFF (R126): the line is silent and holds no node. -/
theorem holdPower_line (s : State) : (holdPower s).line.tpwr = .off ∧ (holdPower s).line.nodes = [] := by
  have hfloor (u : State) : lineAndRecords (deriveFloor u) = lineAndRecords u := lineAndRecords_ite rfl rfl
  have hline := hfloor { clearTraffic (removeNodes false (clearTraffic (setTpwr .off .power s))) with
    line := { (clearTraffic (removeNodes false (clearTraffic (setTpwr .off .power s)))).line with quarantine := [] } }
  obtain ⟨q, hgone⟩ := removeNodes_line false (clearTraffic (setTpwr .off .power s))
  constructor
  · exact (congrArg (·.1.tpwr) hline :).trans ((congrArg (·.1.tpwr) hgone :).trans (setTpwr_tpwr _ _ _))
  · exact (congrArg (·.1.nodes) hline :).trans (removeNodes_nodes _ _)

/-! ## FAULT_CLEAR, READY and SLEEP (R59, R189, R18) -/

theorem conclude_drive {α : Type} (f : Drive → α) (hf : ∀ d : Drive, f d.lasting = f d) (s : State) :
    f (conclude s).drive = f s.drive := by
  rw [← hf, conclude_drive_lasting, hf]

/-- The drive after an entry to OFF, FAULT or LOCKED (R49, R78). -/
theorem enterRest_drive (new : MotorState) (s : State) : (enterRest new s).drive = { s.drive.stopTimers with
    state := new, pset := 0, bridge := .off, iMotor := none, pMeas := none, speed := none } := by
  have hleave := leaveAttachWait_besideDock (setActive false (deliver .motorSpeed noneMark (deliver .motorW noneMark
    { zeroSetPoint (changeState new s) with drive := { (zeroSetPoint (changeState new s)).drive with
      bridge := .off, iMotor := none, pMeas := none, speed := none } })))
  refine (congrArg State.drive hleave :).trans ?_
  rw [show ∀ u : State, (besideDock u).drive = u.drive from fun _ => rfl, setActive_drive, deliver_drive, deliver_drive]
  simp only [zeroSetPoint, changeState_drive]

end Sys2Proof.Machine
end

section
namespace Sys2Proof.Machine

variable {s : State}

/-- FAULT_CLEAR in its three forms (R59). -/
theorem exec_faultClear (tag : Byte) (hs : s.serves) (hsig : s.signals = []) :
    (s.drive.trig = true ∨ s.drive.state.atRest = false →
      exec (.faultClear tag) s = .next (conclude (replied 0x27 tag .refusedState [] s)))
    ∧ (s.drive.trig = false → s.drive.state.atRest = true → ∃ t, exec (.faultClear tag) s = .next t
      ∧ t.drive.trips = [] ∧ t.drive.tripCause = .none ∧ t.drive.tripCount = s.drive.tripCount
      ∧ (s.drive.state ≠ .locked → t.drive.state = s.drive.state)
      ∧ (s.drive.state = .locked → s.drive.startPending = false → t.drive.state = .off)) := by
  refine ⟨fun h => ask_of_answer 0x27 tag hs (a := refuse .refusedState s) ?_, fun htrig hrest => ?_⟩
  · rw [serveFaultClear, if_pos (by simpa using h)]
  · have hserve : serveFaultClear s = accept (clearFaults s) (u8 (clearFaults s).drive.state.ctorIdx) := by
      rw [serveFaultClear, if_neg (by simp [htrig, hrest])]
    refine ⟨_, ask_of_answer 0x27 tag hs hserve, ?_⟩
    have hcleared : (clearFaults s).drive.lasting = { s.drive with trips := [], tripCause := .none }.lasting := by
      unfold clearFaults
      dsimp only
      split
      · exact enterRest_drive_lasting _ _
      · rfl
    have hfield {α : Type} (f : Drive → α) (hf : ∀ d : Drive, f d.lasting = f d) (p : List Byte) :
        f (conclude (replied 0x27 tag .ok p (clearFaults s))).drive = f { s.drive with trips := [], tripCause := .none } := by
      rw [conclude_drive f hf, ← hf, ← hf { s.drive with trips := [], tripCause := .none }, ← hcleared]
      rfl
    refine ⟨hfield Drive.trips (fun _ => rfl) _, hfield Drive.tripCause (fun _ => rfl) _,
      hfield Drive.tripCount (fun _ => rfl) _, fun hlocked => ?_, fun hlocked hpending => ?_⟩
    · have hplain : clearFaults s = { s with drive := { s.drive with trips := [], tripCause := .none } } :=
        if_neg hlocked
      change (conclude (replied 0x27 tag .ok (u8 (clearFaults s).drive.state.ctorIdx) (clearFaults s))).drive.state = _
      rw [hplain, conclude_of_no_signals (by exact hsig), finish_drive, replied_drive]
    · have hoff : clearFaults s = enterRest .off { s with drive := { s.drive with trips := [], tripCause := .none } } :=
        if_pos hlocked
      have hdrive : (clearFaults s).drive.state = .off ∧ (clearFaults s).drive.startPending = false := by
        rw [hoff, enterRest_drive]
        exact ⟨rfl, hpending⟩
      have hrests : resting (replied 0x27 tag .ok (u8 (clearFaults s).drive.state.ctorIdx) (clearFaults s)).drive := by
        rw [replied_drive]
        exact ⟨by rw [hdrive.1]; rfl, fun hp => absurd hp (by simp [hdrive.2])⟩
      exact (conclude_restsOn hrests).state.trans hdrive.1

/-- READY (R189). -/
theorem exec_ready (tag : Byte) (hs : s.serves) :
    (s.host.configured = false → exec (.ready tag) s = .next (conclude (replied 0x05 tag .refusedState [] s)))
    ∧ (s.host.configured = true → s.host.ready = true →
        exec (.ready tag) s = .next (conclude (replied 0x05 tag .ok [] s)))
    ∧ (s.host.configured = true → s.host.ready = false →
        exec (.ready tag) s = .next (conclude (replied 0x05 tag .ok []
          (askRecompute { s with host := { s.host with ready := true } })))) := by
  refine ⟨fun hc => ?_, fun hc hr => ?_, fun hc hr => ?_⟩
  · exact ask_of_answer 0x05 tag hs (a := refuse .refusedState s) (by simp [serveReady, hc])
  · exact ask_of_answer 0x05 tag hs (a := accept s []) (by simp [serveReady, hc, hr])
  · exact ask_of_answer 0x05 tag hs (a := accept (askRecompute { s with host := { s.host with ready := true } }) [])
      (by simp [serveReady, hc, hr])

theorem maySleep_iff (s : State) : maySleep s = true ↔ s.drive.state.atRest = true ∧ s.drive.trig = false
    ∧ s.dock.state = .detached ∧ evacInProgress s = false := by
  simp [maySleep, and_assoc]

theorem conclude_requests (s : State) : (conclude s).host.requests = s.host.requests := by
  have hsettled : (settle s).host.lasting = s.host.lasting := settle_host_lasting s
  calc (conclude s).host.requests = (settle s).host.requests := by
        unfold conclude finish
        split
        · rfl
        · dsimp only
          split <;> rfl
    _ = s.host.requests := (congrArg HostLink.requests hsettled :)

/-- SLEEP (R18). -/
theorem exec_sleep (tag : Byte) (hs : s.serves) :
    (s.drive.state.atRest = false ∨ s.drive.trig = true ∨ s.dock.state ≠ .detached ∨ evacInProgress s = true →
        exec (.sleep tag) s = .next (conclude (replied 0x14 tag .refusedState [] s)))
    ∧ (s.drive.state.atRest = true → s.drive.trig = false → s.dock.state = .detached →
        evacInProgress s = false → ∃ t, exec (.sleep tag) s = .next t
          ∧ t.pack.power = .standby ∧ t.pack.round = some 1000 ∧ t.gov.step = none
          ∧ t.line.tpwr = .off ∧ t.line.nodes = [] ∧ t.pack.gauge = s.pack.gauge
          ∧ t.host.requests = s.host.requests ++ [⟨0x14, tag⟩]) := by
  constructor
  · intro h
    have hno : maySleep s = false := by
      rw [Bool.eq_false_iff, ne_eq, maySleep_iff]
      rintro ⟨hrest, htrig, hdock, hevac⟩
      rcases h with h | h | h | h <;> simp_all
    exact ask_of_answer 0x14 tag hs (a := refuse .refusedState s) (by simp [serveSleep, hno])
  · intro hrest htrig hdock hevac
    have hyes : maySleep s = true := (maySleep_iff s).mpr ⟨hrest, htrig, hdock, hevac⟩
    refine ⟨_, ask_of_answer 0x14 tag hs (a := accept (enterStandby s) []) (by simp [serveSleep, hyes]), ?_⟩
    obtain ⟨htpwr, hnodes⟩ := holdPower_line { s with
      pack := { s.pack with power := .standby, round := some 1000 }, gov := { s.gov with step := none } }
    have hbeside := holdPower_besideTools { s with
      pack := { s.pack with power := .standby, round := some 1000 }, gov := { s.gov with step := none } }
    have hpack : (conclude (replied 0x14 tag .ok [] (enterStandby s))).pack
        = { s.pack with power := .standby, round := some 1000 } := by
      rw [conclude_pack, replied_pack]
      exact (congrArg State.pack hbeside :)
    have hgov : (conclude (replied 0x14 tag .ok [] (enterStandby s))).gov.step = none := by
      have hlasting := conclude_gov_lasting (replied 0x14 tag .ok [] (enterStandby s))
      exact (congrArg Gov.step hlasting :).trans (congrArg (·.gov.step) hbeside :)
    have hlist : (conclude (replied 0x14 tag .ok [] (enterStandby s))).line.nodes = [] := by
      have hlasting := conclude_line_lasting (replied 0x14 tag .ok [] (enterStandby s))
      have hmap := (congrArg ToolLine.nodes hlasting :)
      simpa [ToolLine.lasting, show (enterStandby s).line.nodes = [] from hnodes] using hmap
    have hrequests : (enterStandby s).host.requests = s.host.requests := (congrArg (·.host.requests) hbeside :)
    refine ⟨(congrArg Pack.power hpack :), (congrArg Pack.round hpack :), hgov, conclude_tpwr_off htpwr, hlist,
      (congrArg Pack.gauge hpack :), ?_⟩
    rw [conclude_requests, ← hrequests]
    rfl

/-- Settles O50: each request is its serve function by its condition; a drive at rest stays so through the hand-overs,
and a silent line stays silent. -/
theorem theDriveTheLinkAndThePowerAreCommanded : Obligations.TheDriveTheLinkAndThePowerAreCommanded := by
  intro tag s hs hsig
  obtain ⟨hrefused, hcleared⟩ := exec_faultClear tag hs hsig
  obtain ⟨hnot, hagain, hready⟩ := exec_ready tag hs
  obtain ⟨hawake, hasleep⟩ := exec_sleep tag hs
  exact ⟨hrefused, hcleared, hnot, hagain, hready, hawake, hasleep⟩

end Sys2Proof.Machine
end

section
namespace Sys2Proof.Machine

variable {s t u : State}

/-! ## The dock's own record under the operations of the charge controller

`Dock.enter` and `Dock.send` are `setCharge` and `trySend` on the dock's record alone; the lemmas `…_dock` tie the
operations of the model to them. -/

/-- A change of charge state (R142, R152, R156). -/
def Dock.enter (c : ChargeState) (d : Dock) : Dock :=
  if d.state = c then d
  else { d with
    state := c, csw := d.csw && c.charges, iChg := if c.charges then d.iChg else 0
    bleed := if c = .taper ∨ c = .topped then d.bleed else [] }

/-- The exchange of a request that is being sent (R147). -/
def freshExchange (r : DockReq) : Exchange := ⟨r, 1, none, 0, false, .first, .sending, 0⟩

/-- A due request sent when the record is free (R148). -/
def Dock.send (d : Dock) : Dock :=
  if d.exch.isSome then d
  else if d.dueHalt then { d with dueHalt := false, exch := some (freshExchange .halt) }
  else
    match d.dueCharge, d.dueEvac with
    | some r, _ =>
      let d := { d with dueCharge := none, exch := some (freshExchange r) }
      if d.state = .paused ∧ d.pause = .offerChange then d.enter .negotiate else d
    | none, some n => { d with dueEvac := none, exch := some (freshExchange (.evacReq n)) }
    | none, none => d

/-- CSW open, the regulator off (R152). -/
def Dock.open (d : Dock) : Dock := { d with csw := false, iChg := 0 }

/-- Requests of the charging side cancelled, the agreement ended, a HALT due (R159 to R161). -/
def Dock.abandon (d : Dock) : Dock :=
  { d with
    agreement := none, dueCharge := none, exch := d.exch.filter (fun e => !e.req.isCharge)
    dueHalt := d.dueHalt || d.identTaken }

theorem setCharge_dock (c : ChargeState) (s : State) : (setCharge c s).dock = s.dock.enter c := by
  unfold setCharge Dock.enter
  split <;> rfl

theorem trySend_dock (s : State) : (trySend s).dock = s.dock.send := by
  unfold trySend Dock.send
  split
  · rfl
  · split
    · rfl
    · cases hcharge : s.dock.dueCharge with
      | some r =>
        dsimp only [startExchange]
        split
        · exact setCharge_dock _ _
        · rfl
      | none =>
        cases hevac : s.dock.dueEvac with
        | some n => simp [startExchange, freshExchange, hcharge]
        | none => rfl

theorem enterPause_dock (c : PauseCause) (s : State) :
    (enterPause c s).dock = ({ (s.dock.enter .paused).open with pause := c }.abandon).send := by
  rw [enterPause, trySend_dock]
  simp only [abandonCharge, makeHaltDue, cancelCharge, openSwitch, setCharge_dock]
  rfl

theorem enterNoOffer_dock (s : State) :
    (enterNoOffer s).dock = ({ (s.dock.enter .paused).open with pause := .noOffer, dueCharge := none }).send := by
  rw [enterNoOffer, trySend_dock]
  simp only [openSwitch, setCharge_dock]
  rfl

theorem enterChargeFault_dock (c : ChargeFault) (s : State) :
    (enterChargeFault c s).dock = ({ (s.dock.enter .fault).open with lastFault := c }.abandon).send := by
  rw [enterChargeFault, trySend_dock]
  simp only [raise, abandonCharge, makeHaltDue, cancelCharge, openSwitch, setCharge_dock]
  rfl

theorem enterDisabled_dock (s : State) : (enterDisabled s).dock = ((s.dock.enter .disabled).open.abandon).send := by
  rw [enterDisabled, trySend_dock]
  simp only [abandonCharge, makeHaltDue, cancelCharge, openSwitch, setCharge_dock]
  rfl

theorem enterIdentify_dock_of_free (h : s.watch.pauseOrder = false) : (enterIdentify s).dock =
    ({ ({ s.dock with resume := none, taper := none } : Dock).enter .identify with dueCharge := some .hello }).send := by
  unfold enterIdentify
  dsimp only
  rw [if_neg (by simp [h]), trySend_dock, setCharge_dock]

theorem enterIdentify_of_order (h : s.watch.pauseOrder = true) :
    enterIdentify s = enterPause .watch { s with dock := { s.dock with resume := none, taper := none } } := by
  unfold enterIdentify
  dsimp only
  rw [if_pos h]

/-! ## Changes of state and requests sent, field by field -/

@[simp] theorem Dock.enter_state (c : ChargeState) (d : Dock) : (d.enter c).state = c := by
  unfold Dock.enter
  split
  · assumption
  · rfl

/-- What a change of charge state leaves of the record. -/
theorem Dock.enter_keeps {α : Type} (f : Dock → α)
    (hf : ∀ (d : Dock) st sw i b, f { d with state := st, csw := sw, iChg := i, bleed := b } = f d) (c : ChargeState)
    (d : Dock) : f (d.enter c) = f d := by
  unfold Dock.enter
  split
  · rfl
  · exact hf d _ _ _ _

theorem Dock.enter_of_ne {c : ChargeState} {d : Dock} (h : d.state ≠ c) : d.enter c = { d with
    state := c, csw := d.csw && c.charges, iChg := if c.charges then d.iChg else 0
    bleed := if c = .taper ∨ c = .topped then d.bleed else [] } := if_neg h

theorem Dock.send_of_busy {d : Dock} (h : d.exch.isSome = true) : d.send = d := if_pos h

theorem Dock.send_of_halt {d : Dock} (h : d.exch = none) (hd : d.dueHalt = true) :
    d.send = { d with dueHalt := false, exch := some (freshExchange .halt) } := by
  rw [Dock.send, if_neg (by simp [h]), if_pos hd]

theorem Dock.send_of_charge {d : Dock} {r : DockReq} (h : d.exch = none) (hd : d.dueHalt = false)
    (hc : d.dueCharge = some r) (hp : ¬(d.state = .paused ∧ d.pause = .offerChange)) :
    d.send = { d with dueCharge := none, exch := some (freshExchange r) } := by
  rw [Dock.send, if_neg (by simp [h]), if_neg (by simp [hd]), hc]
  exact if_neg hp

theorem Dock.send_of_changed {d : Dock} {r : DockReq} (h : d.exch = none) (hd : d.dueHalt = false)
    (hc : d.dueCharge = some r) (hs : d.state = .paused) (hp : d.pause = .offerChange) :
    d.send = Dock.enter .negotiate { d with dueCharge := none, exch := some (freshExchange r) } := by
  rw [Dock.send, if_neg (by simp [h]), if_neg (by simp [hd]), hc]
  exact if_pos ⟨hs, hp⟩

theorem Dock.send_of_evac {d : Dock} {n : Nat} (h : d.exch = none) (hd : d.dueHalt = false) (hc : d.dueCharge = none)
    (he : d.dueEvac = some n) : d.send = { d with dueEvac := none, exch := some (freshExchange (.evacReq n)) } := by
  rw [Dock.send, if_neg (by simp [h]), if_neg (by simp [hd]), hc, he]

theorem Dock.send_of_none {d : Dock} (hd : d.dueHalt = false) (hc : d.dueCharge = none) (he : d.dueEvac = none) :
    d.send = d := by
  unfold Dock.send
  split
  · rfl
  · rw [if_neg (by simp [hd]), hc, he]

/-- What the sending of a due request leaves of the record, whatever the state. -/
theorem Dock.send_keeps {α : Type} (f : Dock → α)
    (hq : ∀ (d : Dock) e h c n, f { d with exch := e, dueHalt := h, dueCharge := c, dueEvac := n } = f d)
    (hf : ∀ (d : Dock) st sw i b, f { d with state := st, csw := sw, iChg := i, bleed := b } = f d) (d : Dock) :
    f d.send = f d := by
  unfold Dock.send
  split
  · rfl
  · split
    · exact hq d _ _ d.dueCharge d.dueEvac
    · split
      · dsimp only
        split
        · exact (Dock.enter_keeps f hf _ _).trans (hq d _ d.dueHalt _ d.dueEvac)
        · exact hq d _ d.dueHalt _ d.dueEvac
      · exact hq d _ d.dueHalt d.dueCharge _
      · rfl

/-- What the sending of a due request leaves of the record outside a pause for changed offers. -/
theorem Dock.send_stays {α : Type} (f : Dock → α)
    (hq : ∀ (d : Dock) e h c n, f { d with exch := e, dueHalt := h, dueCharge := c, dueEvac := n } = f d) {d : Dock}
    (hp : ¬(d.state = .paused ∧ d.pause = .offerChange)) : f d.send = f d := by
  unfold Dock.send
  split
  · rfl
  · split
    · exact hq d _ _ d.dueCharge d.dueEvac
    · split
      · dsimp only
        rw [if_neg hp]
        exact hq d _ d.dueHalt _ d.dueEvac
      · exact hq d _ d.dueHalt d.dueCharge _
      · rfl

end Sys2Proof.Machine
end

section
namespace Sys2Proof.Machine

variable {s t u : State}

/-! ## Entries to the charge states (R149, R157 to R161) -/

theorem hasEvent_raise_ne {e f : Event} (h : e.ctorIdx ≠ f.ctorIdx) (s : State) :
    hasEvent e (raise f s) = hasEvent e s := by
  simp [hasEvent, raise, eventBit, BitVec.getLsbD_twoPow, h.symm]

theorem hasEvent_setCharge_ne {e : Event} (h : e.ctorIdx ≠ Event.chargeState.ctorIdx) (c : ChargeState) (s : State) :
    hasEvent e (setCharge c s) = hasEvent e s := by
  unfold setCharge
  split
  · rfl
  · rw [hasEvent_raise_ne h]
    rfl

theorem hasEvent_trySend_ne {e : Event} (h : e.ctorIdx ≠ Event.chargeState.ctorIdx) (s : State) :
    hasEvent e (trySend s) = hasEvent e s := by
  unfold trySend
  split
  · rfl
  · split
    · rfl
    · split
      · dsimp only
        split
        · exact hasEvent_setCharge_ne h _ _
        · rfl
      · rfl
      · rfl

theorem Dock.send_dueCharge {d : Dock} (h : d.dueCharge = none) : d.send.dueCharge = none := by
  unfold Dock.send
  split
  · exact h
  · split
    · exact h
    · cases he : d.dueEvac <;> simp [h]

/-- A HELLO sent at once when the record is free (R148). -/
theorem Dock.send_hello {d : Dock} (h : d.exch = none) (hd : d.dueHalt = false) (hc : d.dueCharge = some .hello)
    (hp : ¬(d.state = .paused ∧ d.pause = .offerChange)) : d.send.exch = some (freshExchange .hello) := by
  rw [Dock.send_of_charge h hd hc hp]

/-- Entry to PAUSED for TEMP or WATCH (R159). -/
theorem enterPause_facts {c : PauseCause} (hc : c ≠ .offerChange) (s : State) :
    (enterPause c s).dock.state = .paused ∧ (enterPause c s).dock.pause = c ∧ (enterPause c s).dock.csw = false
      ∧ (enterPause c s).dock.agreement = none ∧ (enterPause c s).dock.dueCharge = none := by
  have hno : ¬(({ (s.dock.enter .paused).open with pause := c } : Dock).abandon.state = .paused
      ∧ ({ (s.dock.enter .paused).open with pause := c } : Dock).abandon.pause = .offerChange) := fun h => hc h.2
  rw [enterPause_dock]
  refine ⟨?_, ?_, ?_, ?_, Dock.send_dueCharge rfl⟩
  · exact (Dock.send_stays Dock.state (fun _ _ _ _ _ => rfl) hno).trans (s.dock.enter_state .paused)
  · exact Dock.send_stays Dock.pause (fun _ _ _ _ _ => rfl) hno
  · exact Dock.send_stays Dock.csw (fun _ _ _ _ _ => rfl) hno
  · exact Dock.send_stays Dock.agreement (fun _ _ _ _ _ => rfl) hno

/-- Entry to FAULT (R160). -/
theorem enterChargeFault_facts (c : ChargeFault) (s : State) :
    (enterChargeFault c s).dock.state = .fault ∧ (enterChargeFault c s).dock.lastFault = c
      ∧ (enterChargeFault c s).dock.csw = false ∧ (enterChargeFault c s).dock.iChg = 0
      ∧ (enterChargeFault c s).dock.agreement = none ∧ hasEvent .chargeFault (enterChargeFault c s) = true := by
  have hstate : ({ (s.dock.enter .fault).open with lastFault := c } : Dock).abandon.state = .fault :=
    s.dock.enter_state .fault
  have hno : ¬(({ (s.dock.enter .fault).open with lastFault := c } : Dock).abandon.state = .paused
      ∧ ({ (s.dock.enter .fault).open with lastFault := c } : Dock).abandon.pause = .offerChange) := by
    rw [hstate]
    exact fun h => nomatch h.1
  have hevent : hasEvent .chargeFault (enterChargeFault c s) = true := by
    rw [enterChargeFault, hasEvent_trySend_ne (by decide), hasEvent_raise]
  rw [enterChargeFault_dock]
  exact ⟨(Dock.send_stays Dock.state (fun _ _ _ _ _ => rfl) hno).trans hstate,
    Dock.send_stays Dock.lastFault (fun _ _ _ _ _ => rfl) hno, Dock.send_stays Dock.csw (fun _ _ _ _ _ => rfl) hno,
    Dock.send_stays Dock.iChg (fun _ _ _ _ _ => rfl) hno, Dock.send_stays Dock.agreement (fun _ _ _ _ _ => rfl) hno, hevent⟩

/-- Entry to IDENTIFY without a pause order (R149): a HELLO is due, and is sent when the record is free. -/
theorem enterIdentify_facts (h : s.watch.pauseOrder = false) :
    (enterIdentify s).dock.state = .identify ∧ (s.dock.csw = false → (enterIdentify s).dock.csw = false)
      ∧ (s.dock.state ≠ .identify → (enterIdentify s).dock.csw = false)
      ∧ (enterIdentify s).dock.agreement = s.dock.agreement
      ∧ (s.dock.exch = none → s.dock.dueHalt = false → (enterIdentify s).dock.exch = some (freshExchange .hello))
      ∧ (s.dock.exch.isSome = true → (enterIdentify s).dock.exch = s.dock.exch
          ∧ (enterIdentify s).dock.dueCharge = some .hello)
      ∧ (s.dock.exch = none → s.dock.dueHalt = true → (enterIdentify s).dock.exch = some (freshExchange .halt)
          ∧ (enterIdentify s).dock.dueCharge = some .hello) := by
  obtain ⟨e, he⟩ : ∃ e, e = { (({ s.dock with resume := none, taper := none } : Dock).enter .identify) with
    dueCharge := some .hello } := ⟨_, rfl⟩
  have hdock : (enterIdentify s).dock = e.send := he ▸ enterIdentify_dock_of_free h
  have hstate : e.state = .identify := he ▸ Dock.enter_state _ _
  have hno : ¬(e.state = .paused ∧ e.pause = .offerChange) := by
    rw [hstate]
    exact fun h => nomatch h.1
  have hkept {α : Type} (f : Dock → α) (hf : ∀ (d : Dock) st sw i b, f { d with
      state := st, csw := sw, iChg := i, bleed := b } = f d) (hr : ∀ (d : Dock) r x c, f { d with
      resume := r, taper := x, dueCharge := c } = f d) : f e = f s.dock := by
    have hinner := Dock.enter_keeps f hf .identify { s.dock with resume := none, taper := none }
    rw [he]
    exact (hr (Dock.enter .identify { s.dock with resume := none, taper := none }) _ _ _).trans
      (hinner.trans (hr s.dock none none _))
  have hexch : e.exch = s.dock.exch := hkept Dock.exch (fun _ _ _ _ _ => rfl) fun _ _ _ _ => rfl
  have hhalt : e.dueHalt = s.dock.dueHalt := hkept Dock.dueHalt (fun _ _ _ _ _ => rfl) fun _ _ _ _ => rfl
  have hagree : e.agreement = s.dock.agreement := hkept Dock.agreement (fun _ _ _ _ _ => rfl) fun _ _ _ _ => rfl
  have hdue : e.dueCharge = some .hello := he ▸ rfl
  have hstays {α : Type} (f : Dock → α) (hq : ∀ (d : Dock) e h c n, f { d with
      exch := e, dueHalt := h, dueCharge := c, dueEvac := n } = f d) : f (enterIdentify s).dock = f e := by
    rw [hdock]
    exact Dock.send_stays f hq hno
  have hcsw : (enterIdentify s).dock.csw = e.csw := hstays Dock.csw fun _ _ _ _ _ => rfl
  refine ⟨(hstays Dock.state fun _ _ _ _ _ => rfl).trans hstate, fun hopen => ?_, fun hne => ?_,
    (hstays Dock.agreement fun _ _ _ _ _ => rfl).trans hagree, fun hfree hnone => ?_, fun hbusy => ?_, fun hfree hset => ?_⟩
  · rw [hcsw, he]
    simp only [Dock.enter]
    split <;> simp [hopen]
  · have henter := Dock.enter_of_ne (c := .identify) (d := { s.dock with resume := none, taper := none }) hne
    rw [hcsw, he, henter]
    simp [ChargeState.charges]
  · rw [hdock, Dock.send_hello (hexch.trans hfree) (hhalt.trans hnone) hdue hno]
  · rw [hdock, Dock.send_of_busy (hexch ▸ hbusy)]
    exact ⟨hexch, hdue⟩
  · rw [hdock, Dock.send_of_halt (hexch.trans hfree) (hhalt.trans hset)]
    exact ⟨rfl, hdue⟩

/-- An entry to a charge state leaves the charge period and the total timer. -/
theorem Dock.entry_clock (c : ChargeState) (d : Dock) {g : Dock → Dock}
    (hg : ∀ d : Dock, (g d).period = d.period ∧ (g d).total = d.total) :
    (g (d.enter c)).send.period = d.period ∧ (g (d.enter c)).send.total = d.total := by
  have hperiod := Dock.send_keeps Dock.period (fun _ _ _ _ _ => rfl) (fun _ _ _ _ _ => rfl) (g (d.enter c))
  have htotal := Dock.send_keeps Dock.total (fun _ _ _ _ _ => rfl) (fun _ _ _ _ _ => rfl) (g (d.enter c))
  rw [hperiod, htotal, (hg _).1, (hg _).2]
  exact ⟨Dock.enter_keeps Dock.period (fun _ _ _ _ _ => rfl) c d, Dock.enter_keeps Dock.total (fun _ _ _ _ _ => rfl) c d⟩

/-- The first state of R144 that applies, as ATTACH_WAIT is left (R144, R161). -/
theorem leaveAttachWait_facts (hstate : s.dock.state = .attachWait) (hattach : s.dock.attach = .attached)
    (hrest : s.drive.state.atRest = true) : let t := leaveAttachWait s
    t.dock.period = some 1000 ∧ t.dock.total = 0
      ∧ t.dock.state = (if s.dock.disabled then .disabled else if s.pack.overvolt then .fault
          else if s.watch.pauseOrder then .paused else .identify)
      ∧ (t.dock.state = .fault → t.dock.lastFault = .cellOv ∧ hasEvent .chargeFault t = true)
      ∧ (t.dock.state = .paused → t.dock.pause = .watch)
      ∧ (t.dock.state = .identify → s.dock.exch = none → s.dock.dueHalt = false →
          t.dock.exch = some (freshExchange .hello)) := by
  intro t
  let u : State := { s with dock := { s.dock with period := some 1000, total := 0, lastFullLimit := false } }
  have ht : t = if s.dock.disabled then setCharge .disabled u else if s.pack.overvolt then enterChargeFault .cellOv u
      else if s.watch.pauseOrder then enterPause .watch u else enterIdentify u := if_pos ⟨hstate, hattach, hrest⟩
  by_cases hdis : s.dock.disabled
  · rw [if_pos hdis] at ht
    have hd : t.dock = u.dock.enter .disabled := ht ▸ setCharge_dock _ _
    have hs : t.dock.state = .disabled := hd ▸ Dock.enter_state _ _
    rw [if_pos hdis, hs, hd]
    exact ⟨Dock.enter_keeps Dock.period (fun _ _ _ _ _ => rfl) _ _, Dock.enter_keeps Dock.total (fun _ _ _ _ _ => rfl) _ _,
      rfl, nofun, nofun, nofun⟩
  rw [if_neg hdis] at ht ⊢
  by_cases hov : s.pack.overvolt
  · rw [if_pos hov] at ht ⊢
    obtain ⟨hs, hlast, -, -, -, hevent⟩ := enterChargeFault_facts .cellOv u
    obtain ⟨hperiod, htotal⟩ := Dock.entry_clock .fault u.dock (g := fun d => { d.open with lastFault := .cellOv }.abandon)
      fun _ => ⟨rfl, rfl⟩
    rw [← enterChargeFault_dock] at hperiod htotal
    rw [ht, hs]
    exact ⟨hperiod, htotal, rfl, fun _ => ⟨hlast, hevent⟩, nofun, nofun⟩
  rw [if_neg hov] at ht ⊢
  by_cases hpause : s.watch.pauseOrder
  · rw [if_pos hpause] at ht ⊢
    obtain ⟨hs, hp, -, -, -⟩ := enterPause_facts (c := .watch) (by decide) u
    obtain ⟨hperiod, htotal⟩ := Dock.entry_clock .paused u.dock (g := fun d => { d.open with pause := .watch }.abandon)
      fun _ => ⟨rfl, rfl⟩
    rw [← enterPause_dock] at hperiod htotal
    rw [ht, hs]
    exact ⟨hperiod, htotal, rfl, nofun, fun _ => hp, nofun⟩
  · rw [if_neg hpause] at ht ⊢
    have hfree : u.watch.pauseOrder = false := Bool.eq_false_iff.mpr hpause
    obtain ⟨hs, -, -, -, hhello, -, -⟩ := enterIdentify_facts hfree
    obtain ⟨hperiod, htotal⟩ := Dock.entry_clock .identify { u.dock with resume := none, taper := none }
      (g := fun d => { d with dueCharge := some .hello }) fun _ => ⟨rfl, rfl⟩
    rw [← enterIdentify_dock_of_free hfree] at hperiod htotal
    rw [ht, hs]
    exact ⟨hperiod, htotal, rfl, nofun, nofun, fun _ => hhello⟩

end Sys2Proof.Machine
end

section
namespace Sys2Proof.Machine

variable {s : State}

/-! ## CHARGE_FORCE (R161) -/

/-- A request answered by work on the dock alone, in a quiet state. -/
theorem ask_of_besideDock {f : State → Answer} (kind tag : Byte) (hs : s.serves) (hq : s.quiet)
    (hbeside : besideDock (f s).state = besideDock s) :
    ask kind tag f s = .next (replied kind tag (f s).status (f s).payload (f s).state) := by
  have hsignals : (f s).state.signals = [] := (congrArg State.signals hbeside :).trans hq.1
  have hfence : (f s).state.host.fence = none := (congrArg (·.host.fence) hbeside :).trans hq.2
  have hquiet : (replied kind tag (f s).status (f s).payload (f s).state).quiet := ⟨hsignals, hfence⟩
  rw [ask_of_serves kind tag f s hs, conclude_of_quiet _ hquiet]

theorem disables_iff (c : ChargeState) : c.disables = true ↔
    c ≠ .detached ∧ c ≠ .attachWait ∧ c ≠ .disabled ∧ c ≠ .fault := by
  cases c <;> simp [ChargeState.disables]

/-- What an entry to DISABLED leaves of the dock (R161, R148). -/
theorem enterDisabled_facts (hne : s.dock.state ≠ .disabled) :
    (enterDisabled s).dock.state = .disabled ∧ (enterDisabled s).dock.csw = false ∧ (enterDisabled s).dock.bleed = []
      ∧ (enterDisabled s).dock.agreement = none ∧ (enterDisabled s).dock.dueCharge = none
      ∧ (enterDisabled s).dock.disabled = s.dock.disabled ∧ (enterDisabled s).dock.lastFault = s.dock.lastFault
      ∧ (s.dock.identTaken = true →
          ((∀ e, s.dock.exch = some e → e.req.isCharge = true) →
            (enterDisabled s).dock.exch = some (freshExchange .halt) ∧ (enterDisabled s).dock.dueHalt = false)
          ∧ (∀ e, s.dock.exch = some e → e.req.isCharge = false →
            (enterDisabled s).dock.exch = some e ∧ (enterDisabled s).dock.dueHalt = true)) := by
  obtain ⟨d, hd⟩ : ∃ d, d = (s.dock.enter .disabled).open.abandon := ⟨_, rfl⟩
  have hdock : (enterDisabled s).dock = d.send := hd ▸ enterDisabled_dock s
  rw [Dock.enter_of_ne hne] at hd
  have hno : ¬(d.state = .paused ∧ d.pause = .offerChange) := by
    rw [hd]
    exact fun h => nomatch h.1
  have hstays {α : Type} (f : Dock → α) (hq : ∀ (d : Dock) e h c n, f { d with
      exch := e, dueHalt := h, dueCharge := c, dueEvac := n } = f d) : f (enterDisabled s).dock = f d := by
    rw [hdock]
    exact Dock.send_stays f hq hno
  refine ⟨?_, ?_, ?_, ?_, ?_, ?_, ?_, fun htaken => ⟨fun hcharge => ?_, fun e he hother => ?_⟩⟩
  · rw [hstays Dock.state fun _ _ _ _ _ => rfl, hd]
    rfl
  · rw [hstays Dock.csw fun _ _ _ _ _ => rfl, hd]
    rfl
  · rw [hstays Dock.bleed fun _ _ _ _ _ => rfl, hd]
    rfl
  · rw [hstays Dock.agreement fun _ _ _ _ _ => rfl, hd]
    rfl
  · rw [hdock]
    exact Dock.send_dueCharge (hd ▸ rfl)
  · rw [hstays Dock.disabled fun _ _ _ _ _ => rfl, hd]
    rfl
  · rw [hstays Dock.lastFault fun _ _ _ _ _ => rfl, hd]
    rfl
  · have hfree : d.exch = none := by
      rw [hd]
      change s.dock.exch.filter _ = none
      cases he : s.dock.exch with
      | none => rfl
      | some e => simp [hcharge e he]
    have hdue : d.dueHalt = true := by
      rw [hd]
      change (s.dock.dueHalt || s.dock.identTaken) = true
      rw [htaken, Bool.or_true]
    rw [hdock, Dock.send_of_halt hfree hdue]
    exact ⟨rfl, rfl⟩
  · have hbusy : d.exch = some e := by
      rw [hd]
      change s.dock.exch.filter _ = some e
      simp [he, hother]
    have hdue : d.dueHalt = true := by
      rw [hd]
      change (s.dock.dueHalt || s.dock.identTaken) = true
      rw [htaken, Bool.or_true]
    rw [hdock, Dock.send_of_busy (by simp [hbusy])]
    exact ⟨hbusy, hdue⟩

theorem hasEvent_enterDisabled_ne {e : Event} (h : e.ctorIdx ≠ Event.chargeState.ctorIdx) (s : State) :
    hasEvent e (enterDisabled s) = hasEvent e s := by
  rw [enterDisabled, hasEvent_trySend_ne h]
  exact hasEvent_setCharge_ne h .disabled s

/-- CHARGE_FORCE DISABLE. -/
theorem exec_forceDisable (tag : Byte) (hs : s.serves) (hq : s.quiet) :
    ∃ t, exec (.chargeForceDisable tag) s = .next t ∧ t.dock.disabled = true
      ∧ (s.dock.state = .detached ∨ s.dock.state = .attachWait ∨ s.dock.state = .disabled
            ∨ s.dock.state = .fault → t.dock = { s.dock with disabled := true })
      ∧ (s.dock.state ≠ .detached → s.dock.state ≠ .attachWait → s.dock.state ≠ .fault →
          t.dock.state = .disabled ∧ (s.dock.state ≠ .disabled →
            t.dock.csw = false ∧ t.dock.bleed = [] ∧ t.dock.agreement = none
              ∧ t.dock.dueCharge = none
              ∧ (s.dock.identTaken = true →
                  ((∀ e, s.dock.exch = some e → e.req.isCharge = true) →
                    t.dock.exch = some ⟨.halt, 1, none, 0, false, .first, .sending, 0⟩ ∧ t.dock.dueHalt = false)
                  ∧ (∀ e, s.dock.exch = some e → e.req.isCharge = false →
                    t.dock.exch = some e ∧ t.dock.dueHalt = true))))
      ∧ t.dock.lastFault = s.dock.lastFault
      ∧ hasEvent .chargeFault t = hasEvent .chargeFault s := by
  have hstate : (serveForceDisable s).state = if s.dock.state.disables = true
      then enterDisabled { s with dock := { s.dock with disabled := true } }
      else { s with dock := { s.dock with disabled := true } } := rfl
  have hbeside : besideDock (serveForceDisable s).state = besideDock s := by
    rw [hstate]
    exact besideDock_ite (enterDisabled_besideDock _) rfl
  refine ⟨_, ask_of_besideDock 0x43 tag hs hq hbeside, ?_⟩
  rw [replied_dock, show ∀ p u, hasEvent .chargeFault (replied 0x43 tag (serveForceDisable s).status p u)
    = hasEvent .chargeFault u from fun _ _ => rfl, hstate]
  by_cases hacts : s.dock.state.disables = true
  · rw [if_pos hacts]
    rw [disables_iff] at hacts
    obtain ⟨hdet, hwait, hdis, hfault⟩ := hacts
    obtain ⟨hst, hcsw, hbleed, hagree, hdue, hdisabled, hlast, hhalt⟩ :=
      enterDisabled_facts (s := { s with dock := { s.dock with disabled := true } }) hdis
    refine ⟨hdisabled, fun h => ?_, fun _ _ _ => ⟨hst, fun _ => ⟨hcsw, hbleed, hagree, hdue, hhalt⟩⟩, hlast,
      hasEvent_enterDisabled_ne (by decide) _⟩
    rcases h with h | h | h | h <;> contradiction
  · rw [if_neg hacts]
    have hdis (h1 : s.dock.state ≠ .detached) (h2 : s.dock.state ≠ .attachWait) (h3 : s.dock.state ≠ .fault) :
        s.dock.state = .disabled := by
      by_contra h4
      exact hacts ((disables_iff _).mpr ⟨h1, h2, h4, h3⟩)
    exact ⟨rfl, fun _ => rfl, fun h1 h2 h3 => ⟨hdis h1 h2 h3, fun h4 => absurd (hdis h1 h2 h3) h4⟩, rfl, rfl⟩

/-- CHARGE_FORCE ENABLE. -/
theorem exec_forceEnable (tag : Byte) (hs : s.serves) (hq : s.quiet) :
    ∃ t, exec (.chargeForceEnable tag) s = .next t ∧ t.dock.disabled = false
      ∧ (s.dock.state ≠ .disabled → t.dock = { s.dock with disabled := false })
      ∧ (s.dock.state = .disabled → s.watch.pauseOrder = false → t.dock.state = .identify)
      ∧ (s.dock.state = .disabled → s.watch.pauseOrder = true → t.dock.state = .paused ∧ t.dock.pause = .watch
          ∧ t.dock.csw = false ∧ t.dock.agreement = none ∧ t.dock.dueCharge = none) := by
  have hstate : (serveForceEnable s).state = if s.dock.state = .disabled
      then enterIdentify { s with dock := { s.dock with disabled := false } }
      else { s with dock := { s.dock with disabled := false } } := rfl
  have hbeside : besideDock (serveForceEnable s).state = besideDock s := by
    rw [hstate]
    exact besideDock_ite (enterIdentify_besideDock _) rfl
  refine ⟨_, ask_of_besideDock 0x43 tag hs hq hbeside, ?_⟩
  rw [replied_dock, hstate]
  by_cases hdis : s.dock.state = .disabled
  · rw [if_pos hdis]
    cases hpause : s.watch.pauseOrder with
    | false =>
      have hfree : ({ s with dock := { s.dock with disabled := false } } : State).watch.pauseOrder = false := hpause
      refine ⟨?_, fun h => absurd hdis h, fun _ _ => (enterIdentify_facts hfree).1, nofun⟩
      rw [enterIdentify_dock_of_free hfree]
      exact (Dock.send_keeps Dock.disabled (fun _ _ _ _ _ => rfl) (fun _ _ _ _ _ => rfl) _).trans
        (Dock.enter_keeps Dock.disabled (fun _ _ _ _ _ => rfl) _ _)
    | true =>
      rw [enterIdentify_of_order (s := { s with dock := { s.dock with disabled := false } }) hpause]
      refine ⟨?_, fun h => absurd hdis h, nofun, fun _ _ => enterPause_facts (by decide) _⟩
      rw [enterPause_dock]
      exact (Dock.send_keeps Dock.disabled (fun _ _ _ _ _ => rfl) (fun _ _ _ _ _ => rfl) _).trans
        (Dock.enter_keeps Dock.disabled (fun _ _ _ _ _ => rfl) _ _)
  · rw [if_neg hdis]
    exact ⟨rfl, fun _ => rfl, fun h => absurd h hdis, fun h => absurd h hdis⟩

/-- CHARGE_FORCE RECOVER. -/
theorem exec_forceRecover (tag : Byte) (hs : s.serves) (hq : s.quiet) :
    (s.dock.state ≠ .fault →
        exec (.chargeForceRecover tag) s = .next (replied 0x43 tag .refusedState [] s))
    ∧ (s.dock.state = .fault → s.drive.state.atRest = true → ∃ t,
        exec (.chargeForceRecover tag) s = .next t
        ∧ t.dock.total = 0 ∧ t.dock.period = some 1000
        ∧ t.dock.state = (if s.dock.disabled then .disabled else if s.pack.overvolt then .fault
            else if s.watch.pauseOrder then .paused else .identify)) := by
  constructor
  · intro hfault
    have hserve : serveForceRecover s = refuse .refusedState s := if_neg hfault
    have hask := ask_of_besideDock (f := serveForceRecover) 0x43 tag hs hq (by rw [hserve]; rfl)
    rw [hserve] at hask
    exact hask
  · intro hfault hrest
    obtain ⟨u, hu⟩ : ∃ u : State, u = { setCharge .attachWait s with
      dock := { (setCharge .attachWait s).dock with attach := .attached, total := 0 } } := ⟨_, rfl⟩
    have hserve : serveForceRecover s = accept (leaveAttachWait u) (u8 2) := hu ▸ if_pos hfault
    have hside : besideDock u = besideDock s := hu ▸ setCharge_besideDock .attachWait s
    have hask := ask_of_besideDock (f := serveForceRecover) 0x43 tag hs hq (by
      rw [hserve]
      exact (leaveAttachWait_besideDock u).trans hside)
    rw [hserve] at hask
    refine ⟨_, hask, ?_⟩
    have hdock : u.dock = { s.dock.enter .attachWait with attach := .attached, total := 0 } := by
      rw [hu, ← setCharge_dock]
    have hstate : u.dock.state = .attachWait := by
      rw [hdock]
      exact Dock.enter_state _ _
    have hdrive : u.drive = s.drive := (congrArg State.drive hside :)
    have hpack : u.pack = s.pack := (congrArg State.pack hside :)
    have hwatch : u.watch = s.watch := (congrArg State.watch hside :)
    have hdisabled : u.dock.disabled = s.dock.disabled := by
      rw [hdock]
      exact Dock.enter_keeps Dock.disabled (fun _ _ _ _ _ => rfl) _ _
    obtain ⟨hperiod, htotal, hfirst, -, -, -⟩ := leaveAttachWait_facts hstate (by rw [hdock]) (hdrive ▸ hrest)
    rw [hdisabled, hpack, hwatch] at hfirst
    exact ⟨htotal, hperiod, hfirst⟩

theorem renegotiates_iff (c : ChargeState) : c.renegotiates = true ↔ c.charges = true ∨ c = .topped ∨ c = .paused := by
  cases c <;> simp [ChargeState.renegotiates, ChargeState.charges]

/-- CHARGE_FORCE RENEGOTIATE. -/
theorem exec_forceRenegotiate (tag : Byte) (hs : s.serves) (hq : s.quiet) :
    (s.dock.state = .detached ∨ s.dock.state = .attachWait ∨ s.dock.state = .identify
          ∨ s.dock.state = .negotiate ∨ s.dock.state = .disabled ∨ s.dock.state = .fault →
        exec (.chargeForceRenegotiate tag) s = .next (replied 0x43 tag .refusedState [] s))
    ∧ (s.dock.state.charges = true ∨ s.dock.state = .topped ∨ s.dock.state = .paused →
        (s.dock.exch.isSome →
          exec (.chargeForceRenegotiate tag) s = .next (replied 0x43 tag .busy [] s))
        ∧ (s.dock.exch = none → s.watch.pauseOrder = false → ∃ t,
            exec (.chargeForceRenegotiate tag) s = .next t
            ∧ t.dock.state = .identify ∧ t.dock.csw = false ∧ t.dock.agreement = none
            ∧ (s.dock.identTaken = true → t.dock.exch.map (·.req) = some .halt
                ∧ t.dock.dueCharge = some .hello))
        ∧ (s.dock.exch = none → s.watch.pauseOrder = true → ∃ t,
            exec (.chargeForceRenegotiate tag) s = .next t
            ∧ t.dock.state = .paused ∧ t.dock.pause = .watch ∧ t.dock.csw = false ∧ t.dock.agreement = none
            ∧ t.dock.dueCharge = none
            ∧ (s.dock.identTaken = true → t.dock.exch.map (·.req) = some .halt))) := by
  have hplain (a : Answer) (hserve : serveForceRenegotiate s = a) (hbeside : besideDock a.state = besideDock s) :
      exec (.chargeForceRenegotiate tag) s = .next (replied 0x43 tag a.status a.payload a.state) := by
    subst hserve
    exact ask_of_besideDock (f := serveForceRenegotiate) 0x43 tag hs hq hbeside
  refine ⟨fun h => ?_, fun h => ?_⟩
  · have hno : s.dock.state.renegotiates = false := by
      rcases h with h | h | h | h | h | h <;> rw [h] <;> rfl
    exact hplain (refuse .refusedState s) (by simp [serveForceRenegotiate, hno]) rfl
  · have hyes := (renegotiates_iff _).mpr h
    let u := makeHaltDue { openSwitch s with dock := { (openSwitch s).dock with agreement := none, dueCharge := none } }
    have hserve (hfree : s.dock.exch = none) : serveForceRenegotiate s = accept (enterIdentify u) (u8 3) := by
      simp [serveForceRenegotiate, hyes, hfree, u]
    have hdue (h : s.dock.identTaken = true) : u.dock.dueHalt = true := by
      change (s.dock.dueHalt || s.dock.identTaken) = true
      rw [h, Bool.or_true]
    refine ⟨fun hbusy => hplain (refuse .busy s) (by simp [serveForceRenegotiate, hyes, hbusy]) rfl,
      fun hfree hpause => ?_, fun hfree hpause => ?_⟩
    · refine ⟨_, hplain _ (hserve hfree) (enterIdentify_besideDock u), ?_⟩
      obtain ⟨hstate, hcsw, -, hagree, -, -, hhalt⟩ := enterIdentify_facts (s := u) hpause
      refine ⟨hstate, hcsw rfl, hagree, fun htaken => ?_⟩
      obtain ⟨hexch, hhello⟩ := hhalt hfree (hdue htaken)
      refine ⟨?_, hhello⟩
      change (enterIdentify u).dock.exch.map _ = _
      rw [hexch]
      rfl
    · refine ⟨_, hplain _ (hserve hfree) (enterIdentify_besideDock u), ?_⟩
      change (enterIdentify u).dock.state = _ ∧ (enterIdentify u).dock.pause = _ ∧ (enterIdentify u).dock.csw = _
        ∧ (enterIdentify u).dock.agreement = _ ∧ (enterIdentify u).dock.dueCharge = _
        ∧ (_ → (enterIdentify u).dock.exch.map _ = _)
      rw [enterIdentify_of_order (s := u) hpause]
      obtain ⟨hst, hp, hcsw, hagree, hcharge⟩ := enterPause_facts (c := .watch) (by decide)
        { u with dock := { u.dock with resume := none, taper := none } }
      refine ⟨hst, hp, hcsw, hagree, hcharge, fun htaken => ?_⟩
      have hexch : (Dock.enter .paused { u.dock with resume := none, taper := none }).exch = none :=
        (Dock.enter_keeps Dock.exch (fun _ _ _ _ _ => rfl) _ _).trans hfree
      have hhalt : (Dock.enter .paused { u.dock with resume := none, taper := none }).dueHalt = true :=
        (Dock.enter_keeps Dock.dueHalt (fun _ _ _ _ _ => rfl) _ _).trans (hdue htaken)
      rw [enterPause_dock, Dock.send_of_halt]
      · rfl
      · change Option.filter _ (Dock.enter .paused _).exch = none
        rw [hexch]
        rfl
      · change ((Dock.enter .paused _).dueHalt || _) = true
        rw [hhalt]
        rfl

/-- Settles O51: each choice is work on the dock alone, so that in a quiet state nothing follows it. -/
theorem chargingIsForced : Obligations.ChargingIsForced := by
  intro tag s hs hq
  obtain ⟨hrefused, hrecovered⟩ := exec_forceRecover tag hs hq
  obtain ⟨hnot, hanew⟩ := exec_forceRenegotiate tag hs hq
  exact ⟨exec_forceDisable tag hs hq, exec_forceEnable tag hs hq, hrefused, hrecovered, hnot, hanew⟩

end Sys2Proof.Machine
end

section
namespace Sys2Proof.Machine

variable {s t u : State}

/-! ## EVAC_START (R167) -/

theorem evacDuration_eq (e : Evac) (d : Byte) :
    evacDuration e d = if d = 0 then e.setting else max 3 (min 15 d.toNat) := by
  unfold evacDuration
  rw [clampByte_eq (by decide)]

/-- An evacuation started (R165). -/
theorem startEvac_facts (c : EvacTrigger) (n : Nat) (s : State) :
    (startEvac c n s).evac = { s.evac with
        state := .requested, trigger := c, duration := n, binPct := s.dirt.bin * 100 / s.dirt.capacity
        outcome := .none, reason := none, confirmed := false }
      ∧ (startEvac c n s).dock = ({ s.dock with dueEvac := some n } : Dock).send := by
  unfold startEvac
  rw [trySend_evac, trySend_dock]
  exact ⟨rfl, rfl⟩

theorem exec_evacStart (tag d : Byte) (hs : s.serves) :
    let docked := s.dock.state ≠ .detached ∧ s.dock.state ≠ .attachWait
    let able := ∃ i, s.dock.identity = some i ∧ i.support = true
    (¬docked ∨ ¬able →
      exec (.evacStart tag d) s = .next (conclude (replied 0x49 tag .refusedState [] s)))
    ∧ (docked → able → evacInProgress s = true ∨ s.dock.exch.isSome →
        exec (.evacStart tag d) s = .next (conclude (replied 0x49 tag .busy [] s)))
    ∧ (docked → able → evacInProgress s = false → s.dock.exch = none →
        ∃ t n, exec (.evacStart tag d) s = .next t
          ∧ n = (if d = 0 then s.evac.setting else max 3 (min 15 d.toNat))
          ∧ t.evac = { s.evac with
              state := .requested, trigger := .host, duration := n
              binPct := s.dirt.bin * 100 / s.dirt.capacity
              outcome := .none, reason := none, confirmed := false }
          ∧ (s.signals = [] → s.dock.dueHalt = false → s.dock.dueCharge = none →
              t.dock.exch = some ⟨.evacReq n, 1, none, 0, false, .first, .sending, 0⟩)) := by
  intro docked able
  have hundocked (h : ¬docked) : s.dock.state = .detached ∨ s.dock.state = .attachWait := by
    by_contra hc
    exact h ⟨fun h1 => hc (.inl h1), fun h2 => hc (.inr h2)⟩
  have hable : able ↔ s.dock.identity.any (·.support) = true := by
    rw [Option.any_eq_true]
  have hdock (h : docked) : ¬(s.dock.state = .detached ∨ s.dock.state = .attachWait) :=
    fun hc => hc.elim h.1 h.2
  refine ⟨fun h => ?_, fun hd ha h => ?_, fun hd ha hevac hexch => ?_⟩
  · refine ask_of_answer 0x49 tag hs (a := refuse .refusedState s) ?_
    by_cases hd : docked
    · have hno : s.dock.identity.any (·.support) = false :=
        Bool.eq_false_iff.mpr fun hc => h.elim (fun h => h hd) fun h => h (hable.mpr hc)
      rw [serveEvacStart, if_neg (hdock hd), hno]
      rfl
    · rw [serveEvacStart, if_pos (hundocked hd)]
  · refine ask_of_answer 0x49 tag hs (a := refuse .busy s) ?_
    rw [serveEvacStart, if_neg (hdock hd), hable.mp ha, Bool.not_true, if_neg (by decide)]
    rcases h with h | h
    · rw [if_pos h]
    · rw [if_pos h]
      split <;> rfl
  · have hserve : serveEvacStart d s = accept (startEvac .host (evacDuration s.evac d) s)
        (evacRecord (startEvac .host (evacDuration s.evac d) s).evac) := by
      rw [serveEvacStart, if_neg (hdock hd), hable.mp ha, Bool.not_true, if_neg (by decide), hevac, if_neg (by decide),
        hexch]
      rfl
    obtain ⟨hrecord, hsent⟩ := startEvac_facts .host (evacDuration s.evac d) s
    refine ⟨_, _, ask_of_answer 0x49 tag hs hserve, evacDuration_eq _ _, ?_, fun hsig hhalt hcharge => ?_⟩
    · rw [conclude_evac, replied_evac]
      exact hrecord
    · have hquiet (p : List Byte) :
          (replied 0x49 tag .ok p (startEvac .host (evacDuration s.evac d) s)).signals = [] := by
        have hbeside : besideDock (startEvac .host (evacDuration s.evac d) s)
            = besideDock (evacStartRecord .host (evacDuration s.evac d) s) := trySend_besideDock _
        exact (congrArg State.signals hbeside :).trans hsig
      have hdockeq (p : List Byte) : (conclude (replied 0x49 tag .ok p (startEvac .host (evacDuration s.evac d) s))).dock
          = (startEvac .host (evacDuration s.evac d) s).dock := by
        rw [conclude_of_no_signals (hquiet p), finish_dock, replied_dock]
      have hexchange := hdockeq (evacRecord (startEvac .host (evacDuration s.evac d) s).evac)
      rw [hsent, Dock.send_of_evac (d := { s.dock with dueEvac := some (evacDuration s.evac d) }) hexch hhalt hcharge rfl]
        at hexchange
      exact (congrArg Dock.exch hexchange :)

/-! ## EVAC_STATUS and the completion timer (R169, R105, R158) -/

theorem evacReport_eq_none {st reason : Byte} (h : 3 ≤ st.toNat ∨ (st = 2 ∧ (reason = 0 ∨ 4 ≤ reason.toNat))) :
    evacReport st reason = none := by
  unfold evacReport
  rcases h with h | ⟨rfl, h⟩
  · have h0 : st ≠ 0 := by rintro rfl; simp at h
    have h1 : st ≠ 1 := by rintro rfl; simp at h
    have h2 : st ≠ 2 := by rintro rfl; simp at h
    rw [if_neg h0, if_neg h1, if_neg h2]
  · have h1 : reason ≠ 1 := by rintro rfl; simp at h
    have h2 : reason ≠ 2 := by rintro rfl; simp at h
    have h3 : reason ≠ 3 := by rintro rfl; simp at h
    rw [if_neg (by decide), if_neg (by decide), if_pos rfl, if_neg h1, if_neg h2, if_neg h3]

theorem evacReported_dock (r : EvacReport) (s : State) : (evacReported r s).dock = s.dock := by
  unfold evacReported
  split
  · cases r with
    | running => rfl
    | done => simp [emptyBin, evalFull, deliverBin, endEvac]
    | failed o => rfl
  · rfl

/-- The bin emptied (R105). -/
theorem emptyBin_facts (s : State) : (emptyBin s).dirt.bin = 0 ∧ (emptyBin s).dirt.sat = s.dirt.sat
    ∧ (emptyBin s).dirt.full = decide (s.dirt.fullPct ≤ 0) := by
  simp [emptyBin, deliverBin, evalFull, binPct]

theorem takesNotices_iff (s : State) :
    takesNotices s = true ↔ s.dock.state ≠ .detached ∧ s.dock.state ≠ .attachWait := by
  simp [takesNotices]

theorem takeEvacStatus_of_report {st reason : Byte} {r : EvacReport} (hr : evacReport st reason = some r)
    (h : s.dock.state ≠ .detached) (h' : s.dock.state ≠ .attachWait) :
    takeEvacStatus st reason s = dockTalks (evacReported r s) := by
  rw [takeEvacStatus, if_pos ((takesNotices_iff s).mpr ⟨h, h'⟩), hr]

theorem dockTalks_of_ne (h : s.dock.state ≠ .coarse) : dockTalks s = s := if_neg h

/-- A report in RUNNING (R169, R105). -/
theorem evacReported_running (h : s.evac.state = .running) :
    evacReported .running s = { s with evac := { s.evac with confirmed := true } } := if_pos h

theorem evacReported_failed (o : EvacOutcome) (h : s.evac.state = .running) : evacReported (.failed o) s
    = raise .evacEnd { s with evac := { s.evac with state := .failed, outcome := o, timer := none } } := if_pos h

theorem evacReported_done (h : s.evac.state = .running) : evacReported .done s = emptyBin (raise .evacEnd { s with
    evac := { s.evac with state := .done, outcome := .done, timer := none } }) := if_pos h

theorem evacReported_of_not_running (r : EvacReport) (h : s.evac.state ≠ .running) : evacReported r s = s := if_neg h

theorem emptyBin_evac (s : State) : (emptyBin s).evac = s.evac := by
  simp [emptyBin, deliverBin, evalFull]

theorem emptyBin_event {e : Event} (h : hasEvent e s = true) : hasEvent e (emptyBin s) = true := by
  unfold emptyBin deliverBin evalFull
  dsimp only
  exact deliver_keeps _ _ _ _ (raiseIf_keeps _ _ _ _ h)

/-- The end by a report of success (R169, R105). -/
theorem evacReported_done_facts (h : s.evac.state = .running) :
    (evacReported .done s).evac = { s.evac with state := .done, outcome := .done, timer := none }
      ∧ (evacReported .done s).dirt.bin = 0 ∧ (evacReported .done s).dirt.sat = s.dirt.sat
      ∧ (evacReported .done s).dirt.full = decide (s.dirt.fullPct ≤ 0)
      ∧ hasEvent .evacEnd (evacReported .done s) = true := by
  rw [evacReported_done h]
  obtain ⟨hbin, hsat, hfull⟩ := emptyBin_facts (raise .evacEnd { s with
    evac := { s.evac with state := .done, outcome := .done, timer := none } })
  exact ⟨emptyBin_evac _, hbin, hsat, hfull, emptyBin_event (hasEvent_raise _ _)⟩

theorem exec_evacStatus {st reason : Byte} {r : EvacReport} (hs : s.powered) (hr : evacReport st reason = some r)
    (h : s.dock.state ≠ .detached) (h' : s.dock.state ≠ .attachWait) (hc : s.dock.state ≠ .coarse) :
    exec (.evacStatus st reason) s = .next (conclude (evacReported r s)) := by
  have htalks : dockTalks (evacReported r s) = evacReported r s :=
    dockTalks_of_ne (by rw [evacReported_dock]; exact hc)
  have hexec := event_of_powered (takeEvacStatus st reason) s hs
  rw [takeEvacStatus_of_report hr h h', htalks] at hexec
  exact hexec

/-- The dock's report in RUNNING, outside COARSE. -/
theorem exec_evacStatus_running (reason : Byte) (hs : s.powered) (h : s.dock.state ≠ .detached)
    (h' : s.dock.state ≠ .attachWait) (hc : s.dock.state ≠ .coarse) (hrun : s.evac.state = .running) :
    exec (.evacStatus 0 reason) s = .next (conclude { s with evac := { s.evac with confirmed := true } })
      ∧ (∃ t, exec (.evacStatus 1 reason) s = .next t
        ∧ t.evac = { s.evac with state := .done, outcome := .done, timer := none }
        ∧ hasEvent .evacEnd t = true ∧ t.dirt.bin = 0 ∧ t.dirt.sat = s.dirt.sat
        ∧ (binLaw s → t.dirt.full = false))
      ∧ (∀ o, (reason = 1 ∧ o = .clog) ∨ (reason = 2 ∧ o = .door) ∨ (reason = 3 ∧ o = .timeout) →
        exec (.evacStatus 2 reason) s = .next (conclude (raise .evacEnd { s with
          evac := { s.evac with state := .failed, outcome := o, timer := none } }))) := by
  refine ⟨?_, ⟨_, exec_evacStatus hs (r := .done) rfl h h' hc, ?_⟩, fun o ho => ?_⟩
  · rw [exec_evacStatus hs (r := .running) rfl h h' hc, evacReported_running hrun]
  · obtain ⟨hevac, hbin, hsat, hfull, hevent⟩ := evacReported_done_facts hrun
    refine ⟨(conclude_evac _).trans hevac, conclude_keeps _ _ hevent, (conclude_dirt Dirt.bin (fun _ => rfl) _).trans hbin,
      (conclude_dirt Dirt.sat (fun _ => rfl) _).trans hsat, fun hlaw => ?_⟩
    rw [conclude_dirt Dirt.full (fun _ => rfl), hfull, decide_eq_false_iff_not]
    have := hlaw.2.1
    omega
  · have hreport : evacReport 2 reason = some (.failed o) := by
      rcases ho with ⟨rfl, rfl⟩ | ⟨rfl, rfl⟩ | ⟨rfl, rfl⟩ <;> rfl
    rw [exec_evacStatus hs hreport h h' hc, evacReported_failed o hrun]

/-- A report that is discarded (R146, R169, R194). -/
theorem exec_evacStatus_discarded {st reason : Byte} (hs : s.powered) (h : takeEvacStatus st reason s = s) :
    exec (.evacStatus st reason) s = .next (conclude s) := by
  have hexec := event_of_powered (takeEvacStatus st reason) s hs
  rw [h] at hexec
  exact hexec

theorem takeEvacStatus_not_running (st reason : Byte) (h : s.evac.state ≠ .running) (hc : s.dock.state ≠ .coarse) :
    takeEvacStatus st reason s = s := by
  unfold takeEvacStatus
  split
  · cases evacReport st reason with
    | none => rfl
    | some r =>
      change dockTalks (evacReported r s) = s
      rw [evacReported_of_not_running r h, dockTalks_of_ne hc]
  · rfl

theorem takeEvacStatus_discards {st reason : Byte} (h : s.dock.state = .detached ∨ s.dock.state = .attachWait
    ∨ 3 ≤ st.toNat ∨ (st = 2 ∧ (reason = 0 ∨ 4 ≤ reason.toNat))) : takeEvacStatus st reason s = s := by
  unfold takeEvacStatus
  rcases h with h | h | h
  · rw [if_neg (by simp [takesNotices, h])]
  · rw [if_neg (by simp [takesNotices, h])]
  · rw [evacReport_eq_none h]
    split <;> rfl

theorem hasEvent_setCharge {c : ChargeState} (h : s.dock.state ≠ c) : hasEvent .chargeState (setCharge c s) = true := by
  rw [setCharge, if_neg h]
  exact hasEvent_raise _ _

theorem enterPause_event (c : PauseCause) (h : s.dock.state ≠ .paused) :
    hasEvent .chargeState (enterPause c s) = true := by
  unfold enterPause
  exact trySend_keeps _ _ (abandonCharge_keeps _ _ (hasEvent_setCharge h))

theorem enterIdentify_event (h : s.dock.state ≠ .paused) (h' : s.dock.state ≠ .identify) :
    hasEvent .chargeState (enterIdentify s) = true := by
  unfold enterIdentify
  dsimp only
  split
  · exact enterPause_event .watch h
  · exact trySend_keeps _ _ (hasEvent_setCharge (s := { s with dock := { s.dock with resume := none, taper := none } }) h')

theorem Dock.enter_current {c : ChargeState} {d : Dock} (h : d.iChg = 0) : (d.enter c).iChg = 0 := by
  unfold Dock.enter
  split
  · exact h
  · simp [h]

theorem Dock.send_current {d : Dock} (h : d.iChg = 0) : d.send.iChg = 0 := by
  unfold Dock.send
  split
  · exact h
  · split
    · exact h
    · cases hc : d.dueCharge with
      | none => cases hn : d.dueEvac <;> exact h
      | some r =>
        dsimp only
        split
        · exact Dock.enter_current h
        · exact h

/-- The end of COARSE when the dock talks (R158). -/
theorem dockTalks_facts (h : s.dock.state = .coarse) : (dockTalks s).dock.csw = false ∧ (dockTalks s).dock.iChg = 0
    ∧ hasEvent .chargeState (dockTalks s) = true
    ∧ (s.watch.pauseOrder = false → (dockTalks s).dock.state = .identify
        ∧ (s.dock.exch = none → s.dock.dueHalt = false → (dockTalks s).dock.exch = some (freshExchange .hello))
        ∧ (s.dock.exch = none → s.dock.dueHalt = true → (dockTalks s).dock.exch = some (freshExchange .halt)
            ∧ (dockTalks s).dock.dueCharge = some .hello)
        ∧ (s.dock.exch.isSome = true → (dockTalks s).dock.exch = s.dock.exch
            ∧ (dockTalks s).dock.dueCharge = some .hello))
    ∧ (s.watch.pauseOrder = true → (dockTalks s).dock.state = .paused ∧ (dockTalks s).dock.pause = .watch) := by
  have htalks : dockTalks s = enterIdentify (openSwitch s) := if_pos h
  have hevent : hasEvent .chargeState (enterIdentify (openSwitch s)) = true := by
    refine enterIdentify_event ?_ ?_
    · exact fun hp => nomatch (h.symm.trans hp)
    · exact fun hp => nomatch (h.symm.trans hp)
  rw [htalks]
  cases hpause : s.watch.pauseOrder with
  | false =>
    have hfree : (openSwitch s).watch.pauseOrder = false := hpause
    obtain ⟨hstate, hcsw, -, -, hhello, hbusy, hhalt⟩ := enterIdentify_facts hfree
    have hoff : (enterIdentify (openSwitch s)).dock.iChg = 0 := by
      rw [enterIdentify_dock_of_free hfree]
      exact Dock.send_current (Dock.enter_current rfl)
    exact ⟨hcsw rfl, hoff, hevent, fun _ => ⟨hstate, hhello, hhalt, hbusy⟩, nofun⟩
  | true =>
    rw [enterIdentify_of_order (s := openSwitch s) hpause] at hevent ⊢
    obtain ⟨hstate, hp, hcsw, -, -⟩ := enterPause_facts (c := .watch) (by decide)
      { openSwitch s with dock := { (openSwitch s).dock with resume := none, taper := none } }
    refine ⟨hcsw, ?_, hevent, nofun, fun _ => ⟨hstate, hp⟩⟩
    rw [enterPause_dock]
    exact Dock.send_current rfl

theorem dockTalks_besideDock (s : State) : besideDock (dockTalks s) = besideDock s :=
  besideDock_ite (enterIdentify_besideDock _) rfl

theorem dockTalks_keeps {e : Event} (h : hasEvent e s = true) : hasEvent e (dockTalks s) = true := by
  unfold dockTalks
  split
  · exact enterIdentify_keeps _ _ h
  · exact h

theorem evacReported_watch (r : EvacReport) (s : State) : (evacReported r s).watch = s.watch := by
  unfold evacReported
  split
  · cases r with
    | running => rfl
    | done => simp [emptyBin, evalFull, deliverBin, endEvac, raiseIf_watch]
    | failed o => rfl
  · rfl

/-- An EVAC_STATUS in COARSE (R146, R158, R159, R169). -/
theorem takeEvacStatus_coarse {st reason : Byte} (h : s.dock.state = .coarse)
    (hst : st = 0 ∨ st = 1 ∨ (st = 2 ∧ 1 ≤ reason.toNat ∧ reason.toNat ≤ 3)) :
    let u := takeEvacStatus st reason s
    u.dock.csw = false ∧ u.dock.iChg = 0 ∧ hasEvent .chargeState u = true
      ∧ (s.watch.pauseOrder = false → u.dock.state = .identify
          ∧ (s.dock.exch = none → s.dock.dueHalt = false →
              u.dock.exch = some ⟨.hello, 1, none, 0, false, .first, .sending, 0⟩))
      ∧ (s.watch.pauseOrder = true → u.dock.state = .paused ∧ u.dock.pause = .watch)
      ∧ (s.evac.state ≠ .running → u.evac = s.evac ∧ u.dirt = s.dirt)
      ∧ (s.evac.state = .running →
          (st = 0 → u.evac = { s.evac with confirmed := true } ∧ u.dirt = s.dirt)
          ∧ (st = 1 → u.evac = { s.evac with state := .done, outcome := .done, timer := none }
              ∧ u.dirt.bin = 0 ∧ u.dirt.sat = s.dirt.sat ∧ hasEvent .evacEnd u = true)
          ∧ (st = 2 → u.evac = { s.evac with
                state := .failed, timer := none
                outcome := if reason = 1 then .clog else if reason = 2 then .door else .timeout }
              ∧ u.dirt = s.dirt ∧ hasEvent .evacEnd u = true)) := by
  intro u
  have hreports : ∃ r, evacReport st reason = some r ∧ (st = 0 → r = .running) ∧ (st = 1 → r = .done)
      ∧ (st = 2 → r = .failed (if reason = 1 then .clog else if reason = 2 then .door else .timeout)) := by
    rcases hst with rfl | rfl | ⟨rfl, hlow, hhigh⟩
    · exact ⟨.running, rfl, fun _ => rfl, nofun, nofun⟩
    · exact ⟨.done, rfl, nofun, fun _ => rfl, nofun⟩
    · have hthree : reason = 1 ∨ reason = 2 ∨ reason = 3 := by
        have : reason.toNat = 1 ∨ reason.toNat = 2 ∨ reason.toNat = 3 := by omega
        exact this.imp BitVec.eq_of_toNat_eq (Or.imp BitVec.eq_of_toNat_eq BitVec.eq_of_toNat_eq)
      rcases hthree with rfl | rfl | rfl
      · exact ⟨_, rfl, nofun, nofun, fun _ => rfl⟩
      · exact ⟨_, rfl, nofun, nofun, fun _ => rfl⟩
      · exact ⟨_, rfl, nofun, nofun, fun _ => rfl⟩
  obtain ⟨r, hr, hrun, hdone, hfail⟩ := hreports
  have hu : u = dockTalks (evacReported r s) := takeEvacStatus_of_report hr (by rw [h]; decide) (by rw [h]; decide)
  have hdock := evacReported_dock r s
  have hwatch := evacReported_watch r s
  have hevac : u.evac = (evacReported r s).evac := hu ▸ (congrArg State.evac (dockTalks_besideDock _) :)
  have hdirt : u.dirt = (evacReported r s).dirt := hu ▸ (congrArg State.dirt (dockTalks_besideDock _) :)
  have hevent (h : hasEvent .evacEnd (evacReported r s) = true) : hasEvent .evacEnd u = true :=
    hu ▸ dockTalks_keeps h
  obtain ⟨hcsw, hoff, hstate, hfree, hpause⟩ := dockTalks_facts (s := evacReported r s) (hdock ▸ h)
  rw [← hu, hdock, hwatch] at *
  refine ⟨hcsw, hoff, hstate, fun hp => ⟨(hfree hp).1, (hfree hp).2.1⟩, hpause, fun hne => ?_, fun hin =>
    ⟨fun h0 => ?_, fun h1 => ?_, fun h2 => ?_⟩⟩
  · rw [hevac, hdirt, evacReported_of_not_running r hne]
    exact ⟨rfl, rfl⟩
  · rw [hevac, hdirt, hrun h0, evacReported_running hin]
    exact ⟨rfl, rfl⟩
  · obtain ⟨hrecord, hbin, hsat, -, hended⟩ := evacReported_done_facts hin
    rw [hdone h1] at hevac hdirt hevent
    exact ⟨hevac.trans hrecord, by rw [hdirt, hbin], by rw [hdirt, hsat], hevent hended⟩
  · rw [hfail h2, evacReported_failed _ hin] at hevac hdirt hevent
    exact ⟨hevac, hdirt, hevent (hasEvent_raise _ _)⟩

theorem exec_evacCompletionExpiry (hs : s.powered) (hrun : s.evac.state = .running) (htimer : s.evac.timer.isSome) :
    exec .evacCompletionExpiry s = .next (conclude (raise .evacEnd { s with
      evac := { s.evac with state := .failed, outcome := .noReply, timer := none } })) := by
  have hexec := event_of_powered completionMissed s hs
  rw [show completionMissed s = endEvac .failed .noReply s from if_pos ⟨hrun, htimer⟩] at hexec
  exact hexec

/-- Settles O52: the answers of EVAC_START by its conditions in order, and each report through what it does to the
record, with the end of COARSE beside it. -/
theorem anEvacuationStartsAndEnds : Obligations.AnEvacuationStartsAndEnds := by
  refine ⟨fun tag d _ hs => exec_evacStart tag d hs, fun reason s hs => ⟨fun h h' hc hrun =>
    exec_evacStatus_running reason hs h h' hc hrun, fun st hrun hc => ?_, fun st h => ?_, fun st hc hst => ?_,
    fun hrun htimer => exec_evacCompletionExpiry hs hrun htimer⟩⟩
  · exact exec_evacStatus_discarded hs (takeEvacStatus_not_running st reason hrun hc)
  · exact exec_evacStatus_discarded hs (takeEvacStatus_discards h)
  · exact ⟨event_of_powered (takeEvacStatus st reason) s hs, takeEvacStatus_coarse hc hst⟩

end Sys2Proof.Machine
end

section
namespace Sys2Proof.Machine

variable {s t u : State}

/-! ## Stop orders and limits: what they write to the drive, the dock and the events -/

theorem reachOff_drive (s : State) : (reachOff s).drive = { s.drive.stopTimers with
    state := .off, pset := 0, bridge := .off, iMotor := none, pMeas := none, speed := none } := by
  have hrest := enterRest_drive .off s
  unfold reachOff
  dsimp only
  split
  · exact hrest
  · exact hrest

/-- The drive after an entry to STOPPING (R51, R52). -/
theorem enterStopping_drive (c : StopCause) (s : State) : (enterStopping c s).drive =
    if s.drive.state = .arming ∨ s.drive.state = .align then { s.drive.stopTimers with
      state := .off, stopCause := c, pset := 0, bridge := .off, iMotor := none, pMeas := none, speed := none }
    else { s.drive.stopTimers with state := .stopping, stopCause := c, pset := 0, bridge := .braking } := by
  unfold enterStopping
  dsimp only
  split
  · rw [reachOff_drive]
    simp only [zeroSetPoint, changeState_drive]
    rfl
  · simp only [zeroSetPoint, changeState_drive]
    rfl

theorem stopOrder_of_drives (c : StopCause) (h : s.drive.state.drives = true) : stopOrder c s = enterStopping c s :=
  if_pos h

theorem stopOrder_stopCause (c : StopCause) (h : s.drive.state.drives = true) :
    (stopOrder c s).drive.stopCause = c := by
  rw [stopOrder_of_drives c h, enterStopping_drive]
  split <;> rfl

theorem stopOrder_ceiling (c : StopCause) (s : State) : (stopOrder c s).drive.ceiling = s.drive.ceiling := by
  unfold stopOrder
  split
  · rw [enterStopping_drive]
    split <;> rfl
  · rfl

/-- A stop order in RUN or SPINUP (R51, R52). -/
theorem stopOrder_of_turns (c : StopCause) (h : s.drive.state = .run ∨ s.drive.state = .spinup) :
    (stopOrder c s).drive
      = { s.drive.stopTimers with state := .stopping, stopCause := c, pset := 0, bridge := .braking } := by
  have hdrives : s.drive.state.drives = true := by rcases h with h | h <;> rw [h] <;> rfl
  have hturns : ¬(s.drive.state = .arming ∨ s.drive.state = .align) := by
    rcases h with h | h <;> rw [h] <;> decide
  rw [stopOrder_of_drives c hdrives, enterStopping_drive, if_neg hturns]

theorem leaveAttachWait_of_ne (h : s.dock.state ≠ .attachWait) : leaveAttachWait s = s :=
  if_neg fun hc => h hc.1

theorem leaveRun_dock (s : State) : (leaveRun s).dock = s.dock := by
  have hstack (st : List StackEntry) (u : State) : (setStack st u).dock = u.dock := by
    obtain ⟨l, h⟩ := setStack_writes st u
    rw [h]
  have hrest (u : State) : (loadRest u).dock = u.dock := by
    have hpop (u : State) : (clearPop u).dock = u.dock := by
      unfold clearPop
      split
      · exact hstack _ _
      · rfl
    unfold loadRest
    dsimp only
    split
    · exact hpop u
    · rfl
  unfold leaveRun dirtRunExit zeroLevel
  dsimp only
  rw [deliver_dock, raiseIf_dock]
  exact hrest s

theorem changeState_dock (new : MotorState) (s : State) : (changeState new s).dock = s.dock := by
  unfold changeState
  dsimp only
  split
  · exact leaveRun_dock _
  · rfl

/-- An entry to OFF, FAULT or LOCKED leaves a dock that does not wait for it (R144). -/
theorem enterRest_dock (new : MotorState) (h : s.dock.state ≠ .attachWait) : (enterRest new s).dock = s.dock := by
  have hset (b : Bool) (u : State) : (setActive b u).dock = u.dock :=
    dock_of_besideTools (setActive_besideTools b u)
  have hdock : (setActive false (deliver .motorSpeed noneMark (deliver .motorW noneMark
      { zeroSetPoint (changeState new s) with drive := { (zeroSetPoint (changeState new s)).drive with
        bridge := .off, iMotor := none, pMeas := none, speed := none } }))).dock = s.dock := by
    rw [hset, deliver_dock, deliver_dock]
    exact changeState_dock new s
  unfold enterRest
  dsimp only
  rw [leaveAttachWait_of_ne (by rw [hdock]; exact h)]
  exact hdock

theorem reachOff_dock (h : s.dock.state ≠ .attachWait) : (reachOff s).dock = s.dock := by
  have hrest := enterRest_dock .off h
  unfold reachOff
  dsimp only
  split
  · exact hrest
  · exact hrest

theorem stopOrder_dock (c : StopCause) (h : s.dock.state ≠ .attachWait) : (stopOrder c s).dock = s.dock := by
  have hstopping (u : State) (hu : u.dock = s.dock) : (zeroSetPoint (changeState .stopping u)).dock = s.dock :=
    (changeState_dock .stopping u).trans hu
  unfold stopOrder
  split
  · unfold enterStopping
    dsimp only
    split
    · have hdock := hstopping { s with drive := { s.drive with stopCause := c } } rfl
      exact (reachOff_dock fun hc => h ((congrArg Dock.state hdock).symm.trans hc)).trans hdock
    · exact hstopping _ rfl
  · rfl

theorem stopOrder_grant (c : StopCause) (s : State) : (stopOrder c s).gov.grant = s.gov.grant :=
  (congrArg (·.gov.grant) (stopOrder_besideMotor c s) :)

theorem stopOrder_watch (c : StopCause) (s : State) : (stopOrder c s).watch = s.watch :=
  (congrArg State.watch (stopOrder_besideMotor c s) :)

/-- A change of grant or derate leaves the dock, the events, the hand-overs and the watches. -/
theorem limitSetPoint_dock (s : State) : (limitSetPoint s).dock = s.dock := by
  unfold limitSetPoint; split <;> rfl

theorem limitSetPoint_host (s : State) : (limitSetPoint s).host = s.host := by
  unfold limitSetPoint; split <;> rfl

theorem limitSetPoint_signals (s : State) : (limitSetPoint s).signals = s.signals := by
  unfold limitSetPoint; split <;> rfl

theorem limitSetPoint_ceiling (s : State) :
    (limitSetPoint s).drive.ceiling = s.gov.grant * s.watch.derate / 100 := by
  unfold limitSetPoint; split <;> rfl

theorem pauseOrderChanged_signals (on : Bool) (s : State) : (pauseOrderChanged on s).signals = s.signals :=
  (congrArg State.signals (pauseOrderChanged_besideDock on s) :)

/-- The results as they are handed on (R177): the limits first, then the pause order. -/
theorem handWatch_eq (s : State) : ∃ v w : State,
    v = { s with watch := { s.watch with
      derate := derateInForce s.watch.recs.toList, pauseOrder := pauseOrdered s.watch.recs.toList } }
    ∧ w = (if derateInForce s.watch.recs.toList = s.watch.derate then v else limitSetPoint v)
    ∧ handWatch s = (if pauseOrdered s.watch.recs.toList = s.watch.pauseOrder then w
        else pauseOrderChanged (pauseOrdered s.watch.recs.toList) w) := ⟨_, _, rfl, rfl, rfl⟩

theorem handWatch_signals (s : State) : (handWatch s).signals = s.signals := by
  obtain ⟨v, w, hv, hw, h⟩ := handWatch_eq s
  have hlimited : w.signals = s.signals := by
    rw [hw, hv]
    split
    · rfl
    · exact limitSetPoint_signals _
  rw [h]
  split
  · exact hlimited
  · exact (pauseOrderChanged_signals _ _).trans hlimited

theorem hasEvent_enterPause_ne {e : Event} (h : e.ctorIdx ≠ Event.chargeState.ctorIdx) (c : PauseCause) (s : State) :
    hasEvent e (enterPause c s) = hasEvent e s := by
  rw [enterPause, hasEvent_trySend_ne h]
  exact hasEvent_setCharge_ne h .paused s

theorem hasEvent_enterIdentify_ne {e : Event} (h : e.ctorIdx ≠ Event.chargeState.ctorIdx) (s : State) :
    hasEvent e (enterIdentify s) = hasEvent e s := by
  unfold enterIdentify
  dsimp only
  split
  · exact hasEvent_enterPause_ne h .watch _
  · rw [hasEvent_trySend_ne h]
    exact hasEvent_setCharge_ne h .identify _

theorem hasEvent_pauseOrderChanged_ne {e : Event} (h : e.ctorIdx ≠ Event.chargeState.ctorIdx) (on : Bool) (s : State) :
    hasEvent e (pauseOrderChanged on s) = hasEvent e s := by
  unfold pauseOrderChanged
  split
  · split
    · exact hasEvent_enterPause_ne h _ _
    · rfl
  · split
    · exact hasEvent_enterIdentify_ne h _
    · rfl

theorem hasEvent_handWatch_ne {e : Event} (h : e.ctorIdx ≠ Event.chargeState.ctorIdx) (s : State) :
    hasEvent e (handWatch s) = hasEvent e s := by
  obtain ⟨v, w, hv, hw, hhanded⟩ := handWatch_eq s
  have hlimited : hasEvent e w = hasEvent e s := by
    rw [hw, hv]
    split
    · rfl
    · rw [hasEvent, limitSetPoint_host]
      rfl
  rw [hhanded]
  split
  · exact hlimited
  · rw [hasEvent_pauseOrderChanged_ne h]
    exact hlimited

/-- What the results bring the drive (R76, R77): its set point and ceiling alone. -/
theorem handWatch_drive (s : State) : (handWatch s).drive =
    { s.drive with pset := (handWatch s).drive.pset, ceiling := (handWatch s).drive.ceiling } := by
  obtain ⟨v, w, hv, hw, hhanded⟩ := handWatch_eq s
  have hlimited : w.drive = { s.drive with pset := w.drive.pset, ceiling := w.drive.ceiling } := by
    rw [hw, hv]
    split
    · rfl
    · unfold limitSetPoint
      split <;> rfl
  rw [hhanded]
  split
  · exact hlimited
  · rw [pauseOrderChanged_drive]
    exact hlimited

theorem handWatch_pset (h : s.drive.state ≠ .spinup) (h' : s.drive.state ≠ .run) :
    (handWatch s).drive.pset = s.drive.pset := by
  obtain ⟨v, w, hv, hw, hhanded⟩ := handWatch_eq s
  have hlimited : w.drive.pset = s.drive.pset := by
    rw [hw, hv]
    split
    · rfl
    · unfold limitSetPoint tracking
      rw [if_neg (by simp [h, h'])]
      rfl
  rw [hhanded]
  split
  · exact hlimited
  · rw [pauseOrderChanged_drive]
    exact hlimited

theorem handWatch_ceiling (s : State) : (handWatch s).drive.ceiling =
    if derateInForce s.watch.recs.toList = s.watch.derate then s.drive.ceiling
    else s.gov.grant * derateInForce s.watch.recs.toList / 100 := by
  obtain ⟨v, w, hv, hw, hhanded⟩ := handWatch_eq s
  have hlimited : w.drive.ceiling = if derateInForce s.watch.recs.toList = s.watch.derate then s.drive.ceiling
      else s.gov.grant * derateInForce s.watch.recs.toList / 100 := by
    rw [hw, hv]
    split
    · rfl
    · exact limitSetPoint_ceiling _
  rw [hhanded]
  split
  · exact hlimited
  · rw [pauseOrderChanged_drive]
    exact hlimited

/-- What the results bring the dock (R177): nothing but a changed pause order. -/
theorem handWatch_dock_of_same (h : pauseOrdered s.watch.recs.toList = s.watch.pauseOrder) :
    (handWatch s).dock = s.dock := by
  obtain ⟨v, w, hv, hw, hhanded⟩ := handWatch_eq s
  rw [hhanded, if_pos h, hw, hv]
  split
  · rfl
  · exact limitSetPoint_dock _

/-- A pause order newly given or withdrawn, with the limits handed on before it. -/
theorem handWatch_dock_of_changed {p : Bool} (hp : pauseOrdered s.watch.recs.toList = p) (hs : s.watch.pauseOrder ≠ p) :
    ∃ w : State, w.dock = s.dock ∧ w.watch.pauseOrder = p ∧ (handWatch s).dock = (pauseOrderChanged p w).dock := by
  obtain ⟨v, w, hv, hw, hhanded⟩ := handWatch_eq s
  refine ⟨w, ?_, ?_, ?_⟩
  · rw [hw, hv]
    split
    · rfl
    · exact limitSetPoint_dock _
  · rw [hw, hv, hp]
    split
    · rfl
    · rw [limitSetPoint_watch]
  · rw [hhanded, hp, if_neg hs.symm]

theorem handWatch_pauses (hp : pauseOrdered s.watch.recs.toList = true) (hs : s.watch.pauseOrder = false)
    (hd : pausable s.dock = true) : (handWatch s).dock.state = .paused ∧ (handWatch s).dock.pause = .watch
      ∧ (handWatch s).dock.csw = false ∧ (handWatch s).dock.agreement = none := by
  obtain ⟨w, hdock, hwatch, h⟩ := handWatch_dock_of_changed hp (by simp [hs])
  have henter : pauseOrderChanged true w = enterPause .watch w := by
    rw [pauseOrderChanged, if_pos rfl, hdock, if_pos hd]
  obtain ⟨hstate, hpause, hcsw, hagree, -⟩ := enterPause_facts (c := .watch) (by decide) w
  rw [h, henter]
  exact ⟨hstate, hpause, hcsw, hagree⟩

theorem handWatch_resumes (hp : pauseOrdered s.watch.recs.toList = false) (hs : s.watch.pauseOrder = true)
    (hstate : s.dock.state = .paused) (hpause : s.dock.pause = .watch) : (handWatch s).dock.state = .identify := by
  obtain ⟨w, hdock, hwatch, h⟩ := handWatch_dock_of_changed hp (by simp [hs])
  have henter : pauseOrderChanged false w = enterIdentify w := by
    rw [pauseOrderChanged, if_neg (by decide), hdock, if_pos ⟨hstate, hpause⟩]
  rw [h, henter]
  exact (enterIdentify_facts hwatch).1

end Sys2Proof.Machine
end

section
namespace Sys2Proof.Machine

variable {s t u : State}

/-! ## WATCH_SET, WATCH_ARM and WATCH_CLEAR (R178 to R180) -/

theorem setWatch_watch (i : Fin 8) (r : Option WatchRec) (s : State) :
    (setWatch i r s).watch.recs = s.watch.recs.set i r ∧ resultLaw (setWatch i r s) := by
  refine ⟨?_, handWatch_resultLaw _⟩
  rw [setWatch, handWatch_watch]

theorem setWatch_signals (i : Fin 8) (r : Option WatchRec) (s : State) : (setWatch i r s).signals = s.signals :=
  handWatch_signals _

theorem recs_set_get (v : Vector (Option WatchRec) 8) (i j : Fin 8) (r : Option WatchRec) :
    (v.set i r)[j] = if i = j then r else v[j] := by
  by_cases h : i = j
  · subst h; simp
  · have : i.val ≠ j.val := fun he => h (Fin.ext he)
    simpa [h] using Vector.getElem_set_ne i.isLt j.isLt this

/-- A request that replaces a record. -/
theorem watch_replaced {f : State → Answer} {kind tag : Byte} {i : Byte} (h : i.toNat < 8) {r : Option WatchRec}
    {p : List Byte} (hs : s.serves) (hsig : s.signals = []) (hf : f s = accept (setWatch ⟨i.toNat, h⟩ r s) p) :
    ∃ t, ask kind tag f s = .next t ∧ resultLaw t ∧ t.watch.recs[i.toNat] = r
      ∧ ∀ j : Fin 8, j.val ≠ i.toNat → t.watch.recs[j] = s.watch.recs[j] := by
  obtain ⟨hrecs, hlaw⟩ := setWatch_watch ⟨i.toNat, h⟩ r s
  have hquiet : (replied kind tag .ok p (setWatch ⟨i.toNat, h⟩ r s)).signals = [] :=
    (setWatch_signals _ _ s).trans hsig
  obtain ⟨t, hexec, hwatch⟩ : ∃ t, ask kind tag f s = .next t ∧ t.watch = (setWatch ⟨i.toNat, h⟩ r s).watch := by
    refine ⟨_, ask_of_answer kind tag hs hf, ?_⟩
    change (conclude (replied kind tag .ok p (setWatch ⟨i.toNat, h⟩ r s))).watch = _
    rw [conclude_of_no_signals hquiet, finish_watch, replied_watch]
  refine ⟨t, hexec, ?_⟩
  unfold resultLaw
  rw [hwatch, hrecs]
  refine ⟨hrecs ▸ hlaw, ?_, fun j hj => ?_⟩
  · exact (recs_set_get s.watch.recs ⟨i.toNat, h⟩ ⟨i.toNat, h⟩ r).trans (if_pos rfl)
  · rw [recs_set_get, if_neg fun hij => hj (congrArg Fin.val hij).symm]

theorem watchRecord_eq_none {f : WatchFields} (h : 16 ≤ f.quantity.toNat ∨ f.conds = 0 ∨ 32 ≤ f.conds.toNat
    ∨ 2 ≤ f.mode.toNat ∨ 4 ≤ f.action.toNat) : watchRecord f = none := by
  unfold watchRecord
  rcases h with h | h | h | h | h
  · rw [List.getElem?_eq_none h]
  · split
    · rw [if_pos (.inl h)]
    · rfl
  · split
    · rw [if_pos (.inr h)]
    · rfl
  · have h0 : f.mode ≠ 0 := by rintro hc; simp [hc] at h
    have h1 : f.mode ≠ 1 := by rintro hc; simp [hc] at h
    have hmode : watchMode f.mode = none := by rw [watchMode, if_neg h0, if_neg h1]
    rw [hmode]
    split
    · rename_i hc _
      cases hc
    · rfl
  · have h0 : f.action ≠ 0 := by rintro hc; simp [hc] at h
    have h1 : f.action ≠ 1 := by rintro hc; simp [hc] at h
    have h2 : f.action ≠ 2 := by rintro hc; simp [hc] at h
    have h3 : f.action ≠ 3 := by rintro hc; simp [hc] at h
    have haction : watchAction f.action f.p = none := by
      rw [watchAction, if_neg h0, if_neg h1, if_neg h2, if_neg h3]
    rw [haction]
    split
    · rename_i hc
      cases hc
    · rfl

theorem watchMode_of_lt {b : Byte} (h : b.toNat < 2) : watchMode b = some (if b = 0 then .latch else .level) := by
  have hb : b = 0 ∨ b = 1 := by
    have : b.toNat = 0 ∨ b.toNat = 1 := by omega
    exact this.imp BitVec.eq_of_toNat_eq BitVec.eq_of_toNat_eq
  rcases hb with rfl | rfl <;> rfl

theorem watchAction_of_lt {b : Byte} (p : Byte) (h : b.toNat < 4) : watchAction b p = some (if b = 0 then .notify
    else if b = 1 then .derate (max 10 (min 100 p.toNat)) else if b = 2 then .stopMotor else .pauseCharge) := by
  have hb : b = 0 ∨ b = 1 ∨ b = 2 ∨ b = 3 := by
    have : b.toNat = 0 ∨ b.toNat = 1 ∨ b.toNat = 2 ∨ b.toNat = 3 := by omega
    exact this.imp BitVec.eq_of_toNat_eq (Or.imp BitVec.eq_of_toNat_eq (Or.imp BitVec.eq_of_toNat_eq BitVec.eq_of_toNat_eq))
  have hclamp : clampByte 10 100 p = max 10 (min 100 p.toNat) := clampByte_eq (by decide) p
  rcases hb with rfl | rfl | rfl | rfl
  · rfl
  · rw [← hclamp]; rfl
  · rfl
  · rfl

/-- The record of a WATCH_SET that is taken (R173, R178). -/
theorem watchRecord_eq_some {f : WatchFields} (hq : f.quantity.toNat < 16) (h0 : f.conds ≠ 0) (hc : f.conds.toNat < 32)
    (hm : f.mode.toNat < 2) (ha : f.action.toNat < 4) : ∃ r, watchRecord f = some r
      ∧ quantities[f.quantity.toNat]? = some r.quantity ∧ r.threshold = f.threshold
      ∧ r.conds = f.conds.setWidth 5 ∧ r.n = max 1 f.n.toNat
      ∧ r.mode = (if f.mode = 0 then .latch else .level)
      ∧ r.action = (if f.action = 0 then .notify
          else if f.action = 1 then .derate (max 10 (min 100 f.p.toNat))
          else if f.action = 2 then .stopMotor else .pauseCharge)
      ∧ r.state = .armed ∧ r.trueCount = 0 ∧ r.falseCount = 0 ∧ r.last = 0x8000 := by
  obtain ⟨q, hquantity⟩ : ∃ q, quantities[f.quantity.toNat]? = some q := ⟨_, List.getElem?_eq_getElem hq⟩
  have hn : clampByte 1 255 f.n = max 1 f.n.toNat := by
    rw [clampByte_eq (by decide)]
    have := f.n.isLt
    omega
  have hcond : ¬(f.conds = 0 ∨ 32 ≤ f.conds.toNat) := fun h => h.elim h0 (by omega)
  unfold watchRecord
  rw [hquantity, watchMode_of_lt hm, watchAction_of_lt f.p ha]
  dsimp only
  rw [if_neg hcond]
  exact ⟨_, rfl, rfl, rfl, rfl, hn, rfl, rfl, rfl, rfl, rfl, rfl⟩

theorem setWatch_same {i : Fin 8} (h : s.watch.recs[i] = none) (hlaw : resultLaw s) : setWatch i none s = s := by
  have hrecs : s.watch.recs.set i none = s.watch.recs := by
    refine Vector.ext fun j hj => ?_
    have := recs_set_get s.watch.recs i ⟨j, hj⟩ none
    refine (this : (s.watch.recs.set i none)[j] = _).trans ?_
    split
    · rename_i hij
      subst hij
      exact h.symm
    · rfl
  obtain ⟨hderate, hpause⟩ := hlaw
  unfold setWatch handWatch
  rw [hrecs]
  dsimp only
  rw [if_pos hpause.symm, if_pos hderate.symm, ← hderate, ← hpause]

/-- The requests on an index beyond the eight records, or with a field out of range (R178 to R180). -/
theorem watch_refused (tag i : Byte) (hs : s.serves) :
    (∀ f : WatchFields, 8 ≤ i.toNat ∨ 16 ≤ f.quantity.toNat ∨ f.conds = 0 ∨ 32 ≤ f.conds.toNat
        ∨ 2 ≤ f.mode.toNat ∨ 4 ≤ f.action.toNat →
      exec (.watchSet tag i f) s = .next (conclude (replied 0x50 tag .badArg [] s)))
    ∧ (8 ≤ i.toNat →
        exec (.watchArmArm tag i) s = .next (conclude (replied 0x51 tag .badArg [] s))
        ∧ exec (.watchArmDisarm tag i) s = .next (conclude (replied 0x51 tag .badArg [] s))
        ∧ exec (.watchClear tag i) s = .next (conclude (replied 0x53 tag .badArg [] s))) := by
  refine ⟨fun f h => ?_, fun h => ⟨?_, ?_, ?_⟩⟩
  · refine ask_of_answer 0x50 tag hs (a := refuse .badArg s) ?_
    unfold serveWatchSet
    rcases h with h | h
    · rw [index?_of_le h]
    · rw [watchRecord_eq_none h]
      split
      · rename_i hc
        cases hc
      · rfl
  · exact ask_of_answer 0x51 tag hs (a := refuse .badArg s) (by rw [serveWatchArm, index?_of_le h])
  · exact ask_of_answer 0x51 tag hs (a := refuse .badArg s) (by rw [serveWatchArm, index?_of_le h])
  · exact ask_of_answer 0x53 tag hs (a := refuse .badArg s) (by rw [serveWatchClear, index?_of_le h])

/-- WATCH_SET that is taken (R178). -/
theorem exec_watchSet (tag i : Byte) (f : WatchFields) (hs : s.serves) (hsig : s.signals = []) (h : i.toNat < 8)
    (hq : f.quantity.toNat < 16) (h0 : f.conds ≠ 0) (hc : f.conds.toNat < 32) (hm : f.mode.toNat < 2)
    (ha : f.action.toNat < 4) : ∃ t r, exec (.watchSet tag i f) s = .next t
      ∧ t.watch.recs[i.toNat] = some r ∧ resultLaw t
      ∧ (∀ j : Fin 8, j.val ≠ i.toNat → t.watch.recs[j] = s.watch.recs[j])
      ∧ quantities[f.quantity.toNat]? = some r.quantity ∧ r.threshold = f.threshold
      ∧ r.conds = f.conds.setWidth 5 ∧ r.n = max 1 f.n.toNat
      ∧ r.mode = (if f.mode = 0 then .latch else .level)
      ∧ r.action = (if f.action = 0 then .notify
          else if f.action = 1 then .derate (max 10 (min 100 f.p.toNat))
          else if f.action = 2 then .stopMotor else .pauseCharge)
      ∧ r.state = .armed ∧ r.trueCount = 0 ∧ r.falseCount = 0 ∧ r.last = 0x8000 := by
  obtain ⟨r, hr, hfields⟩ := watchRecord_eq_some hq h0 hc hm ha
  have hserve : serveWatchSet i f s = accept (setWatch ⟨i.toNat, h⟩ (some r) s) (watchFields r) := by
    rw [serveWatchSet, index?_of_lt h, hr]
  obtain ⟨t, hexec, hlaw, hat, hothers⟩ := watch_replaced (kind := 0x50) (tag := tag) h hs hsig hserve
  exact ⟨t, r, hexec, hat, hlaw, hothers, hfields⟩

theorem serveWatchArm_of_none {i : Byte} (arm : Bool) (h : i.toNat < 8) (hr : s.watch.recs[i.toNat] = none) :
    serveWatchArm arm i s = refuse .notFound s := by
  have hr' : s.watch.recs[(⟨i.toNat, h⟩ : Fin 8)] = none := hr
  rw [serveWatchArm, index?_of_lt h]
  dsimp only
  rw [hr']

theorem serveWatchArm_of_some {i : Byte} {r : WatchRec} (arm : Bool) (h : i.toNat < 8)
    (hr : s.watch.recs[i.toNat] = some r) : serveWatchArm arm i s
      = accept (setWatch ⟨i.toNat, h⟩ (some (r.rearm arm)) s) (watchFields (r.rearm arm)) := by
  have hr' : s.watch.recs[(⟨i.toNat, h⟩ : Fin 8)] = some r := hr
  rw [serveWatchArm, index?_of_lt h]
  dsimp only
  rw [hr']

theorem serveWatchClear_of_lt {i : Byte} (h : i.toNat < 8) (s : State) :
    serveWatchClear i s = accept (setWatch ⟨i.toNat, h⟩ none s) [i, 0] := by
  rw [serveWatchClear, index?_of_lt h]
  rfl

/-- WATCH_ARM and WATCH_CLEAR on one of the eight records (R179, R180). -/
theorem watch_armed_or_cleared (tag i : Byte) (hs : s.serves) (hsig : s.signals = []) (h : i.toNat < 8) :
    (s.watch.recs[i.toNat] = none →
        exec (.watchArmArm tag i) s = .next (conclude (replied 0x51 tag .notFound [] s))
        ∧ exec (.watchArmDisarm tag i) s = .next (conclude (replied 0x51 tag .notFound [] s))
        ∧ (resultLaw s → exec (.watchClear tag i) s
            = .next (conclude (replied 0x53 tag .ok [i, 0] s))))
    ∧ (∀ r, s.watch.recs[i.toNat] = some r →
        (∃ t, exec (.watchArmArm tag i) s = .next t ∧ resultLaw t
          ∧ t.watch.recs[i.toNat] = some { r with state := .armed, trueCount := 0, falseCount := 0 }
          ∧ ∀ j : Fin 8, j.val ≠ i.toNat → t.watch.recs[j] = s.watch.recs[j])
        ∧ (∃ t, exec (.watchArmDisarm tag i) s = .next t ∧ resultLaw t
          ∧ t.watch.recs[i.toNat]
              = some { r with state := .disarmed, trueCount := 0, falseCount := 0 }
          ∧ ∀ j : Fin 8, j.val ≠ i.toNat → t.watch.recs[j] = s.watch.recs[j]))
    ∧ (∃ t, exec (.watchClear tag i) s = .next t ∧ resultLaw t
        ∧ t.watch.recs[i.toNat] = none
        ∧ ∀ j : Fin 8, j.val ≠ i.toNat → t.watch.recs[j] = s.watch.recs[j]) := by
  refine ⟨fun hr => ⟨?_, ?_, fun hlaw => ?_⟩, fun r hr => ⟨?_, ?_⟩, ?_⟩
  · exact ask_of_answer 0x51 tag hs (serveWatchArm_of_none true h hr)
  · exact ask_of_answer 0x51 tag hs (serveWatchArm_of_none false h hr)
  · have hclear := serveWatchClear_of_lt h s
    rw [setWatch_same (i := ⟨i.toNat, h⟩) hr hlaw] at hclear
    exact ask_of_answer 0x53 tag hs hclear
  · exact watch_replaced h hs hsig (serveWatchArm_of_some true h hr)
  · exact watch_replaced h hs hsig (serveWatchArm_of_some false h hr)
  · exact watch_replaced h hs hsig (serveWatchClear_of_lt h s)

/-! ## One record takes an update (R173, R175, R176) -/

theorem WatchRec.holds_iff (r : WatchRec) (v : Half) : r.holds v = true ↔
    (r.conds.getLsbD 0 = true ∧ v.toInt < r.threshold.toInt)
      ∨ (r.conds.getLsbD 1 = true ∧ r.threshold.toInt < v.toInt)
      ∨ (r.conds.getLsbD 2 = true ∧ v = r.threshold)
      ∨ (r.conds.getLsbD 3 = true ∧ v.toNat < r.threshold.toNat)
      ∨ (r.conds.getLsbD 4 = true ∧ r.threshold.toNat < v.toNat) := by
  simp only [WatchRec.holds, Bool.or_eq_true, Bool.and_eq_true, beq_iff_eq, BitVec.slt_iff_toInt_lt, BitVec.ult,
    decide_eq_true_eq, or_assoc]

/-- An update in ARMED or COUNTING (R176). -/
theorem WatchRec.move_of_waits {r : WatchRec} (h : r.state = .armed ∨ r.state = .counting) (b : Bool) :
    r.move b = if b then
        if r.n ≤ r.trueCount + 1 then { r with state := .fired, trueCount := r.trueCount + 1, falseCount := 0 }
        else { r with state := .counting, trueCount := r.trueCount + 1 }
      else { r with state := .armed, trueCount := 0 } := by
  rcases h with h | h <;> rw [WatchRec.move, h]

/-- An update in FIRED with mode LEVEL (R176). -/
theorem WatchRec.move_of_level {r : WatchRec} (h : r.state = .fired) (hm : r.mode = .level) (b : Bool) :
    r.move b = if b then { r with falseCount := 0 }
      else if r.n ≤ r.falseCount + 1 then { r with state := .armed, trueCount := 0, falseCount := 0 }
      else { r with falseCount := r.falseCount + 1 } := by
  rw [WatchRec.move, h, hm]

theorem watchRec_takes (r : WatchRec) (q : Quantity) (v : Half) :
    (r.quantity ≠ q → r.take q v = r)
    ∧ (r.quantity = q → r.take q v = { r.move (r.holds v) with last := v })
    ∧ (r.holds v = true ↔ (r.conds.getLsbD 0 = true ∧ v.toInt < r.threshold.toInt)
        ∨ (r.conds.getLsbD 1 = true ∧ r.threshold.toInt < v.toInt)
        ∨ (r.conds.getLsbD 2 = true ∧ v = r.threshold)
        ∨ (r.conds.getLsbD 3 = true ∧ v.toNat < r.threshold.toNat)
        ∨ (r.conds.getLsbD 4 = true ∧ r.threshold.toNat < v.toNat))
    ∧ (∀ b, r.state = .disarmed → r.move b = r)
    ∧ (r.state = .armed ∨ r.state = .counting →
        r.move false = { r with state := .armed, trueCount := 0 }
        ∧ (r.trueCount + 1 < r.n →
            r.move true = { r with state := .counting, trueCount := r.trueCount + 1 })
        ∧ (r.n ≤ r.trueCount + 1 → r.move true
            = { r with state := .fired, trueCount := r.trueCount + 1, falseCount := 0 }))
    ∧ (∀ b, r.state = .fired → r.mode = .latch → r.move b = r)
    ∧ (r.state = .fired → r.mode = .level → r.move true = { r with falseCount := 0 }
        ∧ (r.falseCount + 1 < r.n → r.move false = { r with falseCount := r.falseCount + 1 })
        ∧ (r.n ≤ r.falseCount + 1 →
            r.move false = { r with state := .armed, trueCount := 0, falseCount := 0 })) := by
  refine ⟨fun h => if_neg h, fun h => if_pos h, r.holds_iff v, fun b h => by rw [WatchRec.move, h], fun h => ⟨?_, ?_, ?_⟩,
    fun b h hm => by rw [WatchRec.move, h, hm], fun h hm => ⟨?_, ?_, ?_⟩⟩
  · exact WatchRec.move_of_waits h false
  · intro hlt
    rw [WatchRec.move_of_waits h, if_pos rfl, if_neg (by omega)]
  · intro hle
    rw [WatchRec.move_of_waits h, if_pos rfl, if_pos hle]
  · exact WatchRec.move_of_level h hm true
  · intro hlt
    rw [WatchRec.move_of_level h hm, if_neg (by decide), if_neg (by omega)]
  · intro hle
    rw [WatchRec.move_of_level h hm, if_neg (by decide), if_pos hle]

end Sys2Proof.Machine
end

section
namespace Sys2Proof.Machine

variable {s : State} {q : Quantity} {v : Half}

/-! ## The records take an update together (R173, R175 to R177, R51) -/

/-- The record fires with an update. -/
def WatchRec.fires (q : Quantity) (v : Half) (r : WatchRec) : Prop := r.state ≠ .fired ∧ (r.take q v).state = .fired

/-- The update fires a record that orders a stop. -/
def updateStops (q : Quantity) (v : Half) (s : State) : Prop :=
  ∃ i : Fin 8, ∃ r, s.watch.recs[i] = some r ∧ r.fires q v ∧ r.action = .stopMotor

/-- The records that an update fires. -/
def firedBy (q : Quantity) (v : Half) (s : State) : List (Option WatchRec) :=
  newlyFired s.watch.recs.toList (mapTable (Option.map (WatchRec.take q v)) s.watch.recs).toList

theorem mem_firedBy (q : Quantity) (v : Half) (s : State) (x : Option WatchRec) : x ∈ firedBy q v s ↔
    ∃ i : Fin 8, ∃ r, s.watch.recs[i] = some r ∧ r.fires q v ∧ x = some (r.take q v) := by
  have hcond (r : Option WatchRec) : (isFired (r.map (WatchRec.take q v)) && !isFired r) = true
      ↔ ∃ w, r = some w ∧ w.fires q v := by
    cases r with
    | none => simp [isFired]
    | some w => simp [isFired, WatchRec.fires, and_comm]
  unfold firedBy
  rw [mapTable_toList, newlyFired_map, List.mem_map]
  constructor
  · rintro ⟨r, hr, rfl⟩
    obtain ⟨hmem, hfires⟩ := List.mem_filter.mp hr
    obtain ⟨w, rfl, hw⟩ := (hcond r).mp hfires
    obtain ⟨i, hi, hget⟩ := List.getElem_of_mem hmem
    rw [Vector.length_toList] at hi
    exact ⟨⟨i, hi⟩, w, by simpa using hget, hw, rfl⟩
  · rintro ⟨i, r, hr, hfires, rfl⟩
    have hmem : some r ∈ s.watch.recs.toList := by
      rw [← hr]
      exact Vector.mem_toList_iff.mpr (Vector.getElem_mem i.isLt)
    exact ⟨some r, List.mem_filter.mpr ⟨hmem, (hcond _).mpr ⟨r, rfl, hfires⟩⟩, rfl⟩

theorem firedBy_stops (q : Quantity) (v : Half) (s : State) :
    (firedBy q v s).any (firedWith .stopMotor) = true ↔ updateStops q v s := by
  rw [List.any_eq_true]
  constructor
  · rintro ⟨x, hx, hstop⟩
    obtain ⟨i, r, hr, hfires, rfl⟩ := (mem_firedBy q v s x).mp hx
    refine ⟨i, r, hr, hfires, ?_⟩
    have haction : (r.take q v).action = .stopMotor := by
      simp only [firedWith, Bool.and_eq_true, beq_iff_eq] at hstop
      exact hstop.2
    rwa [take_action] at haction
  · rintro ⟨i, r, hr, hfires, haction⟩
    refine ⟨_, (mem_firedBy q v s _).mpr ⟨i, r, hr, hfires, rfl⟩, ?_⟩
    simp [firedWith, hfires.2, take_action, haction]

/-- The state as the records have taken the update, the event raised where one fires. -/
def recordsUpdated (q : Quantity) (v : Half) (s : State) : State :=
  raiseIf (!(firedBy q v s).isEmpty) .watchFired
    { s with watch := { s.watch with recs := mapTable (Option.map (WatchRec.take q v)) s.watch.recs } }

theorem watchUpdate_eq (q : Quantity) (v : Half) (s : State) : watchUpdate q v s =
    handWatch (if (firedBy q v s).any (firedWith .stopMotor) then stopOrder .watch (recordsUpdated q v s)
      else recordsUpdated q v s) := rfl

theorem watchUpdate_of_stops (h : updateStops q v s) :
    watchUpdate q v s = handWatch (stopOrder .watch (recordsUpdated q v s)) := by
  rw [watchUpdate_eq, if_pos ((firedBy_stops q v s).mpr h)]

theorem watchUpdate_of_not_stops (h : ¬updateStops q v s) : watchUpdate q v s = handWatch (recordsUpdated q v s) := by
  rw [watchUpdate_eq, if_neg fun hc => h ((firedBy_stops q v s).mp hc)]

/-- The state that the results are formed in: the records updated, and the motor stopped where one orders it. -/
theorem watchUpdate_handed (q : Quantity) (v : Half) (s : State) : ∃ w : State, watchUpdate q v s = handWatch w
    ∧ w.watch = { s.watch with recs := mapTable (Option.map (WatchRec.take q v)) s.watch.recs }
    ∧ w.gov.grant = s.gov.grant ∧ w.drive.ceiling = s.drive.ceiling
    ∧ (s.dock.state ≠ .attachWait → w.dock = s.dock) ∧ (¬updateStops q v s → w.dock = s.dock ∧ w.drive = s.drive) := by
  by_cases h : updateStops q v s
  · refine ⟨_, watchUpdate_of_stops h, ?_, ?_, ?_, fun hwait => ?_, fun hc => absurd h hc⟩
    · rw [stopOrder_watch]
      exact raiseIf_watch _ _ _
    · rw [stopOrder_grant]
      exact congrArg Gov.grant (raiseIf_gov _ _ _)
    · rw [stopOrder_ceiling]
      exact congrArg Drive.ceiling (raiseIf_drive _ _ _)
    · have hdock : (recordsUpdated q v s).dock = s.dock := raiseIf_dock _ _ _
      rw [stopOrder_dock .watch (by rw [hdock]; exact hwait), hdock]
  · exact ⟨_, watchUpdate_of_not_stops h, raiseIf_watch _ _ _, congrArg Gov.grant (raiseIf_gov _ _ _),
      congrArg Drive.ceiling (raiseIf_drive _ _ _), fun _ => raiseIf_dock _ _ _,
      fun _ => ⟨raiseIf_dock _ _ _, raiseIf_drive _ _ _⟩⟩

theorem recs_map_get (f : Option WatchRec → Option WatchRec) (t : Vector (Option WatchRec) 8) (i : Fin 8) :
    (mapTable f t)[i] = f t[i] := by
  have hget : (mapTable f t).toList[i.val]'(by simp) = (t.toList.map f)[i.val]'(by simp) := by
    simp only [mapTable_toList]
  simpa using hget

theorem watchUpdate_recs (q : Quantity) (v : Half) (s : State) :
    (∀ i : Fin 8, (watchUpdate q v s).watch.recs[i] = (s.watch.recs[i]).map (fun r => r.take q v))
      ∧ resultLaw (watchUpdate q v s) := by
  obtain ⟨w, hhanded, hwatch, -, -, -, -⟩ := watchUpdate_handed q v s
  rw [hhanded]
  refine ⟨fun i => ?_, handWatch_resultLaw w⟩
  rw [handWatch_watch, hwatch]
  exact recs_map_get _ _ i

theorem watchUpdate_results (q : Quantity) (v : Half) (s : State) :
    let l := (mapTable (Option.map (WatchRec.take q v)) s.watch.recs).toList
    (watchUpdate q v s).watch.derate = derateInForce l ∧ (watchUpdate q v s).watch.pauseOrder = pauseOrdered l := by
  obtain ⟨w, hhanded, hwatch, -, -, -, -⟩ := watchUpdate_handed q v s
  rw [hhanded, handWatch_watch, hwatch]
  exact ⟨rfl, rfl⟩

/-- WATCH_FIRED comes with the first record that fires, and with nothing else. -/
theorem watchUpdate_event (q : Quantity) (v : Half) (s : State) :
    ((∃ i : Fin 8, ∃ r, s.watch.recs[i] = some r ∧ r.fires q v) → hasEvent .watchFired (watchUpdate q v s) = true)
      ∧ ((∀ i : Fin 8, ∀ r, s.watch.recs[i] = some r → ¬r.fires q v) →
          hasEvent .watchFired (watchUpdate q v s) = hasEvent .watchFired s) := by
  constructor
  · rintro ⟨i, r, hr, hfires⟩
    have hmem : some (r.take q v) ∈ firedBy q v s := (mem_firedBy q v s _).mpr ⟨i, r, hr, hfires, rfl⟩
    have hraised : hasEvent .watchFired (recordsUpdated q v s) = true := by
      unfold recordsUpdated
      rw [raiseIf_of_true _ _ (by simpa using List.ne_nil_of_mem hmem), hasEvent_raise]
    by_cases hstop : updateStops q v s
    · rw [watchUpdate_of_stops hstop, hasEvent_handWatch_ne (by decide)]
      exact stopOrder_keeps _ _ _ hraised
    · rw [watchUpdate_of_not_stops hstop, hasEvent_handWatch_ne (by decide)]
      exact hraised
  · intro hnone
    have hstop : ¬updateStops q v s := fun ⟨i, r, hr, hfires, _⟩ => hnone i r hr hfires
    have hempty : firedBy q v s = [] := by
      refine List.eq_nil_iff_forall_not_mem.mpr fun x hx => ?_
      obtain ⟨i, r, hr, hfires, -⟩ := (mem_firedBy q v s x).mp hx
      exact hnone i r hr hfires
    rw [watchUpdate_of_not_stops hstop, hasEvent_handWatch_ne (by decide), recordsUpdated,
      raiseIf_of_false _ _ (by simp [hempty])]
    rfl

/-- A record that orders a stop stops a driving motor (R51, R177). -/
theorem watchUpdate_stops (h : updateStops q v s) :
    (s.drive.state.drives = true → (watchUpdate q v s).drive.state.drives = false
        ∧ (watchUpdate q v s).drive.stopCause = .watch)
      ∧ (s.drive.state = .run → (watchUpdate q v s).drive.state = .stopping
        ∧ (watchUpdate q v s).drive.bridge = .braking ∧ (watchUpdate q v s).drive.pset = 0) := by
  have hdrive : (recordsUpdated q v s).drive = s.drive := raiseIf_drive _ _ _
  rw [watchUpdate_of_stops h]
  have hhanded := handWatch_drive (stopOrder .watch (recordsUpdated q v s))
  have hstate := (congrArg Drive.state hhanded :)
  have hcause := (congrArg Drive.stopCause hhanded :)
  have hbridge := (congrArg Drive.bridge hhanded :)
  refine ⟨fun hd => ⟨?_, ?_⟩, fun hrun => ?_⟩
  · rw [hstate]
    exact stopOrder_not_drives _ _
  · rw [hcause]
    exact stopOrder_stopCause _ (hdrive ▸ hd)
  · have hstopped := stopOrder_of_turns .watch (s := recordsUpdated q v s) (.inl (hdrive ▸ hrun))
    have hpset := handWatch_pset (s := stopOrder .watch (recordsUpdated q v s)) (by rw [hstopped]; exact nofun)
      (by rw [hstopped]; exact nofun)
    rw [hstate, hbridge, hpset, hstopped]
    exact ⟨rfl, rfl, rfl⟩

/-- An update that orders no stop leaves the motor state (R177). -/
theorem watchUpdate_runs_on (h : ¬updateStops q v s) : (watchUpdate q v s).drive.state = s.drive.state
    ∧ (watchUpdate q v s).drive.stopCause = s.drive.stopCause := by
  have hdrive : (recordsUpdated q v s).drive = s.drive := raiseIf_drive _ _ _
  rw [watchUpdate_of_not_stops h, handWatch_drive, hdrive]
  exact ⟨rfl, rfl⟩

/-- A changed derate moves the ceiling (R77). -/
theorem watchUpdate_ceiling (q : Quantity) (v : Half) (s : State) :
    ((watchUpdate q v s).watch.derate ≠ s.watch.derate →
        (watchUpdate q v s).drive.ceiling = s.gov.grant * (watchUpdate q v s).watch.derate / 100)
      ∧ ((watchUpdate q v s).watch.derate = s.watch.derate →
        (watchUpdate q v s).drive.ceiling = s.drive.ceiling) := by
  obtain ⟨w, hhanded, hwatch, hgrant, hceiling, -, -⟩ := watchUpdate_handed q v s
  have hderate : (handWatch w).watch.derate = derateInForce w.watch.recs.toList := by rw [handWatch_watch]
  have hbefore : w.watch.derate = s.watch.derate := by rw [hwatch]
  rw [hhanded, handWatch_ceiling, hderate, hbefore, hgrant, hceiling]
  exact ⟨fun h => if_neg h, fun h => if_pos h⟩

/-- A changed pause order pauses charging or lets it go on (R159, R177). -/
theorem watchUpdate_pauses (q : Quantity) (v : Half) (s : State) :
    (s.watch.pauseOrder = false → (watchUpdate q v s).watch.pauseOrder = true →
        (s.dock.state = .identify ∨ s.dock.state = .negotiate ∨ s.dock.state.charges = true
          ∨ (s.dock.state = .paused ∧ s.dock.pause ≠ .watch) →
            (watchUpdate q v s).dock.state = .paused ∧ (watchUpdate q v s).dock.pause = .watch
              ∧ (watchUpdate q v s).dock.csw = false ∧ (watchUpdate q v s).dock.agreement = none))
      ∧ (s.watch.pauseOrder = true → (watchUpdate q v s).watch.pauseOrder = false → s.dock.state = .paused →
          s.dock.pause = .watch → (watchUpdate q v s).dock.state = .identify)
      ∧ ((watchUpdate q v s).watch.pauseOrder = s.watch.pauseOrder → ¬updateStops q v s →
          (watchUpdate q v s).dock = s.dock) := by
  obtain ⟨w, hhanded, hwatch, -, -, hdock, hplain⟩ := watchUpdate_handed q v s
  have hresult : (handWatch w).watch.pauseOrder = pauseOrdered w.watch.recs.toList := by rw [handWatch_watch]
  have hbefore : w.watch.pauseOrder = s.watch.pauseOrder := by rw [hwatch]
  rw [hhanded, hresult]
  refine ⟨fun hs ht hstate => ?_, fun hs ht hstate hpause => ?_, fun hsame hstop => ?_⟩
  · have hpausable : pausable s.dock = true := by
      rcases hstate with h | h | h | ⟨h, hp⟩
      · simp [pausable, h]
      · simp [pausable, h]
      · cases hd : s.dock.state <;> simp_all [pausable, ChargeState.charges]
      · simp [pausable, h, hp]
    have hwait : s.dock.state ≠ .attachWait := by
      intro hc
      simp [pausable, hc] at hpausable
    exact handWatch_pauses ht (hbefore.trans hs) (by rw [hdock hwait]; exact hpausable)
  · have hwait : s.dock.state ≠ .attachWait := by rw [hstate]; decide
    exact handWatch_resumes ht (hbefore.trans hs) (by rw [hdock hwait]; exact hstate) (by rw [hdock hwait]; exact hpause)
  · rw [handWatch_dock_of_same (hsame.trans hbefore.symm), (hplain hstop).1]

/-- Settles O53: the requests replace one record and have the results formed again; an update moves each record, and
the stop order and the results follow from those that fire. -/
theorem watchesAreSetAndFire : Obligations.WatchesAreSetAndFire := by
  refine ⟨fun tag i s hs hsig => ?_, watchRec_takes, fun q v s => ?_, fun s n => ⟨?_, fun q v rest h => ?_⟩⟩
  · obtain ⟨hset, hbeyond⟩ := watch_refused tag i hs
    refine ⟨hset, hbeyond, fun h => ⟨fun f hq h0 hc hm ha => exec_watchSet tag i f hs hsig h hq h0 hc hm ha, ?_⟩⟩
    exact watch_armed_or_cleared tag i hs hsig h
  · obtain ⟨hrecs, hlaw⟩ := watchUpdate_recs q v s
    obtain ⟨hfires, hnone⟩ := watchUpdate_event q v s
    obtain ⟨hmoves, hstays⟩ := watchUpdate_ceiling q v s
    obtain ⟨hpauses, hresumes, hdock⟩ := watchUpdate_pauses q v s
    exact ⟨hrecs, hlaw, hfires, hnone, fun h => (watchUpdate_stops h).1, fun h => (watchUpdate_stops h).2,
      fun h => watchUpdate_runs_on h, hmoves, hstays, hpauses, hresumes, hdock⟩
  · exact drain_of_no_signals n s
  · rw [drain, h]
    rfl

end Sys2Proof.Machine
end

section
namespace Sys2Proof.Machine

variable {s : State}

/-! ## FENCE and RESET (R186, R190) -/

theorem TxFrame.rank_eq_one_iff (f : TxFrame) : (f.rank == 1) = true ↔ ∃ a b k, f = .cap a b k := by
  cases f <;> simp [TxFrame.rank]

/-- The five conditions of a FENCE (R186). -/
theorem outstanding_iff (s : State) :
    let o := outstanding s
    let slots := [s.arb.reserve, s.arb.head, s.arb.lamp, s.arb.aux, s.arb.suction]
    (o.allot = true ↔ ∃ sl ∈ slots, sl.settling = true ∨ sl.waiting = true)
    ∧ (o.ramp = true ↔ s.gov.ramping = true)
    ∧ (o.dock = true ↔ ∃ e, s.dock.exch = some e)
    ∧ (o.assign = true ↔ ∃ n ∈ s.line.nodes, n.state = .assigning)
    ∧ (o.cap = true ↔ (∃ n ∈ s.line.nodes, ∃ c, n.pending = some c)
        ∨ ∃ a b k, .cap a b k ∈ s.line.queue ∨ s.line.lost = some (.cap a b k))
    ∧ (o.any = true ↔ o.allot = true ∨ o.ramp = true ∨ o.dock = true ∨ o.assign = true ∨ o.cap = true) := by
  have hqueue : s.line.queue.any (·.rank == 1) = true ↔ ∃ a b k, .cap a b k ∈ s.line.queue := by
    rw [List.any_eq_true]
    constructor
    · rintro ⟨f, hf, hrank⟩
      obtain ⟨a, b, k, rfl⟩ := f.rank_eq_one_iff.mp hrank
      exact ⟨a, b, k, hf⟩
    · rintro ⟨a, b, k, hf⟩
      exact ⟨_, hf, rfl⟩
  have hlost : s.line.lost.any (·.rank == 1) = true ↔ ∃ a b k, s.line.lost = some (.cap a b k) := by
    rw [Option.any_eq_true]
    constructor
    · rintro ⟨f, hf, hrank⟩
      obtain ⟨a, b, k, rfl⟩ := f.rank_eq_one_iff.mp hrank
      exact ⟨a, b, k, hf⟩
    · rintro ⟨a, b, k, hf⟩
      exact ⟨_, hf, rfl⟩
  have hnodes : s.line.nodes.any (·.pending.isSome) = true ↔ ∃ n ∈ s.line.nodes, ∃ c, n.pending = some c := by
    simp [Option.isSome_iff_exists]
  refine ⟨?_, Iff.rfl, Option.isSome_iff_exists, ?_, ?_, ?_⟩
  · simp [outstanding, Slot.unsettled, or_assoc]
  · simp [outstanding]
  · change capOutstanding s.line = true ↔ _
    rw [capOutstanding, Bool.or_eq_true, Bool.or_eq_true, hqueue, hlost, hnodes, or_assoc]
    refine or_congr Iff.rfl ⟨?_, ?_⟩
    · rintro (⟨a, b, k, h⟩ | ⟨a, b, k, h⟩)
      · exact ⟨a, b, k, .inl h⟩
      · exact ⟨a, b, k, .inr h⟩
    · rintro ⟨a, b, k, h | h⟩
      · exact .inl ⟨a, b, k, h⟩
      · exact .inr ⟨a, b, k, h⟩
  · simp [Outstanding.any, or_assoc]

theorem code_of_none {o : Outstanding} (h : o.any = false) : o.code = 0 := by
  simp only [Outstanding.any, Bool.or_eq_false_iff] at h
  obtain ⟨⟨⟨⟨hallot, hramp⟩, hdock⟩, hassign⟩, hcap⟩ := h
  simp [Outstanding.code, hallot, hramp, hdock, hassign, hcap]

theorem exec_fence_of_serves (tag : Byte) (hs : s.serves) :
    exec (.fence tag) s = .next (conclude (fenceArrives tag s)) := by
  have hpowered : s.powered := by
    rw [State.powered, hs.1]
    decide
  have hadmit : admitted kindFence tag (fenceArrives tag) s = fenceArrives tag s := by
    rw [admitted, if_neg (Nat.not_le.mpr hs.2.2.1), if_neg (Nat.not_le.mpr hs.2.2.2)]
  have hexec := event_of_powered (arrive (admitted kindFence tag (fenceArrives tag))) s hpowered
  rw [arrive_of_serves _ _ hs, hadmit] at hexec
  exact hexec

/-- FENCE (R186). -/
theorem exec_fence (tag : Byte) (hs : s.serves) :
    (s.host.fence = none → (outstanding s).any = false →
      exec (.fence tag) s = .next (conclude (replied 0x04 tag .ok [0, 0, 0] s)))
    ∧ (s.host.fence = none → (outstanding s).any = true →
        exec (.fence tag) s = .next (conclude { s with host := { s.host with
          fence := some ⟨tag, 2000⟩, requests := s.host.requests ++ [⟨0x04, tag⟩]
          replies := s.host.replies ++ [⟨0x84, tag, none, true, false⟩] } }))
    ∧ (s.host.fence.isSome →
        exec (.fence tag) s = .next (conclude (replied 0x04 tag .busy [] s))) := by
  rw [exec_fence_of_serves tag hs]
  unfold fenceArrives
  refine ⟨fun hfence hnone => ?_, fun hfence hany => ?_, fun hfence => ?_⟩
  · rw [if_neg (by simp [hfence])]
    dsimp only
    have hzeros : u16 (2000 - 2000) ++ u8 0 = [0, 0, 0] := by decide
    rw [if_neg (by simp [hnone]), fencePayload, code_of_none hnone, hzeros]
    rfl
  · rw [if_neg (by simp [hfence])]
    dsimp only
    rw [if_pos hany]
    rfl
  · rw [if_pos hfence]
    rfl

/-- The conditions evaluated again (R186). -/
theorem finish_facts {f : Fence} (hf : s.host.fence = some f) :
    ((outstanding s).any = false → (finish s).host.fence = none
        ∧ (finish s).host.replies = s.host.replies.map (fun r => if r.body.isNone
            then { r with body := some ⟨0x00, u16 (2000 - f.timer) ++ [0]⟩ } else r))
      ∧ ((outstanding s).any = true → finish s = s) := by
  constructor
  · intro hnone
    have hformed : finish s = formFence .ok (u16 (2000 - f.timer) ++ [0]) s := by
      rw [finish, hf]
      dsimp only
      rw [if_neg (by simp [hnone]), fencePayload, code_of_none hnone]
      rfl
    rw [hformed]
    exact ⟨rfl, rfl⟩
  · intro hany
    rw [finish, hf]
    exact if_pos hany

theorem exec_fenceTimeout {f : Fence} (hs : s.powered) (hsig : s.signals = []) (hf : s.host.fence = some f) :
    exec .fenceTimeout s = .next { s with host := { s.host with
      fence := none
      replies := s.host.replies.map (fun r => if r.body.isNone
        then { r with body := some ⟨0x0B, [0xD0, 0x07] ++ u8 (outstanding s).code⟩ } else r) } } := by
  have hexec := event_of_powered fenceTimedOut s hs
  have hout : fenceTimedOut s = formFence .fenceTimeout ([0xD0, 0x07] ++ u8 (outstanding s).code) s := by
    have htime : u16 (2000 - 0) = [0xD0, 0x07] := by decide
    rw [fenceTimedOut, hf]
    dsimp only [fencePayload]
    rw [htime]
  have hquiet : (formFence .fenceTimeout ([0xD0, 0x07] ++ u8 (outstanding s).code) s).quiet := ⟨hsig, rfl⟩
  rw [hout, conclude_of_quiet _ hquiet] at hexec
  exact hexec

theorem conclude_host_of_no_fence (h : s.host.fence = none) : (conclude s).host.lasting = s.host.lasting := by
  have hsettled : (settle s).host.lasting = s.host.lasting := settle_host_lasting s
  have hfence : (settle s).host.fence = none := (congrArg HostLink.fence hsettled :).trans h
  rw [conclude, finish_of_no_fence _ hfence, hsettled]

/-- RESET (R190, R185). -/
theorem exec_reset (tag : Byte) (hp : s.pack.power = .active) (hst : s.host.stopped = false)
    (hr : s.host.replies.length < 8) :
    ∃ t, exec (.reset tag) s = .next t ∧ t.host.stopped = true ∧ t.host.rx = .hunting
      ∧ t.host.fence = none ∧ t.host.requests = s.host.requests ++ [⟨0x06, tag⟩]
      ∧ t.host.replies = (if s.host.fence.isSome
          then s.host.replies.map (fun r => if r.body.isNone
            then { r with body := some ⟨0x0C, []⟩ } else r)
          else s.host.replies) ++ [⟨0x86, tag, some ⟨0x00, []⟩, true, true⟩] := by
  have hpowered : s.powered := by
    rw [State.powered, hp]
    decide
  have harrive : arrive (resetArrives tag) s = resetArrives tag s := by
    rw [arrive, if_neg (by simp [hst]), wake_of_active s hp]
  have hexec := event_of_powered (arrive (resetArrives tag)) s hpowered
  rw [harrive] at hexec
  refine ⟨_, hexec, ?_⟩
  have hwork : resetArrives tag s = { abortFence s with host := { (abortFence s).host with
      stopped := true, rx := .hunting, requests := (abortFence s).host.requests ++ [⟨0x06, tag⟩]
      replies := (abortFence s).host.replies ++ [⟨0x86, tag, some ⟨0x00, []⟩, true, true⟩] } } := by
    rw [resetArrives, if_neg (Nat.not_le.mpr hr)]
    rfl
  have hfence : (abortFence s).host.fence = none := by
    unfold abortFence
    split
    · rfl
    · rename_i hnone
      simpa using hnone
  have hrequests : (abortFence s).host.requests = s.host.requests := by
    unfold abortFence
    split <;> rfl
  have hreplies : (abortFence s).host.replies = if s.host.fence.isSome
      then s.host.replies.map (fun r => if r.body.isNone then { r with body := some ⟨0x0C, []⟩ } else r)
      else s.host.replies := by
    unfold abortFence
    split <;> rfl
  have hhost : (conclude (resetArrives tag s)).host.lasting = (resetArrives tag s).host.lasting :=
    conclude_host_of_no_fence (by rw [hwork]; exact hfence)
  rw [hwork] at hhost ⊢
  refine ⟨(congrArg HostLink.stopped hhost :), (congrArg HostLink.rx hhost :), (congrArg HostLink.fence hhost :).trans hfence,
    ?_, ?_⟩
  · rw [← hrequests]
    exact (congrArg HostLink.requests hhost :)
  · rw [← hreplies]
    exact (congrArg HostLink.replies hhost :)

/-- Settles O41: the conditions are the fields of `outstanding`, and each end of a FENCE forms the one deferred reply. -/
theorem aFenceWaitsForTheWork : Obligations.AFenceWaitsForTheWork := by
  intro tag s
  refine ⟨outstanding_iff s, fun hs => (exec_fence tag hs).1, fun hs => (exec_fence tag hs).2.1,
    fun hs => (exec_fence tag hs).2.2, fun f hf => (finish_facts hf).1, fun f hf => (finish_facts hf).2,
    fun f hs hsig hf => exec_fenceTimeout hs hsig hf, fun hp hst hr => exec_reset tag hp hst hr⟩

end Sys2Proof.Machine
end

section
namespace Sys2Proof.Machine

variable {s : State}

/-! ## The queue (R185) -/

/-- A request of the catalogue is admitted under its own kind and tag before its block acts (R184, R185). -/
theorem exec_of_requestOf {c : Instr} {q : PendingReq} (h : requestOf c = some q) :
    ∃ act, ∀ s, exec c s = event (arrive (admitted q.kind q.tag act)) s := by
  unfold requestOf at h
  split at h
  all_goals cases h
  all_goals exact ⟨_, fun _ => rfl⟩

theorem exec_of_isRequest {c : Instr} (h : isRequest c = true) : ∃ act, ∀ s, exec c s = event (arrive act) s := by
  obtain ⟨q, hq⟩ := Option.isSome_iff_exists.mp h
  obtain ⟨act, hact⟩ := exec_of_requestOf hq
  exact ⟨_, hact⟩

theorem arrive_of_stopped (act : State → State) (h : s.host.stopped = true) : arrive act s = s := if_pos h

theorem arrive_of_awake (act : State → State) (hp : s.pack.power = .active) (h : s.host.stopped = false) :
    arrive act s = act s := by
  rw [arrive, if_neg (by simp [h]), wake_of_active s hp]

theorem arrive_of_standby (act : State → State) (hp : s.pack.power = .standby) (h : s.host.stopped = false) :
    arrive act s = arrive act (wake s) := by
  rw [arrive_of_awake act (wake_power hp) ((wake_stopped s).trans h), arrive, if_neg (by simp [h])]

/-- REPLY_SENT (R185, R190). -/
theorem exec_replySent (hs : s.powered) :
    (∀ r rest b, s.host.replies = r :: rest → r.body = some b → exec .replySent s
      = .next (conclude { s with host := { s.host with
          replies := rest
          requests := if r.forRequest then s.host.requests.tail else s.host.requests
          sent := (0x5A : Byte) :: (u8 b.payload.length ++ [r.kind, r.tag, b.status] ++ b.payload)
            ++ [crc8 (u8 b.payload.length ++ [r.kind, r.tag, b.status] ++ b.payload)]
          resetDue := s.host.resetDue || r.forReset } }))
    ∧ (∀ r rest, s.host.replies = r :: rest → r.body = none → exec .replySent s = .next (conclude s))
    ∧ (s.host.replies = [] → exec .replySent s = .next (conclude s)) := by
  have hexec := event_of_powered replySent s hs
  refine ⟨fun r rest b hr hb => ?_, fun r rest hr hb => ?_, fun hr => ?_⟩
  · refine hexec.trans ?_
    rw [replySent, hr]
    dsimp only
    rw [hb]
    rfl
  · refine hexec.trans ?_
    rw [replySent, hr]
    dsimp only
    rw [hb]
  · refine hexec.trans ?_
    rw [replySent, hr]

/-- A request that finds a queue full (R185). -/
theorem exec_request_refused {c : Instr} {q : PendingReq} (h : requestOf c = some q) (hp : s.pack.power = .active)
    (hst : s.host.stopped = false) :
    (8 ≤ s.host.replies.length → exec c s = .next (conclude (raise .frameDropped s)))
    ∧ (s.host.replies.length < 8 → 4 ≤ s.host.requests.length →
        exec c s = .next (conclude { s with host := { s.host with
          replies := s.host.replies ++ [⟨q.kind + 0x80, q.tag, some ⟨0x0A, []⟩, false, false⟩] } })) := by
  obtain ⟨act, hact⟩ := exec_of_requestOf h
  have hpowered : s.powered := by
    rw [State.powered, hp]
    decide
  have hexec : exec c s = .next (conclude (admitted q.kind q.tag act s)) := by
    rw [hact, event_of_powered _ s hpowered, arrive_of_awake _ hp hst]
  refine ⟨fun hfull => ?_, fun hroom hfull => ?_⟩
  · rw [hexec, admitted, if_pos hfull]
    rfl
  · rw [hexec, admitted, if_neg (Nat.not_le.mpr hroom), if_pos hfull]
    rfl

/-- Settles O40: the head of the queue by `replySent`, and a request by its admission, which is the same for each kind
of the catalogue. -/
theorem repliesKeepTheirOrder : Obligations.RepliesKeepTheirOrder := by
  intro s hs
  obtain ⟨hsent, hdeferred, hempty⟩ := exec_replySent hs
  refine ⟨hsent, hdeferred, hempty, fun c q h hp hst => exec_request_refused h hp hst, fun c h hst => ?_,
    fun c h hp hst => ?_⟩
  · obtain ⟨act, hact⟩ := exec_of_isRequest h
    rw [hact, event_of_powered _ s hs, arrive_of_stopped act hst]
  · obtain ⟨act, hact⟩ := exec_of_isRequest h
    have hawake : (wake s).powered := by
      rw [State.powered, wake_power hp]
      decide
    rw [hact, hact, event_of_powered _ s hs, event_of_powered _ _ hawake, arrive_of_standby act hp hst]

end Sys2Proof.Machine
end

section
namespace Sys2Proof.Machine

variable {s : State}

/-! ## The receive assembly (R183) -/

theorem badFrame_of_room {tag : Byte} (h : s.host.replies.length < 8) : badFrame tag s = { s with host := { s.host with
    replies := s.host.replies ++ [⟨0xFF, tag, some ⟨0x01, []⟩, false, false⟩] } } := by
  rw [badFrame, if_neg (Nat.not_le.mpr h)]
  rfl

/-- A whole frame assembled (R183). -/
theorem assemble_whole {len kind tag b : Byte} {payload : List Byte} (hlen : len.toNat = payload.length)
    (hmax : len.toNat ≤ 60) : assemble ((len :: kind :: tag :: payload) ++ [b]) s
      = if b = crc8 (len :: kind :: tag :: payload)
        then frameArrives kind tag payload { s with host := { s.host with rx := .hunting } }
        else badFrame tag { s with host := { s.host with rx := .hunting } } := by
  have hlast : ((len :: kind :: tag :: payload) ++ [b]).getLastD 0 = b := by
    rw [List.getLastD_eq_getLast?, List.getLast?_concat]
    rfl
  have hfront : ((len :: kind :: tag :: payload) ++ [b]).dropLast = len :: kind :: tag :: payload := List.dropLast_concat
  change (if 60 < len.toNat then _ else if (payload ++ [b]).length = len.toNat + 1 then _ else _) = _
  rw [if_neg (Nat.not_lt.mpr hmax), if_pos (by simp [hlen])]
  change (if crc8 ((len :: kind :: tag :: payload) ++ [b]).dropLast = ((len :: kind :: tag :: payload) ++ [b]).getLastD 0
    then frameArrives kind tag (payload ++ [b]).dropLast _ else _) = _
  rw [hlast, hfront, List.dropLast_concat]
  exact if_congr eq_comm rfl rfl

theorem exec_hostByte (b : Byte) (k : Bool) (hs : s.powered) :
    exec (.hostByteReceived b k) s = .next (conclude (byteReceived b k s)) :=
  event_of_powered (byteReceived b k) s hs

theorem byteReceived_of_hunting (b : Byte) (k : Bool) (hst : s.host.stopped = false) (hrx : s.host.rx = .hunting) :
    byteReceived b k s = if k = true ∧ b = 0xA5 then setRx (.frame []) (wake s) else s := by
  rw [byteReceived, if_neg (by simp [hst]), hrx]

theorem byteReceived_of_frame (b : Byte) (k : Bool) {bytes : List Byte} (hst : s.host.stopped = false)
    (hrx : s.host.rx = .frame bytes) :
    byteReceived b k s = if k then assemble (bytes ++ [b]) s else breakFrame s := by
  rw [byteReceived, if_neg (by simp [hst]), hrx]

/-- The bytes on HRX, one by one (R183, R19, R190). -/
theorem bytes_are_assembled (hs : s.powered) (hst : s.host.stopped = false) :
    (s.host.rx = .hunting → exec (.hostByteReceived 0xA5 true) s
      = .next (conclude { wake s with host := { (wake s).host with rx := .frame [] } }))
    ∧ (∀ b, s.host.rx = .hunting → b ≠ 0xA5 → exec (.hostByteReceived b true) s = .next (conclude s))
    ∧ (∀ b, s.host.rx = .hunting → exec (.hostByteReceived b false) s = .next (conclude s))
    ∧ (∀ (len kind tag : Byte) (payload : List Byte) (b : Byte),
        s.host.rx = .frame (len :: kind :: tag :: payload) → len.toNat = payload.length →
        len.toNat ≤ 60 →
        (b = crc8 (len :: kind :: tag :: payload) → exec (.hostByteReceived b true) s
          = .next (conclude (frameArrives kind tag payload
              { s with host := { s.host with rx := .hunting } })))
        ∧ (b ≠ crc8 (len :: kind :: tag :: payload) → s.host.replies.length < 8 →
            exec (.hostByteReceived b true) s = .next (conclude { s with host := { s.host with
              rx := .hunting
              replies := s.host.replies ++ [⟨0xFF, tag, some ⟨0x01, []⟩, false, false⟩] } })))
    ∧ (∀ len kind tag : Byte, s.host.rx = .frame [len, kind] → 60 < len.toNat →
        s.host.replies.length < 8 →
        exec (.hostByteReceived tag true) s = .next (conclude { s with host := { s.host with
          rx := .discarding
          replies := s.host.replies ++ [⟨0xFF, tag, some ⟨0x01, []⟩, false, false⟩] } }))
    ∧ (∀ bytes b, s.host.rx = .frame bytes →
        exec (.hostByteReceived b false) s
            = .next (conclude (raise .frameDropped { s with host := { s.host with rx := .hunting } }))
        ∧ exec .hostByteGap s
            = .next (conclude (raise .frameDropped { s with host := { s.host with rx := .hunting } })))
    ∧ (s.host.rx = .discarding → exec .hostByteGap s
        = .next (conclude { s with host := { s.host with rx := .hunting } }))
    ∧ ∀ b k, exec (.hostByteReceived b k) { s with host := { s.host with stopped := true } }
        = .next (conclude { s with host := { s.host with stopped := true } }) := by
  have hgap := event_of_powered byteGap s hs
  refine ⟨fun hrx => ?_, fun b hrx hb => ?_, fun b hrx => ?_, fun len kind tag payload b hrx hlen hmax => ⟨fun hb => ?_,
    fun hb hroom => ?_⟩, fun len kind tag hrx hlong hroom => ?_, fun bytes b hrx => ⟨?_, ?_⟩, fun hrx => ?_, fun b k => ?_⟩
  · rw [exec_hostByte _ _ hs, byteReceived_of_hunting _ _ hst hrx, if_pos ⟨rfl, rfl⟩]
    rfl
  · rw [exec_hostByte _ _ hs, byteReceived_of_hunting _ _ hst hrx, if_neg fun h => hb h.2]
  · rw [exec_hostByte _ _ hs, byteReceived_of_hunting _ _ hst hrx, if_neg fun h => nomatch h.1]
  · rw [exec_hostByte _ _ hs, byteReceived_of_frame _ _ hst hrx, if_pos rfl, assemble_whole hlen hmax, if_pos hb]
  · rw [exec_hostByte _ _ hs, byteReceived_of_frame _ _ hst hrx, if_pos rfl, assemble_whole hlen hmax, if_neg hb,
      badFrame_of_room (by exact hroom)]
  · have hlength : assemble ([len, kind] ++ [tag]) s = badFrame tag (setRx .discarding s) := if_pos hlong
    rw [exec_hostByte _ _ hs, byteReceived_of_frame _ _ hst hrx, if_pos rfl, hlength, badFrame_of_room (by exact hroom)]
    rfl
  · rw [exec_hostByte _ _ hs, byteReceived_of_frame _ _ hst hrx, if_neg (by decide)]
    rfl
  · refine hgap.trans ?_
    rw [byteGap, hrx]
    rfl
  · refine hgap.trans ?_
    rw [byteGap, hrx]
    rfl
  · exact exec_hostByte (s := { s with host := { s.host with stopped := true } }) b k hs

/-! ## The catalogue (12.7, R184) -/

theorem toFlag_eq (b : Byte) : toFlag b = decide (b ≠ 0) := by
  rw [Bool.eq_iff_iff]
  simp [toFlag]

/-- A frame of the catalogue is the command whose block its kind and payload name. -/
theorem frame_is_command {kind tag : Byte} {p : List Byte} {f : State → Answer} {c : Instr}
    (hp : s.pack.power = .active) (hst : s.host.stopped = false) (hreq : request kind p = f)
    (hc : exec c s = ask kind tag f s) (hreset : kind ≠ kindReset := by decide)
    (hfence : ¬(kind = kindFence ∧ p = []) := by exact fun h => absurd h.1 (by decide)) :
    .next (conclude (frameArrives kind tag p s)) = exec c s := by
  have hpowered : s.powered := by
    rw [State.powered, hp]
    decide
  rw [hc, ask, event_of_powered _ s hpowered, arrive_of_awake _ hp hst, frameArrives, if_neg hreset, if_neg hfence, hreq]

theorem halves_pairs (l : List (Byte × Byte)) :
    halves (l.flatMap fun x => [x.1, x.2]) = some (l.map fun x => x.2 ++ x.1) := by
  induction l with
  | nil => rfl
  | cons x l ih =>
    change (halves (l.flatMap fun x => [x.1, x.2])).map _ = _
    rw [ih]
    rfl

theorem request_ocvTable {l : List (Byte × Byte)} (h : l.length = 11) :
    request 0x11 (l.flatMap fun x => [x.1, x.2]) = serveOcvTable (l.map fun x => x.2 ++ x.1) := by
  have hlen : (l.flatMap fun x => [x.1, x.2]).length = 22 := by
    simp [List.length_flatMap, h]
  have hparse : parseOcvTable (l.flatMap fun x => [x.1, x.2]) = some (serveOcvTable (l.map fun x => x.2 ++ x.1)) := by
    rw [parseOcvTable, if_pos hlen, halves_pairs]
    rfl
  change (parseOcvTable _).getD _ = _
  rw [hparse]
  rfl

/-- The first option of a CHARGE_FORCE (R161). -/
theorem serveChargeForce_eq {o : Byte} (h0 : 0 < o.toNat) (h16 : o.toNat < 16) : serveChargeForce o
    = if o.toNat % 2 = 1 then serveForceDisable else if o.toNat % 4 = 2 then serveForceEnable
      else if o.toNat % 8 = 4 then serveForceRecover else serveForceRenegotiate := by
  have hbit (i : Nat) : o.getLsbD i = decide (o.toNat / 2 ^ i % 2 = 1) := by
    rw [BitVec.getLsbD, Nat.testBit_eq_decide_div_mod_eq]
  funext s
  unfold serveChargeForce
  rw [if_neg (Nat.not_le.mpr h16), hbit, hbit, hbit, hbit]
  simp only [decide_eq_true_eq, pow_zero, Nat.div_one, Nat.reducePow]
  by_cases hdisable : o.toNat % 2 = 1
  · rw [if_pos hdisable, if_pos hdisable]
  rw [if_neg hdisable, if_neg hdisable]
  by_cases henable : o.toNat / 2 % 2 = 1
  · have hfour : o.toNat % 4 = 2 := by omega
    rw [if_pos henable, if_pos hfour]
  have hfour : ¬o.toNat % 4 = 2 := by omega
  rw [if_neg henable, if_neg hfour]
  by_cases hrecover : o.toNat / 4 % 2 = 1
  · have height : o.toNat % 8 = 4 := by omega
    rw [if_pos hrecover, if_pos height]
  · have height : ¬o.toNat % 8 = 4 := by omega
    have hlast : o.toNat / 8 % 2 = 1 := by omega
    rw [if_neg hrecover, if_neg height, if_pos hlast]

/-! ## What the catalogue does not list (R184, 12.7) -/

theorem bare_length (f : State → Answer) {p : List Byte} (h : p.length ∉ [0]) : bare f p = none := by
  cases p with
  | nil => simp at h
  | cons a l => rfl

theorem oneByte_length (f : Byte → State → Answer) {p : List Byte} (h : p.length ∉ [1]) : oneByte f p = none := by
  unfold oneByte
  split
  · simp at h
  · rfl

theorem oneHalf_length (f : Half → State → Answer) {p : List Byte} (h : p.length ∉ [2]) : oneHalf f p = none := by
  unfold oneHalf
  split
  · simp at h
  · rfl

theorem parsePackConfig_length {p : List Byte} (h : p.length ∉ [5]) : parsePackConfig p = none := by
  unfold parsePackConfig
  split
  · simp at h
  · rfl

theorem parseOcvTable_length {p : List Byte} (h : p.length ∉ [22]) : parseOcvTable p = none := if_neg (by simpa using h)

theorem parseProfileWrite_length {p : List Byte} (h : p.length ∉ [13]) : parseProfileWrite p = none := by
  unfold parseProfileWrite
  split
  · simp at h
  · rfl

theorem parseBlockConfig_length {p : List Byte} (h : p.length ∉ [0, 3]) : parseBlockConfig p = none := by
  unfold parseBlockConfig
  split
  · simp at h
  · simp at h
  · rfl

theorem parseDirtConfig_length {p : List Byte} (h : p.length ∉ [0, 13]) : parseDirtConfig p = none := by
  unfold parseDirtConfig
  split
  · simp at h
  · simp at h
  · rfl

theorem parseToolLoad_length {p : List Byte} (h : p.length ∉ [22]) : parseToolLoad p = none := by
  unfold parseToolLoad
  split
  · simp at h
  · rfl

theorem parseToolDrop_length {p : List Byte} (h : p.length ∉ [4]) : parseToolDrop p = none := by
  unfold parseToolDrop
  split
  · simp at h
  · rfl

theorem parseEventMask_length {p : List Byte} (h : p.length ∉ [0, 4]) : parseEventMask p = none := by
  unfold parseEventMask
  split
  · simp at h
  · simp at h
  · rfl

theorem parseChargeConfig_length {p : List Byte} (h : p.length ∉ [0, 5]) : parseChargeConfig p = none := by
  unfold parseChargeConfig
  split
  · simp at h
  · simp at h
  · rfl

theorem parseEvacConfig_length {p : List Byte} (h : p.length ∉ [0, 2]) : parseEvacConfig p = none := by
  unfold parseEvacConfig
  split
  · simp at h
  · simp at h
  · rfl

theorem parseWatchSet_length {p : List Byte} (h : p.length ∉ [9]) : parseWatchSet p = none := by
  unfold parseWatchSet
  split
  · simp at h
  · rfl

theorem parseWatchArm_length {p : List Byte} (h : p.length ∉ [2]) : parseWatchArm p = none := by
  unfold parseWatchArm
  split
  · simp at h
  · rfl

/-- The row of a kind refuses every length that 12.7 does not list for it. -/
def rowLengths (row : Byte × List Nat) : Prop :=
  row = (kindReset, [0]) ∨ row = (kindFence, [0])
    ∨ ∃ r, catalogue.find? (·.kind == row.1) = some r ∧ ∀ p : List Byte, p.length ∉ row.2 → r.parse p = none

theorem catalogue_lengths : ∀ row ∈ catalogueLengths, rowLengths row := by
  have hrow {kind : Byte} {lens : List Nat} {parse : List Byte → Option (State → Answer)}
      (h : catalogue.find? (·.kind == kind) = some ⟨kind, parse⟩) (hp : ∀ p : List Byte, p.length ∉ lens → parse p = none) :
      rowLengths (kind, lens) := .inr (.inr ⟨_, h, hp⟩)
  simp only [catalogueLengths, List.cons_append, List.nil_append, List.forall_mem_cons]
  exact ⟨hrow rfl fun _ => bare_length _, hrow rfl fun _ => bare_length _, hrow rfl fun _ => parseEventMask_length,
    .inr (.inl rfl), hrow rfl fun _ => bare_length _, .inl rfl, hrow rfl fun _ => parsePackConfig_length,
    hrow rfl fun _ => parseOcvTable_length, hrow rfl fun _ => bare_length _, hrow rfl fun _ => oneHalf_length _,
    hrow rfl fun _ => bare_length _, hrow rfl fun _ => oneHalf_length _, hrow rfl fun _ => bare_length _,
    hrow rfl fun _ => parseProfileWrite_length, hrow rfl fun _ => oneByte_length _, hrow rfl fun _ => oneByte_length _,
    hrow rfl fun _ => oneByte_length _, hrow rfl fun _ => oneByte_length _, hrow rfl fun _ => bare_length _,
    hrow rfl fun _ => bare_length _, hrow rfl fun _ => bare_length _, hrow rfl fun _ => parseBlockConfig_length,
    hrow rfl fun _ => parseDirtConfig_length, hrow rfl fun _ => bare_length _, hrow rfl fun _ => bare_length _,
    hrow rfl fun _ => parseToolLoad_length, hrow rfl fun _ => parseToolDrop_length, hrow rfl fun _ => oneByte_length _,
    hrow rfl fun _ => bare_length _, hrow rfl fun _ => bare_length _, hrow rfl fun _ => parseChargeConfig_length,
    hrow rfl fun _ => bare_length _, hrow rfl fun _ => bare_length _, hrow rfl fun _ => oneByte_length _,
    hrow rfl fun _ => parseEvacConfig_length, hrow rfl fun _ => oneByte_length _, hrow rfl fun _ => parseWatchSet_length,
    hrow rfl fun _ => parseWatchArm_length, hrow rfl fun _ => oneByte_length _, hrow rfl fun _ => oneByte_length _,
    nofun⟩

theorem serve_of_room (kind tag : Byte) (f : State → Answer) (hr : s.host.replies.length < 8)
    (hq : s.host.requests.length < 4) : serve kind tag f s = answered kind tag (f s) := by
  rw [serve, admitted, if_neg (Nat.not_le.mpr hr), if_neg (Nat.not_le.mpr hq)]

theorem frameArrives_reset_payload {tag : Byte} {p : List Byte} (hp : p ≠ []) (hr : s.host.replies.length < 8)
    (hq : s.host.requests.length < 5) : frameArrives 0x06 tag p s = replied 0x06 tag .badArg [] s := by
  change (if p = [] then resetArrives tag s else badReset tag s) = _
  rw [if_neg hp, badReset, if_neg (Nat.not_le.mpr hr), if_neg (Nat.not_le.mpr hq)]
  rfl

/-- Frames refused for their kind, their length or their choice (R184, 12.7, R161, R179). -/
theorem frames_refused (tag : Byte) (hr : s.host.replies.length < 8) (hq : s.host.requests.length < 4) :
    (∀ kind p, (∀ row ∈ catalogueLengths, row.1 ≠ kind) →
      frameArrives kind tag p s = replied kind tag .unknownKind [] s)
    ∧ (∀ row ∈ catalogueLengths, ∀ p : List Byte, p.length ∉ row.2 →
      frameArrives row.1 tag p s = replied row.1 tag .badArg [] s)
    ∧ (∀ o : Byte, o = 0 ∨ 16 ≤ o.toNat →
      frameArrives 0x43 tag [o] s = replied 0x43 tag .badArg [] s)
    ∧ (∀ i c : Byte, 2 ≤ c.toNat → frameArrives 0x51 tag [i, c] s = replied 0x51 tag .badArg [] s) := by
  have hserved (kind : Byte) (p : List Byte) (st : Status) (hreset : kind ≠ kindReset)
      (hfence : ¬(kind = kindFence ∧ p = [])) (hreq : request kind p s = refuse st s) :
      frameArrives kind tag p s = replied kind tag st [] s := by
    rw [frameArrives, if_neg hreset, if_neg hfence, serve_of_room _ _ _ hr hq, hreq]
    rfl
  refine ⟨fun kind p h => ?_, fun row hrow p hlen => ?_, fun o ho => ?_, fun i c hc => ?_⟩
  · have hreset : kind ≠ kindReset := fun hk => h (kindReset, [0]) (by decide) hk.symm
    have hfence : kind ≠ kindFence := fun hk => h (kindFence, [0]) (by decide) hk.symm
    have hnone : catalogue.find? (·.kind == kind) = none := by
      rw [List.find?_eq_none]
      intro r hr hk
      have hlisted : ∀ r ∈ catalogue.map (·.kind), r ∈ catalogueLengths.map (·.1) := by decide
      obtain ⟨row, hrow, heq⟩ := List.mem_map.mp (hlisted r.kind (List.mem_map_of_mem hr))
      exact h row hrow (heq.trans (by simpa using hk))
    refine hserved kind p .unknownKind hreset (fun hk => hfence hk.1) ?_
    rw [request, hnone]
    dsimp only
    rw [if_neg fun hk => hk.elim hfence hreset]
  · rcases catalogue_lengths row hrow with rfl | rfl | ⟨r, hfind, hparse⟩
    · exact frameArrives_reset_payload (by rintro rfl; simp at hlen) hr (by omega)
    · refine hserved kindFence p .badArg (by decide) (fun h => hlen (by simp [h.2])) ?_
      rfl
    · have hreset : row.1 ≠ kindReset := fun hk => by
        rw [hk, show catalogue.find? (·.kind == kindReset) = none from rfl] at hfind
        cases hfind
      have hfence : row.1 ≠ kindFence := fun hk => by
        rw [hk, show catalogue.find? (·.kind == kindFence) = none from rfl] at hfind
        cases hfind
      refine hserved row.1 p .badArg hreset (fun h => hfence h.1) ?_
      rw [request, hfind]
      dsimp only
      rw [hparse p hlen]
      rfl
  · refine hserved 0x43 [o] .badArg (by decide) (by simp) ?_
    change serveChargeForce o s = _
    rcases ho with rfl | ho
    · rfl
    · rw [serveChargeForce, if_pos ho]
  · refine hserved 0x51 [i, c] .badArg (by decide) (by simp) ?_
    have h0 : c ≠ 0 := by rintro rfl; simp at hc
    have h1 : c ≠ 1 := by rintro rfl; simp at hc
    change serveWatchArmByte i c s = _
    rw [serveWatchArmByte, if_neg h0, if_neg h1]

end Sys2Proof.Machine
end

section
namespace Sys2Proof.Machine

/-- Settles O39: the bytes run through `assemble`, and a frame of the catalogue reaches the block that its command
asks. -/
theorem bytesBecomeFramesAndCommands : Obligations.BytesBecomeFramesAndCommands := by
  refine ⟨fun s hs hst => bytes_are_assembled hs hst, fun tag s hp hst => ?_⟩
  have hpowered : s.powered := by
    rw [State.powered, hp]
    decide
  have hfence : .next (conclude (frameArrives 0x04 tag [] s)) = exec (.fence tag) s := by
    have hexec := event_of_powered (arrive (admitted kindFence tag (fenceArrives tag))) s hpowered
    rw [arrive_of_awake _ hp hst] at hexec
    exact hexec.symm
  have hreset : .next (conclude (frameArrives 0x06 tag [] s)) = exec (.reset tag) s := by
    have hexec := event_of_powered (arrive (resetArrives tag)) s hpowered
    rw [arrive_of_awake _ hp hst] at hexec
    exact hexec.symm
  have hprofile (i e f a b c d g h u v w x : Byte) : request 0x20 [i, e, f, a, b, c, d, g, h, u, v, w, x]
      = serveProfileWrite i ⟨decide (e ≠ 0), decide (f ≠ 0), b ++ a, d ++ c, h ++ g, decide (u ≠ 0), v, w, x⟩ := by
    rw [← toFlag_eq, ← toFlag_eq, ← toFlag_eq]
    rfl
  have hload (n m l o k air a b c d e f g h i j x y yd u v pin : Byte) :
      request 0x38 [n, m, l, o, k, air, a, b, c, d, e, f, g, h, i, j, x, y, yd, u, v, pin]
        = serveToolLoad ⟨o ++ l ++ m ++ n, k, air, b ++ a, d ++ c, f ++ e, h ++ g, j ++ i, y ++ x, decide (yd ≠ 0),
            v ++ u, decide (pin ≠ 0)⟩ := by
    rw [← toFlag_eq, ← toFlag_eq]
    rfl
  have hforce (o : Byte) (h0 : 0 < o.toNat) (h16 : o.toNat < 16) :
      .next (conclude (frameArrives 0x43 tag [o] s)) = exec (if o.toNat % 2 = 1 then .chargeForceDisable tag
        else if o.toNat % 4 = 2 then .chargeForceEnable tag else if o.toNat % 8 = 4 then .chargeForceRecover tag
        else .chargeForceRenegotiate tag) s := by
    refine frame_is_command hp hst (f := serveChargeForce o) rfl ?_
    rw [serveChargeForce_eq h0 h16]
    repeat' split
    all_goals rfl
  have take {kind : Byte} {p : List Byte} {f : State → Answer} {c : Instr} (hreq : request kind p = f)
      (hc : exec c s = ask kind tag f s) (hk : kind ≠ kindReset := by decide) (hk' : kind ≠ kindFence := by decide) :
      .next (conclude (frameArrives kind tag p s)) = exec c s :=
    frame_is_command hp hst hreq hc hk fun h => hk' h.1
  refine ⟨take rfl rfl, take rfl rfl, take rfl rfl, fun _ _ _ _ => take rfl rfl, hfence, take rfl rfl, hreset,
    fun _ _ _ _ _ => take rfl rfl, fun l hl => take (request_ocvTable hl) rfl, take rfl rfl, fun _ _ => take rfl rfl,
    take rfl rfl, fun _ _ => take rfl rfl, take rfl rfl,
    fun _ _ _ _ _ _ _ _ _ _ _ _ _ => take (hprofile _ _ _ _ _ _ _ _ _ _ _ _ _) rfl,
    fun _ => ⟨take rfl rfl, take rfl rfl, take rfl rfl, take rfl rfl⟩, take rfl rfl, take rfl rfl, take rfl rfl,
    take rfl rfl, fun _ _ _ => take rfl rfl, take rfl rfl, fun _ _ _ _ _ _ _ _ _ _ _ _ _ => take rfl rfl, take rfl rfl,
    take rfl rfl,
    fun _ _ _ _ _ _ _ _ _ _ _ _ _ _ _ _ _ _ _ _ _ _ => take (hload _ _ _ _ _ _ _ _ _ _ _ _ _ _ _ _ _ _ _ _ _ _) rfl,
    fun _ _ _ _ => take rfl rfl, fun _ => take rfl rfl, take rfl rfl, take rfl rfl, take rfl rfl,
    fun _ _ _ _ _ => take rfl rfl, take rfl rfl, take rfl rfl, hforce, take rfl rfl, fun _ _ => take rfl rfl,
    fun _ => take rfl rfl, fun _ _ _ _ _ _ _ _ _ => take rfl rfl,
    fun _ => ⟨take rfl rfl, take rfl rfl, take rfl rfl, take rfl rfl⟩, fun hr hq => frames_refused tag hr hq,
    fun hr hq p hne => frameArrives_reset_payload hne hr hq⟩

end Sys2Proof.Machine
end

section
namespace Sys2Proof.Machine

variable {s t : State}

/-! ## A due request is sent, and an exchange runs (R147, R148) -/

theorem trySend_of_busy (h : s.dock.exch.isSome = true) : trySend s = s := if_pos h

theorem trySend_of_halt (h : s.dock.exch = none) (hd : s.dock.dueHalt = true) : trySend s = { s with dock := { s.dock with
    dueHalt := false, exch := some (freshExchange .halt) } } := by
  rw [trySend, if_neg (by simp [h]), if_pos hd]
  rfl

theorem trySend_of_charge {r : DockReq} (h : s.dock.exch = none) (hd : s.dock.dueHalt = false)
    (hc : s.dock.dueCharge = some r) (hp : ¬(s.dock.state = .paused ∧ s.dock.pause = .offerChange)) :
    trySend s = { s with dock := { s.dock with dueCharge := none, exch := some (freshExchange r) } } := by
  rw [trySend, if_neg (by simp [h]), if_neg (by simp [hd]), hc]
  exact if_neg hp

/-- The CHARGE_REQ of a pause for changed offers makes the state NEGOTIATE (R157, R159). -/
theorem trySend_of_changed {r : DockReq} (h : s.dock.exch = none) (hd : s.dock.dueHalt = false)
    (hc : s.dock.dueCharge = some r) (hs : s.dock.state = .paused) (hp : s.dock.pause = .offerChange) : trySend s
    = setCharge .negotiate { s with dock := { s.dock with dueCharge := none, exch := some (freshExchange r) } } := by
  rw [trySend, if_neg (by simp [h]), if_neg (by simp [hd]), hc]
  exact if_pos ⟨hs, hp⟩

theorem trySend_of_evac {n : Nat} (h : s.dock.exch = none) (hd : s.dock.dueHalt = false) (hc : s.dock.dueCharge = none)
    (he : s.dock.dueEvac = some n) : trySend s
    = { s with dock := { s.dock with dueEvac := none, exch := some (freshExchange (.evacReq n)) } } := by
  rw [trySend, if_neg (by simp [h]), if_neg (by simp [hd]), hc, he]
  simp only [startExchange, freshExchange, hc]

theorem trySend_of_none (hd : s.dock.dueHalt = false) (hc : s.dock.dueCharge = none) (he : s.dock.dueEvac = none) :
    trySend s = s := by
  unfold trySend
  split
  · rfl
  · rw [if_neg (by simp [hd]), hc, he]

/-- The dock's record and the evacuation through the end of an event without hand-overs. -/
theorem conclude_dock (h : s.signals = []) : (conclude s).dock = s.dock := by
  rw [conclude_of_no_signals h, finish_dock]

theorem signals_of_besideDock (h : besideDock t = besideDock s) : t.signals = s.signals :=
  (congrArg State.signals h :)

theorem exec_dockRequestSend (hs : s.powered) : exec .dockRequestSend s = .next (conclude (trySend s)) :=
  event_of_powered trySend s hs

theorem exec_requestSend_changed {r : DockReq} (hs : s.powered) (h : s.dock.exch = none) (hd : s.dock.dueHalt = false)
    (hc : s.dock.dueCharge = some r) (hstate : s.dock.state = .paused) (hp : s.dock.pause = .offerChange)
    (hsig : s.signals = []) : ∃ t, exec .dockRequestSend s = .next t ∧ t.dock.state = .negotiate ∧ t.dock.csw = false
      ∧ hasEvent .chargeState t = true ∧ t.dock.exch = some (freshExchange r) := by
  obtain ⟨u, hu⟩ : ∃ u, u = trySend s := ⟨_, rfl⟩
  have hdock : u.dock = _ := hu ▸ (trySend_dock s).trans (Dock.send_of_changed h hd hc hstate hp)
  rw [Dock.enter_of_ne (by simp [hstate])] at hdock
  have hevent : hasEvent .chargeState u = true := by
    rw [hu, trySend_of_changed h hd hc hstate hp]
    exact hasEvent_setCharge (by simp [hstate])
  have hconclude : (conclude u).dock = u.dock :=
    conclude_dock ((signals_of_besideDock (hu ▸ trySend_besideDock s)).trans hsig)
  refine ⟨conclude u, hu ▸ exec_dockRequestSend hs, ?_, ?_, conclude_keeps _ _ hevent, ?_⟩
  · rw [hconclude, hdock]
  · rw [hconclude, hdock]
    exact Bool.and_false _
  · rw [hconclude, hdock]

/-! ## The failure of an exchange (R148, R158, R168) -/

/-- COARSE, or PAUSED with cause NO_OFFER where its offer is not eligible (R158). -/
def coarseEntered (s : State) (d : Dock) : Prop :=
  d.agreement = none ∧ (s.pack.count ≤ 6 → d.state = .coarse ∧ d.csw = s.drive.state.atRest)
    ∧ (7 ≤ s.pack.count → d.state = .paused ∧ d.pause = .noOffer ∧ d.csw = false)

theorem enterNoOffer_facts (s : State) : (enterNoOffer s).dock.state = .paused ∧ (enterNoOffer s).dock.pause = .noOffer
    ∧ (enterNoOffer s).dock.csw = false ∧ (enterNoOffer s).dock.agreement = s.dock.agreement := by
  have hno : ¬(({ (s.dock.enter .paused).open with pause := .noOffer, dueCharge := none } : Dock).state = .paused
      ∧ ({ (s.dock.enter .paused).open with pause := .noOffer, dueCharge := none } : Dock).pause = .offerChange) :=
    fun h => nomatch h.2
  rw [enterNoOffer_dock]
  refine ⟨?_, ?_, ?_, ?_⟩
  · exact (Dock.send_stays Dock.state (fun _ _ _ _ _ => rfl) hno).trans (s.dock.enter_state .paused)
  · exact Dock.send_stays Dock.pause (fun _ _ _ _ _ => rfl) hno
  · exact Dock.send_stays Dock.csw (fun _ _ _ _ _ => rfl) hno
  · exact (Dock.send_stays Dock.agreement (fun _ _ _ _ _ => rfl) hno).trans
      (s.dock.enter_keeps Dock.agreement (fun _ _ _ _ _ => rfl) .paused)

theorem enterCoarse_entered (s : State) : coarseEntered s (enterCoarse s).dock := by
  unfold enterCoarse
  dsimp only
  obtain ⟨u, hu⟩ : ∃ u, u = { openSwitch s with dock := { (openSwitch s).dock with
    resume := none, taper := none, agreement := none, dueCharge := none, precharge := 0 } } := ⟨_, rfl⟩
  rw [← hu]
  have hagree : u.dock.agreement = none := hu ▸ rfl
  have hcount : neededVolts u = s.pack.count * 4200 + 1000 := hu ▸ rfl
  split
  · rename_i hle
    have hsix : s.pack.count ≤ 6 := by
      unfold coarseVolts at hle
      omega
    have hdock := setCharge_dock .coarse u
    have hdrive : (setCharge .coarse u).drive = s.drive :=
      (congrArg State.drive (setCharge_besideDock .coarse u) :).trans (hu ▸ rfl)
    refine ⟨?_, fun _ => ⟨?_, ?_⟩, fun h => by omega⟩
    · change (setCharge .coarse u).dock.agreement = none
      rw [hdock, Dock.enter_keeps Dock.agreement (fun _ _ _ _ _ => rfl), hagree]
    · change (setCharge .coarse u).dock.state = .coarse
      rw [hdock, Dock.enter_state]
    · change (setCharge .coarse u).drive.state.atRest = _
      rw [hdrive]
  · rename_i hlt
    obtain ⟨hstate, hpause, hcsw, hkept⟩ := enterNoOffer_facts u
    refine ⟨hkept.trans hagree, fun h => ?_, fun _ => ⟨hstate, hpause, hcsw⟩⟩
    unfold coarseVolts at hlt
    omega

theorem coarseEntered.send {d : Dock} (h : coarseEntered s d) : coarseEntered s d.send := by
  obtain ⟨hagree, hcoarse, hpaused⟩ := h
  have hno : ¬(d.state = .paused ∧ d.pause = .offerChange) := by
    rintro ⟨hstate, hpause⟩
    rcases Nat.lt_or_ge s.pack.count 7 with hlt | hge
    · exact nomatch hstate.symm.trans (hcoarse (by omega)).1
    · exact nomatch hpause.symm.trans (hpaused hge).2.1
  have hstate := Dock.send_stays Dock.state (fun _ _ _ _ _ => rfl) hno
  have hpause := Dock.send_stays Dock.pause (fun _ _ _ _ _ => rfl) hno
  have hcsw := Dock.send_stays Dock.csw (fun _ _ _ _ _ => rfl) hno
  have hkept := Dock.send_stays Dock.agreement (fun _ _ _ _ _ => rfl) hno
  unfold coarseEntered
  rw [hstate, hpause, hcsw, hkept]
  exact ⟨hagree, hcoarse, hpaused⟩

/-- The failure of a charge request in the states that wait for it (R149, R151, R154). -/
theorem exchangeFailed_charge {r : DockReq} (h : (r = .hello ∧ s.dock.state = .identify)
      ∨ ((∃ i input, r = .chargeReq i input) ∧ (s.dock.state = .negotiate ∨ s.dock.state = .precharge
          ∨ s.dock.state = .bulk ∨ s.dock.state = .taper))) :
    exchangeFailed r s = trySend (enterCoarse (freeRecord s)) := by
  rcases h with ⟨rfl, hstate⟩ | ⟨⟨i, input, rfl⟩, hstate⟩
  · exact congrArg trySend (if_pos hstate)
  · have hfreed : (freeRecord s).dock.state = s.dock.state := rfl
    unfold exchangeFailed
    dsimp only
    rcases hstate with h | h | h | h <;> rw [hfreed, h]

theorem exchangeFailed_coarse {r : DockReq} (h : (r = .hello ∧ s.dock.state = .identify)
      ∨ ((∃ i input, r = .chargeReq i input) ∧ (s.dock.state = .negotiate ∨ s.dock.state = .precharge
          ∨ s.dock.state = .bulk ∨ s.dock.state = .taper))) : coarseEntered s (exchangeFailed r s).dock := by
  rw [exchangeFailed_charge h, trySend_dock]
  exact (enterCoarse_entered (freeRecord s)).send

theorem evacNoAccept_of_requested (h : s.evac.state = .requested) : evacNoAccept s = raise .evacEnd { s with
    evac := { s.evac with state := .failed, outcome := .noAccept, timer := none } } := if_pos h

/-- The failure of an EVAC_REQ (R168). -/
theorem exchangeFailed_evac (d : Nat) (h : s.evac.state = .requested) :
    (exchangeFailed (.evacReq d) s).evac = { s.evac with state := .failed, outcome := .noAccept, timer := none }
      ∧ hasEvent .evacEnd (exchangeFailed (.evacReq d) s) = true := by
  have hfailed : exchangeFailed (.evacReq d) s = trySend (evacNoAccept (freeRecord s)) := rfl
  rw [hfailed, evacNoAccept_of_requested (by exact h)]
  exact ⟨(congrArg State.evac (trySend_besideDock _) :), trySend_keeps _ _ (hasEvent_raise _ _)⟩

theorem exchangeFailed_halt (s : State) : (exchangeFailed .halt s).dock.agreement = s.dock.agreement
    ∧ (exchangeFailed .halt s).evac = s.evac := by
  have hfailed : exchangeFailed .halt s = trySend (freeRecord s) := rfl
  rw [hfailed]
  refine ⟨?_, (congrArg State.evac (trySend_besideDock _) :)⟩
  rw [trySend_dock]
  exact Dock.send_keeps Dock.agreement (fun _ _ _ _ _ => rfl) (fun _ _ _ _ _ => rfl) _

theorem exchangeFailed_signals (r : DockReq) (s : State) : (exchangeFailed r s).signals = s.signals := by
  have hfreed : (freeRecord s).signals = s.signals := rfl
  unfold exchangeFailed
  dsimp only
  rw [signals_of_besideDock (trySend_besideDock _)]
  cases r with
  | hello =>
    dsimp only
    split
    · exact signals_of_besideDock (enterCoarse_besideDock (freeRecord s))
    · rfl
  | chargeReq i input =>
    cases hstate : (freeRecord s).dock.state <;> simp only [hfreed, signals_of_besideDock (enterCoarse_besideDock _)]
  | evacReq d =>
    dsimp only [evacNoAccept]
    split <;> rfl
  | halt => rfl

/-! ## The events of an exchange that runs (R146, R147) -/

theorem exec_requestLastByte {e : Exchange} (hs : s.powered) (he : s.dock.exch = some e) (hsend : e.send = .sending) :
    exec .dockRequestLastByte s = .next (conclude { s with dock := { s.dock with
      exch := some { e with send := .sent, deadline := some 200 } } }) := by
  have hsent : requestSent s = { s with dock := { s.dock with
      exch := some { e with send := .sent, deadline := some 200 } } } := by
    simp only [requestSent, he, hsend, if_true]
  rw [← hsent]
  exact event_of_powered requestSent s hs

theorem exec_collision {e : Exchange} (hs : s.powered) (he : s.dock.exch = some e) (hsend : e.send = .sending) :
    exec .dockCollision s = .next (conclude (if 5 ≤ e.collisions + 1 then attemptMissed e s
      else { s with dock := { s.dock with
        exch := some { e with send := .collided, collisions := e.collisions + 1 } } })) := by
  have hcollided : collided s = if 5 ≤ e.collisions + 1 then attemptMissed e s
      else { s with dock := { s.dock with
        exch := some { e with send := .collided, collisions := e.collisions + 1 } } } := by
    simp only [collided, he, hsend, if_true]
  rw [← hcollided]
  exact event_of_powered collided s hs

theorem exec_collisionResend {e : Exchange} (hs : s.powered) (he : s.dock.exch = some e) (hsend : e.send = .collided) :
    exec .dockCollisionResend s = .next (conclude { s with dock := { s.dock with
      exch := some { e with send := .sending } } }) := by
  have hagain : resendCollided s = { s with dock := { s.dock with exch := some { e with send := .sending } } } := by
    simp only [resendCollided, he, hsend, if_true]
  rw [← hagain]
  exact event_of_powered resendCollided s hs

theorem exec_deadlineExpiry {e : Exchange} (hs : s.powered) (he : s.dock.exch = some e)
    (hdeadline : e.deadline.isSome = true) :
    exec .dockDeadlineExpiry s = .next (conclude (deadlineExpired e s)) := by
  have hpassed : deadlinePassed s = deadlineExpired e s := by
    simp only [deadlinePassed, he, hdeadline, if_true]
  rw [← hpassed]
  exact event_of_powered deadlinePassed s hs

theorem resend_eq {e : Exchange} (n : Nat) (he : s.dock.exch = some e) : resend n s = { s with dock := { s.dock with
    exch := some { e with attempts := n, deadline := none, waiting := false, send := .sending, collisions := 0 } } } := by
  simp only [resend, he, Option.map_some]

theorem attemptMissed_of_few {e : Exchange} (he : s.dock.exch = some e) (h : e.attempts < 3) : attemptMissed e s
    = { s with dock := { s.dock with exch := some { e with
        attempts := e.attempts + 1, deadline := none, waiting := false, send := .sending, collisions := 0 } } } := by
  rw [attemptMissed, if_pos h, resend_eq _ he]

theorem deadlineExpired_of_first {e : Exchange} (he : s.dock.exch = some e) (hphase : e.phase = .first)
    (h : e.waiting = true ∨ e.attempts < 3) : deadlineExpired e s = { s with dock := { s.dock with exch := some { e with
      attempts := if e.waiting then 1 else e.attempts + 1
      deadline := none, waiting := false, send := .sending, collisions := 0 } } } := by
  have hsplit : deadlineExpired e s = if e.waiting then resend 1 s else attemptMissed e s := by
    simp only [deadlineExpired, hphase]
  rw [hsplit]
  by_cases hwait : e.waiting = true
  · rw [if_pos hwait, if_pos hwait, resend_eq 1 he]
  · rw [if_neg hwait, if_neg hwait, attemptMissed_of_few he (h.resolve_left hwait)]

/-- The third attempt that fails ends the exchange. -/
theorem exec_exchange_fails {c : Instr} {e : Exchange} (hs : s.powered) (he : s.dock.exch = some e)
    (h : (c = .dockDeadlineExpiry ∧ e.deadline.isSome
        ∧ (e.phase ≠ .first ∨ (e.waiting = false ∧ 3 ≤ e.attempts)))
      ∨ (c = .dockCollision ∧ e.send = .sending ∧ 4 ≤ e.collisions ∧ 3 ≤ e.attempts)) :
    exec c s = .next (conclude (exchangeFailed e.req s)) := by
  have hmissed (hthree : 3 ≤ e.attempts) : attemptMissed e s = exchangeFailed e.req s := if_neg (Nat.not_lt.mpr hthree)
  rcases h with ⟨rfl, hdeadline, hphase⟩ | ⟨rfl, hsend, hcollisions, hthree⟩
  · have hend : deadlineExpired e s = exchangeFailed e.req s := by
      cases hp : e.phase with
      | first =>
        obtain ⟨hwait, hthree⟩ := hphase.resolve_left (by simp [hp])
        simp only [deadlineExpired, hp, hwait, hmissed hthree]
        rfl
      | offers => simp only [deadlineExpired, hp]
      | ready => simp only [deadlineExpired, hp]
    rw [exec_deadlineExpiry hs he hdeadline, hend]
  · rw [exec_collision hs he hsend, if_pos (by omega), hmissed hthree]

/-- Settles O33: the due requests in their order, and a running exchange by its events, with the failure by the
request's kind. -/
theorem dueRequestsAreSentAndRetried : Obligations.DueRequestsAreSentAndRetried := by
  refine ⟨fun s hs => ⟨fun hbusy => ?_, fun hfree hhalt => ?_, fun r hfree hhalt hdue => ⟨fun hno => ?_, fun hp hsig =>
    exec_requestSend_changed hs hfree hhalt hdue hp.1 hp.2 hsig⟩, fun d hfree hhalt hdue hevac => ?_⟩,
    fun e s hs he => ⟨fun hsend => exec_requestLastByte hs he hsend, fun hsend hfew => ?_, fun hsend hmany hattempts => ?_,
      fun hsend => exec_collisionResend hs he hsend, fun hdeadline hphase h => ?_, fun c hsig hfails => ?_⟩⟩
  · rw [exec_dockRequestSend hs, trySend_of_busy hbusy]
  · rw [exec_dockRequestSend hs, trySend_of_halt hfree hhalt]
    rfl
  · rw [exec_dockRequestSend hs, trySend_of_charge hfree hhalt hdue hno]
    rfl
  · rw [exec_dockRequestSend hs, trySend_of_evac hfree hhalt hdue hevac]
    rfl
  · rw [exec_collision hs he hsend, if_neg (by omega)]
  · rw [exec_collision hs he hsend, if_pos (by omega), attemptMissed_of_few he hattempts]
  · rw [exec_deadlineExpiry hs he hdeadline, deadlineExpired_of_first he hphase h]
  · have hsignals : (exchangeFailed e.req s).signals = [] := (exchangeFailed_signals _ s).trans hsig
    refine ⟨_, exec_exchange_fails hs he hfails, fun hreq => ?_, fun ⟨d, hreq⟩ hstate => ?_, fun hreq => ?_⟩
    · rw [conclude_dock hsignals]
      exact exchangeFailed_coarse hreq
    · obtain ⟨hevac, hevent⟩ := exchangeFailed_evac d hstate
      rw [conclude_evac, hreq, hevac]
      exact ⟨rfl, rfl, conclude_keeps _ _ hevent⟩
    · obtain ⟨hagree, hevac⟩ := exchangeFailed_halt s
      rw [conclude_dock hsignals, conclude_evac, hreq]
      exact ⟨hagree, hevac⟩

end Sys2Proof.Machine
end

section
namespace Sys2Proof.Machine

variable {s t : State}

/-! ## The parts of a charge check, one by one (R153 to R160) -/

/-- The dock's record without what the parts of a check can write. -/
def Dock.besideCheck (d : Dock) : Dock := { d with
  state := .detached, pause := .temp, lastFault := .none, csw := false, iChg := 0, iTgt := 0, want := 0, bleed := []
  exch := none, dueHalt := false, dueCharge := none, dueEvac := none, agreement := none, taper := none, resume := none
  precharge := 0, total := 0 }

theorem Dock.enter_besideCheck (c : ChargeState) (d : Dock) : (d.enter c).besideCheck = d.besideCheck :=
  Dock.enter_keeps Dock.besideCheck (fun _ _ _ _ _ => rfl) c d

theorem Dock.send_besideCheck (d : Dock) : d.send.besideCheck = d.besideCheck :=
  Dock.send_keeps Dock.besideCheck (fun _ _ _ _ _ => rfl) (fun _ _ _ _ _ => rfl) d

/-- The dock's record at the entry to TOPPED, before a due request is sent (R155). -/
def Dock.top (d : Dock) : Dock := { (d.enter .topped).open with
  agreement := none, total := 0, dueCharge := none
  dueHalt := if d.state = .coarse then d.dueHalt else d.dueHalt || d.identTaken }

theorem enterTopped_dock (s : State) : (enterTopped s).dock = s.dock.top.send := by
  have henter := setCharge_dock .topped s
  unfold enterTopped
  dsimp only
  rw [trySend_dock]
  refine congrArg Dock.send ?_
  have hdue : (s.dock.enter .topped).dueHalt = s.dock.dueHalt :=
    Dock.enter_keeps Dock.dueHalt (fun _ _ _ _ _ => rfl) _ _
  have htaken : (s.dock.enter .topped).identTaken = s.dock.identTaken :=
    Dock.enter_keeps Dock.identTaken (fun _ _ _ _ _ => rfl) _ _
  unfold Dock.top
  by_cases hcoarse : s.dock.state = .coarse
  · rw [if_pos (by simp [hcoarse]), if_pos hcoarse]
    simp only [openSwitch, henter, Dock.open, hdue]
  · rw [if_neg (by simp [hcoarse]), if_neg hcoarse]
    simp only [makeHaltDue, openSwitch, henter, Dock.open, hdue, htaken]

/-- The current and the input that a check forms under an agreement (R150, R154). -/
def formedCurrent (ph : ChargePhase) (a : Agreement) (s : State) : Nat :=
  phaseCurrent s ph (chargeTarget s) a.volts a.amps

def formedInput (ph : ChargePhase) (a : Agreement) (s : State) : Nat :=
  inputFor (formedCurrent ph a s) (packVolts s) a.volts a.amps

/-- The dock's record after the recompute of a check, before a due request is sent (R154). -/
def recomputedDock (ph : ChargePhase) (a : Agreement) (s : State) : Dock := { s.dock with
  iTgt := chargeTarget s, want := formedCurrent ph a s
  dueCharge := if 100 ≤ distance (formedInput ph a s) a.input then some (.chargeReq a.index (formedInput ph a s))
    else s.dock.dueCharge
  iChg := if s.dock.csw then min (formedCurrent ph a s) (cover a (packVolts s)) else 0 }

theorem recomputeCurrent_dock (ph : ChargePhase) {a : Agreement} (h : s.dock.agreement = some a) :
    (recomputeCurrent ph s).dock = (recomputedDock ph a s).send := by
  simp only [recomputeCurrent, h]
  rw [trySend_dock]
  simp only [applyCurrent, recomputedDock, formedCurrent, formedInput, h]
  rfl

theorem recomputeCurrent_of_none (ph : ChargePhase) (h : s.dock.agreement = none) : recomputeCurrent ph s = s := by
  simp only [recomputeCurrent, h]

/-- What a recompute leaves of the dock. -/
theorem recomputeCurrent_stays {α : Type} (f : Dock → α)
    (hq : ∀ (d : Dock) e h c n, f { d with exch := e, dueHalt := h, dueCharge := c, dueEvac := n } = f d)
    (hc : ∀ (d : Dock) x w i, f { d with iTgt := x, want := w, iChg := i } = f d) (ph : ChargePhase)
    (hp : s.dock.state ≠ .paused) : f (recomputeCurrent ph s).dock = f s.dock := by
  cases ha : s.dock.agreement with
  | none => rw [recomputeCurrent_of_none ph ha]
  | some a =>
    rw [recomputeCurrent_dock ph ha, Dock.send_stays f hq (d := recomputedDock ph a s) fun h => hp h.1]
    exact (hq { s.dock with iTgt := chargeTarget s, want := formedCurrent ph a s
                            iChg := if s.dock.csw then min (formedCurrent ph a s) (cover a (packVolts s)) else 0 }
      s.dock.exch s.dock.dueHalt _ s.dock.dueEvac).trans (hc s.dock _ _ _)

theorem applyCurrent_besideDock (s : State) : besideDock (applyCurrent s) = besideDock s := by
  unfold applyCurrent
  split <;> rfl

theorem recomputeCurrent_besideDock (ph : ChargePhase) (s : State) :
    besideDock (recomputeCurrent ph s) = besideDock s := by
  unfold recomputeCurrent
  split
  · rfl
  · exact (trySend_besideDock _).trans (applyCurrent_besideDock _)

theorem recomputeCurrent_besideCheck (ph : ChargePhase) (s : State) :
    (recomputeCurrent ph s).dock.besideCheck = s.dock.besideCheck := by
  cases ha : s.dock.agreement with
  | none => rw [recomputeCurrent_of_none ph ha]
  | some a =>
    rw [recomputeCurrent_dock ph ha, Dock.send_besideCheck]
    rfl

theorem enterTopped_pack (s : State) : (enterTopped s).pack = { s.pack with gauge := fullCharge s.pack } := by
  have hpack : (setCharge .topped s).pack = s.pack := setCharge_pack _ _
  have hsent (u : State) : (trySend u).pack = u.pack := (congrArg State.pack (trySend_besideDock u) :)
  unfold enterTopped
  dsimp only
  rw [hsent]
  split
  · simp only [openSwitch, hpack]
  · simp only [makeHaltDue, openSwitch, hpack]

/-- What stands at an entry to TOPPED (R155). -/
theorem enterTopped_facts (s : State) : (enterTopped s).dock.state = .topped ∧ (enterTopped s).dock.csw = false
    ∧ (enterTopped s).dock.agreement = none ∧ (enterTopped s).dock.total = 0
    ∧ (enterTopped s).dock.taper = s.dock.taper ∧ (enterTopped s).dock.precharge = s.dock.precharge
    ∧ (enterTopped s).dock.iTgt = s.dock.iTgt ∧ (enterTopped s).dock.bleed = s.dock.bleed := by
  have hstate : s.dock.top.state = .topped := s.dock.enter_state .topped
  have hno : ¬(s.dock.top.state = .paused ∧ s.dock.top.pause = .offerChange) := by
    rw [hstate]
    exact fun h => nomatch h.1
  have hbleed : (s.dock.enter .topped).bleed = s.dock.bleed := by
    unfold Dock.enter
    split
    · rfl
    · simp
  rw [enterTopped_dock]
  refine ⟨?_, ?_, ?_, ?_, ?_, ?_, ?_, ?_⟩
  · exact (Dock.send_stays Dock.state (fun _ _ _ _ _ => rfl) hno).trans hstate
  · exact Dock.send_stays Dock.csw (fun _ _ _ _ _ => rfl) hno
  · exact Dock.send_stays Dock.agreement (fun _ _ _ _ _ => rfl) hno
  · exact Dock.send_stays Dock.total (fun _ _ _ _ _ => rfl) hno
  · exact (Dock.send_stays Dock.taper (fun _ _ _ _ _ => rfl) hno).trans
      (s.dock.enter_keeps Dock.taper (fun _ _ _ _ _ => rfl) .topped)
  · exact (Dock.send_stays Dock.precharge (fun _ _ _ _ _ => rfl) hno).trans
      (s.dock.enter_keeps Dock.precharge (fun _ _ _ _ _ => rfl) .topped)
  · exact (Dock.send_stays Dock.iTgt (fun _ _ _ _ _ => rfl) hno).trans
      (s.dock.enter_keeps Dock.iTgt (fun _ _ _ _ _ => rfl) .topped)
  · exact (Dock.send_stays Dock.bleed (fun _ _ _ _ _ => rfl) hno).trans hbleed

theorem enterPause_besideCheck (c : PauseCause) (s : State) :
    (enterPause c s).dock.besideCheck = s.dock.besideCheck := by
  rw [enterPause_dock, Dock.send_besideCheck]
  exact Dock.enter_besideCheck .paused s.dock

theorem enterChargeFault_besideCheck (c : ChargeFault) (s : State) :
    (enterChargeFault c s).dock.besideCheck = s.dock.besideCheck := by
  rw [enterChargeFault_dock, Dock.send_besideCheck]
  exact Dock.enter_besideCheck .fault s.dock

theorem enterIdentify_besideCheck (s : State) : (enterIdentify s).dock.besideCheck = s.dock.besideCheck := by
  cases hpause : s.watch.pauseOrder with
  | false =>
    rw [enterIdentify_dock_of_free hpause, Dock.send_besideCheck]
    exact Dock.enter_besideCheck .identify { s.dock with resume := none, taper := none }
  | true =>
    rw [enterIdentify_of_order hpause]
    exact enterPause_besideCheck _ _

theorem enterTopped_besideCheck (s : State) : (enterTopped s).dock.besideCheck = s.dock.besideCheck := by
  rw [enterTopped_dock, Dock.send_besideCheck]
  exact Dock.enter_besideCheck .topped s.dock

/-! ## Faults (R160) -/

/-- R160: no fault condition of a check holds. -/
def soundCheck (chgin : Nat) (s : State) : Prop :=
  packDie s ≤ 110 ∧ chgin * 10 ≤ offerVolts s * 11 ∧ s.dock.total < 21599

/-- The state with the check counted by the total timer. -/
def counted (s : State) : State := { s with dock := { s.dock with total := s.dock.total + 1 } }

theorem checkFaults_of_idle (chgin : Nat) (h : s.dock.state.charges = false) : checkFaults chgin s = s :=
  if_neg (by simp [h])

theorem checkFaults_of_sound {chgin : Nat} (h : s.dock.state.charges = true) (hs : soundCheck chgin s) :
    checkFaults chgin s = counted s := by
  obtain ⟨hdie, hvolts, htotal⟩ := hs
  have hdie' : ¬ 110 < packDie (counted s) := Int.not_lt.mpr hdie
  have hvolts' : ¬ offerVolts (counted s) * 11 < chgin * 10 := Nat.not_lt.mpr hvolts
  have htotal' : ¬ 21600 ≤ (counted s).dock.total := by
    change ¬ 21600 ≤ s.dock.total + 1
    omega
  unfold checkFaults
  rw [if_pos h]
  change (if 110 < packDie (counted s) then _ else if offerVolts (counted s) * 11 < chgin * 10 then _
    else if 21600 ≤ (counted s).dock.total then _ else counted s) = _
  rw [if_neg hdie', if_neg hvolts', if_neg htotal']

/-- The first fault condition that holds (R160). -/
def checkCause (chgin : Nat) (s : State) : ChargeFault :=
  if 110 < packDie s then .thermal else if offerVolts s * 11 < chgin * 10 then .inputOv else .totalTimeout

theorem checkFaults_of_unsound {chgin : Nat} (h : s.dock.state.charges = true) (hs : ¬soundCheck chgin s) :
    checkFaults chgin s = enterChargeFault (checkCause chgin s) (counted s) := by
  unfold checkFaults checkCause
  rw [if_pos h]
  change (if 110 < packDie s then enterChargeFault .thermal (counted s) else if offerVolts s * 11 < chgin * 10 then
    enterChargeFault .inputOv (counted s) else if 21600 ≤ s.dock.total + 1 then enterChargeFault .totalTimeout (counted s)
    else counted s) = _
  by_cases hdie : 110 < packDie s
  · rw [if_pos hdie, if_pos hdie]
  by_cases hvolts : offerVolts s * 11 < chgin * 10
  · rw [if_neg hdie, if_neg hdie, if_pos hvolts, if_pos hvolts]
  have htotal : 21600 ≤ s.dock.total + 1 := by
    by_contra hlt
    exact hs ⟨Int.not_lt.mp hdie, Nat.not_lt.mp hvolts, by omega⟩
  rw [if_neg hdie, if_neg hdie, if_neg hvolts, if_neg hvolts, if_pos htotal]

/-! ## Temperature (R153) -/

/-- R153: the temperature permits charging. -/
def warmPack (s : State) : Prop := ∃ x, packTmax s = some x ∧ 0 ≤ x ∧ x ≤ 45

theorem band_barred_iff (s : State) : band (packTmax s) = .barred ↔ ¬warmPack s := by
  unfold warmPack band
  cases packTmax s with
  | none => simp
  | some x =>
    simp only [Option.some.injEq, exists_eq_left']
    by_cases hout : x < 0 ∨ 45 < x
    · rw [if_pos hout]
      exact iff_of_true rfl (by omega)
    · rw [if_neg hout]
      refine iff_of_false ?_ (by omega)
      split <;> decide

theorem band_half {x : Int} (hlow : 0 ≤ x) (hhigh : x ≤ 9) : band (some x) = .half := by
  unfold band
  dsimp only
  rw [if_neg (by omega), if_pos hhigh]

theorem band_full (t : Option Int) : (band t == .full) = t.any (fun x => decide (10 ≤ x) && decide (x ≤ 45)) := by
  cases t with
  | none => rfl
  | some x =>
    unfold band
    dsimp only [Option.any]
    by_cases hout : x < 0 ∨ 45 < x
    · rw [if_pos hout]
      refine Eq.symm (Bool.and_eq_false_iff.mpr ?_)
      rw [decide_eq_false_iff_not, decide_eq_false_iff_not]
      omega
    · rw [if_neg hout]
      by_cases hnine : x ≤ 9
      · rw [if_pos hnine, decide_eq_false (by omega : ¬ 10 ≤ x)]
        rfl
      · rw [if_neg hnine, decide_eq_true (by omega : 10 ≤ x), decide_eq_true (by omega : x ≤ 45)]
        rfl

/-- The state with the band of this check noted for the next (R153). -/
def banded (s : State) : State := { s with dock := { s.dock with lastFullLimit := band (packTmax s) == .full } }

theorem checkTemp_of_barred (hstate : s.dock.state.tempPauses = true) (hcold : ¬warmPack s) :
    checkTemp s = enterPause .temp (raise .tempLimit (banded s)) :=
  if_pos ⟨hstate, (band_barred_iff s).mpr hcold⟩

theorem checkTemp_of_pause (hstate : s.dock.state = .paused) (hpause : s.dock.pause = .temp) :
    checkTemp s = if resumesTemp (packTmax s) then enterIdentify (banded s) else banded s := by
  have hno : ¬((banded s).dock.state.tempPauses = true ∧ band (packTmax s) = .barred) := by
    change ¬(s.dock.state.tempPauses = true ∧ _)
    simp [hstate, ChargeState.tempPauses]
  exact (if_neg hno).trans (if_pos ⟨hstate, hpause⟩)

theorem checkTemp_otherwise (h : ¬(s.dock.state.tempPauses = true ∧ ¬warmPack s))
    (hpause : ¬(s.dock.state = .paused ∧ s.dock.pause = .temp)) : checkTemp s
      = raiseIf (s.dock.state.charges && band (packTmax s) == .half && s.dock.lastFullLimit) .tempLimit (banded s) := by
  rw [← band_barred_iff] at h
  exact (if_neg h).trans (if_neg hpause)

theorem checkTemp_besideDock (s : State) : besideDock (checkTemp s) = besideDock s := by
  refine besideDock_ite ?_ (besideDock_ite (besideDock_ite ?_ rfl) ?_)
  · exact (enterPause_besideDock _ _).trans rfl
  · exact enterIdentify_besideDock _
  · unfold raiseIf
    exact besideDock_ite rfl rfl

theorem checkTemp_besideCheck (s : State) : (checkTemp s).dock.besideCheck = (banded s).dock.besideCheck := by
  by_cases h : s.dock.state.tempPauses = true ∧ ¬warmPack s
  · rw [checkTemp_of_barred h.1 h.2, enterPause_besideCheck]
    rfl
  by_cases hpause : s.dock.state = .paused ∧ s.dock.pause = .temp
  · rw [checkTemp_of_pause hpause.1 hpause.2]
    split
    · exact enterIdentify_besideCheck _
    · rfl
  · rw [checkTemp_otherwise h hpause, raiseIf_dock]

theorem checkFaults_besideDock (chgin : Nat) (s : State) : besideDock (checkFaults chgin s) = besideDock s := by
  by_cases h : s.dock.state.charges = true
  · by_cases hs : soundCheck chgin s
    · rw [checkFaults_of_sound h hs]
      rfl
    · rw [checkFaults_of_unsound h hs]
      exact enterChargeFault_besideDock _ _
  · rw [checkFaults_of_idle chgin (by simpa using h)]

theorem checkFaults_besideCheck (chgin : Nat) (s : State) :
    (checkFaults chgin s).dock.besideCheck = s.dock.besideCheck := by
  by_cases h : s.dock.state.charges = true
  · by_cases hs : soundCheck chgin s
    · rw [checkFaults_of_sound h hs]
      rfl
    · rw [checkFaults_of_unsound h hs]
      exact enterChargeFault_besideCheck _ _
  · rw [checkFaults_of_idle chgin (by simpa using h)]

/-! ## Phase work (R154, R155, R158) -/

/-- The states whose phase has no work at a check. -/
def ChargeState.idles (c : ChargeState) : Prop :=
  c = .detached ∨ c = .attachWait ∨ c = .identify ∨ c = .negotiate ∨ c = .paused ∨ c = .disabled ∨ c = .fault

theorem checkPhase_of_idles (h : s.dock.state.idles) : checkPhase s = s := by
  unfold checkPhase
  rcases h with h | h | h | h | h | h | h <;> rw [h]

theorem checkPhase_of_precharge (h : s.dock.state = .precharge) : checkPhase s
    = if (packCells s).all (fun v => 3100 ≤ v) then
        recomputeCurrent .bulk (setCharge .bulk { s with dock := { s.dock with precharge := 0 } })
      else if 1800 ≤ s.dock.precharge + 1 then
        enterChargeFault .prechargeTimeout { s with dock := { s.dock with precharge := s.dock.precharge + 1 } }
      else recomputeCurrent .precharge { s with dock := { s.dock with precharge := s.dock.precharge + 1 } } := by
  unfold checkPhase
  rw [h]
  rfl

/-- The state at the entry to TAPER from BULK (R155). -/
def tapered (s : State) : State :=
  setCharge .taper { s with dock := { s.dock with taper := some (lowerTaper s.dock.iChg) } }

theorem checkPhase_of_bulk (h : s.dock.state = .bulk) : checkPhase s
    = if 4200 ≤ packVmax s then taperOrTop (tapered s) else recomputeCurrent .bulk s := by
  unfold checkPhase
  rw [h]
  rfl

theorem checkPhase_of_taper (h : s.dock.state = .taper) : checkPhase s = if 4200 ≤ packVmax s then
      taperOrTop { s with dock := { s.dock with taper := s.dock.taper.map lowerTaper } } else taperOrTop s := by
  unfold checkPhase
  rw [h]

theorem checkPhase_of_coarse (h : s.dock.state = .coarse) : checkPhase s = coarseWork s := by
  unfold checkPhase
  rw [h]

theorem checkPhase_of_topped (h : s.dock.state = .topped) : checkPhase s
    = if packVolts s / s.pack.count < 4100 then enterIdentify s else s := by
  unfold checkPhase
  rw [h]

theorem ChargeState.cases_by_work (c : ChargeState) :
    c.idles ∨ c = .precharge ∨ c = .bulk ∨ c = .taper ∨ c = .coarse ∨ c = .topped := by
  cases c <;> simp [ChargeState.idles]

/-- The state after a check of COARSE has formed its target, timer and taper target (R158). -/
def coarsened (s : State) : State :=
  let amps := (s.dock.coarse.map CoarseClass.amps).getD 0
  let base := if packVmin s < 3000 then 300 else chargeTarget s
  let formed := floorTo 25 (min (offerCapacity coarseVolts amps (packVolts s)) (min base (s.dock.taper.getD base)))
  { s with dock := { s.dock with
      iTgt := chargeTarget s, precharge := if packVmin s < 3000 then s.dock.precharge + 1 else 0
      taper := if 4200 ≤ packVmax s then some (lowerTaper (s.dock.taper.getD formed)) else s.dock.taper } }

/-- The current that a check of COARSE forms, before its taper target is lowered (R158). -/
def coarseFormed (s : State) : Nat :=
  let amps := (s.dock.coarse.map CoarseClass.amps).getD 0
  let base := if packVmin s < 3000 then 300 else chargeTarget s
  floorTo 25 (min (offerCapacity coarseVolts amps (packVolts s)) (min base (s.dock.taper.getD base)))

theorem coarseWork_eq (s : State) : coarseWork s
    = if 1800 ≤ (coarsened s).dock.precharge then enterChargeFault .prechargeTimeout (coarsened s)
      else match (coarsened s).dock.taper with
        | some t => if t ≤ iTermInUse s then enterTopped (coarsened s) else { coarsened s with
            dock := { (coarsened s).dock with iChg := if s.dock.csw then min (coarseFormed s) t else 0 } }
        | none => { coarsened s with
            dock := { (coarsened s).dock with iChg := if s.dock.csw then coarseFormed s else 0 } } := by
  simp only [coarseWork, coarsened, coarseFormed, decide_eq_true_eq]
  rfl

theorem taperOrTop_besideCheck (s : State) : (taperOrTop s).dock.besideCheck = s.dock.besideCheck := by
  unfold taperOrTop
  split
  · exact enterTopped_besideCheck s
  · exact recomputeCurrent_besideCheck _ s

theorem coarseWork_besideCheck (s : State) : (coarseWork s).dock.besideCheck = s.dock.besideCheck := by
  have hcoarsened : (coarsened s).dock.besideCheck = s.dock.besideCheck := rfl
  rw [coarseWork_eq]
  split
  · exact (enterChargeFault_besideCheck _ _).trans hcoarsened
  · split
    · split
      · exact (enterTopped_besideCheck _).trans hcoarsened
      · exact hcoarsened
    · exact hcoarsened

theorem checkPhase_besideCheck (s : State) : (checkPhase s).dock.besideCheck = s.dock.besideCheck := by
  rcases s.dock.state.cases_by_work with h | h | h | h | h | h
  · rw [checkPhase_of_idles h]
  · rw [checkPhase_of_precharge h]
    split
    · rw [recomputeCurrent_besideCheck, setCharge_dock, Dock.enter_besideCheck]
      rfl
    · split
      · exact enterChargeFault_besideCheck _ _
      · exact recomputeCurrent_besideCheck _ _
  · rw [checkPhase_of_bulk h]
    split
    · rw [taperOrTop_besideCheck, tapered, setCharge_dock, Dock.enter_besideCheck]
      rfl
    · exact recomputeCurrent_besideCheck _ _
  · rw [checkPhase_of_taper h]
    split
    · exact taperOrTop_besideCheck _
    · exact taperOrTop_besideCheck _
  · rw [checkPhase_of_coarse h]
    exact coarseWork_besideCheck s
  · rw [checkPhase_of_topped h]
    split
    · exact enterIdentify_besideCheck s
    · rfl

/-! ## Events that a check keeps -/

theorem enterTopped_keeps {e : Event} (h : hasEvent e s = true) : hasEvent e (enterTopped s) = true := by
  unfold enterTopped
  dsimp only
  refine trySend_keeps _ _ ?_
  split
  · exact setCharge_keeps _ _ _ h
  · exact setCharge_keeps _ _ _ h

theorem applyCurrent_host (s : State) : (applyCurrent s).host = s.host := by
  unfold applyCurrent
  split <;> rfl

theorem recomputeCurrent_keeps {e : Event} (ph : ChargePhase) (h : hasEvent e s = true) :
    hasEvent e (recomputeCurrent ph s) = true := by
  unfold recomputeCurrent
  split
  · exact h
  · refine trySend_keeps _ _ ?_
    rw [applyCurrent_host]
    exact h

theorem taperOrTop_keeps {e : Event} (h : hasEvent e s = true) : hasEvent e (taperOrTop s) = true := by
  unfold taperOrTop
  split
  · exact enterTopped_keeps h
  · exact recomputeCurrent_keeps _ h

theorem coarseWork_keeps {e : Event} (h : hasEvent e s = true) : hasEvent e (coarseWork s) = true := by
  have hcoarsened : hasEvent e (coarsened s) = true := h
  rw [coarseWork_eq]
  split
  · exact enterChargeFault_keeps _ _ _ hcoarsened
  · split
    · split
      · exact enterTopped_keeps hcoarsened
      · exact h
    · exact h

theorem checkPhase_keeps {e : Event} (h : hasEvent e s = true) : hasEvent e (checkPhase s) = true := by
  rcases s.dock.state.cases_by_work with hw | hw | hw | hw | hw | hw
  · rw [checkPhase_of_idles hw]
    exact h
  · rw [checkPhase_of_precharge hw]
    split
    · exact recomputeCurrent_keeps _ (setCharge_keeps _ _ _ h)
    · split
      · exact enterChargeFault_keeps _ _ _ h
      · exact recomputeCurrent_keeps _ h
  · rw [checkPhase_of_bulk hw]
    split
    · exact taperOrTop_keeps (setCharge_keeps _ _ _ h)
    · exact recomputeCurrent_keeps _ h
  · rw [checkPhase_of_taper hw]
    split
    · exact taperOrTop_keeps h
    · exact taperOrTop_keeps h
  · rw [checkPhase_of_coarse hw]
    exact coarseWork_keeps h
  · rw [checkPhase_of_topped hw]
    split
    · exact enterIdentify_keeps _ _ h
    · exact h

/-! ## The whole check -/

/-- The state as a check begins: its period starts again (R153). -/
def begun (s : State) : State := { s with dock := { s.dock with period := some 1000 } }

/-- The state of a check before its balancing part. -/
def phased (chgin : Nat) (s : State) : State := checkPhase (checkTemp (checkFaults chgin (begun s)))

theorem chargeCheck_eq (chgin : Nat) (h : s.dock.period.isSome = true) : chargeCheck chgin s
    = deliver .chargeMa (report (some (if (checkBalance (phased chgin s)).dock.csw then
        (checkBalance (phased chgin s)).dock.iChg else 0))) (checkBalance (phased chgin s)) := by
  unfold chargeCheck
  rw [if_neg (by simpa [Option.isSome_iff_ne_none] using h)]
  rfl

/-- What the balancing part leaves of the dock. -/
theorem checkBalance_dock {α : Type} (f : Dock → α) (hf : ∀ (d : Dock) b, f { d with bleed := b } = f d) (s : State) :
    f (checkBalance s).dock = f s.dock := by
  unfold checkBalance
  split
  · exact hf _ _
  · rfl

/-- The dock after a check, except for the bleed set, is that before the balancing part. -/
theorem chargeCheck_dock {α : Type} (f : Dock → α) (hf : ∀ (d : Dock) b, f { d with bleed := b } = f d) (chgin : Nat)
    (h : s.dock.period.isSome = true) : f (chargeCheck chgin s).dock = f (phased chgin s).dock := by
  rw [chargeCheck_eq chgin h]
  exact checkBalance_dock f hf _

theorem chargeCheck_pack (chgin : Nat) (h : s.dock.period.isSome = true) :
    (chargeCheck chgin s).pack = (phased chgin s).pack := by
  rw [chargeCheck_eq chgin h]
  change (checkBalance (phased chgin s)).pack = _
  unfold checkBalance
  split <;> rfl

theorem chargeCheck_event (e : Event) (chgin : Nat) (h : s.dock.period.isSome = true) :
    hasEvent e (chargeCheck chgin s) = hasEvent e (phased chgin s) := by
  rw [chargeCheck_eq chgin h]
  change hasEvent e (checkBalance (phased chgin s)) = _
  unfold checkBalance
  split <;> rfl

/-- The CHARGE_MA update that a check hands over (R153). -/
theorem chargeCheck_update (chgin : Nat) (h : s.dock.period.isSome = true) : .update .chargeMa (reportNat (some
    (if (chargeCheck chgin s).dock.csw then (chargeCheck chgin s).dock.iChg else 0))) ∈ (chargeCheck chgin s).signals := by
  obtain ⟨u, hu⟩ : ∃ u, u = checkBalance (phased chgin s) := ⟨_, rfl⟩
  rw [chargeCheck_eq chgin h, ← hu]
  change _ ∈ u.signals ++ [_]
  refine List.mem_append_right _ (List.mem_singleton.mpr ?_)
  change Signal.update .chargeMa (reportNat (some (if u.dock.csw then u.dock.iChg else 0))) = _
  cases u.dock.csw <;> rfl

/-- What no part of a check writes stands after it. -/
theorem phased_besideCheck (chgin : Nat) (s : State) : (phased chgin s).dock.besideCheck
    = ({ s.dock with period := some 1000, lastFullLimit := band (packTmax s) == .full } : Dock).besideCheck := by
  have hpack : (checkFaults chgin (begun s)).pack = s.pack :=
    (congrArg State.pack (checkFaults_besideDock chgin (begun s)) :)
  have htemp : packTmax (checkFaults chgin (begun s)) = packTmax s := by
    unfold packTmax
    rw [hpack]
  have hfaults := checkFaults_besideCheck chgin (begun s)
  have hbanded : (banded (checkFaults chgin (begun s))).dock.besideCheck = { (checkFaults chgin (begun s)).dock.besideCheck
      with lastFullLimit := band (packTmax (checkFaults chgin (begun s))) == .full } := rfl
  rw [phased, checkPhase_besideCheck, checkTemp_besideCheck, hbanded, hfaults, htemp]
  rfl

/-- A check that finds a fault condition (R160). -/
theorem phased_of_unsound {chgin : Nat} (h : s.dock.state.charges = true) (hs : ¬soundCheck chgin s) :
    phased chgin s = banded (enterChargeFault (checkCause chgin s) (counted (begun s))) := by
  have hfault : checkFaults chgin (begun s) = enterChargeFault (checkCause chgin s) (counted (begun s)) :=
    checkFaults_of_unsound (s := begun s) h hs
  obtain ⟨u, hu⟩ : ∃ u, u = enterChargeFault (checkCause chgin s) (counted (begun s)) := ⟨_, rfl⟩
  have hstate : u.dock.state = .fault := by
    rw [hu]
    exact (enterChargeFault_facts _ _).1
  have htemp : checkTemp u = banded u := by
    rw [checkTemp_otherwise (by simp [hstate, ChargeState.tempPauses]) (by simp [hstate])]
    exact raiseIf_of_false _ _ (by simp [hstate, ChargeState.charges])
  rw [phased, hfault, ← hu, htemp]
  exact checkPhase_of_idles (by simp [banded, hstate, ChargeState.idles])

/-- A check without a fault. -/
theorem phased_of_sound {chgin : Nat} (h : s.dock.state.charges = true → soundCheck chgin s) :
    phased chgin s = checkPhase (checkTemp (if s.dock.state.charges then counted (begun s) else begun s)) := by
  by_cases hcharges : s.dock.state.charges = true
  · rw [phased, checkFaults_of_sound (s := begun s) hcharges (h hcharges), if_pos hcharges]
  · rw [phased, checkFaults_of_idle (s := begun s) chgin (by simpa [begun] using hcharges), if_neg hcharges]

theorem counting_dock (s : State) : (if s.dock.state.charges then counted (begun s) else begun s).dock = { s.dock with
    period := some 1000, total := if s.dock.state.charges then s.dock.total + 1 else s.dock.total } := by
  split <;> rfl

theorem counting_besideDock (s : State) :
    besideDock (if s.dock.state.charges then counted (begun s) else begun s) = besideDock s := by
  split <;> rfl

theorem warmPack_of_besideDock (h : besideDock t = besideDock s) : warmPack t ↔ warmPack s := by
  have hpack : t.pack = s.pack := (congrArg State.pack h :)
  unfold warmPack packTmax
  rw [hpack]

/-- A check that pauses for temperature (R153). -/
theorem phased_of_cold {chgin : Nat} (h : s.dock.state.charges = true → soundCheck chgin s)
    (hstate : s.dock.state.tempPauses = true) (hcold : ¬warmPack s) : ∃ u, besideDock u = besideDock s
      ∧ phased chgin s = enterPause .temp (raise .tempLimit u) ∧ u.dock.state = s.dock.state
      ∧ u.dock.bleed = s.dock.bleed := by
  obtain ⟨v, hv⟩ : ∃ v, v = if s.dock.state.charges then counted (begun s) else begun s := ⟨_, rfl⟩
  have hdock := hv ▸ counting_dock s
  have hbeside : besideDock v = besideDock s := hv ▸ counting_besideDock s
  have htemp : checkTemp v = enterPause .temp (raise .tempLimit (banded v)) :=
    checkTemp_of_barred (by rw [hdock]; exact hstate) (mt (warmPack_of_besideDock hbeside).mp hcold)
  refine ⟨banded v, hbeside, ?_, ?_, ?_⟩
  · rw [phased_of_sound h, ← hv, htemp]
    exact checkPhase_of_idles (by rw [(enterPause_facts (by decide) _).1]; simp [ChargeState.idles])
  · change v.dock.state = _
    rw [hdock]
  · change v.dock.bleed = _
    rw [hdock]

/-- The state that the phase work of an undisturbed check finds. -/
structure Undisturbed (s u : State) : Prop where
  beside : besideDock u = besideDock s
  dock : u.dock = { s.dock with
    period := some 1000, total := if s.dock.state.charges then s.dock.total + 1 else s.dock.total
    lastFullLimit := band (packTmax s) == .full }
  event : s.dock.state.charges = true → band (packTmax s) = .half → s.dock.lastFullLimit = true →
    hasEvent .tempLimit u = true

/-- A check without fault and pause comes to the phase work. -/
theorem phased_of_undisturbed {chgin : Nat} (h : s.dock.state.charges = true → soundCheck chgin s)
    (htemp : ¬(s.dock.state.tempPauses = true ∧ ¬warmPack s))
    (hpause : ¬(s.dock.state = .paused ∧ s.dock.pause = .temp)) :
    ∃ u, phased chgin s = checkPhase u ∧ Undisturbed s u := by
  obtain ⟨v, hv⟩ : ∃ v, v = if s.dock.state.charges then counted (begun s) else begun s := ⟨_, rfl⟩
  have hdock := hv ▸ counting_dock s
  have hbeside : besideDock v = besideDock s := hv ▸ counting_besideDock s
  have hstate : v.dock.state = s.dock.state := by rw [hdock]
  have hcause : v.dock.pause = s.dock.pause := by rw [hdock]
  have hlast : v.dock.lastFullLimit = s.dock.lastFullLimit := by rw [hdock]
  have hread : packTmax v = packTmax s := by
    have hpack : v.pack = s.pack := (congrArg State.pack hbeside :)
    unfold packTmax
    rw [hpack]
  have hchecked := checkTemp_otherwise (s := v)
    (by rw [hstate, warmPack_of_besideDock hbeside]; exact htemp)
    (by rw [hstate, hcause]; exact hpause)
  refine ⟨checkTemp v, by rw [phased_of_sound h, ← hv], ?_⟩
  rw [hchecked]
  refine ⟨?_, ?_, fun hcharges hhalf hfull => ?_⟩
  · have hraised (c : Bool) : besideDock (raiseIf c .tempLimit (banded v)) = besideDock (banded v) := besideDock_ite rfl rfl
    exact (hraised _).trans hbeside
  · rw [raiseIf_dock]
    simp only [banded, hdock, hread]
  · rw [raiseIf_of_true _ _ (by simp [hstate, hread, hlast, hcharges, hhalf, hfull])]
    exact hasEvent_raise _ _

end Sys2Proof.Machine
end

section
namespace Sys2Proof.Machine

variable {s t u : State}

/-! ## What a check reads -/

theorem reads_of_pack (h : t.pack = s.pack) : packVolts t = packVolts s ∧ packVmin t = packVmin s
    ∧ packVmax t = packVmax s ∧ packCells t = packCells s ∧ packTmax t = packTmax s ∧ packDie t = packDie s := by
  unfold packVolts packVmin packVmax packCells packTmax packDie
  rw [h]
  exact ⟨rfl, rfl, rfl, rfl, rfl, rfl⟩

theorem chargeTarget_of_besideDock (h : besideDock t = besideDock s) (hd : t.dock.iMax = s.dock.iMax) :
    chargeTarget t = chargeTarget s := by
  have hready : t.host.ready = s.host.ready := (congrArg (fun v : State => v.host.ready) h :)
  obtain ⟨-, -, -, -, htemp, -⟩ := reads_of_pack (t := t) (s := s) (congrArg State.pack h :)
  unfold chargeTarget tempLimit iMaxInUse
  rw [hready, hd, htemp]

theorem iTermInUse_of_besideDock (h : besideDock t = besideDock s) (hd : t.dock.iTerm = s.dock.iTerm) :
    iTermInUse t = iTermInUse s := by
  have hpack : t.pack = s.pack := (congrArg State.pack h :)
  unfold iTermInUse
  rw [hd, hpack]

theorem Undisturbed.reads (h : Undisturbed s u) : packVolts u = packVolts s ∧ packVmin u = packVmin s
    ∧ packVmax u = packVmax s ∧ packCells u = packCells s ∧ packTmax u = packTmax s ∧ packDie u = packDie s :=
  reads_of_pack (congrArg State.pack h.beside :)

/-- What the dock holds as the phase work begins. -/
theorem Undisturbed.field {α : Type} (h : Undisturbed s u) (f : Dock → α)
    (hf : ∀ (d : Dock) p n b, f { d with period := p, total := n, lastFullLimit := b } = f d) : f u.dock = f s.dock := by
  rw [h.dock]
  exact hf _ _ _ _

theorem Undisturbed.target (h : Undisturbed s u) : chargeTarget u = chargeTarget s :=
  chargeTarget_of_besideDock h.beside (h.field Dock.iMax fun _ _ _ _ => rfl)

theorem Undisturbed.iTerm (h : Undisturbed s u) : iTermInUse u = iTermInUse s :=
  iTermInUse_of_besideDock h.beside (h.field Dock.iTerm fun _ _ _ _ => rfl)

theorem Undisturbed.cells (h : Undisturbed s u) : packCells u = packCells s := by
  obtain ⟨-, -, -, hcells, -, -⟩ := h.reads
  exact hcells

theorem Undisturbed.highest (h : Undisturbed s u) : packVmax u = packVmax s := by
  obtain ⟨-, -, hmax, -, -, -⟩ := h.reads
  exact hmax

/-- A charging state, undisturbed by faults and temperature. -/
theorem phased_of_charging {chgin : Nat} (hcharges : s.dock.state.charges = true) (hs : soundCheck chgin s)
    (hwarm : warmPack s) : ∃ u, phased chgin s = checkPhase u ∧ Undisturbed s u := by
  refine phased_of_undisturbed (fun _ => hs) (fun h => h.2 hwarm) fun h => ?_
  rw [h.1] at hcharges
  exact nomatch hcharges

/-! ## PRECHARGE (R154) -/

theorem precharge_completes (h : s.dock.state = .precharge) (hcells : ∀ v ∈ packCells s, 3100 ≤ v) :
    (checkPhase s).dock.state = .bulk ∧ (checkPhase s).dock.precharge = 0 := by
  obtain ⟨v, hv⟩ : ∃ v, v = setCharge .bulk { s with dock := { s.dock with precharge := 0 } } := ⟨_, rfl⟩
  have hdock : v.dock = Dock.enter .bulk { s.dock with precharge := 0 } := hv ▸ setCharge_dock _ _
  have hstate : v.dock.state = .bulk := by rw [hdock, Dock.enter_state]
  have hne : v.dock.state ≠ .paused := by simp [hstate]
  rw [checkPhase_of_precharge h, if_pos (List.all_eq_true.mpr fun x hx => decide_eq_true (hcells x hx)), ← hv]
  refine ⟨(recomputeCurrent_stays Dock.state (fun _ _ _ _ _ => rfl) (fun _ _ _ _ => rfl) _ hne).trans hstate, ?_⟩
  rw [recomputeCurrent_stays Dock.precharge (fun _ _ _ _ _ => rfl) (fun _ _ _ _ => rfl) _ hne, hdock,
    Dock.enter_keeps Dock.precharge fun _ _ _ _ _ => rfl]

theorem not_all_of_low {l : List Nat} (h : ∃ v ∈ l, v < 3100) : ¬l.all (fun v => 3100 ≤ v) = true := by
  obtain ⟨v, hmem, hlow⟩ := h
  intro hall
  have := of_decide_eq_true (List.all_eq_true.mp hall v hmem)
  omega

theorem precharge_expires (h : s.dock.state = .precharge) (hlow : ∃ v ∈ packCells s, v < 3100)
    (htime : 1799 ≤ s.dock.precharge) : (checkPhase s).dock.state = .fault ∧ (checkPhase s).dock.csw = false
      ∧ (checkPhase s).dock.lastFault = .prechargeTimeout ∧ hasEvent .chargeFault (checkPhase s) = true := by
  rw [checkPhase_of_precharge h, if_neg (not_all_of_low hlow), if_pos (by omega)]
  obtain ⟨hstate, hlast, hcsw, -, -, hevent⟩ := enterChargeFault_facts .prechargeTimeout
    { s with dock := { s.dock with precharge := s.dock.precharge + 1 } }
  exact ⟨hstate, hcsw, hlast, hevent⟩

theorem precharge_continues (h : s.dock.state = .precharge) (hlow : ∃ v ∈ packCells s, v < 3100)
    (htime : s.dock.precharge < 1799) : checkPhase s = recomputeCurrent .precharge { s with dock := { s.dock with
      precharge := s.dock.precharge + 1 } } := by
  rw [checkPhase_of_precharge h, if_neg (not_all_of_low hlow), if_neg (by omega)]

theorem precharge_continues_facts (h : s.dock.state = .precharge) (hlow : ∃ v ∈ packCells s, v < 3100)
    (htime : s.dock.precharge < 1799) : (checkPhase s).dock.state = .precharge
      ∧ (checkPhase s).dock.precharge = s.dock.precharge + 1 := by
  have hne : ({ s with dock := { s.dock with precharge := s.dock.precharge + 1 } } : State).dock.state ≠ .paused := by
    simp [h]
  rw [precharge_continues h hlow htime]
  exact ⟨(recomputeCurrent_stays Dock.state (fun _ _ _ _ _ => rfl) (fun _ _ _ _ => rfl) _ hne).trans h,
    recomputeCurrent_stays Dock.precharge (fun _ _ _ _ _ => rfl) (fun _ _ _ _ => rfl) _ hne⟩

/-! ## BULK and TAPER (R155) -/

/-- The pack with its full-mark (R155, R13). -/
def fullMarked (p : Pack) : Pack := { p with gauge := fullCharge p }

/-- TAPER by its target, up to TOPPED. -/
theorem taperOrTop_facts {y : Nat} (h : s.dock.state = .taper) (hy : s.dock.taper = some y) :
    (taperOrTop s).dock.taper = some y
      ∧ (taperOrTop s).dock.state = (if y ≤ iTermInUse s then .topped else .taper)
      ∧ (y ≤ iTermInUse s → (taperOrTop s).dock.csw = false ∧ (taperOrTop s).dock.agreement = none
          ∧ (taperOrTop s).dock.total = 0 ∧ (taperOrTop s).pack = fullMarked s.pack) := by
  have hget : s.dock.taper.getD 0 = y := by rw [hy, Option.getD_some]
  have hne : s.dock.state ≠ .paused := by simp [h]
  unfold taperOrTop
  rw [hget]
  by_cases hle : y ≤ iTermInUse s
  · rw [if_pos hle, if_pos hle]
    obtain ⟨hstate, hcsw, hagree, htotal, htaper, -, -, -⟩ := enterTopped_facts s
    exact ⟨htaper.trans hy, hstate, fun _ => ⟨hcsw, hagree, htotal, enterTopped_pack s⟩⟩
  · rw [if_neg hle, if_neg hle]
    exact ⟨(recomputeCurrent_stays Dock.taper (fun _ _ _ _ _ => rfl) (fun _ _ _ _ => rfl) _ hne).trans hy,
      (recomputeCurrent_stays Dock.state (fun _ _ _ _ _ => rfl) (fun _ _ _ _ => rfl) _ hne).trans h,
      fun hle' => absurd hle' hle⟩

theorem tapered_dock (s : State) : (tapered s).dock
    = Dock.enter .taper { s.dock with taper := some (lowerTaper s.dock.iChg) } := setCharge_dock _ _

theorem tapered_besideDock (s : State) : besideDock (tapered s) = besideDock s :=
  setCharge_besideDock .taper { s with dock := { s.dock with taper := some (lowerTaper s.dock.iChg) } }

theorem tapered_iTerm (s : State) : iTermInUse (tapered s) = iTermInUse s := by
  refine iTermInUse_of_besideDock (tapered_besideDock s) ?_
  rw [tapered_dock, Dock.enter_keeps Dock.iTerm fun _ _ _ _ _ => rfl]

theorem bulk_tapers (h : s.dock.state = .bulk) (hhigh : 4200 ≤ packVmax s) :
    (checkPhase s).dock.state = (if lowerTaper s.dock.iChg ≤ iTermInUse s then .topped else .taper)
      ∧ (checkPhase s).dock.taper = some (lowerTaper s.dock.iChg)
      ∧ (lowerTaper s.dock.iChg ≤ iTermInUse s → (checkPhase s).dock.csw = false
          ∧ (checkPhase s).dock.agreement = none ∧ (checkPhase s).dock.total = 0
          ∧ (checkPhase s).pack = fullMarked s.pack) := by
  have hpack : (tapered s).pack = s.pack := (congrArg State.pack (tapered_besideDock s) :)
  have hstate : (tapered s).dock.state = .taper := by rw [tapered_dock, Dock.enter_state]
  have htaper : (tapered s).dock.taper = some (lowerTaper s.dock.iChg) := by
    rw [tapered_dock, Dock.enter_keeps Dock.taper fun _ _ _ _ _ => rfl]
  obtain ⟨htarget, hended, hfull⟩ := taperOrTop_facts hstate htaper
  rw [tapered_iTerm] at hended hfull
  rw [hpack] at hfull
  rw [checkPhase_of_bulk h, if_pos hhigh]
  exact ⟨hended, htarget, hfull⟩

theorem taper_proceeds {x : Nat} (h : s.dock.state = .taper) (hx : s.dock.taper = some x) :
    let y := if 4200 ≤ packVmax s then lowerTaper x else x
    (checkPhase s).dock.taper = some y
      ∧ (checkPhase s).dock.state = (if y ≤ iTermInUse s then .topped else .taper)
      ∧ (y ≤ iTermInUse s → (checkPhase s).dock.csw = false ∧ (checkPhase s).dock.agreement = none
          ∧ (checkPhase s).dock.total = 0 ∧ (checkPhase s).pack = fullMarked s.pack) := by
  rw [checkPhase_of_taper h]
  by_cases hhigh : 4200 ≤ packVmax s
  · rw [if_pos hhigh, if_pos hhigh]
    have htaper : s.dock.taper.map lowerTaper = some (lowerTaper x) := by rw [hx, Option.map_some]
    exact taperOrTop_facts (s := { s with dock := { s.dock with taper := s.dock.taper.map lowerTaper } }) h htaper
  · rw [if_neg hhigh, if_neg hhigh]
    exact taperOrTop_facts h hx

/-! ## COARSE (R158) -/

theorem coarse_work (h : s.dock.state = .coarse) :
    (1800 ≤ (coarsened s).dock.precharge → (checkPhase s).dock.state = .fault
        ∧ (checkPhase s).dock.lastFault = .prechargeTimeout ∧ (checkPhase s).dock.csw = false)
      ∧ ((coarsened s).dock.precharge < 1800 → (checkPhase s).dock.precharge = (coarsened s).dock.precharge
        ∧ (checkPhase s).dock.iTgt = chargeTarget s ∧ (checkPhase s).dock.taper = (coarsened s).dock.taper
        ∧ (∀ y, (coarsened s).dock.taper = some y → y ≤ iTermInUse s →
            (checkPhase s).dock.state = .topped ∧ (checkPhase s).dock.csw = false ∧ (checkPhase s).dock.total = 0
              ∧ (checkPhase s).pack = fullMarked s.pack)
        ∧ (∀ y, (coarsened s).dock.taper = some y → iTermInUse s < y → (checkPhase s).dock.state = .coarse
            ∧ (checkPhase s).dock.iChg = if s.dock.csw then min (coarseFormed s) y else 0)
        ∧ ((coarsened s).dock.taper = none → (checkPhase s).dock.state = .coarse
            ∧ (checkPhase s).dock.iChg = if s.dock.csw then coarseFormed s else 0)) := by
  rw [checkPhase_of_coarse h, coarseWork_eq]
  refine ⟨fun hpre => ?_, fun hpre => ?_⟩
  · rw [if_pos hpre]
    obtain ⟨hstate, hlast, hcsw, -, -, -⟩ := enterChargeFault_facts .prechargeTimeout (coarsened s)
    exact ⟨hstate, hlast, hcsw⟩
  · rw [if_neg (Nat.not_le.mpr hpre)]
    have hstate : (coarsened s).dock.state = .coarse := h
    have htgt : (coarsened s).dock.iTgt = chargeTarget s := rfl
    cases htaper : (coarsened s).dock.taper with
    | none => exact ⟨rfl, htgt, htaper, nofun, nofun, fun _ => ⟨hstate, rfl⟩⟩
    | some y =>
      dsimp only
      by_cases hle : y ≤ iTermInUse s
      · rw [if_pos hle]
        obtain ⟨htop, hcsw, -, htotal, hkept, hpre', htgt', -⟩ := enterTopped_facts (coarsened s)
        refine ⟨hpre', htgt'.trans htgt, hkept.trans htaper, fun _ _ _ => ⟨htop, hcsw, htotal, enterTopped_pack _⟩,
          fun z hz hlt => ?_, nofun⟩
        obtain rfl := Option.some.inj hz
        omega
      · rw [if_neg hle]
        refine ⟨rfl, htgt, htaper, fun z hz hle' => ?_, fun z hz _ => ?_, nofun⟩
        · obtain rfl := Option.some.inj hz
          exact absurd hle' hle
        · obtain rfl := Option.some.inj hz
          exact ⟨hstate, rfl⟩

/-! ## The currents formed again (R154) -/

/-- R154, R155: the target of the current that a check forms under an agreement. -/
def workTarget (s : State) (target : Nat) : Prop :=
  let tgt := chargeTarget s
  let low := ∃ v ∈ packCells s, v < 3100
  let x := lowerTaper s.dock.iChg
  (s.dock.state = .precharge ∧ low ∧ s.dock.precharge < 1799 ∧ target = min 300 tgt)
    ∨ (s.dock.state = .precharge ∧ ¬low ∧ target = tgt)
    ∨ (s.dock.state = .bulk ∧ packVmax s < 4200 ∧ target = tgt)
    ∨ (s.dock.state = .bulk ∧ 4200 ≤ packVmax s ∧ iTermInUse s < x ∧ target = min x tgt)
    ∨ (∃ y, s.dock.state = .taper ∧ packVmax s < 4200 ∧ s.dock.taper = some y
        ∧ iTermInUse s < y ∧ target = min y tgt)
    ∨ (∃ y, s.dock.state = .taper ∧ 4200 ≤ packVmax s ∧ s.dock.taper = some y
        ∧ iTermInUse s < lowerTaper y ∧ target = min (lowerTaper y) tgt)

theorem workTarget_charges {target : Nat} (h : workTarget s target) : s.dock.state.charges = true := by
  rcases h with ⟨h, -⟩ | ⟨h, -⟩ | ⟨h, -⟩ | ⟨h, -⟩ | ⟨y, h, -⟩ | ⟨y, h, -⟩ <;> rw [h] <;> rfl

theorem Undisturbed.workTarget {target : Nat} (h : Undisturbed s u) (hw : workTarget s target) :
    workTarget u target := by
  obtain ⟨-, -, hmax, hcells, -, -⟩ := h.reads
  unfold Machine.workTarget at hw ⊢
  rw [h.target, h.iTerm, hmax, hcells, h.field Dock.state fun _ _ _ _ => rfl, h.field Dock.iChg fun _ _ _ _ => rfl,
    h.field Dock.precharge fun _ _ _ _ => rfl, h.field Dock.taper fun _ _ _ _ => rfl]
  exact hw

/-- A state whose dock differs from another's only in the phase, its taper target and its timer. -/
structure SamePhaseBase (s v : State) : Prop where
  beside : besideDock v = besideDock s
  check : v.dock.besideCheck = s.dock.besideCheck
  agreement : v.dock.agreement = s.dock.agreement
  csw : v.dock.csw = s.dock.csw
  exch : v.dock.exch = s.dock.exch
  dueHalt : v.dock.dueHalt = s.dock.dueHalt
  dueCharge : v.dock.dueCharge = s.dock.dueCharge
  dueEvac : v.dock.dueEvac = s.dock.dueEvac

theorem samePhaseBase_of_record (p : Nat) (x : Option Nat) :
    SamePhaseBase s { s with dock := { s.dock with precharge := p, taper := x } } :=
  ⟨rfl, rfl, rfl, rfl, rfl, rfl, rfl, rfl⟩

theorem SamePhaseBase.setCharge {v : State} {c : ChargeState} (h : SamePhaseBase s v) (hc : c.charges = true) :
    SamePhaseBase s (setCharge c v) := by
  have hcsw : (v.dock.enter c).csw = v.dock.csw := by
    unfold Dock.enter
    split
    · rfl
    · simp [hc]
  refine ⟨(setCharge_besideDock c v).trans h.beside, ?_, ?_, ?_, ?_, ?_, ?_, ?_⟩ <;> rw [setCharge_dock]
  · rw [Dock.enter_besideCheck, h.check]
  · rw [Dock.enter_keeps Dock.agreement fun _ _ _ _ _ => rfl, h.agreement]
  · rw [hcsw, h.csw]
  · rw [Dock.enter_keeps Dock.exch fun _ _ _ _ _ => rfl, h.exch]
  · rw [Dock.enter_keeps Dock.dueHalt fun _ _ _ _ _ => rfl, h.dueHalt]
  · rw [Dock.enter_keeps Dock.dueCharge fun _ _ _ _ _ => rfl, h.dueCharge]
  · rw [Dock.enter_keeps Dock.dueEvac fun _ _ _ _ _ => rfl, h.dueEvac]

theorem taperOrTop_of_high {y : Nat} (hy : s.dock.taper = some y) (hlt : iTermInUse s < y) :
    taperOrTop s = recomputeCurrent .taper s := by
  refine if_neg ?_
  rw [hy, Option.getD_some]
  omega

/-- The phase work that forms the current again, with its target. -/
theorem checkPhase_recomputes {target : Nat} (h : workTarget s target) : ∃ ph v, checkPhase s = recomputeCurrent ph v
    ∧ SamePhaseBase s v ∧ v.dock.state ≠ .paused ∧ phaseTarget v.dock (chargeTarget s) ph = target := by
  have hself : SamePhaseBase s s := samePhaseBase_of_record s.dock.precharge s.dock.taper
  rcases h with ⟨hs, hlow, htime, rfl⟩ | ⟨hs, hlow, rfl⟩ | ⟨hs, hmax, rfl⟩ | ⟨hs, hmax, hlt, rfl⟩ | ⟨y, hs, hmax, hy, hlt, rfl⟩
    | ⟨y, hs, hmax, hy, hlt, rfl⟩
  · exact ⟨_, _, precharge_continues hs hlow htime, samePhaseBase_of_record _ s.dock.taper, by simp [hs], rfl⟩
  · have hall : ∀ v ∈ packCells s, 3100 ≤ v := fun v hv => by
      by_contra hlt
      exact hlow ⟨v, hv, by omega⟩
    have hbulk := checkPhase_of_precharge hs
    rw [if_pos (List.all_eq_true.mpr fun x hx => decide_eq_true (hall x hx))] at hbulk
    exact ⟨_, _, hbulk, (samePhaseBase_of_record 0 s.dock.taper).setCharge rfl, by rw [setCharge_state]; decide, rfl⟩
  · have hbulk := checkPhase_of_bulk hs
    rw [if_neg (by omega)] at hbulk
    exact ⟨_, _, hbulk, hself, by simp [hs], rfl⟩
  · have htaper : (tapered s).dock.taper = some (lowerTaper s.dock.iChg) := by
      rw [tapered_dock, Dock.enter_keeps Dock.taper fun _ _ _ _ _ => rfl]
    have hbulk := checkPhase_of_bulk hs
    rw [if_pos hmax, taperOrTop_of_high htaper (by rw [tapered_iTerm]; exact hlt)] at hbulk
    refine ⟨_, _, hbulk, (samePhaseBase_of_record s.dock.precharge _).setCharge rfl, ?_, ?_⟩
    · rw [tapered, setCharge_state]
      decide
    · simp [phaseTarget, htaper]
  · have hkept := checkPhase_of_taper hs
    rw [if_neg (by omega), taperOrTop_of_high hy hlt] at hkept
    exact ⟨_, _, hkept, hself, by simp [hs], by simp [phaseTarget, hy]⟩
  · obtain ⟨v, hv⟩ : ∃ v : State, v = { s with dock := { s.dock with taper := s.dock.taper.map lowerTaper } } := ⟨_, rfl⟩
    have htaper : v.dock.taper = some (lowerTaper y) := by
      rw [hv]
      change s.dock.taper.map lowerTaper = _
      rw [hy, Option.map_some]
    have hlowered := checkPhase_of_taper hs
    rw [if_pos hmax, ← hv, taperOrTop_of_high htaper (by rw [hv]; exact hlt)] at hlowered
    refine ⟨_, v, hlowered, hv ▸ samePhaseBase_of_record s.dock.precharge _, ?_, by simp [phaseTarget, htaper]⟩
    rw [hv]
    simp [hs]

theorem SamePhaseBase.target {v : State} (h : SamePhaseBase s v) : chargeTarget v = chargeTarget s :=
  chargeTarget_of_besideDock h.beside (congrArg Dock.iMax h.check :)

theorem overPack_pos (n : Nat) {v : Nat} (h : 0 < v) : overPack n v = n / (10 * v) := if_neg (by omega)

theorem ceilDiv_eq (n : Nat) {d : Nat} (h : 0 < d) : ceilDiv n d = (n + (d - 1)) / d := by
  unfold ceilDiv
  rw [Nat.add_sub_assoc h]

/-- I_in by its formula (R150). -/
theorem inputFor_eq (i v : Nat) {volts : Nat} (amps : Nat) (h : 0 < volts) : inputFor i v volts amps
    = let up := (i * v * 10 + (9 * volts * 25 - 1)) / (9 * volts * 25) * 25
      if amps < up then amps / 25 * 25 else up := by
  unfold inputFor
  rw [ceilDiv_eq _ (by omega)]
  rfl

/-- The currents that a check forms under an agreement (R154). -/
theorem recompute_facts {ph : ChargePhase} {a : Agreement} {v : State} {target : Nat} (h : SamePhaseBase s v)
    (hstate : v.dock.state ≠ .paused) (ha : s.dock.agreement = some a) (hvolts : 0 < packVolts s) (hoffer : 0 < a.volts)
    (htarget : phaseTarget v.dock (chargeTarget s) ph = target) :
    let want := min (a.volts * a.amps * 9 / (10 * packVolts s)) target / 25 * 25
    let up := (want * packVolts s * 10 + (9 * a.volts * 25 - 1)) / (9 * a.volts * 25) * 25
    let input := if a.amps < up then a.amps / 25 * 25 else up
    let differs := 100 ≤ (input - a.input) + (a.input - input)
    let d := (recomputeCurrent ph v).dock
    d.iTgt = chargeTarget s ∧ d.want = want ∧ d.agreement = some a ∧ d.csw = s.dock.csw
      ∧ d.iChg = (if s.dock.csw then min want (a.input * 9 * a.volts / (10 * packVolts s) / 25 * 25) else 0)
      ∧ (differs → s.dock.exch = none → s.dock.dueHalt = false →
          d.exch = some (freshExchange (.chargeReq a.index input)))
      ∧ (differs → s.dock.exch.isSome → d.exch = s.dock.exch ∧ d.dueCharge = some (.chargeReq a.index input))
      ∧ (¬differs → s.dock.exch.isSome → d.exch = s.dock.exch ∧ d.dueCharge = s.dock.dueCharge)
      ∧ (¬differs → s.dock.exch = none → s.dock.dueHalt = false → s.dock.dueCharge = none → s.dock.dueEvac = none →
          d.exch = none ∧ d.dueCharge = none) := by
  intro want up input differs d
  have hread : packVolts v = packVolts s := (reads_of_pack (congrArg State.pack h.beside :)).1
  have hwant : formedCurrent ph a v = want := by
    unfold formedCurrent phaseCurrent offerCapacity
    rw [h.target, hread, htarget, overPack_pos _ hvolts]
    rfl
  have hinput : formedInput ph a v = input := by
    unfold formedInput
    rw [hwant, hread, inputFor_eq want (packVolts s) a.amps hoffer]
  have hcover : cover a (packVolts v) = a.input * 9 * a.volts / (10 * packVolts s) / 25 * 25 := by
    unfold cover
    rw [hread, overPack_pos _ hvolts]
    rfl
  obtain ⟨e, he⟩ : ∃ e, e = recomputedDock ph a v := ⟨_, rfl⟩
  have hd : d = e.send := he ▸ recomputeCurrent_dock ph (h.agreement.trans ha)
  have hno : ¬(e.state = .paused ∧ e.pause = .offerChange) := he ▸ fun hp => hstate hp.1
  have hstays {α : Type} (f : Dock → α) (hq : ∀ (d : Dock) e h c n, f { d with
      exch := e, dueHalt := h, dueCharge := c, dueEvac := n } = f d) : f d = f e := by
    rw [hd]
    exact Dock.send_stays f hq hno
  have hexch : e.exch = s.dock.exch := he ▸ h.exch
  have hhalt : e.dueHalt = s.dock.dueHalt := he ▸ h.dueHalt
  have hevac : e.dueEvac = s.dock.dueEvac := he ▸ h.dueEvac
  have hdue : e.dueCharge = if differs then some (.chargeReq a.index input) else s.dock.dueCharge := by
    rw [he]
    change (if 100 ≤ distance (formedInput ph a v) a.input then _ else _) = _
    rw [hinput, h.dueCharge]
    rfl
  refine ⟨?_, ?_, ?_, ?_, ?_, fun hdiff hfree hnone => ?_, fun hdiff hbusy => ?_, fun hdiff hbusy => ?_,
    fun hdiff hfree hnone hcharge hno' => ?_⟩
  · rw [hstays Dock.iTgt fun _ _ _ _ _ => rfl, he]
    exact h.target
  · rw [hstays Dock.want fun _ _ _ _ _ => rfl, he]
    exact hwant
  · rw [hstays Dock.agreement fun _ _ _ _ _ => rfl, he]
    exact h.agreement.trans ha
  · rw [hstays Dock.csw fun _ _ _ _ _ => rfl, he]
    exact h.csw
  · rw [hstays Dock.iChg fun _ _ _ _ _ => rfl, he]
    change (if v.dock.csw = true then min (formedCurrent ph a v) (cover a (packVolts v)) else 0) = _
    rw [h.csw, hwant, hcover]
  · rw [hd, Dock.send_of_charge (hexch.trans hfree) (hhalt.trans hnone) (hdue.trans (if_pos hdiff)) hno]
  · rw [hd, Dock.send_of_busy (hexch ▸ hbusy)]
    exact ⟨hexch, hdue.trans (if_pos hdiff)⟩
  · rw [hd, Dock.send_of_busy (hexch ▸ hbusy)]
    exact ⟨hexch, hdue.trans (if_neg hdiff)⟩
  · have hnothing : e.dueCharge = none := (hdue.trans (if_neg hdiff)).trans hcharge
    rw [hd, Dock.send_of_none (hhalt.trans hnone) hnothing (hevac.trans hno')]
    exact ⟨hexch.trans hfree, hnothing⟩

end Sys2Proof.Machine
end

section
namespace Sys2Proof.Machine

variable {s t u : State}

/-! ## A charge check, clause by clause (R153 to R155, R158, R160) -/

/-- A check that finds a fault condition. -/
theorem check_faults {chgin : Nat} (hcharges : s.dock.state.charges = true) (hs : ¬soundCheck chgin s) :
    let t := phased chgin s
    t.dock.state = .fault ∧ t.dock.csw = false ∧ t.dock.agreement = none ∧ hasEvent .chargeFault t = true
      ∧ t.dock.lastFault = checkCause chgin s := by
  rw [phased_of_unsound hcharges hs]
  obtain ⟨hstate, hlast, hcsw, -, hagree, hevent⟩ :=
    enterChargeFault_facts (checkCause chgin s) (counted (begun s))
  exact ⟨hstate, hcsw, hagree, hevent, hlast⟩

/-- The pause for temperature. -/
theorem check_pauses {chgin : Nat} (h : s.dock.state.charges = true → soundCheck chgin s)
    (hstate : s.dock.state.tempPauses = true) (hcold : ¬warmPack s) : let t := phased chgin s
    t.dock.state = .paused ∧ t.dock.pause = .temp ∧ t.dock.csw = false ∧ t.dock.agreement = none
      ∧ t.dock.dueCharge = none ∧ hasEvent .tempLimit t = true := by
  obtain ⟨u, -, hphased, -, -⟩ := phased_of_cold h hstate hcold
  rw [hphased]
  obtain ⟨hpaused, hpause, hcsw, hagree, hdue⟩ := enterPause_facts (c := .temp) (by decide) (raise .tempLimit u)
  exact ⟨hpaused, hpause, hcsw, hagree, hdue, enterPause_keeps _ _ _ (hasEvent_raise _ _)⟩

theorem tempPauses_of {chgin : Nat} (h : s.dock.state = .identify ∨ s.dock.state = .negotiate
      ∨ (s.dock.state.charges = true ∧ soundCheck chgin s)) :
    (s.dock.state.charges = true → soundCheck chgin s) ∧ s.dock.state.tempPauses = true := by
  rcases h with h | h | ⟨h, hs⟩
  · rw [h]
    exact ⟨nofun, rfl⟩
  · rw [h]
    exact ⟨nofun, rfl⟩
  · refine ⟨fun _ => hs, ?_⟩
    revert h
    cases s.dock.state <;> decide

/-- The event of the cold half (R153). -/
theorem check_halves {chgin : Nat} {x : Int} (hcharges : s.dock.state.charges = true) (hs : soundCheck chgin s)
    (hx : packTmax s = some x) (hlow : 0 ≤ x) (hhigh : x ≤ 9) (hfull : s.dock.lastFullLimit = true) :
    hasEvent .tempLimit (phased chgin s) = true := by
  obtain ⟨u, hphased, hu⟩ := phased_of_charging hcharges hs ⟨x, hx, hlow, by omega⟩
  rw [hphased]
  exact checkPhase_keeps (hu.event hcharges (by rw [hx, band_half hlow hhigh]) hfull)

/-- The resume of a pause for temperature. -/
theorem check_resumes {chgin : Nat} (hstate : s.dock.state = .paused) (hpause : s.dock.pause = .temp)
    (hfree : s.watch.pauseOrder = false) : let t := phased chgin s
    (resumesTemp (packTmax s) = true → t.dock.state = .identify)
      ∧ (resumesTemp (packTmax s) = false → t.dock.state = .paused ∧ t.dock.pause = .temp) := by
  have hidle : s.dock.state.charges = false := by rw [hstate]; rfl
  have htemp := checkTemp_of_pause (s := begun s) hstate hpause
  have hphased : phased chgin s = checkPhase (checkTemp (begun s)) := by
    rw [phased_of_sound fun h => absurd h (by simp [hidle]), if_neg (by simp [hidle])]
  intro t
  refine ⟨fun hresume => ?_, fun hstay => ?_⟩
  · rw [if_pos (by exact hresume)] at htemp
    have hid : (checkTemp (begun s)).dock.state = .identify := by
      rw [htemp]
      exact (enterIdentify_facts (s := banded (begun s)) hfree).1
    change (phased chgin s).dock.state = _
    rw [hphased, checkPhase_of_idles (by rw [hid]; simp [ChargeState.idles]), hid]
  · have hkept : checkTemp (begun s) = banded (begun s) := by
      rw [htemp]
      exact if_neg (Bool.eq_false_iff.mp hstay)
    have hid : (banded (begun s)).dock.state = .paused := hstate
    change (phased chgin s).dock.state = _ ∧ (phased chgin s).dock.pause = _
    rw [hphased, hkept, checkPhase_of_idles (by rw [hid]; simp [ChargeState.idles])]
    exact ⟨hid, hpause⟩

/-- TOPPED (R155). -/
theorem check_topped {chgin : Nat} (hstate : s.dock.state = .topped) (hfree : s.watch.pauseOrder = false) :
    (phased chgin s).dock.state = if packVolts s / s.pack.count < 4100 then .identify else .topped := by
  obtain ⟨u, hphased, hu⟩ := phased_of_undisturbed (s := s) (chgin := chgin)
    (fun h => by rw [hstate] at h; exact nomatch h) (fun h => by rw [hstate] at h; exact nomatch h.1)
    (fun h => by rw [hstate] at h; exact nomatch h.1)
  have htop : u.dock.state = .topped := (hu.field Dock.state fun _ _ _ _ => rfl).trans hstate
  have hpack : u.pack = s.pack := (congrArg State.pack hu.beside :)
  have hpause : u.watch.pauseOrder = false := (congrArg (fun v : State => v.watch.pauseOrder) hu.beside :).trans hfree
  rw [hphased, checkPhase_of_topped htop, hu.reads.1, hpack]
  split
  · exact (enterIdentify_facts hpause).1
  · exact htop

/-- The phase work of COARSE, read in the state that the check finds. -/
theorem check_coarse {chgin : Nat} {level : CoarseClass} (hstate : s.dock.state = .coarse) (hs : soundCheck chgin s)
    (hwarm : warmPack s) (hlevel : s.dock.coarse = some level) (hvolts : 0 < packVolts s) :
    let t := phased chgin s
    let tgt := chargeTarget s
    let cold := packVmin s < 3000
    let base := if cold then 300 else tgt
    let formed := min (30000 * CoarseClass.amps level * 9 / (10 * packVolts s)) (min base (s.dock.taper.getD base)) / 25 * 25
    let tap := if 4200 ≤ packVmax s then some (s.dock.taper.getD formed * 9 / 10 / 25 * 25) else s.dock.taper
    (cold → 1799 ≤ s.dock.precharge → t.dock.state = .fault ∧ t.dock.lastFault = .prechargeTimeout
        ∧ t.dock.csw = false)
      ∧ (¬cold ∨ s.dock.precharge < 1799 →
        t.dock.precharge = (if cold then s.dock.precharge + 1 else 0) ∧ t.dock.iTgt = tgt ∧ t.dock.taper = tap
          ∧ (∀ y, tap = some y → y ≤ iTermInUse s → t.dock.state = .topped ∧ t.dock.csw = false ∧ t.dock.total = 0
              ∧ t.pack = fullMarked s.pack)
          ∧ (∀ y, tap = some y → iTermInUse s < y → t.dock.state = .coarse
              ∧ t.dock.iChg = if s.dock.csw then min formed y else 0)
          ∧ (tap = none → t.dock.state = .coarse ∧ t.dock.iChg = if s.dock.csw then formed else 0)) := by
  intro t tgt cold base formed tap
  obtain ⟨u, hphased, hu⟩ := phased_of_charging (by rw [hstate]; rfl) hs hwarm
  obtain ⟨hread, hmin, hmax, -, -, -⟩ := hu.reads
  have hpack : u.pack = s.pack := (congrArg State.pack hu.beside :)
  have hprecharge : u.dock.precharge = s.dock.precharge := hu.field Dock.precharge fun _ _ _ _ => rfl
  have hcsw : u.dock.csw = s.dock.csw := hu.field Dock.csw fun _ _ _ _ => rfl
  have htaper : u.dock.taper = s.dock.taper := hu.field Dock.taper fun _ _ _ _ => rfl
  have hamps : (u.dock.coarse.map CoarseClass.amps).getD 0 = CoarseClass.amps level := by
    rw [hu.field Dock.coarse fun _ _ _ _ => rfl, hlevel, Option.map_some, Option.getD_some]
  have hformed : coarseFormed u = formed := by
    simp only [coarseFormed]
    rw [hamps, hread, hmin, htaper, hu.target]
    unfold offerCapacity
    rw [overPack_pos _ hvolts]
    rfl
  have htap : (coarsened u).dock.taper = tap := by
    change (if 4200 ≤ packVmax u then some (lowerTaper (u.dock.taper.getD (coarseFormed u))) else u.dock.taper) = tap
    rw [hmax, htaper, hformed]
    rfl
  have hpre : (coarsened u).dock.precharge = if cold then s.dock.precharge + 1 else 0 := by
    change (if packVmin u < 3000 then u.dock.precharge + 1 else 0) = _
    rw [hmin, hprecharge]
  obtain ⟨hexpired, hworked⟩ := coarse_work ((hu.field Dock.state fun _ _ _ _ => rfl).trans hstate)
  rw [htap, hpre, hu.target, hu.iTerm, hformed, hcsw, hpack, ← hphased] at hworked
  rw [hpre, ← hphased] at hexpired
  refine ⟨fun hcold htime => hexpired ?_, fun h => hworked ?_⟩
  · rw [if_pos hcold]
    omega
  · by_cases hcold : cold
    · have := h.resolve_left (not_not.mpr hcold)
      rw [if_pos hcold]
      omega
    · rw [if_neg hcold]
      decide

/-- The currents formed again by a check. -/
theorem check_recomputes {chgin target : Nat} {a : Agreement} (hw : workTarget s target) (hs : soundCheck chgin s)
    (hwarm : warmPack s) (ha : s.dock.agreement = some a) (hvolts : 0 < packVolts s) (hoffer : 0 < a.volts) :
    let want := min (a.volts * a.amps * 9 / (10 * packVolts s)) target / 25 * 25
    let up := (want * packVolts s * 10 + (9 * a.volts * 25 - 1)) / (9 * a.volts * 25) * 25
    let input := if a.amps < up then a.amps / 25 * 25 else up
    let differs := 100 ≤ (input - a.input) + (a.input - input)
    let d := (phased chgin s).dock
    d.iTgt = chargeTarget s ∧ d.want = want ∧ d.agreement = some a ∧ d.csw = s.dock.csw
      ∧ d.iChg = (if s.dock.csw then min want (a.input * 9 * a.volts / (10 * packVolts s) / 25 * 25) else 0)
      ∧ (differs → s.dock.exch = none → s.dock.dueHalt = false →
          d.exch = some (freshExchange (.chargeReq a.index input)))
      ∧ (differs → s.dock.exch.isSome → d.exch = s.dock.exch ∧ d.dueCharge = some (.chargeReq a.index input))
      ∧ (¬differs → s.dock.exch.isSome → d.exch = s.dock.exch ∧ d.dueCharge = s.dock.dueCharge)
      ∧ (¬differs → s.dock.exch = none → s.dock.dueHalt = false → s.dock.dueCharge = none → s.dock.dueEvac = none →
          d.exch = none ∧ d.dueCharge = none) := by
  obtain ⟨u, hphased, hu⟩ := phased_of_charging (workTarget_charges hw) hs hwarm
  obtain ⟨ph, v, hwork, hv, hstate, htarget⟩ := checkPhase_recomputes (hu.workTarget hw)
  have hread : packVolts u = packVolts s := hu.reads.1
  have hfacts := recompute_facts hv hstate (((hu.field Dock.agreement fun _ _ _ _ => rfl)).trans ha)
    (hread ▸ hvolts) hoffer htarget
  rw [hread, hu.target, hu.field Dock.csw fun _ _ _ _ => rfl, hu.field Dock.exch fun _ _ _ _ => rfl,
    hu.field Dock.dueHalt fun _ _ _ _ => rfl, hu.field Dock.dueCharge fun _ _ _ _ => rfl,
    hu.field Dock.dueEvac fun _ _ _ _ => rfl] at hfacts
  rw [hphased, hwork]
  exact hfacts

theorem resumesTemp_iff {t : Option Int} : resumesTemp t = true ↔ ∃ x, t = some x ∧ 4 ≤ x ∧ x ≤ 41 := by
  cases t <;> simp [resumesTemp]

theorem level_amps (level : CoarseClass) : (match level with
    | .low => 500
    | .mid => 1000
    | .high => 2000) = CoarseClass.amps level := by
  cases level <;> rfl

/-- Settles O37: each clause by the part of the check that decides it, read off the state before the balancing part. -/
theorem aChargeCheckWorksInOrder : Obligations.AChargeCheckWorksInOrder := by
  intro chgin s hp hperiod t sound warm
  have hfield {α : Type} (f : Dock → α) (hf : ∀ (d : Dock) b, f { d with bleed := b } = f d) :
      f t.dock = f (phased chgin s).dock := chargeCheck_dock f hf chgin hperiod
  have hstate : t.dock.state = _ := hfield Dock.state fun _ _ => rfl
  have hcsw : t.dock.csw = _ := hfield Dock.csw fun _ _ => rfl
  have hagree : t.dock.agreement = _ := hfield Dock.agreement fun _ _ => rfl
  have hpause : t.dock.pause = _ := hfield Dock.pause fun _ _ => rfl
  have hlast : t.dock.lastFault = _ := hfield Dock.lastFault fun _ _ => rfl
  have hdue : t.dock.dueCharge = _ := hfield Dock.dueCharge fun _ _ => rfl
  have hexch : t.dock.exch = _ := hfield Dock.exch fun _ _ => rfl
  have hpre : t.dock.precharge = _ := hfield Dock.precharge fun _ _ => rfl
  have htaper : t.dock.taper = _ := hfield Dock.taper fun _ _ => rfl
  have htotal : t.dock.total = _ := hfield Dock.total fun _ _ => rfl
  have htgt : t.dock.iTgt = _ := hfield Dock.iTgt fun _ _ => rfl
  have hwant : t.dock.want = _ := hfield Dock.want fun _ _ => rfl
  have hchg : t.dock.iChg = _ := hfield Dock.iChg fun _ _ => rfl
  have hpack : t.pack = _ := chargeCheck_pack chgin hperiod
  have hevent (e : Event) : hasEvent e t = _ := chargeCheck_event e chgin hperiod
  have hbeside := phased_besideCheck chgin s
  refine ⟨event_of_powered _ s hp, ?_, chargeCheck_update chgin hperiod, fun hc hs => ?_, fun h hcold => ?_,
    fun x hc hs hx hlow hhigh hfull => ?_, ?_, fun hst hpa hfree => ⟨fun x hx hlow hhigh => ?_, fun hno => ?_⟩,
    fun hst hs hw hcells => ?_, fun hst hs hw hlow => ⟨fun htime => ?_, fun htime => ?_⟩, fun hst hs hw hhigh => ?_,
    fun x hst hs hw hx => ?_, fun hst hfree => ?_, fun a target htarget hs hw ha hvolts hoffer => ?_,
    fun level hst hs hw hlevel hvolts => ?_⟩
  · exact (hfield Dock.period fun _ _ => rfl).trans (congrArg Dock.period hbeside :)
  · obtain ⟨h1, h2, h3, h4, h5⟩ := check_faults hc hs
    rw [hstate, hcsw, hagree, hevent, hlast]
    exact ⟨h1, h2, h3, h4, h5⟩
  · obtain ⟨hsound, hpauses⟩ := tempPauses_of h
    rw [hstate, hpause, hcsw, hagree, hdue, hevent]
    exact check_pauses hsound hpauses hcold
  · rw [hevent]
    exact check_halves hc hs hx hlow hhigh hfull
  · have hlimit : t.dock.lastFullLimit = (band (packTmax s) == .full) :=
      (hfield Dock.lastFullLimit fun _ _ => rfl).trans (congrArg Dock.lastFullLimit hbeside :)
    rw [hlimit, band_full]
  · rw [hstate]
    exact (check_resumes hst hpa hfree).1 (resumesTemp_iff.mpr ⟨x, hx, hlow, hhigh⟩)
  · rw [hstate, hpause]
    refine (check_resumes hst hpa hfree).2 (Bool.eq_false_iff.mpr fun h => ?_)
    obtain ⟨x, hx, hin⟩ := resumesTemp_iff.mp h
    exact hno x hx hin
  · obtain ⟨u, hphased, hu⟩ := phased_of_charging (by rw [hst]; rfl) hs hw
    rw [hstate, hpre, hphased]
    exact precharge_completes ((hu.field Dock.state fun _ _ _ _ => rfl).trans hst) (hu.cells ▸ hcells)
  · obtain ⟨u, hphased, hu⟩ := phased_of_charging (by rw [hst]; rfl) hs hw
    rw [hstate, hcsw, hlast, hevent, hphased]
    exact precharge_expires ((hu.field Dock.state fun _ _ _ _ => rfl).trans hst) (hu.cells ▸ hlow)
      ((hu.field Dock.precharge fun _ _ _ _ => rfl) ▸ htime)
  · obtain ⟨u, hphased, hu⟩ := phased_of_charging (by rw [hst]; rfl) hs hw
    have hkept : u.dock.precharge = s.dock.precharge := hu.field Dock.precharge fun _ _ _ _ => rfl
    rw [hstate, hpre, hphased, ← hkept]
    exact precharge_continues_facts ((hu.field Dock.state fun _ _ _ _ => rfl).trans hst) (hu.cells ▸ hlow)
      (hkept ▸ htime)
  · obtain ⟨u, hphased, hu⟩ := phased_of_charging (by rw [hst]; rfl) hs hw
    have hbulk : u.dock.state = .bulk := (hu.field Dock.state fun _ _ _ _ => rfl).trans hst
    have hkept : u.dock.iChg = s.dock.iChg := hu.field Dock.iChg fun _ _ _ _ => rfl
    have hup : u.pack = s.pack := (congrArg State.pack hu.beside :)
    obtain ⟨hended, hlowered, hfull⟩ := bulk_tapers hbulk (hu.highest ▸ hhigh)
    rw [hu.iTerm, hkept, ← hphased] at hended
    rw [hkept, ← hphased] at hlowered
    rw [hu.iTerm, hkept, hup, ← hphased] at hfull
    rw [hstate, htaper, hcsw, hagree, htotal, hpack]
    refine ⟨hended, hlowered, fun htop => ?_⟩
    have hle : lowerTaper s.dock.iChg ≤ iTermInUse s := by
      by_contra hlt
      rw [if_neg hlt] at hended
      exact nomatch hended.symm.trans htop
    obtain ⟨h1, h2, h3, h4⟩ := hfull hle
    rw [h4]
    exact ⟨h1, h2, h3, rfl, rfl, rfl⟩
  · intro y
    obtain ⟨u, hphased, hu⟩ := phased_of_charging (by rw [hst]; rfl) hs hw
    have hup : u.pack = s.pack := (congrArg State.pack hu.beside :)
    obtain ⟨hlowered, hended, hfull⟩ := taper_proceeds ((hu.field Dock.state fun _ _ _ _ => rfl).trans hst)
      ((hu.field Dock.taper fun _ _ _ _ => rfl).trans hx)
    rw [hu.highest, ← hphased] at hlowered
    rw [hu.highest, hu.iTerm, ← hphased] at hended
    rw [hu.highest, hu.iTerm, hup, ← hphased] at hfull
    rw [hstate, htaper, hcsw, hagree, hpack]
    refine ⟨hlowered, hended, fun hle => ?_⟩
    obtain ⟨h1, h2, -, h4⟩ := hfull hle
    rw [h4]
    exact ⟨h1, h2, rfl⟩
  · rw [hstate]
    exact check_topped hst hfree
  · intro v want up input differs due
    rw [htgt, hwant, hagree, hcsw, hchg, hexch, hdue]
    exact check_recomputes htarget hs hw ha hvolts hoffer
  · intro amps tgt cold base formed tap
    have hamps : amps = CoarseClass.amps level := level_amps level
    obtain ⟨hexpired, hworked⟩ := check_coarse hst hs hw hlevel hvolts
    rw [hstate, hlast, hcsw, hpre, htgt, htaper, htotal, hchg, hpack]
    refine ⟨hexpired, fun h => ?_⟩
    obtain ⟨h1, h2, h3, h4, h5, h6⟩ := hworked h
    have hformed : formed = min (30000 * CoarseClass.amps level * 9 / (10 * packVolts s)) (min base (s.dock.taper.getD base)) / 25 * 25 := by
      rw [← hamps]
    have htap : tap = if 4200 ≤ packVmax s then some (s.dock.taper.getD (min (30000 * CoarseClass.amps level * 9 / (10 * packVolts s))
        (min base (s.dock.taper.getD base)) / 25 * 25) * 9 / 10 / 25 * 25) else s.dock.taper := by
      rw [← hformed]
    rw [htap, hformed]
    refine ⟨h1, h2, h3, fun y hy hle => ?_, h5, h6⟩
    obtain ⟨g1, g2, g3, g4⟩ := h4 y hy hle
    rw [g4]
    exact ⟨g1, g2, g3, rfl⟩

end Sys2Proof.Machine
end

section
namespace Sys2Proof.Machine

variable {s t u : State}

/-! ## The highest cells (R156) -/

/-- A numbered cell comes before another: a higher voltage, a tie to the lower number (R156). -/
def cellAbove (c d : Nat × Nat) : Bool := decide (d.2 < c.2) || (c.2 == d.2 && decide (c.1 < d.1))

/-- Cells in the order of their numbers. -/
def InOrder (l : List (Nat × Nat)) : Prop := l.Pairwise fun a b => a.1 < b.1

theorem cellAbove_iff (c d : Nat × Nat) : cellAbove c d = true ↔ d.2 < c.2 ∨ (c.2 = d.2 ∧ c.1 < d.1) := by
  simp [cellAbove]

theorem highestCell_none {l : List (Nat × Nat)} (h : highestCell l = none) : l = [] := by
  cases l with
  | nil => rfl
  | cons c cs =>
    unfold highestCell at h
    split at h
    · exact nomatch h
    · split at h <;> exact nomatch h

theorem highestCell_spec {l : List (Nat × Nat)} (h : InOrder l) {c : Nat × Nat} (hc : highestCell l = some c) :
    c ∈ l ∧ ∀ d ∈ l, d = c ∨ cellAbove c d = true := by
  induction l generalizing c with
  | nil => exact nomatch hc
  | cons a l ih =>
    obtain ⟨hfirst, hrest⟩ := List.pairwise_cons.mp h
    cases hb : highestCell l with
    | none =>
      obtain rfl : a = c := by simpa [highestCell, hb] using hc
      rw [highestCell_none hb]
      exact ⟨List.mem_singleton_self a, fun d hd => .inl (List.mem_singleton.mp hd)⟩
    | some b =>
      obtain ⟨hmem, hall⟩ := ih hrest hb
      by_cases hlt : a.2 < b.2
      · obtain rfl : b = c := by simpa [highestCell, hb, hlt] using hc
        refine ⟨List.mem_cons_of_mem _ hmem, fun d hd => ?_⟩
        rcases List.mem_cons.mp hd with rfl | hd
        · exact .inr ((cellAbove_iff _ _).mpr (.inl hlt))
        · exact hall d hd
      · obtain rfl : a = c := by simpa [highestCell, hb, hlt] using hc
        refine ⟨List.mem_cons_self, fun d hd => ?_⟩
        rcases List.mem_cons.mp hd with rfl | hd
        · exact .inl rfl
        · have hnumber := hfirst d hd
          refine .inr ((cellAbove_iff _ _).mpr ?_)
          rcases hall d hd with rfl | habove
          · omega
          · have := (cellAbove_iff _ _).mp habove
            omega

theorem not_above_of_above {c d : Nat × Nat} (h : d = c ∨ cellAbove c d = true) : cellAbove d c = false := by
  rw [Bool.eq_false_iff, Ne, cellAbove_iff]
  rcases h with rfl | h
  · omega
  · have := (cellAbove_iff _ _).mp h
    omega

/-- The cells counted with one of them taken out. -/
theorem countP_take_out {l : List (Nat × Nat)} (h : InOrder l) {c : Nat × Nat} (hc : c ∈ l) (q : Nat × Nat → Bool) :
    l.countP q = (l.filter fun d => d.1 != c.1).countP q + if q c then 1 else 0 := by
  induction l with
  | nil => exact nomatch hc
  | cons a l ih =>
    obtain ⟨hfirst, hrest⟩ := List.pairwise_cons.mp h
    rcases List.mem_cons.mp hc with rfl | hc
    · have hothers : l.filter (fun d => d.1 != c.1) = l :=
        List.filter_eq_self.mpr fun d hd => bne_iff_ne.mpr (Nat.ne_of_gt (hfirst d hd))
      rw [List.countP_cons, List.filter_cons_of_neg (by simp), hothers]
    · have hkept : (a :: l).filter (fun d => d.1 != c.1) = a :: l.filter (fun d => d.1 != c.1) :=
        List.filter_cons_of_pos (bne_iff_ne.mpr (Nat.ne_of_lt (hfirst c hc)))
      rw [hkept, List.countP_cons, List.countP_cons, ih hrest hc]
      omega

/-- The chosen cells: those with fewer cells above them than there are places. -/
theorem mem_highestCells (n : Nat) {l : List (Nat × Nat)} (h : InOrder l) (k : Nat) :
    k ∈ highestCells n l ↔ ∃ v, (k, v) ∈ l ∧ l.countP (cellAbove · (k, v)) < n := by
  induction n generalizing l with
  | zero => simp [highestCells]
  | succ n ih =>
    cases hhigh : highestCell l with
    | none =>
      obtain rfl := highestCell_none hhigh
      simp [highestCells, highestCell]
    | some c =>
      obtain ⟨hmem, hall⟩ := highestCell_spec h hhigh
      have hrest : InOrder (l.filter fun d => d.1 != c.1) := List.Pairwise.filter _ h
      have hchosen : highestCells (n + 1) l = c.1 :: highestCells n (l.filter fun d => d.1 != c.1) := by
        simp [highestCells, hhigh]
      rw [hchosen, List.mem_cons, ih hrest]
      constructor
      · rintro (rfl | ⟨v, hv, hcount⟩)
        · refine ⟨c.2, hmem, ?_⟩
          have hnone : l.countP (cellAbove · (c.1, c.2)) = 0 :=
            List.countP_eq_zero.mpr fun d hd => by simp [not_above_of_above (hall d hd)]
          omega
        · refine ⟨v, (List.mem_filter.mp hv).1, ?_⟩
          rw [countP_take_out h hmem]
          split <;> omega
      · rintro ⟨v, hv, hcount⟩
        by_cases hk : k = c.1
        · exact .inl hk
        · have habove : cellAbove c (k, v) = true :=
            (hall _ hv).resolve_left fun heq => hk (congrArg Prod.fst heq)
          refine .inr ⟨v, List.mem_filter.mpr ⟨hv, bne_iff_ne.mpr hk⟩, ?_⟩
          rw [countP_take_out h hmem, if_pos habove] at hcount
          omega

theorem highestCells_length (n : Nat) (l : List (Nat × Nat)) : (highestCells n l).length ≤ n := by
  induction n generalizing l with
  | zero => simp [highestCells]
  | succ n ih =>
    unfold highestCells
    split
    · exact Nat.zero_le _
    · exact Nat.succ_le_succ (ih _)

/-! ## The cells that want to bleed -/

theorem numbered_eq (k : Nat) (l : List Nat) {n : Nat} (h : l.length ≤ n) :
    numbered k l = (List.range' k n).filterMap fun j => l[j - k]?.map (j, ·) := by
  induction l generalizing k n with
  | nil => simp [numbered]
  | cons v vs ih =>
    obtain ⟨m, rfl⟩ : ∃ m, n = m + 1 := ⟨n - 1, by simp only [List.length_cons] at h; omega⟩
    have htail := ih (k + 1) (Nat.le_of_succ_le_succ h)
    rw [numbered, htail, List.range'_succ]
    have hhead : (v :: vs)[k - k]?.map (k, ·) = some (k, v) := by simp
    rw [List.filterMap_cons_some (f := fun j => (v :: vs)[j - k]?.map (j, ·)) hhead]
    refine congrArg _ (List.filterMap_congr fun j hj => ?_)
    obtain ⟨i, hi⟩ : ∃ i, j = k + 1 + i := ⟨j - (k + 1), by
      have := (List.mem_range'_1.mp hj).1
      omega⟩
    have hleft : j - (k + 1) = i := by omega
    have hright : j - k = i + 1 := by omega
    rw [hleft, hright, List.getElem?_cons_succ]

/-- A numbered cell that R156 lets bleed. -/
def wantingCell (old : List Nat) (low : Nat) (c : Nat × Nat) : Bool :=
  if old.contains c.1 then decide (low + 5 < c.2) else decide (low + 20 ≤ c.2)

/-- The cells numbered from 1, at most six. -/
def sixCells (cells : List Nat) : List (Nat × Nat) :=
  [1, 2, 3, 4, 5, 6].filterMap fun j => cells[j - 1]?.map (j, ·)

theorem numbered_six (cells : List Nat) : numbered 1 (cells.take 6) = sixCells cells := by
  rw [numbered_eq 1 (cells.take 6) (List.length_take_le 6 cells)]
  refine List.filterMap_congr fun j hj => ?_
  have hj' : j - 1 < 6 := by
    have := (List.mem_range'_1.mp hj).2
    omega
  rw [List.getElem?_take_of_lt hj']

theorem mem_sixCells {cells : List Nat} {k v : Nat} :
    (k, v) ∈ sixCells cells ↔ k ∈ [1, 2, 3, 4, 5, 6] ∧ cells[k - 1]? = some v := by
  simp only [sixCells, List.mem_filterMap, Option.map_eq_some_iff, Prod.mk.injEq]
  constructor
  · rintro ⟨j, hj, w, hw, rfl, rfl⟩
    exact ⟨hj, hw⟩
  · rintro ⟨hk, hv⟩
    exact ⟨k, hk, v, hv, rfl, rfl⟩

theorem sixCells_inOrder (cells : List Nat) : InOrder (sixCells cells) := by
  have hsorted : [1, 2, 3, 4, 5, 6].Pairwise (· < ·) := by decide
  refine hsorted.filterMap _ fun a b hab c hc d hd => ?_
  obtain ⟨v, -, rfl⟩ := Option.map_eq_some_iff.mp hc
  obtain ⟨w, -, rfl⟩ := Option.map_eq_some_iff.mp hd
  exact hab

theorem bleedSet_eq (old cells : List Nat) (low : Nat) {die : Int} (h : die ≤ 85) : bleedSet old cells low die
    = [1, 2, 3, 4, 5, 6].filter (fun k =>
        (highestCells 3 ((sixCells cells).filter (wantingCell old low))).contains k) := by
  unfold bleedSet
  rw [if_neg (Int.not_lt.mpr h), numbered_six]
  have hwanting : (fun c : Nat × Nat => if old.contains c.1 = true then decide (low + 5 < c.2)
      else decide (low + 20 ≤ c.2)) = wantingCell old low := rfl
  refine List.filter_congr fun k _ => ?_
  rw [← hwanting]

theorem bleedSet_of_hot (old cells : List Nat) (low : Nat) {die : Int} (h : 85 < die) :
    bleedSet old cells low die = [] := if_pos h

theorem wantsBleed_iff (old cells : List Nat) (low k : Nat) :
    wantsBleed old cells low k = true ↔ ∃ v, cells[k - 1]? = some v ∧ wantingCell old low (k, v) = true := by
  unfold wantsBleed wantingCell
  cases cells[k - 1]? with
  | none => simp
  | some v => by_cases hk : k ∈ old <;> simp [hk]

/-- The cells that want to bleed and stand above a cell, counted by their numbers. -/
theorem count_above (old cells : List Nat) (low k : Nat) : ((sixCells cells).filter (wantingCell old low)).countP
      (cellAbove · (k, cells.getD (k - 1) 0))
    = ([1, 2, 3, 4, 5, 6].filter fun j => wantsBleed old cells low j && standsAbove cells j k).length := by
  rw [List.countP_filter, sixCells, List.countP_filterMap, ← List.countP_eq_length_filter]
  refine List.countP_congr fun j _ => ?_
  cases hj : cells[j - 1]? with
  | none => simp [wantsBleed, hj]
  | some w =>
    have hget : cells.getD (j - 1) 0 = w := by rw [List.getD_eq_getElem?_getD, hj, Option.getD_some]
    have hwants : wantsBleed old cells low j = wantingCell old low (j, w) := by
      rw [Bool.eq_iff_iff, wantsBleed_iff, hj]
      simp
    have habove : standsAbove cells j k = cellAbove (j, w) (k, cells.getD (k - 1) 0) := by
      unfold standsAbove cellAbove
      rw [hget]
    simp [hwants, habove, and_comm]

/-- The bleed set by R156. -/
theorem bleedSet_spec (old cells : List Nat) (low : Nat) {die : Int} (h : die ≤ 85) : bleedSet old cells low die
    = [1, 2, 3, 4, 5, 6].filter (fun k => wantsBleed old cells low k
        && decide (([1, 2, 3, 4, 5, 6].filter (fun j =>
            wantsBleed old cells low j && standsAbove cells j k)).length < 3)) := by
  have horder : InOrder ((sixCells cells).filter (wantingCell old low)) := (sixCells_inOrder cells).filter _
  rw [bleedSet_eq old cells low h]
  refine List.filter_congr fun k hk => ?_
  rw [Bool.eq_iff_iff, List.contains_iff_mem, mem_highestCells 3 horder, Bool.and_eq_true, decide_eq_true_eq,
    wantsBleed_iff, ← count_above]
  constructor
  · rintro ⟨v, hv, hcount⟩
    obtain ⟨hsix, hwant⟩ := List.mem_filter.mp hv
    obtain ⟨-, hget⟩ := mem_sixCells.mp hsix
    have hd : cells.getD (k - 1) 0 = v := by rw [List.getD_eq_getElem?_getD, hget, Option.getD_some]
    rw [hd]
    exact ⟨⟨v, hget, hwant⟩, hcount⟩
  · rintro ⟨⟨v, hget, hwant⟩, hcount⟩
    have hd : cells.getD (k - 1) 0 = v := by rw [List.getD_eq_getElem?_getD, hget, Option.getD_some]
    rw [hd] at hcount
    exact ⟨v, List.mem_filter.mpr ⟨mem_sixCells.mpr ⟨hk, hget⟩, hwant⟩, hcount⟩

theorem bleedSet_length (old cells : List Nat) (low : Nat) (die : Int) : (bleedSet old cells low die).length ≤ 3 := by
  by_cases hdie : 85 < die
  · rw [bleedSet_of_hot old cells low hdie]
    exact Nat.zero_le 3
  · rw [bleedSet_eq old cells low (Int.not_lt.mp hdie)]
    have hnodup : [1, 2, 3, 4, 5, 6].Nodup := by decide
    refine Nat.le_trans (List.Subperm.length_le (List.subperm_of_subset (hnodup.filter _)
      (l₂ := highestCells 3 ((sixCells cells).filter (wantingCell old low))) ?_)) (highestCells_length 3 _)
    exact fun k hk => List.contains_iff_mem.mp (List.mem_filter.mp hk).2

theorem mem_bleedSet {old cells : List Nat} {low k : Nat} {die : Int} (h : k ∈ bleedSet old cells low die) :
    1 ≤ k ∧ k ≤ 6 ∧ ∃ v, cells[k - 1]? = some v ∧ (if k ∈ old then low + 5 < v else low + 20 ≤ v) := by
  by_cases hdie : 85 < die
  · rw [bleedSet_of_hot old cells low hdie] at h
    exact nomatch h
  · rw [bleedSet_spec old cells low (Int.not_lt.mp hdie)] at h
    obtain ⟨hk, hin⟩ := List.mem_filter.mp h
    obtain ⟨v, hv, hwant⟩ := (wantsBleed_iff old cells low k).mp (Bool.and_eq_true_iff.mp hin).1
    have hrange : ∀ j ∈ [1, 2, 3, 4, 5, 6], 1 ≤ j ∧ j ≤ 6 := by decide
    refine ⟨(hrange k hk).1, (hrange k hk).2, v, hv, ?_⟩
    unfold wantingCell at hwant
    by_cases hold : k ∈ old
    · simpa [hold] using hwant
    · simpa [hold] using hwant

/-! ## The bleed set through a check -/

/-- What R156 says of the bleed set after the phase work: it stands in TAPER and TOPPED, and a state left for another
has none. -/
def bleedLaw (d e : Dock) : Prop :=
  (e.state = .taper ∨ e.state = .topped → e.bleed = d.bleed)
    ∧ (e.state ≠ .taper → e.state ≠ .topped → e.state ≠ d.state → e.bleed = [])

theorem bleedLaw_of_same {d e : Dock} (hs : e.state = d.state) (hb : e.bleed = d.bleed) : bleedLaw d e :=
  ⟨fun _ => hb, fun _ _ hne => absurd hs hne⟩

theorem bleedLaw_of_kept {d e : Dock} (hs : e.state = .taper ∨ e.state = .topped) (hb : e.bleed = d.bleed) :
    bleedLaw d e :=
  ⟨fun _ => hb, fun h h' _ => absurd hs (by simp [h, h'])⟩

theorem Dock.enter_bleed (c : ChargeState) (d : Dock) :
    (d.enter c).bleed = if d.state = c ∨ c = .taper ∨ c = .topped then d.bleed else [] := by
  unfold Dock.enter
  by_cases h : d.state = c
  · rw [if_pos h, if_pos (.inl h)]
  · rw [if_neg h]
    exact if_congr (by simp [h]) rfl rfl

/-- An entry to another state than TAPER and TOPPED. -/
theorem bleedLaw_of_enter {c : ChargeState} {d e : Dock} (h : c ≠ .taper) (h' : c ≠ .topped) (hs : e.state = c)
    (hb : e.bleed = (d.enter c).bleed) : bleedLaw d e := by
  refine ⟨fun hin => ?_, fun _ _ hne => ?_⟩
  · rw [hs] at hin
    exact absurd hin (by simp [h, h'])
  · rw [hb, Dock.enter_bleed, if_neg (by rw [← hs]; rw [← hs] at h h'; simp [h, h', hne.symm])]

theorem enterPause_bleed {c : PauseCause} (hc : c ≠ .offerChange) (s : State) :
    (enterPause c s).dock.bleed = (s.dock.enter .paused).bleed := by
  have hno : ¬(({ (s.dock.enter .paused).open with pause := c } : Dock).abandon.state = .paused
      ∧ ({ (s.dock.enter .paused).open with pause := c } : Dock).abandon.pause = .offerChange) := fun h => hc h.2
  rw [enterPause_dock]
  exact Dock.send_stays Dock.bleed (fun _ _ _ _ _ => rfl) hno

theorem enterPause_bleedLaw {c : PauseCause} (hc : c ≠ .offerChange) (s : State) :
    bleedLaw s.dock (enterPause c s).dock :=
  bleedLaw_of_enter (by decide) (by decide) (enterPause_facts hc s).1 (enterPause_bleed hc s)

theorem enterChargeFault_bleedLaw (c : ChargeFault) (s : State) : bleedLaw s.dock (enterChargeFault c s).dock := by
  have hstate : ({ (s.dock.enter .fault).open with lastFault := c } : Dock).abandon.state = .fault :=
    s.dock.enter_state .fault
  refine bleedLaw_of_enter (by decide) (by decide) (enterChargeFault_facts c s).1 ?_
  rw [enterChargeFault_dock]
  refine Dock.send_stays Dock.bleed (fun _ _ _ _ _ => rfl) ?_
  rw [hstate]
  exact fun h => nomatch h.1

theorem enterIdentify_bleedLaw (s : State) : bleedLaw s.dock (enterIdentify s).dock := by
  cases hpause : s.watch.pauseOrder with
  | true =>
    rw [enterIdentify_of_order hpause]
    exact enterPause_bleedLaw (by decide) { s with dock := { s.dock with resume := none, taper := none } }
  | false =>
    have hstate : ({ (({ s.dock with resume := none, taper := none } : Dock).enter .identify) with
        dueCharge := some .hello } : Dock).state = .identify := Dock.enter_state _ _
    refine bleedLaw_of_enter (d := { s.dock with resume := none, taper := none }) (by decide) (by decide)
      (enterIdentify_facts hpause).1 ?_
    rw [enterIdentify_dock_of_free hpause]
    refine Dock.send_stays Dock.bleed (fun _ _ _ _ _ => rfl) ?_
    rw [hstate]
    exact fun h => nomatch h.1

theorem enterTopped_bleedLaw (s : State) : bleedLaw s.dock (enterTopped s).dock := by
  obtain ⟨hstate, -, -, -, -, -, -, hbleed⟩ := enterTopped_facts s
  exact bleedLaw_of_kept (.inr hstate) hbleed

/-- A recompute leaves the charge state and the bleed set. -/
theorem recomputeCurrent_same (ph : ChargePhase) (h : s.dock.state ≠ .paused) :
    (recomputeCurrent ph s).dock.state = s.dock.state ∧ (recomputeCurrent ph s).dock.bleed = s.dock.bleed :=
  ⟨recomputeCurrent_stays Dock.state (fun _ _ _ _ _ => rfl) (fun _ _ _ _ => rfl) ph h,
    recomputeCurrent_stays Dock.bleed (fun _ _ _ _ _ => rfl) (fun _ _ _ _ => rfl) ph h⟩

theorem taperOrTop_bleed (h : s.dock.state = .taper) :
    ((taperOrTop s).dock.state = .taper ∨ (taperOrTop s).dock.state = .topped)
      ∧ (taperOrTop s).dock.bleed = s.dock.bleed := by
  unfold taperOrTop
  split
  · obtain ⟨hstate, -, -, -, -, -, -, hbleed⟩ := enterTopped_facts s
    exact ⟨.inr hstate, hbleed⟩
  · obtain ⟨hstate, hbleed⟩ := recomputeCurrent_same .taper (s := s) (by simp [h])
    exact ⟨.inl (hstate.trans h), hbleed⟩

theorem checkPhase_bleedLaw (s : State) : bleedLaw s.dock (checkPhase s).dock := by
  rcases s.dock.state.cases_by_work with h | h | h | h | h | h
  · rw [checkPhase_of_idles h]
    exact bleedLaw_of_same rfl rfl
  · rw [checkPhase_of_precharge h]
    split
    · obtain ⟨v, hv⟩ : ∃ v, v = setCharge .bulk { s with dock := { s.dock with precharge := 0 } } := ⟨_, rfl⟩
      have hdock : v.dock = Dock.enter .bulk { s.dock with precharge := 0 } := hv ▸ setCharge_dock _ _
      have hbulk : v.dock.state = .bulk := by rw [hdock, Dock.enter_state]
      obtain ⟨hstate, hbleed⟩ := recomputeCurrent_same .bulk (s := v) (by simp [hbulk])
      rw [← hv]
      refine bleedLaw_of_enter (d := { s.dock with precharge := 0 }) (by decide) (by decide) (hstate.trans hbulk) ?_
      rw [hbleed, hdock]
    · split
      · exact enterChargeFault_bleedLaw _ { s with dock := { s.dock with precharge := s.dock.precharge + 1 } }
      · obtain ⟨hstate, hbleed⟩ := recomputeCurrent_same .precharge
          (s := { s with dock := { s.dock with precharge := s.dock.precharge + 1 } }) (by simp [h])
        exact bleedLaw_of_same hstate hbleed
  · rw [checkPhase_of_bulk h]
    split
    · have hdock := tapered_dock s
      obtain ⟨hstate, hbleed⟩ := taperOrTop_bleed (s := tapered s) (by rw [hdock, Dock.enter_state])
      refine bleedLaw_of_kept hstate ?_
      rw [hbleed, hdock, Dock.enter_bleed, if_pos (by simp)]
    · obtain ⟨hstate, hbleed⟩ := recomputeCurrent_same .bulk (s := s) (by simp [h])
      exact bleedLaw_of_same hstate hbleed
  · rw [checkPhase_of_taper h]
    split
    · obtain ⟨hstate, hbleed⟩ := taperOrTop_bleed (s := { s with
        dock := { s.dock with taper := s.dock.taper.map lowerTaper } }) h
      exact bleedLaw_of_kept hstate hbleed
    · obtain ⟨hstate, hbleed⟩ := taperOrTop_bleed h
      exact bleedLaw_of_kept hstate hbleed
  · rw [checkPhase_of_coarse h, coarseWork_eq]
    split
    · exact enterChargeFault_bleedLaw _ (coarsened s)
    · split
      · split
        · exact enterTopped_bleedLaw (coarsened s)
        · exact bleedLaw_of_same rfl rfl
      · exact bleedLaw_of_same rfl rfl
  · rw [checkPhase_of_topped h]
    split
    · exact enterIdentify_bleedLaw s
    · exact bleedLaw_of_same rfl rfl

/-- The law holds of the state before the balancing part. -/
theorem phased_bleedLaw (chgin : Nat) (s : State) : bleedLaw s.dock (phased chgin s).dock := by
  by_cases hsound : s.dock.state.charges = true → soundCheck chgin s
  · by_cases hcold : s.dock.state.tempPauses = true ∧ ¬warmPack s
    · obtain ⟨u, -, hphased, hstate, hbleed⟩ := phased_of_cold hsound hcold.1 hcold.2
      have hlaw := enterPause_bleedLaw (c := .temp) (by decide) (raise .tempLimit u)
      rw [hphased]
      unfold bleedLaw at hlaw ⊢
      rw [← hstate, ← hbleed]
      exact hlaw
    by_cases hpause : s.dock.state = .paused ∧ s.dock.pause = .temp
    · have hidle : s.dock.state.charges = false := by rw [hpause.1]; rfl
      have htemp := checkTemp_of_pause (s := begun s) hpause.1 hpause.2
      rw [phased_of_sound hsound, if_neg (by simp [hidle]), htemp]
      split
      · obtain ⟨v, hv⟩ : ∃ v, v = banded (begun s) := ⟨_, rfl⟩
        have hidles : (enterIdentify v).dock.state.idles := by
          cases horder : v.watch.pauseOrder with
          | false => simp [(enterIdentify_facts horder).1, ChargeState.idles]
          | true =>
            rw [enterIdentify_of_order horder]
            simp [(enterPause_facts (c := .watch) (by decide) _).1, ChargeState.idles]
        have hlaw := enterIdentify_bleedLaw v
        rw [← hv, checkPhase_of_idles hidles]
        rw [hv] at hlaw ⊢
        exact hlaw
      · have hidles : (banded (begun s)).dock.state.idles := by
          change s.dock.state.idles
          simp [hpause.1, ChargeState.idles]
        rw [checkPhase_of_idles hidles]
        exact bleedLaw_of_same rfl rfl
    · obtain ⟨u, hphased, hu⟩ := phased_of_undisturbed hsound hcold hpause
      have hlaw := checkPhase_bleedLaw u
      rw [hphased]
      unfold bleedLaw at hlaw ⊢
      rw [hu.field Dock.state fun _ _ _ _ => rfl, hu.field Dock.bleed fun _ _ _ _ => rfl] at hlaw
      exact hlaw
  · have hcharges : s.dock.state.charges = true := by
      by_contra hno
      exact hsound fun h => absurd h hno
    rw [phased_of_unsound hcharges fun hs => hsound fun _ => hs]
    exact enterChargeFault_bleedLaw _ (counted (begun s))

/-! ## The pack's record through a check -/

theorem taperOrTop_record (s : State) : (taperOrTop s).pack.record = s.pack.record := by
  unfold taperOrTop
  split
  · rw [enterTopped_pack]
  · exact (congrArg (fun v : State => v.pack.record) (recomputeCurrent_besideDock .taper s) :)

theorem record_of_besideDock (h : besideDock t = besideDock s) : t.pack.record = s.pack.record :=
  (congrArg (fun v : State => v.pack.record) h :)

theorem checkPhase_record (s : State) : (checkPhase s).pack.record = s.pack.record := by
  rcases s.dock.state.cases_by_work with h | h | h | h | h | h
  · rw [checkPhase_of_idles h]
  · rw [checkPhase_of_precharge h]
    split
    · exact record_of_besideDock ((recomputeCurrent_besideDock _ _).trans (setCharge_besideDock .bulk _))
    · split
      · exact record_of_besideDock (enterChargeFault_besideDock _ _)
      · exact record_of_besideDock (recomputeCurrent_besideDock _ _)
  · rw [checkPhase_of_bulk h]
    split
    · exact (taperOrTop_record _).trans (record_of_besideDock (tapered_besideDock s))
    · exact record_of_besideDock (recomputeCurrent_besideDock _ _)
  · rw [checkPhase_of_taper h]
    split
    · exact taperOrTop_record _
    · exact taperOrTop_record _
  · rw [checkPhase_of_coarse h, coarseWork_eq]
    split
    · exact record_of_besideDock (enterChargeFault_besideDock _ (coarsened s))
    · split
      · split
        · rw [enterTopped_pack]
          rfl
        · rfl
      · rfl
  · rw [checkPhase_of_topped h]
    split
    · exact record_of_besideDock (enterIdentify_besideDock _)
    · rfl

theorem phased_record (chgin : Nat) (s : State) : (phased chgin s).pack.record = s.pack.record := by
  have hfaults := record_of_besideDock (checkFaults_besideDock chgin (begun s))
  have htemp := record_of_besideDock (checkTemp_besideDock (checkFaults chgin (begun s)))
  exact (checkPhase_record _).trans (htemp.trans hfaults)

/-- The bleed set after a check. -/
theorem chargeCheck_bleed (chgin : Nat) (h : s.dock.period.isSome = true) : (chargeCheck chgin s).dock.bleed
    = if (phased chgin s).dock.state = .taper ∨ (phased chgin s).dock.state = .topped then
        bleedSet (phased chgin s).dock.bleed (packCells s) (packVmin s) (packDie s) else (phased chgin s).dock.bleed := by
  have hrecord := phased_record chgin s
  have hcells : packCells (phased chgin s) = packCells s := by
    unfold packCells
    rw [hrecord]
  have hmin : packVmin (phased chgin s) = packVmin s := by
    unfold packVmin
    rw [hrecord]
  have hdie : packDie (phased chgin s) = packDie s := by
    unfold packDie
    rw [hrecord]
  rw [chargeCheck_eq chgin h]
  change (checkBalance (phased chgin s)).dock.bleed = _
  unfold checkBalance
  split
  · rw [← hcells, ← hmin, ← hdie]
  · rfl

theorem chargeCheck_bleeds (chgin : Nat) (h : s.dock.period.isSome = true) : let t := chargeCheck chgin s
    (t.dock.state = .taper ∨ t.dock.state = .topped →
        t.dock.bleed = bleedSet s.dock.bleed (packCells s) (packVmin s) (packDie s))
      ∧ (t.dock.state ≠ .taper → t.dock.state ≠ .topped → t.dock.state ≠ s.dock.state → t.dock.bleed = []) := by
  intro t
  have hstate : t.dock.state = (phased chgin s).dock.state := chargeCheck_dock Dock.state (fun _ _ => rfl) chgin h
  have hbleed : t.dock.bleed = _ := chargeCheck_bleed chgin h
  obtain ⟨hstands, hnone⟩ := phased_bleedLaw chgin s
  rw [hstate, hbleed]
  refine ⟨fun hin => ?_, fun hno hno' hne => ?_⟩
  · rw [if_pos hin, hstands hin]
  · rw [if_neg (by simp [hno, hno'])]
    exact hnone hno hno' hne

/-! ## The charge timers' ends (R154, R158, R160) -/

theorem exec_timer_faults {c : Instr} {work : State → State} (cause : ChargeFault) (hexec : exec c s = event work s)
    (hs : s.powered) (hsig : s.signals = []) (hwork : work s = enterChargeFault cause s) :
    ∃ t, exec c s = .next t ∧ t.dock.state = .fault ∧ t.dock.lastFault = cause ∧ t.dock.csw = false
      ∧ t.dock.agreement = none ∧ hasEvent .chargeFault t = true ∧ t.pack = s.pack := by
  obtain ⟨u, hu⟩ : ∃ u, u = enterChargeFault cause s := ⟨_, rfl⟩
  obtain ⟨hstate, hlast, hcsw, -, hagree, hevent⟩ := enterChargeFault_facts cause s
  have hbeside : besideDock u = besideDock s := hu ▸ enterChargeFault_besideDock cause s
  have hconclude := conclude_dock ((signals_of_besideDock hbeside).trans hsig)
  rw [← hu] at hstate hlast hcsw hagree hevent
  refine ⟨conclude u, by rw [hexec, event_of_powered work s hs, hwork, hu], ?_, ?_, ?_, ?_, conclude_keeps _ _ hevent, ?_⟩
  · rw [hconclude, hstate]
  · rw [hconclude, hlast]
  · rw [hconclude, hcsw]
  · rw [hconclude, hagree]
  · rw [conclude_pack]
    exact (congrArg State.pack hbeside :)

/-- Settles O38: the timers' ends as entries to FAULT, the bleed set through the parts of a check, and the set itself by
the cells that stand above one another. -/
theorem chargeTimersEndAndCellsAreBled : Obligations.ChargeTimersEndAndCellsAreBled := by
  refine ⟨fun s hs hsig => ⟨fun h => ?_, fun h hpre => ?_, fun h => ?_⟩, fun chgin s h => chargeCheck_bleeds chgin h,
    fun old cells low die => ⟨bleedSet_of_hot old cells low, bleedSet_spec old cells low, bleedSet_length old cells low die,
      fun k hk => mem_bleedSet hk⟩⟩
  · exact exec_timer_faults .prechargeTimeout rfl hs hsig (if_pos (.inl h))
  · exact exec_timer_faults .prechargeTimeout rfl hs hsig (if_pos (.inr ⟨h, hpre⟩))
  · exact exec_timer_faults .totalTimeout rfl hs hsig (if_pos h)

end Sys2Proof.Machine
end

section
namespace Sys2Proof.Machine

variable {s t u : State}

/-! ## The best of a list of offers (R150) -/

/-- The power an offer allows (R150). -/
def Offer.power (o : Offer) : Nat := o.volts * o.amps

/-- Offers in the order of their indices. -/
def OffersInOrder (l : List (Nat × Offer)) : Prop := l.Pairwise fun a b => a.1 < b.1

theorem bestOffer_eq_none {l : List (Nat × Offer)} : bestOffer l = none ↔ l = [] := by
  cases l with
  | nil => exact iff_of_true rfl rfl
  | cons o os =>
    refine iff_of_false (fun h => ?_) (List.cons_ne_nil _ _)
    unfold bestOffer at h
    split at h <;> exact nomatch h

/-- The best offer has the highest power, a tie to the lower index. -/
theorem bestOffer_spec {l : List (Nat × Offer)} (h : OffersInOrder l) {c : Nat × Offer} (hc : bestOffer l = some c) :
    c ∈ l ∧ ∀ d ∈ l, d.2.power ≤ c.2.power ∧ (d.1 < c.1 → d.2.power < c.2.power) := by
  induction l generalizing c with
  | nil => exact nomatch hc
  | cons a l ih =>
    obtain ⟨hfirst, hrest⟩ := List.pairwise_cons.mp h
    cases hb : bestOffer l with
    | none =>
      obtain rfl : a = c := by simpa [bestOffer, hb] using hc
      rw [bestOffer_eq_none.mp hb]
      refine ⟨List.mem_singleton_self a, fun d hd => ?_⟩
      obtain rfl := List.mem_singleton.mp hd
      exact ⟨Nat.le_refl _, fun hlt => absurd hlt (Nat.lt_irrefl _)⟩
    | some b =>
      obtain ⟨hmem, hall⟩ := ih hrest hb
      by_cases hlt : a.2.power < b.2.power
      · obtain rfl : b = c := by
          have hbetter : betterOffer a b = b := if_pos hlt
          simpa [bestOffer, hb, hbetter] using hc
        refine ⟨List.mem_cons_of_mem _ hmem, fun d hd => ?_⟩
        rcases List.mem_cons.mp hd with rfl | hd
        · exact ⟨Nat.le_of_lt hlt, fun _ => hlt⟩
        · exact hall d hd
      · obtain rfl : a = c := by
          have hbetter : betterOffer a b = a := if_neg hlt
          simpa [bestOffer, hb, hbetter] using hc
        refine ⟨List.mem_cons_self, fun d hd => ?_⟩
        rcases List.mem_cons.mp hd with rfl | hd
        · exact ⟨Nat.le_refl _, fun hlt => absurd hlt (Nat.lt_irrefl _)⟩
        · exact ⟨Nat.le_trans (hall d hd).1 (Nat.not_lt.mp hlt), fun hless =>
            absurd (Nat.lt_trans (hfirst d hd) hless) (Nat.lt_irrefl _)⟩

theorem mem_indexed {k i : Nat} {l : List Offer} {o : Offer} :
    (i, o) ∈ indexed k l ↔ k ≤ i ∧ l[i - k]? = some o := by
  induction l generalizing k with
  | nil => simp [indexed]
  | cons a l ih =>
    rw [indexed, List.mem_cons, ih, Prod.mk.injEq]
    rcases Nat.lt_trichotomy i k with hlt | rfl | hgt
    · constructor
      · rintro (⟨rfl, -⟩ | ⟨hle, -⟩) <;> omega
      · rintro ⟨hle, -⟩
        omega
    · rw [Nat.sub_self, List.getElem?_cons_zero, Option.some.injEq]
      constructor
      · rintro (⟨-, rfl⟩ | ⟨hle, -⟩)
        · exact ⟨Nat.le_refl _, rfl⟩
        · omega
      · rintro ⟨-, rfl⟩
        exact .inl ⟨rfl, rfl⟩
    · obtain ⟨j, rfl⟩ : ∃ j, i = k + 1 + j := ⟨i - (k + 1), by omega⟩
      rw [Nat.add_sub_cancel_left, show k + 1 + j - k = j + 1 by omega, List.getElem?_cons_succ]
      constructor
      · rintro (⟨heq, -⟩ | ⟨-, hget⟩)
        · omega
        · exact ⟨by omega, hget⟩
      · rintro ⟨-, hget⟩
        exact .inr ⟨by omega, hget⟩

theorem indexed_inOrder (k : Nat) (l : List Offer) : OffersInOrder (indexed k l) := by
  induction l generalizing k with
  | nil => exact List.Pairwise.nil
  | cons a l ih =>
    refine List.pairwise_cons.mpr ⟨fun d hd => ?_, ih (k + 1)⟩
    exact (mem_indexed.mp (show (d.1, d.2) ∈ indexed (k + 1) l from hd)).1

/-- The offer at a place of a list is the best of those of a kind: the highest power, of these the lowest index. -/
def bestAt (P : Offer → Bool) (l : List Offer) (i : Nat) (o : Offer) : Prop :=
  l[i]? = some o ∧ P o = true ∧ (∀ p ∈ l, P p = true → p.power ≤ o.power)
    ∧ ∀ j p, j < i → l[j]? = some p → P p = true → p.power < o.power

theorem bestOffer_indexed {P : Offer → Bool} {l : List Offer} {k : Nat} {o : Offer}
    (h : bestOffer ((indexed 1 l).filter fun c => P c.2) = some (k, o)) : ∃ i, k = i + 1 ∧ bestAt P l i o := by
  have horder : OffersInOrder ((indexed 1 l).filter fun c => P c.2) := List.Pairwise.filter _ (indexed_inOrder 1 l)
  obtain ⟨hmem, hall⟩ := bestOffer_spec horder h
  obtain ⟨hin, hP⟩ := List.mem_filter.mp hmem
  obtain ⟨hle, hget⟩ := mem_indexed.mp hin
  have hplace {j : Nat} {p : Offer} (hj : l[j]? = some p) (hp : P p = true) :
      (j + 1, p) ∈ (indexed 1 l).filter fun c => P c.2 :=
    List.mem_filter.mpr ⟨mem_indexed.mpr ⟨by omega, by rw [Nat.add_sub_cancel]; exact hj⟩, hp⟩
  refine ⟨k - 1, by omega, hget, hP, fun p hp hP' => ?_, fun j p hj hjp hP' => ?_⟩
  · obtain ⟨j, hj⟩ := List.mem_iff_getElem?.mp hp
    exact (hall _ (hplace hj hP')).1
  · exact (hall _ (hplace hjp hP')).2 (show j + 1 < k by omega)

theorem bestOffer_indexed_none {P : Offer → Bool} {l : List Offer} :
    bestOffer ((indexed 1 l).filter fun c => P c.2) = none ↔ ∀ o ∈ l, P o = false := by
  rw [bestOffer_eq_none, List.filter_eq_nil_iff]
  constructor
  · intro h o ho
    obtain ⟨j, hj⟩ := List.mem_iff_getElem?.mp ho
    have hin : (j + 1, o) ∈ indexed 1 l := mem_indexed.mpr ⟨by omega, by rw [Nat.add_sub_cancel]; exact hj⟩
    exact Bool.eq_false_iff.mpr (h _ hin)
  · intro h c hc
    have hget := (mem_indexed.mp (show (c.1, c.2) ∈ indexed 1 l from hc)).2
    exact Bool.eq_false_iff.mp (h _ (List.mem_of_getElem? hget))

/-! ## Offer selection (R150, R157) -/

/-- An offer that a selection may choose (R150). -/
def eligible (need : Nat) (o : Offer) : Bool := !o.rejected && decide (need ≤ o.volts)

theorem chooseOffer_none : chooseOffer s = none ↔ ∀ o ∈ s.dock.offers, eligible (neededVolts s) o = false :=
  bestOffer_indexed_none (P := eligible (neededVolts s))

theorem chooseOffer_some {k : Nat} {o : Offer} (h : chooseOffer s = some (k, o)) :
    ∃ i, k = i + 1 ∧ bestAt (eligible (neededVolts s)) s.dock.offers i o :=
  bestOffer_indexed (P := eligible (neededVolts s)) h

/-- The input that a selection asks of an offer (R150). -/
def pickedInput (s : State) (o : Offer) : Nat :=
  inputFor (phaseCurrent s (chosenPhase s) (chargeTarget s) o.volts o.amps) (packVolts s) o.volts o.amps

/-- The dock's record as a selection has chosen an offer, before the state is left. -/
def chosenDock (s : State) (i : Nat) (o : Offer) : Dock := { s.dock with
  iTgt := chargeTarget s, plan := chosenPhase s
  want := phaseCurrent s (chosenPhase s) (chargeTarget s) o.volts o.amps
  dueCharge := some (.chargeReq i (pickedInput s o)) }

theorem selectOffer_of_none (h : chooseOffer s = none) :
    selectOffer s = enterNoOffer { s with dock := { s.dock with iTgt := chargeTarget s } } := by
  have hchoose : chooseOffer { s with dock := { s.dock with iTgt := chargeTarget s } } = none := h
  simp only [selectOffer, hchoose]

theorem selectOffer_of_some {i : Nat} {o : Offer} (h : chooseOffer s = some (i, o)) : selectOffer s
    = trySend (if s.dock.state = .paused then { s with dock := { chosenDock s i o with pause := .offerChange } }
        else setCharge .negotiate { s with dock := chosenDock s i o }) := by
  have hchoose : chooseOffer { s with dock := { s.dock with iTgt := chargeTarget s } } = some (i, o) := h
  simp only [selectOffer, hchoose]
  rfl

theorem selectOffer_besideDock (s : State) : besideDock (selectOffer s) = besideDock s := by
  cases h : chooseOffer s with
  | none =>
    rw [selectOffer_of_none h]
    exact enterNoOffer_besideDock _
  | some c =>
    obtain ⟨i, o⟩ := c
    rw [selectOffer_of_some h, trySend_besideDock]
    split
    · rfl
    · exact setCharge_besideDock _ _

/-- What stands after a selection that chose nothing. -/
theorem selectOffer_noOffer (h : chooseOffer s = none) : (selectOffer s).dock.state = .paused
    ∧ (selectOffer s).dock.pause = .noOffer ∧ (selectOffer s).dock.csw = false
    ∧ (selectOffer s).dock.dueCharge = none := by
  rw [selectOffer_of_none h]
  obtain ⟨hstate, hpause, hcsw, -⟩ := enterNoOffer_facts { s with dock := { s.dock with iTgt := chargeTarget s } }
  refine ⟨hstate, hpause, hcsw, ?_⟩
  rw [enterNoOffer_dock]
  exact Dock.send_dueCharge rfl

/-- What no selection changes of the dock. -/
theorem selectOffer_keeps {α : Type} (f : Dock → α)
    (hq : ∀ (d : Dock) e h c n, f { d with exch := e, dueHalt := h, dueCharge := c, dueEvac := n } = f d)
    (hs : ∀ (d : Dock) st sw i b, f { d with state := st, csw := sw, iChg := i, bleed := b } = f d)
    (hc : ∀ (d : Dock) x p w q, f { d with iTgt := x, plan := p, want := w, pause := q } = f d) (s : State) :
    f (selectOffer s).dock = f s.dock := by
  cases h : chooseOffer s with
  | none =>
    rw [selectOffer_of_none h, enterNoOffer_dock, Dock.send_keeps f hq hs]
    obtain ⟨d, hd⟩ : ∃ d, d = Dock.enter .paused { s.dock with iTgt := chargeTarget s } := ⟨_, rfl⟩
    have henter : f d = f s.dock := by
      rw [hd, Dock.enter_keeps f hs]
      exact hc s.dock _ _ _ _
    change f { (Dock.enter .paused { s.dock with iTgt := chargeTarget s }).open with pause := .noOffer, dueCharge := none }
      = f s.dock
    rw [← hd]
    exact (hq { d.open with pause := .noOffer } d.exch d.dueHalt none d.dueEvac).trans
      ((hc d.open d.iTgt d.plan d.want _).trans ((hs d d.state false 0 d.bleed).trans henter))
  | some c =>
    obtain ⟨i, o⟩ := c
    have hchosen : f (chosenDock s i o) = f s.dock :=
      (hq { s.dock with iTgt := chargeTarget s, plan := chosenPhase s
                        want := phaseCurrent s (chosenPhase s) (chargeTarget s) o.volts o.amps }
        s.dock.exch s.dock.dueHalt _ s.dock.dueEvac).trans (hc s.dock _ _ _ s.dock.pause)
    rw [selectOffer_of_some h, trySend_dock, Dock.send_keeps f hq hs]
    split
    · exact (hc (chosenDock s i o) (chosenDock s i o).iTgt (chosenDock s i o).plan (chosenDock s i o).want _).trans hchosen
    · rw [setCharge_dock, Dock.enter_keeps f hs]
      exact hchosen

/-- What the choice of an offer leaves, but for the sending of its request. -/
theorem selectOffer_formed {i : Nat} {o : Offer} (h : chooseOffer s = some (i, o)) {α : Type} (f : Dock → α)
    (hq : ∀ (d : Dock) e h c n, f { d with exch := e, dueHalt := h, dueCharge := c, dueEvac := n } = f d)
    (hs : ∀ (d : Dock) st sw i b, f { d with state := st, csw := sw, iChg := i, bleed := b } = f d)
    (hc : ∀ (d : Dock) q, f { d with pause := q } = f d) : f (selectOffer s).dock = f (chosenDock s i o) := by
  rw [selectOffer_of_some h, trySend_dock, Dock.send_keeps f hq hs]
  split
  · exact hc _ _
  · rw [setCharge_dock, Dock.enter_keeps f hs]

/-- The request of the chosen offer is sent when the record is free and no HALT is due (R148). -/
theorem selectOffer_sends {i : Nat} {o : Offer} (h : chooseOffer s = some (i, o)) (hfree : s.dock.exch = none)
    (hhalt : s.dock.dueHalt = false) : (selectOffer s).dock.state = .negotiate
      ∧ (selectOffer s).dock.exch = some (freshExchange (.chargeReq i (pickedInput s o)))
      ∧ (selectOffer s).dock.dueCharge = none := by
  rw [selectOffer_of_some h, trySend_dock]
  by_cases hp : s.dock.state = .paused
  · rw [if_pos hp, Dock.send_of_changed (by exact hfree) (by exact hhalt) (by exact rfl) (by exact hp) (by exact rfl)]
    refine ⟨Dock.enter_state _ _, ?_, ?_⟩
    · rw [Dock.enter_keeps Dock.exch fun _ _ _ _ _ => rfl]
    · rw [Dock.enter_keeps Dock.dueCharge fun _ _ _ _ _ => rfl]
  · rw [if_neg hp, setCharge_dock]
    obtain ⟨d, hd⟩ : ∃ d, d = Dock.enter .negotiate (chosenDock s i o) := ⟨_, rfl⟩
    have hexch : d.exch = none := by rw [hd, Dock.enter_keeps Dock.exch fun _ _ _ _ _ => rfl]; exact hfree
    have hdue : d.dueHalt = false := by rw [hd, Dock.enter_keeps Dock.dueHalt fun _ _ _ _ _ => rfl]; exact hhalt
    have hreq : d.dueCharge = some (.chargeReq i (pickedInput s o)) := by
      rw [hd, Dock.enter_keeps Dock.dueCharge fun _ _ _ _ _ => rfl]
      rfl
    have hstate : d.state = .negotiate := hd ▸ Dock.enter_state _ _
    rw [← hd, Dock.send_of_charge hexch hdue hreq (by rw [hstate]; exact fun h => nomatch h.1)]
    exact ⟨hstate, rfl, rfl⟩

/-- The state in which a chosen offer waits for its request to be sent (R157). -/
def waitsIn (c : ChargeState) : ChargeState := if c = .paused then .paused else .negotiate

theorem selectOffer_waits_dock {i : Nat} {o : Offer} (h : chooseOffer s = some (i, o)) :
    ∃ d : Dock, (selectOffer s).dock = d.send ∧ d.state = waitsIn s.dock.state
      ∧ (s.dock.state = .paused → d.pause = .offerChange) ∧ d.exch = s.dock.exch ∧ d.dueHalt = s.dock.dueHalt
      ∧ d.dueCharge = some (.chargeReq i (pickedInput s o)) := by
  rw [selectOffer_of_some h, trySend_dock]
  refine ⟨_, rfl, ?_⟩
  unfold waitsIn
  by_cases hp : s.dock.state = .paused
  · rw [if_pos hp, if_pos hp]
    exact ⟨hp, fun _ => rfl, rfl, rfl, rfl⟩
  · rw [if_neg hp, if_neg hp, setCharge_dock]
    refine ⟨Dock.enter_state _ _, fun hp' => absurd hp' hp, ?_, ?_, ?_⟩
    · rw [Dock.enter_keeps Dock.exch fun _ _ _ _ _ => rfl]
      rfl
    · rw [Dock.enter_keeps Dock.dueHalt fun _ _ _ _ _ => rfl]
      rfl
    · rw [Dock.enter_keeps Dock.dueCharge fun _ _ _ _ _ => rfl]
      rfl

/-- The request of the chosen offer waits behind an exchange that runs or behind a due HALT. -/
theorem selectOffer_waits {i : Nat} {o : Offer} (h : chooseOffer s = some (i, o))
    (hbusy : s.dock.exch.isSome = true ∨ s.dock.dueHalt = true) :
    (selectOffer s).dock.state = waitsIn s.dock.state
      ∧ (s.dock.state = .paused → (selectOffer s).dock.pause = .offerChange)
      ∧ (selectOffer s).dock.dueCharge = some (.chargeReq i (pickedInput s o))
      ∧ (selectOffer s).dock.exch.isSome = true := by
  obtain ⟨d, hd, hstate, hpause, hexch, hhalt, hdue⟩ := selectOffer_waits_dock h
  rw [hd]
  by_cases hrun : d.exch.isSome = true
  · rw [Dock.send_of_busy hrun]
    exact ⟨hstate, hpause, hdue, hrun⟩
  · have hset : d.dueHalt = true := by
      rw [hhalt]
      exact hbusy.resolve_left (by rw [← hexch]; exact hrun)
    rw [Dock.send_of_halt (by simpa using hrun) hset]
    exact ⟨hstate, hpause, hdue, rfl⟩

/-- A second attempt to send finds the record taken. -/
theorem selectOffer_trySend {i : Nat} {o : Offer} (h : chooseOffer s = some (i, o)) :
    trySend (selectOffer s) = selectOffer s := by
  refine trySend_of_busy ?_
  by_cases hbusy : s.dock.exch.isSome = true ∨ s.dock.dueHalt = true
  · obtain ⟨-, -, -, hexch⟩ := selectOffer_waits h hbusy
    exact hexch
  · simp only [not_or, Bool.not_eq_true] at hbusy
    have hfree : s.dock.exch = none := by simpa using hbusy.1
    rw [(selectOffer_sends h hfree hbusy.2).2.1]
    rfl

/-! ## The currents of a selection (R150) -/

theorem inputFor_le (i v volts amps : Nat) : inputFor i v volts amps ≤ amps := by
  unfold inputFor floorTo
  dsimp only
  split
  · exact Nat.div_mul_le_self amps 25
  · omega

theorem inputFor_step (i v volts amps : Nat) : inputFor i v volts amps % 25 = 0 := by
  unfold inputFor floorTo
  dsimp only
  split <;> exact Nat.mul_mod_left _ 25

/-- I_tgt by its formula (R150, R153). -/
theorem chargeTarget_eq (s : State) : chargeTarget s
    = let most := if s.host.ready then s.dock.iMax else min s.dock.iMax 1000
      let limit := match packTmax s with
        | none => 0
        | some x => if x < 0 ∨ 45 < x then 0 else if x ≤ 9 then most / 2 else most
      min most limit / 25 * 25 := by
  have htarget : chargeTarget s = min (iMaxInUse s) (tempLimit s) / 25 * 25 := rfl
  rw [htarget, tempLimit_eq]
  cases packTmax s <;> rfl

theorem chosenPhase_eq (s : State) : chosenPhase s = match s.dock.resume with
    | some r => r
    | none => if packVmin s < 3000 then .precharge else .bulk := by
  unfold chosenPhase
  cases s.dock.resume <;> rfl

theorem selectedCurrent_eq (s : State) (o : Offer) (h : 0 < packVolts s) :
    selectedCurrent s o = phaseCurrent s (chosenPhase s) (chargeTarget s) o.volts o.amps := by
  unfold selectedCurrent phaseCurrent offerCapacity
  rw [overPack_pos _ h, chargeTarget_eq]
  unfold chosenPhase
  cases s.dock.resume with
  | some ph => cases ph <;> rfl
  | none =>
    dsimp only [Option.getD_none]
    by_cases hlow : packVmin s < 3000
    · rw [if_pos hlow, if_pos hlow]
      rfl
    · rw [if_neg hlow, if_neg hlow]
      rfl

theorem selectedInput_eq {s : State} {o : Offer} (h : 0 < packVolts s) (ho : 0 < o.volts) :
    selectedInput s o = pickedInput s o := by
  unfold selectedInput pickedInput
  rw [inputFor_eq _ _ _ ho, selectedCurrent_eq s o h]

end Sys2Proof.Machine
end

section
namespace Sys2Proof.Machine

variable {s t u : State}

/-! ## IDENT (R149, R166) -/

theorem awaiting_of_sent {e : Exchange} (he : s.dock.exch = some e) (hsend : e.send = .sent) : awaiting s = some e := by
  simp [awaiting, he, hsend]

/-- The state with an IDENT recorded, its exchange waiting for OFFERS (R149). -/
def identified (i : DockIdentity) (e : Exchange) (s : State) : State := { s with dock := { s.dock with
  identity := some i, identTaken := true
  exch := some { e with phase := .offers, deadline := some 200, waiting := false } } }

theorem autoDecision_dock (s : State) : (autoDecision s).dock
    = if autoConditions s then ({ s.dock with dueEvac := some s.evac.setting } : Dock).send else s.dock := by
  unfold autoDecision startEvac
  split
  · exact trySend_dock _
  · rfl

theorem autoDecision_signals (s : State) : (autoDecision s).signals = s.signals := by
  unfold autoDecision startEvac
  split
  · exact (signals_of_besideDock (trySend_besideDock _)).trans rfl
  · rfl

theorem takeIdent_eq {e : Exchange} {kind support count : Byte} (he : s.dock.exch = some e) (hreq : e.req = .hello)
    (hsend : e.send = .sent) (hphase : e.phase = .first) (hkind : kind.toNat ≤ 1) (hlow : 1 ≤ count.toNat)
    (hhigh : count.toNat ≤ 5) :
    takeIdent kind support count s = autoDecision (identified (identityOf kind support count) e s) := by
  have hcount : (identityOf kind support count).count ≠ 0 := by
    change count.toNat ≠ 0
    omega
  have htaken : takeIdent kind support count s = identTakenNow (identityOf kind support count) e s := by
    simp only [takeIdent, awaiting_of_sent he hsend]
    exact if_pos ⟨hreq, hphase, hkind, hhigh⟩
  rw [htaken]
  exact if_neg hcount

/-- The automatic start at an IDENT, by the conditions of R166. -/
theorem autoConditions_identified (i : DockIdentity) (e : Exchange) (s : State) :
    autoConditions (identified i e s) = true ↔ 0 < s.evac.pct ∧ i.support = true
      ∧ s.evac.pct ≤ s.dirt.bin * 100 / s.dirt.capacity
      ∧ s.dock.state ≠ .detached ∧ s.dock.state ≠ .attachWait ∧ s.dock.state ≠ .fault
      ∧ evacInProgress s = false ∧ s.evac.auto = false := by
  rw [autoConditions_iff]
  have hidentity : (∃ j, (identified i e s).dock.identity = some j ∧ j.support = true) ↔ i.support = true := by
    simp [identified]
  rw [hidentity]
  exact Iff.rfl

theorem exec_ident {e : Exchange} {kind support count : Byte} (hs : s.powered) (hsig : s.signals = [])
    (he : s.dock.exch = some e) (hreq : e.req = .hello) (hsend : e.send = .sent) (hphase : e.phase = .first)
    (hkind : kind.toNat ≤ 1) (hlow : 1 ≤ count.toNat) (hhigh : count.toNat ≤ 5) :
    ∃ t, exec (.dockIdent kind support count) s = .next t
      ∧ t.dock.identity = some ⟨if kind = 0 then .basic else .evac, decide (support ≠ 0), count.toNat⟩
      ∧ t.dock.identTaken = true ∧ t.dock.state = s.dock.state
      ∧ t.dock.exch = some { e with phase := .offers, deadline := some 200, waiting := false }
      ∧ (if 0 < s.evac.pct ∧ support ≠ 0 ∧ s.evac.pct ≤ s.dirt.bin * 100 / s.dirt.capacity
            ∧ s.dock.state ≠ .detached ∧ s.dock.state ≠ .attachWait ∧ s.dock.state ≠ .fault
            ∧ evacInProgress s = false ∧ s.evac.auto = false
          then t.evac.state = .requested ∧ t.evac.trigger = .auto ∧ t.evac.duration = s.evac.setting
            ∧ t.evac.auto = true ∧ t.dock.dueEvac = some s.evac.setting
          else t.evac = s.evac ∧ t.dock.dueEvac = s.dock.dueEvac) := by
  obtain ⟨v, hv⟩ : ∃ v, v = identified (identityOf kind support count) e s := ⟨_, rfl⟩
  have hexec := event_of_powered (takeIdent kind support count) s hs
  rw [takeIdent_eq he hreq hsend hphase hkind hlow hhigh, ← hv] at hexec
  have hquiet : (autoDecision v).signals = [] := by
    rw [autoDecision_signals, hv]
    exact hsig
  have hsupport : (identityOf kind support count).support = true ↔ support ≠ 0 := by
    change toFlag support = true ↔ _
    rw [toFlag_eq, decide_eq_true_iff]
  have hstart := autoConditions_identified (identityOf kind support count) e s
  rw [hsupport, ← hv] at hstart
  have hbusy (d : Option Nat) : ({ v.dock with dueEvac := d } : Dock).send = { v.dock with dueEvac := d } :=
    Dock.send_of_busy (by rw [hv]; rfl)
  have hidentity : v.dock.identity
      = some ⟨if kind = 0 then .basic else .evac, decide (support ≠ 0), count.toNat⟩ := by
    rw [hv, ← toFlag_eq]
    rfl
  have hdock := autoDecision_dock v
  refine ⟨_, hexec, ?_⟩
  rw [conclude_dock hquiet, conclude_evac, autoDecision_evac, hdock]
  by_cases hc : autoConditions v = true
  · rw [if_pos (hstart.mp hc), if_pos hc, if_pos hc, hbusy]
    refine ⟨hidentity, ?_, ?_, ?_, ?_⟩ <;> rw [hv]
    · rfl
    · rfl
    · rfl
    · exact ⟨rfl, rfl, rfl, rfl, rfl⟩
  · rw [if_neg (mt hstart.mpr hc), if_neg hc, if_neg hc]
    refine ⟨hidentity, ?_, ?_, ?_, ?_⟩ <;> rw [hv]
    · rfl
    · rfl
    · rfl
    · exact ⟨rfl, rfl⟩

/-! ## OFFERS (R149, R150) -/

/-- The best eligible offer of a list as it was received. -/
theorem picks_of_bestAt {need i : Nat} {l : List OfferFields} {o : Offer} (h : bestAt (eligible need) (offersOf l) i o) :
    ∃ f, picks need l i f ∧ o = ⟨f.volts.toNat, f.amps.toNat, false⟩ := by
  obtain ⟨hget, hP, hbest, hfirst⟩ := h
  have hplace {j : Nat} {p : OfferFields} (hj : l[j]? = some p) :
      (offersOf l)[j]? = some ⟨p.volts.toNat, p.amps.toNat, false⟩ := by
    rw [offersOf, List.getElem?_map, hj, Option.map_some]
  have heligible {p : OfferFields} (hp : need ≤ p.volts.toNat) :
      eligible need ⟨p.volts.toNat, p.amps.toNat, false⟩ = true := by
    simp [eligible, hp]
  rw [offersOf, List.getElem?_map, Option.map_eq_some_iff] at hget
  obtain ⟨f, hf, rfl⟩ := hget
  have hneed : need ≤ f.volts.toNat := by simpa [eligible] using hP
  refine ⟨f, ⟨hf, hneed, fun p hp hp' => ?_, fun j p hj hjp hp' => hfirst j _ hj (hplace hjp) (heligible hp')⟩, rfl⟩
  obtain ⟨j, hj⟩ := List.mem_iff_getElem?.mp hp
  exact hbest _ (List.mem_of_getElem? (hplace hj)) (heligible hp')

theorem chooseOffer_of_none {l : List OfferFields} (hl : s.dock.offers = offersOf l)
    (h : ∀ o ∈ l, o.volts.toNat < neededVolts s) : chooseOffer s = none := by
  rw [chooseOffer_none, hl]
  intro o ho
  obtain ⟨f, hf, rfl⟩ := List.mem_map.mp ho
  simp [eligible, h f hf]

theorem chooseOffer_of_some {l : List OfferFields} (hl : s.dock.offers = offersOf l)
    (h : ∃ o ∈ l, neededVolts s ≤ o.volts.toNat) : ∃ i f, chooseOffer s
      = some (i + 1, ⟨f.volts.toNat, f.amps.toNat, false⟩) ∧ picks (neededVolts s) l i f := by
  cases hc : chooseOffer s with
  | none =>
    obtain ⟨f, hf, hneed⟩ := h
    rw [chooseOffer_none, hl] at hc
    have := hc _ (List.mem_map.mpr ⟨f, hf, rfl⟩)
    simp [eligible, hneed] at this
  | some c =>
    obtain ⟨k, o⟩ := c
    obtain ⟨i, rfl, hbest⟩ := chooseOffer_some hc
    rw [hl] at hbest
    obtain ⟨f, hpicks, rfl⟩ := picks_of_bestAt hbest
    exact ⟨i, f, rfl, hpicks⟩

/-- The state at the end of a HELLO, before a selection (R149). -/
def offered (l : List OfferFields) (s : State) : State :=
  { s with dock := { s.dock with offers := offersOf l, exch := none } }

theorem takeOffers_identify {e : Exchange} {l : List OfferFields} (he : s.dock.exch = some e) (hreq : e.req = .hello)
    (hsend : e.send = .sent) (hphase : e.phase = .offers) (hstate : s.dock.state = .identify) (hlow : 1 ≤ l.length)
    (hhigh : l.length ≤ 5) : takeOffers l s = trySend (selectOffer (offered l s)) := by
  have htaken : takeOffers l s = helloDone l s := by
    simp only [takeOffers, awaiting_of_sent he hsend]
    exact if_pos ⟨hreq, hphase, hlow, hhigh⟩
  rw [htaken]
  exact congrArg trySend (if_pos hstate)

theorem exec_offers {e : Exchange} {l : List OfferFields} (hs : s.powered) (hsig : s.signals = [])
    (he : s.dock.exch = some e) (hreq : e.req = .hello) (hsend : e.send = .sent) (hphase : e.phase = .offers)
    (hstate : s.dock.state = .identify) (hlow : 1 ≤ l.length) (hhigh : l.length ≤ 5) :
    ∃ t, exec (.dockOffers l) s = .next t
      ∧ t.dock.offers = l.map (fun o => ⟨o.volts.toNat, o.amps.toNat, false⟩)
      ∧ ((∀ o ∈ l, o.volts.toNat < s.pack.count * 4200 + 1000) → t.dock.state = .paused ∧ t.dock.pause = .noOffer)
      ∧ ((∃ o ∈ l, s.pack.count * 4200 + 1000 ≤ o.volts.toNat) → t.dock.state = .negotiate
          ∧ ∃ i o input, l[i]? = some o ∧ s.pack.count * 4200 + 1000 ≤ o.volts.toNat
            ∧ (∀ p ∈ l, s.pack.count * 4200 + 1000 ≤ p.volts.toNat →
                p.volts.toNat * p.amps.toNat ≤ o.volts.toNat * o.amps.toNat)
            ∧ (∀ j p, j < i → l[j]? = some p → s.pack.count * 4200 + 1000 ≤ p.volts.toNat →
                p.volts.toNat * p.amps.toNat < o.volts.toNat * o.amps.toNat)
            ∧ input ≤ o.amps.toNat
            ∧ (0 < packVolts s → input = selectedInput s ⟨o.volts.toNat, o.amps.toNat, false⟩)
            ∧ (s.dock.dueHalt = false → t.dock.exch = some (freshExchange (.chargeReq (i + 1) input)))
            ∧ (s.dock.dueHalt = true → t.dock.dueCharge = some (.chargeReq (i + 1) input))) := by
  obtain ⟨v, hv⟩ : ∃ v, v = offered l s := ⟨_, rfl⟩
  have hexec := event_of_powered (takeOffers l) s hs
  rw [takeOffers_identify he hreq hsend hphase hstate hlow hhigh, ← hv] at hexec
  have hneed : neededVolts v = s.pack.count * 4200 + 1000 := hv ▸ rfl
  have hlist : v.dock.offers = offersOf l := hv ▸ rfl
  have hidentify : v.dock.state = .identify := hv ▸ hstate
  have hdock : (conclude (trySend (selectOffer v))).dock = (selectOffer v).dock.send := by
    have hquiet : (trySend (selectOffer v)).signals = [] := by
      rw [signals_of_besideDock (trySend_besideDock _), signals_of_besideDock (selectOffer_besideDock v), hv]
      exact hsig
    rw [conclude_dock hquiet, trySend_dock]
  refine ⟨_, hexec, ?_, fun hno => ?_, fun hyes => ?_⟩
  · rw [hdock, Dock.send_keeps Dock.offers (fun _ _ _ _ _ => rfl) (fun _ _ _ _ _ => rfl),
      selectOffer_keeps Dock.offers (fun _ _ _ _ _ => rfl) (fun _ _ _ _ _ => rfl) (fun _ _ _ _ _ => rfl), hlist]
    rfl
  · obtain ⟨hpaused, hpause, -, -⟩ := selectOffer_noOffer (chooseOffer_of_none hlist (hneed.symm ▸ hno))
    have hno' : ¬((selectOffer v).dock.state = .paused ∧ (selectOffer v).dock.pause = .offerChange) := by
      rw [hpause]
      exact fun h => nomatch h.2
    rw [hdock, Dock.send_stays Dock.state (fun _ _ _ _ _ => rfl) hno',
      Dock.send_stays Dock.pause (fun _ _ _ _ _ => rfl) hno']
    exact ⟨hpaused, hpause⟩
  · obtain ⟨i, f, hchosen, hget, hvolts, hbest, hfirst⟩ := chooseOffer_of_some hlist (hneed.symm ▸ hyes)
    rw [hneed] at hvolts hbest hfirst
    have hsent : (selectOffer v).dock.send = (selectOffer v).dock := by
      rw [← trySend_dock, selectOffer_trySend hchosen]
    rw [hdock, hsent]
    have hinput : pickedInput v ⟨f.volts.toNat, f.amps.toNat, false⟩
        = pickedInput s ⟨f.volts.toNat, f.amps.toNat, false⟩ := hv ▸ rfl
    have hfree : v.dock.exch = none := hv ▸ rfl
    have hhalt : v.dock.dueHalt = s.dock.dueHalt := hv ▸ rfl
    have houtcome : (selectOffer v).dock.state = .negotiate
        ∧ (s.dock.dueHalt = false → (selectOffer v).dock.exch
            = some (freshExchange (.chargeReq (i + 1) (pickedInput v ⟨f.volts.toNat, f.amps.toNat, false⟩))))
        ∧ (s.dock.dueHalt = true → (selectOffer v).dock.dueCharge
            = some (.chargeReq (i + 1) (pickedInput v ⟨f.volts.toNat, f.amps.toNat, false⟩))) := by
      cases hset : s.dock.dueHalt with
      | false =>
        obtain ⟨hneg, hexch, -⟩ := selectOffer_sends hchosen hfree (hhalt.trans hset)
        exact ⟨hneg, fun _ => hexch, nofun⟩
      | true =>
        obtain ⟨hwait, -, hdue, -⟩ := selectOffer_waits hchosen (.inr (hhalt.trans hset))
        rw [hidentify] at hwait
        exact ⟨hwait, nofun, fun _ => hdue⟩
    obtain ⟨hneg, hsends, hwaits⟩ := houtcome
    refine ⟨hneg, i, f, _, hget, hvolts, hbest, hfirst, inputFor_le _ _ _ _, fun hpos => ?_, hsends, hwaits⟩
    exact hinput.trans (selectedInput_eq hpos (show 0 < f.volts.toNat by omega)).symm

/-! ## What a selection forms (R150) -/

/-- The currents of a choice. -/
theorem selectOffer_formula {i : Nat} {o : Offer} (h : chooseOffer s = some (i, o)) (hvolts : 0 < packVolts s) :
    let t := selectOffer s
    let most := if s.host.ready then s.dock.iMax else min s.dock.iMax 1000
    let limit := match packTmax s with
      | none => 0
      | some x => if x < 0 ∨ 45 < x then 0 else if x ≤ 9 then most / 2 else most
    let ph := match s.dock.resume with
      | some r => r
      | none => if packVmin s < 3000 then .precharge else .bulk
    let v := packVolts s
    let want := min (o.volts * o.amps * 9 / (10 * v)) (match ph with
      | .bulk => min most limit / 25 * 25
      | .precharge => min 300 (min most limit / 25 * 25)
      | .taper => min (s.dock.taper.getD (min most limit / 25 * 25)) (min most limit / 25 * 25)) / 25 * 25
    let up := (want * v * 10 + (9 * o.volts * 25 - 1)) / (9 * o.volts * 25) * 25
    let input := if o.amps < up then o.amps / 25 * 25 else up
    t.dock.iTgt = min most limit / 25 * 25 ∧ t.dock.plan = ph ∧ t.dock.want = want
      ∧ selectedCurrent s o = want ∧ selectedInput s o = input ∧ input ≤ o.amps ∧ input % 25 = 0
      ∧ pickedInput s o = input := by
  intro t most limit ph v want up input
  have hpos : 0 < o.volts := by
    obtain ⟨j, -, -, hP, -, -⟩ := chooseOffer_some h
    have hneed : neededVolts s ≤ o.volts := by
      simp only [eligible, Bool.and_eq_true, decide_eq_true_eq] at hP
      exact hP.2
    unfold neededVolts at hneed
    omega
  have htarget : chargeTarget s = min most limit / 25 * 25 := chargeTarget_eq s
  have hphase : chosenPhase s = ph := chosenPhase_eq s
  have hwant : phaseCurrent s (chosenPhase s) (chargeTarget s) o.volts o.amps = want := by
    unfold phaseCurrent offerCapacity phaseTarget
    rw [overPack_pos _ hvolts, htarget, hphase]
    rfl
  have hinput : pickedInput s o = input := by
    unfold pickedInput
    rw [hwant, inputFor_eq _ _ _ hpos]
  refine ⟨?_, ?_, ?_, ?_, ?_, ?_, ?_, hinput⟩
  · rw [← htarget]
    exact selectOffer_formed h Dock.iTgt (fun _ _ _ _ _ => rfl) (fun _ _ _ _ _ => rfl) fun _ _ => rfl
  · rw [← hphase]
    exact selectOffer_formed h Dock.plan (fun _ _ _ _ _ => rfl) (fun _ _ _ _ _ => rfl) fun _ _ => rfl
  · rw [← hwant]
    exact selectOffer_formed h Dock.want (fun _ _ _ _ _ => rfl) (fun _ _ _ _ _ => rfl) fun _ _ => rfl
  · rw [selectedCurrent_eq s o hvolts, hwant]
  · rw [selectedInput_eq hvolts hpos, hinput]
  · rw [← hinput]
    exact inputFor_le _ _ _ _
  · rw [← hinput]
    exact inputFor_step _ _ _ _

/-- Settles O34: IDENT with the automatic decision, OFFERS through the selection, and the currents of a choice by their
formulas. -/
theorem aHelloLeadsToTheBestOffer : Obligations.AHelloLeadsToTheBestOffer := by
  refine ⟨⟨fun kind support count e s hs hsig he hreq hsend hphase hkind hlow hhigh =>
    exec_ident hs hsig he hreq hsend hphase hkind hlow hhigh, fun l e s hs hsig he hreq hsend hphase hstate hlow hhigh =>
    exec_offers hs hsig he hreq hsend hphase hstate hlow hhigh⟩, fun s i o h hvolts => ?_⟩
  obtain ⟨htgt, hplan, hwant, hcurrent, hselected, hle, hstep, hinput⟩ := selectOffer_formula h hvolts
  refine ⟨htgt, hplan, hwant, hcurrent, hselected, hle, hstep, fun hbusy hne => ?_, fun hbusy hp => ?_⟩
  · obtain ⟨hwait, -, hdue, -⟩ := selectOffer_waits h (.inl hbusy)
    rw [hinput] at hdue
    exact ⟨hdue, hwait.trans (if_neg hne)⟩
  · obtain ⟨hwait, hpause, hdue, -⟩ := selectOffer_waits h (.inl hbusy)
    rw [hinput] at hdue
    exact ⟨hdue, hwait.trans (if_pos hp), hpause hp⟩

end Sys2Proof.Machine
end

section
namespace Sys2Proof.Machine

variable {s t u : State}

/-! ## A new offer list (R146, R157) -/

theorem Dock.enter_open {c : ChargeState} {d : Dock} (h : d.csw = false) : (d.enter c).csw = false := by
  unfold Dock.enter
  split
  · exact h
  · simp [h]

theorem Dock.send_open {d : Dock} (h : d.csw = false) : d.send.csw = false := by
  unfold Dock.send
  split
  · exact h
  · split
    · exact h
    · split
      · dsimp only
        split
        · exact Dock.enter_open h
        · exact h
      · exact h
      · exact h

/-- A selection leaves an open CSW open. -/
theorem selectOffer_open (h : s.dock.csw = false) : (selectOffer s).dock.csw = false := by
  cases hc : chooseOffer s with
  | none =>
    obtain ⟨-, -, hcsw, -⟩ := selectOffer_noOffer hc
    exact hcsw
  | some c =>
    rw [selectOffer_of_some hc, trySend_dock]
    refine Dock.send_open ?_
    split
    · exact h
    · rw [setCharge_dock]
      exact Dock.enter_open h

/-- The state with a list taken and the CHARGE_REQ of the old list superseded (R148, R157). -/
def relisted (l : List OfferFields) (s : State) : State :=
  supersede { s with dock := { s.dock with offers := offersOf l } }

theorem relisted_besideDock (l : List OfferFields) (s : State) : besideDock (relisted l s) = besideDock s := rfl

/-- The exchange that runs is none, or a CHARGE_REQ that a new list supersedes. -/
def exchangeFrees (s : State) : Prop :=
  s.dock.exch = none ∨ ∃ e i input, s.dock.exch = some e ∧ e.req = .chargeReq i input

theorem relisted_exch_of_frees (l : List OfferFields) (h : exchangeFrees s) : (relisted l s).dock.exch = none := by
  rcases h with h | ⟨e, i, input, h, hreq⟩ <;> simp [relisted, supersede, h]
  rw [hreq]

theorem relisted_exch_of_kept (l : List OfferFields) (h : ¬exchangeFrees s) :
    (relisted l s).dock.exch = s.dock.exch ∧ (relisted l s).dock.exch.isSome = true := by
  cases he : s.dock.exch with
  | none => exact absurd (.inl he) h
  | some e =>
    cases hreq : e.req with
    | chargeReq i input => exact absurd (.inr ⟨e, i, input, he, hreq⟩) h
    | hello => simp [relisted, supersede, he, hreq]
    | evacReq d => simp [relisted, supersede, he, hreq]
    | halt => simp [relisted, supersede, he, hreq]

theorem relisted_of_idle (l : List OfferFields) (h : s.dock.exch = none) (hdue : s.dock.dueCharge = none) :
    relisted l s = { s with dock := { s.dock with offers := offersOf l } } := by
  simp [relisted, supersede, h, hdue]

theorem takeNewOffers_eq {l : List OfferFields} (hl : l.length ≤ 5) (h : s.dock.state ≠ .detached)
    (h' : s.dock.state ≠ .attachWait) : takeNewOffers l s = newOffers l s :=
  if_pos ⟨(takesNotices_iff s).mpr ⟨h, h'⟩, hl⟩

/-- The state as a charging phase is left for want of a covering offer (R157). -/
def uncovered (ph : ChargePhase) (l : List OfferFields) (s : State) : State :=
  { openSwitch (setCharge .paused (relisted l s)) with dock := { (openSwitch (setCharge .paused (relisted l s))).dock with
      pause := .offerChange, agreement := none, resume := some ph } }

theorem newOffers_of_phase {l : List OfferFields} {ph : ChargePhase} {a : Agreement}
    (hph : s.dock.state.phase = some ph) (ha : s.dock.agreement = some a) : newOffers l s
    = match coveringOffer a (offersOf l) with
      | some (i, o) => trySend { relisted l s with dock := { (relisted l s).dock with
          agreement := some { a with index := i, amps := o.amps } } }
      | none => selectOffer (uncovered ph l s) := by
  have hph' : (relisted l s).dock.state.phase = some ph := hph
  have ha' : (relisted l s).dock.agreement = some a := ha
  have hlist : (relisted l s).dock.offers = offersOf l := rfl
  rcases hc : coveringOffer a (offersOf l) with _ | ⟨i, o⟩
  · simp only [newOffers, ← relisted.eq_def, hph', ha', hlist, hc] <;> rfl
  · simp only [newOffers, ← relisted.eq_def, hph', ha', hlist, hc] <;> rfl

theorem newOffers_of_noPhase {l : List OfferFields} (h : s.dock.state.phase = none) : newOffers l s
    = if s.dock.state = .negotiate
          ∨ (s.dock.state = .paused ∧ (s.dock.pause = .noOffer ∨ s.dock.pause = .offerChange)) then
        selectOffer (relisted l s)
      else trySend (dockTalks (relisted l s)) := by
  have h' : (relisted l s).dock.state.phase = none := h
  simp only [newOffers, ← relisted.eq_def, h'] <;> rfl

theorem relisted_signals (l : List OfferFields) (s : State) : (relisted l s).signals = s.signals := rfl

theorem newOffers_besideDock (l : List OfferFields) (s : State) : besideDock (newOffers l s) = besideDock s := by
  unfold newOffers
  dsimp only
  split
  · split
    · exact (trySend_besideDock _).trans rfl
    · exact (selectOffer_besideDock _).trans (setCharge_besideDock .paused (relisted l s))
  · split
    · exact selectOffer_besideDock (relisted l s)
    · exact (trySend_besideDock _).trans (dockTalks_besideDock (relisted l s))

/-- An OFFERS_CHANGED taken in a state without hand-overs. -/
theorem exec_offersChanged {l : List OfferFields} (hs : s.powered) (hl : l.length ≤ 5) (hsig : s.signals = [])
    (h : s.dock.state ≠ .detached) (h' : s.dock.state ≠ .attachWait) :
    ∃ t, exec (.offersChanged l) s = .next t ∧ t.dock = (newOffers l s).dock := by
  have hexec := event_of_powered (takeNewOffers l) s hs
  rw [takeNewOffers_eq hl h h'] at hexec
  exact ⟨_, hexec, conclude_dock ((signals_of_besideDock (newOffers_besideDock l s)).trans hsig)⟩

theorem newOffers_offers (l : List OfferFields) (s : State) : (newOffers l s).dock.offers = offersOf l := by
  have hsent (u : State) : (trySend u).dock.offers = u.dock.offers := by
    rw [trySend_dock]
    exact Dock.send_keeps Dock.offers (fun _ _ _ _ _ => rfl) (fun _ _ _ _ _ => rfl) _
  have hselected (u : State) : (selectOffer u).dock.offers = u.dock.offers :=
    selectOffer_keeps Dock.offers (fun _ _ _ _ _ => rfl) (fun _ _ _ _ _ => rfl) (fun _ _ _ _ _ => rfl) u
  have htalks (u : State) : (dockTalks u).dock.offers = u.dock.offers := by
    unfold dockTalks
    split
    · exact (congrArg Dock.offers (enterIdentify_besideCheck (openSwitch u)) :)
    · rfl
  cases hph : s.dock.state.phase with
  | none =>
    rw [newOffers_of_noPhase hph]
    split
    · exact hselected _
    · exact (hsent _).trans (htalks _)
  | some ph =>
    cases ha : s.dock.agreement with
    | none =>
      have hph' : (relisted l s).dock.state.phase = some ph := hph
      have ha' : (relisted l s).dock.agreement = none := ha
      simp only [newOffers, ← relisted.eq_def, hph', ha']
      split
      · exact hselected _
      · exact (hsent _).trans (htalks _)
    | some a =>
      rw [newOffers_of_phase hph ha]
      split
      · exact hsent _
      · rw [hselected]
        change (setCharge .paused (relisted l s)).dock.offers = _
        rw [setCharge_dock, Dock.enter_keeps Dock.offers fun _ _ _ _ _ => rfl]
        rfl

/-! ## In a charging phase -/

/-- An offer that covers an agreement (R157). -/
def covers (a : Agreement) (o : Offer) : Bool := o.volts == a.volts && decide (a.input ≤ o.amps)

theorem covers_iff (a : Agreement) (o : Offer) : covers a o = true ↔ o.volts = a.volts ∧ a.input ≤ o.amps := by
  simp [covers]

theorem coveringOffer_some {a : Agreement} {l : List OfferFields} (h : ∃ o ∈ l, o.volts.toNat = a.volts
    ∧ a.input ≤ o.amps.toNat) (hpos : 0 < a.volts) : ∃ i f, coveringOffer a (offersOf l)
      = some (i + 1, ⟨f.volts.toNat, f.amps.toNat, false⟩) ∧ l[i]? = some f ∧ f.volts.toNat = a.volts
      ∧ a.input ≤ f.amps.toNat ∧ (∀ p ∈ l, p.volts.toNat = a.volts → p.amps.toNat ≤ f.amps.toNat)
      ∧ ∀ j p, j < i → l[j]? = some p → p.volts.toNat = a.volts → p.amps.toNat < f.amps.toNat := by
  cases hc : coveringOffer a (offersOf l) with
  | none =>
    obtain ⟨o, ho, hcovers⟩ := h
    have hnone : ∀ o ∈ offersOf l, covers a o = false := (bestOffer_indexed_none (P := covers a)).mp hc
    have := hnone _ (List.mem_map.mpr ⟨o, ho, rfl⟩)
    rw [Bool.eq_false_iff] at this
    exact absurd ((covers_iff _ _).mpr hcovers) this
  | some c =>
    obtain ⟨k, o⟩ := c
    obtain ⟨i, rfl, hget, hP, hbest, hfirst⟩ := bestOffer_indexed (P := covers a) hc
    have hplace {j : Nat} {p : OfferFields} (hj : l[j]? = some p) :
        (offersOf l)[j]? = some ⟨p.volts.toNat, p.amps.toNat, false⟩ := by
      rw [offersOf, List.getElem?_map, hj, Option.map_some]
    rw [offersOf, List.getElem?_map, Option.map_eq_some_iff] at hget
    obtain ⟨f, hf, rfl⟩ := hget
    obtain ⟨hvolts, hinput⟩ := (covers_iff _ _).mp hP
    refine ⟨i, f, rfl, hf, hvolts, hinput, fun p hp hpv => ?_, fun j p hj hjp hpv => ?_⟩
    · by_contra hgt
      obtain ⟨j, hj⟩ := List.mem_iff_getElem?.mp hp
      have hcovers : covers a ⟨p.volts.toNat, p.amps.toNat, false⟩ = true :=
        (covers_iff _ _).mpr ⟨hpv, by change a.input ≤ p.amps.toNat; dsimp only at hinput; omega⟩
      have hpower : p.volts.toNat * p.amps.toNat ≤ f.volts.toNat * f.amps.toNat :=
        hbest _ (List.mem_of_getElem? (hplace hj)) hcovers
      dsimp only at hvolts
      rw [hpv, hvolts] at hpower
      exact hgt (Nat.le_of_mul_le_mul_left hpower hpos)
    · by_contra hge
      have hcovers : covers a ⟨p.volts.toNat, p.amps.toNat, false⟩ = true :=
        (covers_iff _ _).mpr ⟨hpv, by change a.input ≤ p.amps.toNat; dsimp only at hinput; omega⟩
      have hpower : p.volts.toNat * p.amps.toNat < f.volts.toNat * f.amps.toNat :=
        hfirst j _ hj (hplace hjp) hcovers
      dsimp only at hvolts
      rw [hpv, hvolts] at hpower
      exact hge (Nat.lt_of_mul_lt_mul_left hpower)

theorem coveringOffer_none {a : Agreement} {l : List OfferFields}
    (h : ∀ o ∈ l, ¬(o.volts.toNat = a.volts ∧ a.input ≤ o.amps.toNat)) : coveringOffer a (offersOf l) = none := by
  refine (bestOffer_indexed_none (P := covers a)).mpr fun o ho => ?_
  obtain ⟨f, hf, rfl⟩ := List.mem_map.mp ho
  exact Bool.eq_false_iff.mpr fun hc => h f hf ((covers_iff _ _).mp hc)

/-- A covering offer takes over the agreement. -/
theorem newOffers_covered {l : List OfferFields} {ph : ChargePhase} {a : Agreement} (hph : s.dock.state.phase = some ph)
    (ha : s.dock.agreement = some a) (hpos : 0 < a.volts)
    (h : ∃ o ∈ l, o.volts.toNat = a.volts ∧ a.input ≤ o.amps.toNat) :
    (newOffers l s).dock.state = s.dock.state ∧ (newOffers l s).dock.csw = s.dock.csw
      ∧ ∃ i o, l[i]? = some o ∧ o.volts.toNat = a.volts
        ∧ (newOffers l s).dock.agreement = some ⟨i + 1, a.volts, o.amps.toNat, a.input⟩
        ∧ a.input ≤ o.amps.toNat
        ∧ (∀ p ∈ l, p.volts.toNat = a.volts → p.amps.toNat ≤ o.amps.toNat)
        ∧ ∀ j p, j < i → l[j]? = some p → p.volts.toNat = a.volts → p.amps.toNat < o.amps.toNat := by
  obtain ⟨i, f, hchosen, hget, hvolts, hinput, hbest, hfirst⟩ := coveringOffer_some h hpos
  have hne : s.dock.state ≠ .paused := by
    rintro hp
    rw [hp] at hph
    exact nomatch hph
  have hno : ¬({ (relisted l s).dock with
      agreement := some { a with index := i + 1, amps := f.amps.toNat } } : Dock).state = .paused := hne
  have hdock : (newOffers l s).dock = ({ (relisted l s).dock with
      agreement := some { a with index := i + 1, amps := f.amps.toNat } } : Dock).send := by
    rw [newOffers_of_phase hph ha, hchosen, trySend_dock]
  rw [hdock, Dock.send_stays Dock.state (fun _ _ _ _ _ => rfl) (fun h => hno h.1),
    Dock.send_stays Dock.csw (fun _ _ _ _ _ => rfl) (fun h => hno h.1),
    Dock.send_stays Dock.agreement (fun _ _ _ _ _ => rfl) (fun h => hno h.1)]
  exact ⟨rfl, rfl, i, f, hget, hvolts, rfl, hinput, hbest, hfirst⟩

/-- What a selection after a new list leads to. -/
def selectsFrom (need : Nat) (l : List OfferFields) (s : State) (wait : ChargeState) (d : Dock) : Prop :=
  ((∀ o ∈ l, o.volts.toNat < need) → d.state = .paused ∧ d.pause = .noOffer ∧ d.csw = false)
    ∧ ((∃ o ∈ l, need ≤ o.volts.toNat) → ∃ i o input, picks need l i o ∧ input ≤ o.amps.toNat
      ∧ (exchangeFrees s → s.dock.dueHalt = false → d.state = .negotiate
          ∧ d.exch = some (freshExchange (.chargeReq (i + 1) input)))
      ∧ (¬exchangeFrees s ∨ s.dock.dueHalt = true → d.state = wait ∧ (wait = .paused → d.pause = .offerChange)
          ∧ d.dueCharge = some (.chargeReq (i + 1) input)))

theorem selectOffer_selects {l : List OfferFields} {v : State} (hlist : v.dock.offers = offersOf l)
    (hexch : v.dock.exch = (relisted l s).dock.exch) (hhalt : v.dock.dueHalt = s.dock.dueHalt) :
    selectsFrom (neededVolts v) l s (waitsIn v.dock.state) (selectOffer v).dock := by
  refine ⟨fun hno => ?_, fun hyes => ?_⟩
  · obtain ⟨hstate, hpause, hcsw, -⟩ := selectOffer_noOffer (chooseOffer_of_none hlist hno)
    exact ⟨hstate, hpause, hcsw⟩
  · obtain ⟨i, f, hchosen, hpicks⟩ := chooseOffer_of_some hlist hyes
    refine ⟨i, f, pickedInput v ⟨f.volts.toNat, f.amps.toNat, false⟩, hpicks, inputFor_le _ _ _ _, fun hfree hset => ?_,
      fun hbusy => ?_⟩
    · obtain ⟨hneg, hsent, -⟩ := selectOffer_sends hchosen (hexch.trans (relisted_exch_of_frees l hfree))
        (hhalt.trans hset)
      exact ⟨hneg, hsent⟩
    · have hwaits : v.dock.exch.isSome = true ∨ v.dock.dueHalt = true := by
        rw [hexch, hhalt]
        exact hbusy.imp_left fun h => (relisted_exch_of_kept l h).2
      obtain ⟨hwait, hpause, hdue, -⟩ := selectOffer_waits hchosen hwaits
      refine ⟨hwait, fun hp => hpause ?_, hdue⟩
      unfold waitsIn at hp
      by_contra hne
      rw [if_neg hne] at hp
      exact nomatch hp

theorem phase_state {c : ChargeState} {ph : ChargePhase} (h : c.phase = some ph) : ph.state = c := by
  cases c <;> simp_all [ChargeState.phase] <;> subst h <;> rfl

/-- Without a covering offer CSW opens and a selection runs. -/
theorem newOffers_uncovered {l : List OfferFields} {ph : ChargePhase} {a : Agreement}
    (hph : s.dock.state.phase = some ph) (ha : s.dock.agreement = some a)
    (h : ∀ o ∈ l, ¬(o.volts.toNat = a.volts ∧ a.input ≤ o.amps.toNat)) : let d := (newOffers l s).dock
    d.csw = false ∧ d.agreement = none ∧ d.taper = s.dock.taper
      ∧ d.resume.map ChargePhase.state = some s.dock.state
      ∧ selectsFrom (s.pack.count * 4200 + 1000) l s .paused d := by
  obtain ⟨v, hv⟩ : ∃ v, v = uncovered ph l s := ⟨_, rfl⟩
  have hnew : newOffers l s = selectOffer v := by
    rw [newOffers_of_phase hph ha, coveringOffer_none h, hv]
  have henter : v.dock = { (Dock.enter .paused (relisted l s).dock).open with
      pause := .offerChange, agreement := none, resume := some ph } := by
    rw [hv, uncovered]
    simp only [openSwitch, setCharge_dock]
    rfl
  have hkept {α : Type} (f : Dock → α)
      (hq : ∀ (d : Dock) e h c n, f { d with exch := e, dueHalt := h, dueCharge := c, dueEvac := n } = f d)
      (hs : ∀ (d : Dock) st sw i b, f { d with state := st, csw := sw, iChg := i, bleed := b } = f d)
      (hc : ∀ (d : Dock) x p w q, f { d with iTgt := x, plan := p, want := w, pause := q } = f d) :
      f (selectOffer v).dock = f v.dock := selectOffer_keeps f hq hs hc v
  have hpack : v.pack = s.pack := by
    have hentered : (setCharge .paused (relisted l s)).pack = s.pack := setCharge_pack _ _
    rw [hv]
    exact hentered
  have hneed : neededVolts v = s.pack.count * 4200 + 1000 := by
    unfold neededVolts
    rw [hpack]
  have hpaused : v.dock.state = .paused := by
    rw [henter]
    exact Dock.enter_state _ _
  have hselects := selectOffer_selects (s := s) (l := l) (v := v) (by
    rw [henter]
    exact Dock.enter_keeps Dock.offers (fun _ _ _ _ _ => rfl) _ _) (by
    rw [henter]
    exact Dock.enter_keeps Dock.exch (fun _ _ _ _ _ => rfl) _ _) (by
    rw [henter]
    exact Dock.enter_keeps Dock.dueHalt (fun _ _ _ _ _ => rfl) _ _)
  rw [hneed, hpaused, ← hnew] at hselects
  intro d
  refine ⟨?_, ?_, ?_, ?_, hselects⟩
  · change (newOffers l s).dock.csw = false
    rw [hnew]
    exact selectOffer_open (by rw [henter]; rfl)
  · change (newOffers l s).dock.agreement = none
    rw [hnew, hkept Dock.agreement (fun _ _ _ _ _ => rfl) (fun _ _ _ _ _ => rfl) (fun _ _ _ _ _ => rfl), henter]
  · change (newOffers l s).dock.taper = _
    rw [hnew, hkept Dock.taper (fun _ _ _ _ _ => rfl) (fun _ _ _ _ _ => rfl) (fun _ _ _ _ _ => rfl), henter]
    exact Dock.enter_keeps Dock.taper (fun _ _ _ _ _ => rfl) _ _
  · change (newOffers l s).dock.resume.map _ = _
    rw [hnew, hkept Dock.resume (fun _ _ _ _ _ => rfl) (fun _ _ _ _ _ => rfl) (fun _ _ _ _ _ => rfl), henter]
    exact congrArg some (phase_state hph)

/-! ## In the other states -/

/-- COARSE ends with a HELLO (R158). -/
theorem newOffers_coarse {l : List OfferFields} (h : s.dock.state = .coarse) (hfree : s.watch.pauseOrder = false) :
    (newOffers l s).dock.state = .identify ∧ (newOffers l s).dock.csw = false
      ∧ (s.dock.exch = none → s.dock.dueHalt = false → (newOffers l s).dock.exch.map (·.req) = some .hello) := by
  obtain ⟨hopen, -, -, hidentify, -⟩ := dockTalks_facts (s := relisted l s) h
  obtain ⟨hstate, hhello, -, -⟩ := hidentify hfree
  have hno : ¬((dockTalks (relisted l s)).dock.state = .paused ∧ (dockTalks (relisted l s)).dock.pause = .offerChange) := by
    rw [hstate]
    exact fun hp => nomatch hp.1
  have hnew : (newOffers l s).dock = (dockTalks (relisted l s)).dock.send := by
    rw [newOffers_of_noPhase (by rw [h]; rfl), if_neg (by simp [h]), trySend_dock]
  rw [hnew]
  refine ⟨(Dock.send_stays Dock.state (fun _ _ _ _ _ => rfl) hno).trans hstate,
    (Dock.send_stays Dock.csw (fun _ _ _ _ _ => rfl) hno).trans hopen, fun hexch hhalt => ?_⟩
  have hsent := hhello (relisted_exch_of_frees l (.inl hexch)) hhalt
  rw [Dock.send_of_busy (by rw [hsent]; rfl), hsent]
  rfl

/-- The states that only store the list. -/
def storesOffers (d : Dock) : Prop :=
  d.state = .identify ∨ d.state = .topped ∨ d.state = .disabled ∨ d.state = .fault
    ∨ (d.state = .paused ∧ (d.pause = .temp ∨ d.pause = .watch))

theorem storesOffers_facts {d : Dock} (h : storesOffers d) : d.state ≠ .detached ∧ d.state ≠ .attachWait
    ∧ d.state ≠ .coarse ∧ d.state.phase = none ∧ d.state ≠ .negotiate
    ∧ ¬(d.state = .paused ∧ (d.pause = .noOffer ∨ d.pause = .offerChange)) := by
  rcases h with h | h | h | h | ⟨h, hp⟩
  · simp [h, ChargeState.phase]
  · simp [h, ChargeState.phase]
  · simp [h, ChargeState.phase]
  · simp [h, ChargeState.phase]
  · rcases hp with hp | hp <;> simp [h, hp, ChargeState.phase]

theorem newOffers_stores {l : List OfferFields} (h : storesOffers s.dock) (hexch : s.dock.exch = none)
    (hhalt : s.dock.dueHalt = false) (hcharge : s.dock.dueCharge = none) (hevac : s.dock.dueEvac = none) :
    newOffers l s = { s with dock := { s.dock with offers := offersOf l } } := by
  obtain ⟨-, -, hcoarse, hphase, hneg, hpause⟩ := storesOffers_facts h
  rw [newOffers_of_noPhase hphase, if_neg (not_or.mpr ⟨hneg, hpause⟩), dockTalks_of_ne (by exact hcoarse),
    relisted_of_idle l hexch hcharge]
  exact trySend_of_none hhalt hcharge hevac

theorem phase_of_charging {c : ChargeState} (h : c = .precharge ∨ c = .bulk ∨ c = .taper) :
    (∃ ph, c.phase = some ph) ∧ c ≠ .detached ∧ c ≠ .attachWait := by
  rcases h with rfl | rfl | rfl
  · exact ⟨⟨_, rfl⟩, by decide, by decide⟩
  · exact ⟨⟨_, rfl⟩, by decide, by decide⟩
  · exact ⟨⟨_, rfl⟩, by decide, by decide⟩

/-- Settles O36: by the state in which the list comes, the covering offer or the selection, the end of COARSE, the stored
list, and the discarded notice. -/
theorem aChangeOfOffersIsTaken : Obligations.AChangeOfOffersIsTaken := by
  intro l s hs hl need free
  refine ⟨fun a hsig hstate ha hpos => ?_, fun hsig hstate => ?_, fun hsig hfree hstate => ?_,
    fun hstate hexch hhalt hcharge hevac => ?_, fun hstate => ?_⟩
  · obtain ⟨⟨ph, hph⟩, hdet, hatt⟩ := phase_of_charging hstate
    obtain ⟨t, hexec, hdock⟩ := exec_offersChanged hs hl hsig hdet hatt
    refine ⟨t, hexec, ?_⟩
    rw [hdock]
    refine ⟨newOffers_offers l s, newOffers_covered hph ha hpos, fun h => ?_⟩
    obtain ⟨hcsw, hagree, htaper, hresume, hnone, hsome⟩ := newOffers_uncovered hph ha h
    refine ⟨hcsw, hagree, htaper, hresume, fun hno => ⟨(hnone hno).1, (hnone hno).2.1⟩, fun hyes => ?_⟩
    obtain ⟨i, o, input, hpicks, hle, hsends, hwaits⟩ := hsome hyes
    refine ⟨i, o, input, hpicks, hle, hsends, fun hbusy => ?_⟩
    obtain ⟨hp, hpause, hdue⟩ := hwaits hbusy
    exact ⟨hp, hpause rfl, hdue⟩
  · have hplace : s.dock.state ≠ .detached ∧ s.dock.state ≠ .attachWait ∧ s.dock.state.phase = none
        ∧ waitsIn s.dock.state = s.dock.state := by
      rcases hstate with h | ⟨h, -⟩ <;> simp [h, ChargeState.phase, waitsIn]
    obtain ⟨hdet, hatt, hphase, hwait⟩ := hplace
    obtain ⟨t, hexec, hdock⟩ := exec_offersChanged hs hl hsig hdet hatt
    have hnew : newOffers l s = selectOffer (relisted l s) := (newOffers_of_noPhase hphase).trans (if_pos hstate)
    have hselects : selectsFrom need l s (waitsIn s.dock.state) (newOffers l s).dock := by
      rw [hnew]
      exact selectOffer_selects (v := relisted l s) rfl rfl rfl
    obtain ⟨hnone, hsome⟩ := hselects
    refine ⟨t, hexec, ?_⟩
    rw [hdock]
    refine ⟨newOffers_offers l s, hnone, fun hyes => ?_⟩
    obtain ⟨i, o, input, hpicks, hle, hsends, hwaits⟩ := hsome hyes
    refine ⟨i, o, input, hpicks, hle, hsends, fun hbusy => ?_⟩
    obtain ⟨hp, -, hdue⟩ := hwaits hbusy
    exact ⟨hp.trans hwait, hdue⟩
  · obtain ⟨t, hexec, hdock⟩ := exec_offersChanged hs hl hsig (by simp [hstate]) (by simp [hstate])
    refine ⟨t, hexec, ?_⟩
    rw [hdock]
    exact ⟨newOffers_offers l s, newOffers_coarse hstate hfree⟩
  · obtain ⟨hdet, hatt, -, -, -, -⟩ := storesOffers_facts hstate
    have hexec := event_of_powered (takeNewOffers l) s hs
    rw [takeNewOffers_eq hl hdet hatt, newOffers_stores hstate hexch hhalt hcharge hevac] at hexec
    exact hexec
  · have hdiscarded : takeNewOffers l s = s := by
      refine if_neg fun h => ?_
      obtain ⟨hdet, hatt⟩ := (takesNotices_iff s).mp h.1
      exact hstate.elim hdet hatt
    have hexec := event_of_powered (takeNewOffers l) s hs
    rw [hdiscarded] at hexec
    exact hexec

end Sys2Proof.Machine
end

section
namespace Sys2Proof.Machine

variable {s t u : State} {e : Exchange}

/-! ## Replies to a request that waits for them (R147) -/

theorem takeAccept_charge {i input : Nat} (he : s.dock.exch = some e) (hsend : e.send = .sent)
    (hreq : e.req = .chargeReq i input) (hphase : e.phase = .first) : takeAccept s
    = dockTalks (setExchange { e with phase := .ready, deadline := some 1000, waiting := false } s) := by
  simp only [takeAccept, awaiting_of_sent he hsend, hreq, hphase]

theorem takeAccept_evac {d : Nat} (he : s.dock.exch = some e) (hsend : e.send = .sent) (hreq : e.req = .evacReq d)
    (hphase : e.phase = .first) : takeAccept s = trySend (dockTalks (evacAccepted (freeRecord s))) := by
  simp only [takeAccept, awaiting_of_sent he hsend, hreq, hphase]

theorem takeAccept_halt (he : s.dock.exch = some e) (hsend : e.send = .sent) (hreq : e.req = .halt)
    (hphase : e.phase = .first) : takeAccept s = trySend (dockTalks (freeRecord s)) := by
  simp only [takeAccept, awaiting_of_sent he hsend, hreq, hphase]

theorem takeReady_charge {i input : Nat} (he : s.dock.exch = some e) (hsend : e.send = .sent)
    (hreq : e.req = .chargeReq i input) (hphase : e.phase = .ready) : takeReady s = chargeReady i input s := by
  simp only [takeReady, awaiting_of_sent he hsend, hreq, hphase]

theorem takeReject_charge {i input : Nat} (reason : Byte) (he : s.dock.exch = some e) (hsend : e.send = .sent)
    (hreq : e.req = .chargeReq i input) (hphase : e.phase = .first) : takeReject reason s = chargeRejected i s := by
  simp only [takeReject, awaiting_of_sent he hsend, hreq, hphase]

theorem takeReject_evac {d : Nat} (reason : Byte) (he : s.dock.exch = some e) (hsend : e.send = .sent)
    (hreq : e.req = .evacReq d) (hphase : e.phase = .first) :
    takeReject reason s = trySend (dockTalks (evacRejected reason (freeRecord s))) := by
  simp only [takeReject, awaiting_of_sent he hsend, hreq, hphase]

/-- The exchange after a WAIT has moved its deadline (R147). -/
def waited (ms : Half) (e : Exchange) : Exchange :=
  { e with waits := e.waits + 1, waiting := true, deadline := some (max 10 (min 5000 ms.toNat)) }

theorem takeWait_moves (ms : Half) (he : s.dock.exch = some e) (hsend : e.send = .sent) (hphase : e.phase = .first)
    (hreq : e.req ≠ .halt) (hfew : e.waits < 8) : takeWait ms s = dockTalks (setExchange (waited ms e) s) := by
  have hmay : mayWait e = true := by simp [mayWait, hphase, hreq]
  simp only [takeWait, awaiting_of_sent he hsend, hmay, if_true]
  rw [if_neg (by omega), clampNat_eq (by decide)]
  rfl

/-- The ninth WAIT fails the exchange. -/
theorem takeWait_fails (ms : Half) (he : s.dock.exch = some e) (hsend : e.send = .sent) (hphase : e.phase = .first)
    (hreq : e.req ≠ .halt) (hmany : 8 ≤ e.waits) : takeWait ms s = exchangeFailed e.req (dockTalks s) := by
  have hmay : mayWait e = true := by simp [mayWait, hphase, hreq]
  simp only [takeWait, awaiting_of_sent he hsend, hmay, if_true]
  rw [if_pos (by omega)]

/-- A frame that no exchange awaits is discarded (R147). -/
theorem exec_discarded {c : Instr} {work : State → State} (hexec : exec c s = event work s) (hs : s.powered)
    (hwork : work s = s) : exec c s = .next (conclude s) := by
  rw [hexec, event_of_powered work s hs, hwork]

theorem awaiting_of_none (h : s.dock.exch = none) : awaiting s = none := by
  rw [awaiting, h]
  rfl

/-! ## Outside COARSE -/

theorem evacAccepted_of_requested (h : s.evac.state = .requested) : evacAccepted s = { s with evac := { s.evac with
    state := .running, outcome := .none, timer := some ((s.evac.duration + 5) * 1000) } } := if_pos h

theorem evacRejected_of_requested (reason : Byte) (h : s.evac.state = .requested) : evacRejected reason s
    = raise .evacEnd { s with evac := { s.evac with
        state := .failed, outcome := .rejected, reason := some reason, timer := none } } := if_pos h

/-- The offer of an index (R149). -/
theorem find_indexed {i : Nat} {l : List Offer} {o : Offer} (hi : 1 ≤ i) (h : l[i - 1]? = some o) :
    (indexed 1 l).find? (fun c => c.1 == i) = some (i, o) := by
  have hmem : (i, o) ∈ indexed 1 l := mem_indexed.mpr ⟨hi, h⟩
  cases hfind : (indexed 1 l).find? (fun c => c.1 == i) with
  | none => exact absurd (List.find?_eq_none.mp hfind _ hmem) (by simp)
  | some c =>
    obtain ⟨k, p⟩ := c
    have hk : k = i := by simpa using List.find?_some hfind
    subst hk
    have hget := (mem_indexed.mp (List.mem_of_find?_eq_some hfind)).2
    rw [Option.some.inj (hget.symm.trans h)]

/-- READY of the first CHARGE_REQ (R151). -/
theorem makeAgreement_facts {i : Nat} (input : Nat) {o : Offer} (hi : 1 ≤ i) (ho : s.dock.offers[i - 1]? = some o)
    (hstate : s.dock.state = .negotiate) : let u := makeAgreement i input s
    u.dock.agreement = some ⟨i, o.volts, o.amps, input⟩ ∧ u.dock.exch = s.dock.exch
      ∧ u.dock.state = s.dock.plan.state ∧ u.dock.csw = s.drive.state.atRest
      ∧ u.dock.iChg = (if s.drive.state.atRest then s.dock.want else 0) ∧ u.dock.resume = none
      ∧ (s.dock.plan = .precharge → u.dock.precharge = 0) ∧ hasEvent .chargeState u = true
      ∧ u.dock.dueHalt = s.dock.dueHalt ∧ u.dock.dueCharge = s.dock.dueCharge ∧ u.dock.dueEvac = s.dock.dueEvac
      ∧ besideDock u = besideDock s := by
  obtain ⟨v, hv⟩ : ∃ v, v = { s with dock := { s.dock with
    agreement := some ⟨i, o.volts, o.amps, input⟩, resume := none
    precharge := if s.dock.plan = ChargePhase.precharge then 0 else s.dock.precharge } } := ⟨_, rfl⟩
  obtain ⟨w, hw⟩ : ∃ w, w = setCharge s.dock.plan.state v := ⟨_, rfl⟩
  have hu : makeAgreement i input s = { closeSwitch w with dock := { (closeSwitch w).dock with
      iChg := if (closeSwitch w).dock.csw then (closeSwitch w).dock.want else 0 } } := by
    rw [hw, hv]
    simp only [makeAgreement, find_indexed hi ho]
  have hdock : w.dock = v.dock.enter s.dock.plan.state := hw ▸ setCharge_dock _ _
  have hkept {α : Type} (f : Dock → α)
      (hf : ∀ (d : Dock) st sw i b, f { d with state := st, csw := sw, iChg := i, bleed := b } = f d) :
      f w.dock = f v.dock := by rw [hdock, Dock.enter_keeps f hf]
  have hdrive : w.drive = s.drive := by
    have hbeside : besideDock w = besideDock v := hw ▸ setCharge_besideDock _ _
    have hsame : w.drive = v.drive := (congrArg State.drive hbeside :)
    rw [hsame, hv]
  have hclosed : (closeSwitch w).dock.csw = s.drive.state.atRest := by
    change w.drive.state.atRest = _
    rw [hdrive]
  have hwant : (closeSwitch w).dock.want = s.dock.want := by
    change w.dock.want = _
    rw [hkept Dock.want fun _ _ _ _ _ => rfl, hv]
  have hevent : hasEvent .chargeState w = true := by
    rw [hw]
    refine hasEvent_setCharge ?_
    rw [hv]
    change s.dock.state ≠ _
    rw [hstate]
    cases s.dock.plan <;> decide
  rw [hu]
  refine ⟨?_, ?_, ?_, hclosed, ?_, ?_, fun hplan => ?_, hevent, ?_, ?_, ?_, ?_⟩
  · exact (hkept Dock.agreement fun _ _ _ _ _ => rfl).trans (by rw [hv])
  · exact (hkept Dock.exch fun _ _ _ _ _ => rfl).trans (by rw [hv])
  · change w.dock.state = _
    rw [hdock, Dock.enter_state]
  · change (if (closeSwitch w).dock.csw = true then _ else 0) = _
    rw [hclosed, hwant]
  · exact (hkept Dock.resume fun _ _ _ _ _ => rfl).trans (by rw [hv])
  · refine (hkept Dock.precharge fun _ _ _ _ _ => rfl).trans ?_
    rw [hv]
    exact if_pos hplan
  · exact (hkept Dock.dueHalt fun _ _ _ _ _ => rfl).trans (by rw [hv])
  · exact (hkept Dock.dueCharge fun _ _ _ _ _ => rfl).trans (by rw [hv])
  · exact (hkept Dock.dueEvac fun _ _ _ _ _ => rfl).trans (by rw [hv])
  · have hbeside : besideDock w = besideDock v := hw ▸ setCharge_besideDock _ _
    exact hbeside.trans (by rw [hv]; rfl)

/-- READY of a re-request (R154). -/
theorem raiseAgreement_eq (input : Nat) {a : Agreement} (ha : s.dock.agreement = some a) (hvolts : 0 < packVolts s) :
    raiseAgreement input s = { s with dock := { s.dock with
      agreement := some { a with input := input }
      iChg := if s.dock.csw then min s.dock.want (input * 9 * a.volts / (10 * packVolts s) / 25 * 25) else 0 } } := by
  have hcover : cover { a with input := input } (packVolts s) = input * 9 * a.volts / (10 * packVolts s) / 25 * 25 := by
    unfold cover
    rw [overPack_pos _ hvolts]
    rfl
  rw [← hcover]
  simp only [raiseAgreement, applyCurrent, ha, Option.map_some]
  rfl

/-- The offers with one of them marked (R151). -/
theorem markRejected_length (i : Nat) (l : List Offer) : (markRejected i l).length = l.length := by
  have hindexed (k : Nat) : (indexed k l).length = l.length := by
    induction l generalizing k with
    | nil => rfl
    | cons a l ih => simp [indexed, ih]
  rw [markRejected, List.length_map, hindexed]

theorem indexed_get (k j : Nat) (l : List Offer) : (indexed k l)[j]? = l[j]?.map (k + j, ·) := by
  induction l generalizing k j with
  | nil => simp [indexed]
  | cons a l ih =>
    cases j with
    | zero => simp [indexed]
    | succ j =>
      rw [indexed, List.getElem?_cons_succ, List.getElem?_cons_succ, ih]
      congr 2
      funext o
      rw [show k + 1 + j = k + (j + 1) by omega]

theorem markRejected_get (i j : Nat) (l : List Offer) : (markRejected i l)[j]?
    = l[j]?.map fun o => if j + 1 = i then { o with rejected := true } else o := by
  rw [markRejected, List.getElem?_map, indexed_get, Option.map_map]
  congr 1
  funext o
  simp [Nat.add_comm]

/-- What a selection among partly rejected offers leads to. -/
theorem selectOffer_by_eligible (hexch : s.dock.exch = none) (hhalt : s.dock.dueHalt = false) :
    ((∀ o ∈ s.dock.offers, o.rejected = true ∨ o.volts < neededVolts s) →
        (selectOffer s).dock.state = .paused ∧ (selectOffer s).dock.pause = .noOffer
          ∧ (trySend (selectOffer s)).dock.state = .paused ∧ (trySend (selectOffer s)).dock.pause = .noOffer)
      ∧ ((∃ o ∈ s.dock.offers, o.rejected = false ∧ neededVolts s ≤ o.volts) →
        (trySend (selectOffer s)).dock.state = .negotiate) := by
  refine ⟨fun hno => ?_, fun ⟨o, ho, hkept, hneed⟩ => ?_⟩
  · have hnone : chooseOffer s = none := by
      rw [chooseOffer_none]
      intro o ho
      rcases hno o ho with h | h
      · simp [eligible, h]
      · simp [eligible, h]
    obtain ⟨hpaused, hpause, -, -⟩ := selectOffer_noOffer hnone
    have hno' : ¬((selectOffer s).dock.state = .paused ∧ (selectOffer s).dock.pause = .offerChange) := by
      rw [hpause]
      exact fun h => nomatch h.2
    rw [trySend_dock, Dock.send_stays Dock.state (fun _ _ _ _ _ => rfl) hno',
      Dock.send_stays Dock.pause (fun _ _ _ _ _ => rfl) hno']
    exact ⟨hpaused, hpause, hpaused, hpause⟩
  · cases hc : chooseOffer s with
    | none =>
      have := chooseOffer_none.mp hc o ho
      simp [eligible, hkept, hneed] at this
    | some c =>
      rw [selectOffer_trySend hc]
      exact (selectOffer_sends hc hexch hhalt).1

/-- A CHARGE_REQ rejected in NEGOTIATE (R151). -/
theorem chargeRejected_facts (i : Nat) (hstate : s.dock.state = .negotiate) (hhalt : s.dock.dueHalt = false) :
    let u := chargeRejected i s
    u.dock.offers = markRejected i s.dock.offers ∧ besideDock u = besideDock s
      ∧ ((∀ o ∈ u.dock.offers, o.rejected = true ∨ o.volts < s.pack.count * 4200 + 1000) →
          u.dock.state = .paused ∧ u.dock.pause = .noOffer)
      ∧ ((∃ o ∈ u.dock.offers, o.rejected = false ∧ s.pack.count * 4200 + 1000 ≤ o.volts) →
          u.dock.state = .negotiate) := by
  obtain ⟨v, hv⟩ : ∃ v, v = { freeRecord s with dock := { (freeRecord s).dock with
    offers := markRejected i s.dock.offers } } := ⟨_, rfl⟩
  have hu : chargeRejected i s = trySend (selectOffer v) := by
    rw [hv]
    exact congrArg trySend (if_pos hstate)
  have hoffers : (trySend (selectOffer v)).dock.offers = markRejected i s.dock.offers := by
    rw [trySend_dock, Dock.send_keeps Dock.offers (fun _ _ _ _ _ => rfl) (fun _ _ _ _ _ => rfl),
      selectOffer_keeps Dock.offers (fun _ _ _ _ _ => rfl) (fun _ _ _ _ _ => rfl) (fun _ _ _ _ _ => rfl), hv]
  have hlist : v.dock.offers = markRejected i s.dock.offers := hv ▸ rfl
  have hneed : neededVolts v = s.pack.count * 4200 + 1000 := hv ▸ rfl
  obtain ⟨hnone, hsome⟩ := selectOffer_by_eligible (s := v) (hv ▸ rfl) (hv ▸ hhalt)
  rw [hlist, hneed] at hnone hsome
  rw [hu]
  dsimp only
  rw [hoffers]
  refine ⟨rfl, ?_, fun hno => (hnone hno).2.2, hsome⟩
  rw [trySend_besideDock, selectOffer_besideDock, hv]
  rfl

/-- The replies outside COARSE, with nothing due. -/
theorem replies_outside_coarse (hs : s.powered) (he : s.dock.exch = some e) (hsend : e.send = .sent)
    (hcoarse : s.dock.state ≠ .coarse) (hhalt : s.dock.dueHalt = false) (hcharge : s.dock.dueCharge = none)
    (hevac : s.dock.dueEvac = none) (hphase : e.phase = .first) :
    (∀ i input, e.req = .chargeReq i input → exec .dockAccept s = .next (conclude { s with dock := { s.dock with
        exch := some { e with phase := .ready, deadline := some 1000, waiting := false } } }))
      ∧ (∀ d, e.req = .evacReq d → s.evac.state = .requested →
        exec .dockAccept s = .next (conclude { s with
            dock := { s.dock with exch := none }
            evac := { s.evac with
              state := .running, outcome := .none, timer := some ((s.evac.duration + 5) * 1000) } })
        ∧ ∀ reason, exec (.dockReject reason) s = .next (conclude (raise .evacEnd { s with
            dock := { s.dock with exch := none }
            evac := { s.evac with
              state := .failed, outcome := .rejected, reason := some reason, timer := none } })))
      ∧ (e.req = .halt → exec .dockAccept s = .next (conclude { s with dock := { s.dock with exch := none } })) := by
  have haccept := event_of_powered takeAccept s hs
  refine ⟨fun i input hreq => ?_, fun d hreq hstate => ⟨?_, fun reason => ?_⟩, fun hreq => ?_⟩
  · rw [takeAccept_charge he hsend hreq hphase, dockTalks_of_ne (by exact hcoarse)] at haccept
    exact haccept
  · rw [takeAccept_evac he hsend hreq hphase, evacAccepted_of_requested (by exact hstate),
      dockTalks_of_ne (by exact hcoarse), trySend_of_none (by exact hhalt) (by exact hcharge) (by exact hevac)] at haccept
    exact haccept
  · have hreject := event_of_powered (takeReject reason) s hs
    rw [takeReject_evac reason he hsend hreq hphase, evacRejected_of_requested reason (by exact hstate),
      dockTalks_of_ne (by exact hcoarse), trySend_of_none (by exact hhalt) (by exact hcharge) (by exact hevac)] at hreject
    exact hreject
  · rw [takeAccept_halt he hsend hreq hphase, dockTalks_of_ne (by exact hcoarse),
      trySend_of_none (by exact hhalt) (by exact hcharge) (by exact hevac)] at haccept
    exact haccept

/-- READY that makes an agreement (R151). -/
theorem exec_ready_agrees {i input : Nat} {o : Offer} (hs : s.powered) (he : s.dock.exch = some e) (hsend : e.send = .sent)
    (hhalt : s.dock.dueHalt = false) (hcharge : s.dock.dueCharge = none) (hevac : s.dock.dueEvac = none)
    (hreq : e.req = .chargeReq i input) (hphase : e.phase = .ready) (hstate : s.dock.state = .negotiate) (hi : 1 ≤ i)
    (ho : s.dock.offers[i - 1]? = some o) (hsig : s.signals = []) :
    ∃ t, exec .dockReady s = .next t
      ∧ t.dock.agreement = some ⟨i, o.volts, o.amps, input⟩ ∧ t.dock.exch = none
      ∧ t.dock.state = s.dock.plan.state ∧ t.dock.csw = s.drive.state.atRest
      ∧ t.dock.iChg = (if s.drive.state.atRest then s.dock.want else 0)
      ∧ t.dock.resume = none ∧ (s.dock.plan = .precharge → t.dock.precharge = 0)
      ∧ hasEvent .chargeState t = true := by
  obtain ⟨v, hv⟩ : ∃ v, v = freeRecord s := ⟨_, rfl⟩
  obtain ⟨hagree, hexch, hentered, hcsw, hchg, hresume, hpre, hevent, hhalt', hcharge', hevac', hbeside⟩ :=
    makeAgreement_facts (s := v) (o := o) input hi (hv ▸ ho) (hv ▸ hstate)
  have hready : takeReady s = makeAgreement i input v := by
    rw [takeReady_charge he hsend hreq hphase, hv]
    refine (congrArg trySend (if_pos hstate)).trans (trySend_of_none ?_ ?_ ?_)
    · rw [← hv, hhalt', hv]
      exact hhalt
    · rw [← hv, hcharge', hv]
      exact hcharge
    · rw [← hv, hevac', hv]
      exact hevac
  have hexec := event_of_powered takeReady s hs
  rw [hready] at hexec
  have hquiet : (makeAgreement i input v).signals = [] := by
    rw [signals_of_besideDock hbeside, hv]
    exact hsig
  refine ⟨_, hexec, ?_⟩
  rw [conclude_dock hquiet]
  subst hv
  exact ⟨hagree, hexch, hentered, hcsw, hchg, hresume, hpre, conclude_keeps _ _ hevent⟩

/-- READY that raises the input (R154). -/
theorem exec_ready_raises {i input : Nat} {a : Agreement} (hs : s.powered) (he : s.dock.exch = some e)
    (hsend : e.send = .sent) (hhalt : s.dock.dueHalt = false) (hcharge : s.dock.dueCharge = none)
    (hevac : s.dock.dueEvac = none) (hreq : e.req = .chargeReq i input) (hphase : e.phase = .ready)
    (hstate : s.dock.state ≠ .negotiate) (ha : s.dock.agreement = some a) (hvolts : 0 < packVolts s) :
    exec .dockReady s = .next (conclude { s with dock := { s.dock with
      exch := none, agreement := some { a with input := input }
      iChg := if s.dock.csw
        then min s.dock.want (input * 9 * a.volts / (10 * packVolts s) / 25 * 25) else 0 } }) := by
  have hready : takeReady s = raiseAgreement input (freeRecord s) := by
    rw [takeReady_charge he hsend hreq hphase]
    refine (congrArg trySend (if_neg hstate)).trans ?_
    rw [raiseAgreement_eq (s := freeRecord s) input ha hvolts]
    exact trySend_of_none hhalt hcharge hevac
  have hexec := event_of_powered takeReady s hs
  rw [hready, raiseAgreement_eq (s := freeRecord s) input ha hvolts] at hexec
  exact hexec

/-- REJECT of a CHARGE_REQ in NEGOTIATE (R151). -/
theorem exec_reject_negotiate {i input : Nat} (reason : Byte) (hs : s.powered) (he : s.dock.exch = some e)
    (hsend : e.send = .sent) (hhalt : s.dock.dueHalt = false) (hreq : e.req = .chargeReq i input)
    (hphase : e.phase = .first) (hstate : s.dock.state = .negotiate) (hsig : s.signals = []) :
    ∃ t, exec (.dockReject reason) s = .next t
      ∧ t.dock.offers.length = s.dock.offers.length
      ∧ (∀ o, 1 ≤ i → t.dock.offers[i - 1]? = some o → o.rejected = true)
      ∧ (∀ j, j + 1 ≠ i → t.dock.offers[j]? = s.dock.offers[j]?)
      ∧ ((∀ o ∈ t.dock.offers, o.rejected = true ∨ o.volts < s.pack.count * 4200 + 1000) →
          t.dock.state = .paused ∧ t.dock.pause = .noOffer)
      ∧ ((∃ o ∈ t.dock.offers, o.rejected = false ∧ s.pack.count * 4200 + 1000 ≤ o.volts) →
          t.dock.state = .negotiate) := by
  obtain ⟨hoffers, hbeside, hnone, hsome⟩ := chargeRejected_facts i hstate hhalt
  have hexec := event_of_powered (takeReject reason) s hs
  rw [takeReject_charge reason he hsend hreq hphase] at hexec
  refine ⟨_, hexec, ?_⟩
  rw [conclude_dock ((signals_of_besideDock hbeside).trans hsig)]
  refine ⟨by rw [hoffers, markRejected_length], fun o hi ho => ?_, fun j hj => ?_, hnone, hsome⟩
  · rw [hoffers, markRejected_get, Option.map_eq_some_iff] at ho
    obtain ⟨p, -, rfl⟩ := ho
    rw [if_pos (by omega)]
  · rw [hoffers, markRejected_get]
    simp only [if_neg hj, Option.map_id']

/-- REJECT of a re-request leaves the agreement (R154). -/
theorem exec_reject_charging {i input : Nat} (reason : Byte) (hs : s.powered) (he : s.dock.exch = some e)
    (hsend : e.send = .sent) (hhalt : s.dock.dueHalt = false) (hcharge : s.dock.dueCharge = none)
    (hevac : s.dock.dueEvac = none) (hreq : e.req = .chargeReq i input) (hphase : e.phase = .first)
    (hstate : s.dock.state ≠ .negotiate) :
    exec (.dockReject reason) s = .next (conclude { s with dock := { s.dock with exch := none } }) := by
  have hexec := event_of_powered (takeReject reason) s hs
  have hrejected : chargeRejected i s = freeRecord s :=
    (congrArg trySend (if_neg hstate)).trans (trySend_of_none hhalt hcharge hevac)
  rw [takeReject_charge reason he hsend hreq hphase, hrejected] at hexec
  exact hexec

theorem exec_wait_moves (ms : Half) (hs : s.powered) (he : s.dock.exch = some e) (hsend : e.send = .sent)
    (hcoarse : s.dock.state ≠ .coarse) (hphase : e.phase = .first) (hreq : e.req ≠ .halt) (hfew : e.waits < 8) :
    exec (.dockWait ms) s = .next (conclude { s with dock := { s.dock with exch := some (waited ms e) } }) := by
  have hexec := event_of_powered (takeWait ms) s hs
  rw [takeWait_moves ms he hsend hphase hreq hfew, dockTalks_of_ne (by exact hcoarse)] at hexec
  exact hexec

/-! ## In COARSE (R158) -/

/-- A dock that talks in COARSE, its exchange ended: a HELLO is sent. -/
theorem dockTalks_hello (hfree : s.watch.pauseOrder = false) (hcoarse : s.dock.state = .coarse)
    (hexch : s.dock.exch = none) (hhalt : s.dock.dueHalt = false) :
    (trySend (dockTalks s)).dock.state = .identify ∧ (trySend (dockTalks s)).dock.csw = false
      ∧ (trySend (dockTalks s)).dock.exch.map (·.req) = some .hello := by
  obtain ⟨hopen, -, -, hidentify, -⟩ := dockTalks_facts hcoarse
  obtain ⟨hstate, hhello, -, -⟩ := hidentify hfree
  have hsent := hhello hexch hhalt
  rw [trySend_of_busy (by rw [hsent]; rfl), hsent]
  exact ⟨hstate, hopen, rfl⟩

/-- A dock that talks in COARSE while its exchange waits on: the HELLO is due behind it. -/
theorem dockTalks_behind (hfree : s.watch.pauseOrder = false) (hcoarse : s.dock.state = .coarse)
    (hexch : s.dock.exch.isSome = true) : (dockTalks s).dock.state = .identify ∧ (dockTalks s).dock.csw = false
      ∧ (dockTalks s).dock.exch = s.dock.exch ∧ (dockTalks s).dock.dueCharge = some .hello
      ∧ (dockTalks s).dock.dueHalt = s.dock.dueHalt := by
  obtain ⟨hopen, -, -, hidentify, -⟩ := dockTalks_facts hcoarse
  obtain ⟨hstate, -, -, hbusy⟩ := hidentify hfree
  obtain ⟨hkept, hdue⟩ := hbusy hexch
  refine ⟨hstate, hopen, hkept, hdue, ?_⟩
  obtain ⟨d, hd⟩ : ∃ d, d = Dock.enter .identify
    ({ (openSwitch s).dock with resume := none, taper := none } : Dock) := ⟨_, rfl⟩
  have hrunning : d.exch = s.dock.exch := by
    rw [hd, Dock.enter_keeps Dock.exch fun _ _ _ _ _ => rfl]
    rfl
  have htalks : dockTalks s = enterIdentify (openSwitch s) := if_pos hcoarse
  have hdock := enterIdentify_dock_of_free (s := openSwitch s) hfree
  rw [← hd, Dock.send_of_busy (by exact hrunning ▸ hexch)] at hdock
  rw [htalks, hdock]
  change d.dueHalt = _
  rw [hd, Dock.enter_keeps Dock.dueHalt fun _ _ _ _ _ => rfl]
  rfl

theorem evac_of_besideDock (h : besideDock t = besideDock s) : t.evac = s.evac := (congrArg State.evac h :)

theorem exec_dockTalks {c : Instr} {work : State → State} {u : State} (hexec : exec c s = event work s) (hs : s.powered)
    (hwork : work s = trySend (dockTalks u)) (hsig : u.signals = []) (hfree : u.watch.pauseOrder = false)
    (hcoarse : u.dock.state = .coarse) (hexch : u.dock.exch = none) (hhalt : u.dock.dueHalt = false) :
    ∃ t, exec c s = .next t ∧ t.dock.state = .identify ∧ t.dock.csw = false
      ∧ t.dock.exch.map (·.req) = some .hello ∧ t.evac = u.evac
      ∧ ∀ e, hasEvent e u = true → hasEvent e t = true := by
  have hbeside : besideDock (trySend (dockTalks u)) = besideDock u :=
    (trySend_besideDock _).trans (dockTalks_besideDock u)
  obtain ⟨hstate, hcsw, hhello⟩ := dockTalks_hello hfree hcoarse hexch hhalt
  refine ⟨conclude (trySend (dockTalks u)), by rw [hexec, event_of_powered work s hs, hwork], ?_⟩
  rw [conclude_dock ((signals_of_besideDock hbeside).trans hsig), conclude_evac]
  exact ⟨hstate, hcsw, hhello, evac_of_besideDock hbeside, fun _ h =>
    conclude_keeps _ _ (trySend_keeps _ _ (dockTalks_keeps h))⟩

/-- A WAIT that moves the deadline in COARSE. -/
theorem exec_wait_coarse (ms : Half) (hs : s.powered) (hsig : s.signals = []) (hfree : s.watch.pauseOrder = false)
    (hcoarse : s.dock.state = .coarse) (he : s.dock.exch = some e) (hsend : e.send = .sent) (hphase : e.phase = .first)
    (hreq : e.req ≠ .halt) (hfew : e.waits < 8) : ∃ t, exec (.dockWait ms) s = .next t ∧ t.dock.state = .identify
      ∧ t.dock.csw = false ∧ t.evac = s.evac ∧ t.dock.dueCharge = some .hello
      ∧ t.dock.exch = some (waited ms e) := by
  have hexec := event_of_powered (takeWait ms) s hs
  rw [takeWait_moves ms he hsend hphase hreq hfew] at hexec
  have hbeside := dockTalks_besideDock (setExchange (waited ms e) s)
  obtain ⟨hstate, hcsw, hkept, hdue, -⟩ := dockTalks_behind (s := setExchange (waited ms e) s) hfree hcoarse rfl
  refine ⟨_, hexec, ?_⟩
  rw [conclude_dock ((signals_of_besideDock hbeside).trans hsig), conclude_evac]
  exact ⟨hstate, hcsw, evac_of_besideDock hbeside, hdue, hkept⟩

theorem exchangeFailed_evac_dock (d : Nat) (s : State) :
    (exchangeFailed (.evacReq d) s).dock = ({ s.dock with exch := none } : Dock).send := by
  have hfailed : exchangeFailed (.evacReq d) s = trySend (evacNoAccept (freeRecord s)) := rfl
  have hdock : (evacNoAccept (freeRecord s)).dock = { s.dock with exch := none } := by
    unfold evacNoAccept
    split <;> rfl
  rw [hfailed, trySend_dock, hdock]

/-- The ninth WAIT of an EVAC_REQ (R147, R168). -/
theorem exec_ninth_wait_evac {d : Nat} (ms : Half) (hs : s.powered) (hsig : s.signals = []) (he : s.dock.exch = some e)
    (hsend : e.send = .sent) (hreq : e.req = .evacReq d) (hphase : e.phase = .first) (hmany : 8 ≤ e.waits)
    (hstate : s.evac.state = .requested) : ∃ t, exec (.dockWait ms) s = .next t
      ∧ t.evac.state = .failed ∧ t.evac.outcome = .noAccept ∧ hasEvent .evacEnd t = true
      ∧ t.dock = ({ (dockTalks s).dock with exch := none } : Dock).send := by
  have hexec := event_of_powered (takeWait ms) s hs
  rw [takeWait_fails ms he hsend hphase (by simp [hreq]) hmany, hreq] at hexec
  have hbeside := dockTalks_besideDock s
  obtain ⟨hevac, hevent⟩ := exchangeFailed_evac (s := dockTalks s) d (by rw [evac_of_besideDock hbeside]; exact hstate)
  have hquiet : (exchangeFailed (.evacReq d) (dockTalks s)).signals = [] := by
    rw [exchangeFailed_signals, signals_of_besideDock hbeside, hsig]
  refine ⟨_, hexec, ?_⟩
  rw [conclude_evac, hevac, conclude_dock hquiet]
  exact ⟨rfl, rfl, conclude_keeps _ _ hevent, exchangeFailed_evac_dock d _⟩

/-- In COARSE it sends the HELLO. -/
theorem send_hello_after_wait (hfree : s.watch.pauseOrder = false) (hcoarse : s.dock.state = .coarse)
    (he : s.dock.exch = some e) (hhalt : s.dock.dueHalt = false) :
    let d := ({ (dockTalks s).dock with exch := none } : Dock).send
    d.state = .identify ∧ d.csw = false ∧ d.exch.map (·.req) = some .hello := by
  obtain ⟨hstate, hcsw, -, hdue, hkept⟩ := dockTalks_behind hfree hcoarse (by rw [he]; rfl)
  have hno : ¬(({ (dockTalks s).dock with exch := none } : Dock).state = .paused
      ∧ ({ (dockTalks s).dock with exch := none } : Dock).pause = .offerChange) := by
    change ¬((dockTalks s).dock.state = .paused ∧ _)
    rw [hstate]
    exact fun h => nomatch h.1
  rw [Dock.send_of_charge rfl (by exact hkept.trans hhalt) (by exact hdue) hno]
  exact ⟨hstate, hcsw, rfl⟩

/-- The ninth WAIT of a HELLO or a CHARGE_REQ (R147, R158). -/
theorem exec_ninth_wait_charge (ms : Half) (hs : s.powered) (hsig : s.signals = []) (he : s.dock.exch = some e)
    (hsend : e.send = .sent) (hphase : e.phase = .first) (hmany : 8 ≤ e.waits)
    (h : (e.req = .hello ∧ s.dock.state = .identify)
      ∨ ((∃ i input, e.req = .chargeReq i input) ∧ (s.dock.state = .negotiate ∨ s.dock.state = .precharge
          ∨ s.dock.state = .bulk ∨ s.dock.state = .taper))) :
    ∃ t, exec (.dockWait ms) s = .next t ∧ coarseEntered s t.dock := by
  have hplace : e.req ≠ .halt ∧ s.dock.state ≠ .coarse := by
    rcases h with ⟨hreq, hst⟩ | ⟨⟨i, input, hreq⟩, hst⟩
    · simp [hreq, hst]
    · rcases hst with hst | hst | hst | hst <;> simp [hreq, hst]
  have hexec := event_of_powered (takeWait ms) s hs
  rw [takeWait_fails ms he hsend hphase hplace.1 hmany, dockTalks_of_ne hplace.2] at hexec
  have hquiet : (exchangeFailed e.req s).signals = [] := (exchangeFailed_signals _ s).trans hsig
  refine ⟨_, hexec, ?_⟩
  rw [conclude_dock hquiet]
  exact exchangeFailed_coarse h

/-- Settles O35: the replies outside COARSE as they stand, in COARSE with the HELLO that follows, the ninth WAIT as a
failure, and the frames that nothing awaits. -/
theorem requestsAreAnsweredOrDiscarded : Obligations.RequestsAreAnsweredOrDiscarded := by
  refine ⟨fun e s hs he hsend hcoarse hhalt hcharge hevac => ⟨fun i input hreq hphase => ?_, fun d hreq hphase => ?_,
    fun hreq hphase => ?_, fun i input o hreq hphase hstate hi ho hsig => ?_,
    fun i input a hreq hphase hstate ha hvolts => ?_, fun i input reason hreq hphase => ⟨fun hstate => ?_, fun hstate hsig =>
      exec_reject_negotiate reason hs he hsend hhalt hreq hphase hstate hsig⟩, fun ms hphase hreq hfew =>
      exec_wait_moves ms hs he hsend hcoarse hphase hreq hfew⟩,
    fun s hs => ⟨fun e hsig hfree hcoarse he hsend hphase hhalt => ⟨fun hreq => ?_, fun d hreq hstate =>
      ⟨?_, fun reason => ?_, fun ms hfew => ?_, fun ms hmany => ?_⟩⟩, fun e ms hsig he hsend hphase hmany h => ?_,
      fun e d ms hsig he hsend hreq hphase hmany hstate => ?_, fun hnone => ?_⟩⟩
  · obtain ⟨haccept, -, -⟩ := replies_outside_coarse hs he hsend hcoarse hhalt hcharge hevac hphase
    exact haccept i input hreq
  · obtain ⟨-, hreply, -⟩ := replies_outside_coarse hs he hsend hcoarse hhalt hcharge hevac hphase
    exact hreply d hreq
  · obtain ⟨-, -, haccept⟩ := replies_outside_coarse hs he hsend hcoarse hhalt hcharge hevac hphase
    exact haccept hreq
  · obtain ⟨t, hexec, hagree, hexch, hentered, hrest⟩ :=
      exec_ready_agrees hs he hsend hhalt hcharge hevac hreq hphase hstate hi ho hsig
    refine ⟨t, hexec, hagree, hexch, hentered.trans ?_, hrest⟩
    cases s.dock.plan <;> rfl
  · refine exec_ready_raises hs he hsend hhalt hcharge hevac hreq hphase ?_ ha hvolts
    rcases hstate with h | h | h <;> simp [h]
  · refine exec_reject_charging reason hs he hsend hhalt hcharge hevac hreq hphase ?_
    rcases hstate with h | h | h <;> simp [h]
  · obtain ⟨t, hexec, hst, hcsw, hhello, -, -⟩ := exec_dockTalks (c := .dockAccept) (s := s)
      (work := takeAccept) (u := freeRecord s) rfl hs
      (takeAccept_halt he hsend hreq hphase) hsig hfree hcoarse rfl hhalt
    exact ⟨t, hexec, hst, hcsw, hhello⟩
  · have haccepted := evacAccepted_of_requested (s := freeRecord s) hstate
    obtain ⟨t, hexec, hst, hcsw, hhello, hkept, -⟩ := exec_dockTalks (c := .dockAccept) (s := s) (work := takeAccept) rfl hs
      (by rw [takeAccept_evac he hsend hreq hphase, haccepted]) (by exact hsig) (by exact hfree) (by exact hcoarse) rfl
      (by exact hhalt)
    refine ⟨t, hexec, hst, hcsw, ?_, ?_, hhello⟩ <;> rw [hkept]
    rfl
  · have hrejected := evacRejected_of_requested (s := freeRecord s) reason hstate
    obtain ⟨t, hexec, hst, hcsw, hhello, hkept, hevents⟩ := exec_dockTalks (c := .dockReject reason)
      (s := s) (work := takeReject reason) rfl hs
      (by rw [takeReject_evac reason he hsend hreq hphase, hrejected]) (by exact hsig) (by exact hfree) (by exact hcoarse)
      rfl (by exact hhalt)
    refine ⟨t, hexec, hst, hcsw, ?_, ?_, ?_, hevents .evacEnd (hasEvent_raise _ _), hhello⟩ <;> rw [hkept] <;> rfl
  · exact exec_wait_coarse ms hs hsig hfree hcoarse he hsend hphase (by simp [hreq]) hfew
  · obtain ⟨t, hexec, hfailed, houtcome, -, hdock⟩ := exec_ninth_wait_evac ms hs hsig he hsend hreq hphase hmany hstate
    obtain ⟨hst, hcsw, hhello⟩ := send_hello_after_wait hfree hcoarse he hhalt
    refine ⟨t, hexec, ?_, ?_, hfailed, houtcome, ?_⟩ <;> rw [hdock]
    · exact hst
    · exact hcsw
    · exact hhello
  · exact exec_ninth_wait_charge ms hs hsig he hsend hphase hmany h
  · obtain ⟨t, hexec, hfailed, houtcome, hevent, -⟩ := exec_ninth_wait_evac ms hs hsig he hsend hreq hphase hmany hstate
    exact ⟨t, hexec, hfailed, houtcome, hevent⟩
  · have hno := awaiting_of_none hnone
    refine ⟨fun k u n => exec_discarded rfl hs ?_, fun l => exec_discarded rfl hs ?_, exec_discarded rfl hs ?_,
      exec_discarded rfl hs ?_, fun r => exec_discarded rfl hs ?_, fun ms => exec_discarded rfl hs ?_⟩
    · simp only [takeIdent, hno]
    · simp only [takeOffers, hno]
    · simp only [takeAccept, hno]
    · simp only [takeReady, hno]
    · simp only [takeReject, hno]
    · simp only [takeWait, hno]

end Sys2Proof.Machine
end

section
namespace Sys2Proof.Machine

variable {s t u : State}

/-! ## CHGIN rises and falls (R143) -/

theorem powered_of_active (h : s.pack.power = .active) : s.powered := by
  simp [State.powered, h]

theorem exec_chginRise (h : s.pack.power = .active) : exec .chginRise s = .next (conclude (chginRose s)) :=
  (if_neg (by simp [h])).trans (event_of_powered chginRose s (powered_of_active h))

/-- The level on the pin, and nothing else (R143). -/
def chginAt (b : Bool) (s : State) : State := { s with pins := { s.pins with chgin := b } }

theorem chginRose_of_active (h : s.pack.power = .active) : chginRose s
    = if s.dock.state = .detached then startAttach (chginAt true s)
      else if s.dock.attach = .debouncing ∧ s.dock.debounce.isNone then
        { chginAt true s with dock := { s.dock with drop := none, debounce := some s.dock.attachMs } }
      else { chginAt true s with dock := { s.dock with drop := none } } := by
  have hwake : wake (chginAt true s) = chginAt true s := wake_of_active _ h
  unfold chginRose
  rw [← chginAt.eq_def, hwake]
  rfl

/-- The attach that a rise begins (R143, R16). -/
theorem exec_chginRise_attaches (h : s.pack.power = .active) (hsig : s.signals = []) (hstate : s.dock.state = .detached) :
    ∃ t, exec .chginRise s = .next t ∧ t.pins.chgin = true ∧ t.dock.state = .attachWait ∧ t.dock.attach = .debouncing
      ∧ t.dock.debounce = some s.dock.debounceMs ∧ t.dock.attachMs = s.dock.debounceMs
      ∧ t.dock.drop = none ∧ t.pack.shutdown = none
      ∧ hasEvent .chargeState t = true ∧ t.drive = s.drive ∧ t.arb = s.arb := by
  obtain ⟨v, hv⟩ : ∃ v, v = setCharge .attachWait (chginAt true s) := ⟨_, rfl⟩
  have hbeside : besideDock v = besideDock (chginAt true s) := hv ▸ setCharge_besideDock _ _
  have hdock : v.dock = s.dock.enter .attachWait := hv ▸ setCharge_dock _ _
  have hms : v.dock.debounceMs = s.dock.debounceMs := by rw [hdock, Dock.enter_keeps Dock.debounceMs fun _ _ _ _ _ => rfl]
  have hevent : hasEvent .chargeState v = true := by
    rw [hv]
    exact hasEvent_setCharge (by change s.dock.state ≠ _; rw [hstate]; decide)
  have hrose : chginRose s = { v with
      dock := { v.dock with
        attach := .debouncing, attachMs := v.dock.debounceMs, debounce := some v.dock.debounceMs, drop := none }
      pack := { v.pack with shutdown := none } } := by
    rw [chginRose_of_active h, if_pos hstate, hv]
    rfl
  have hquiet : (chginRose s).signals = [] := by
    rw [hrose]
    exact (signals_of_besideDock hbeside).trans hsig
  have hsame : (chginRose s).drive = s.drive ∧ (chginRose s).arb = s.arb := by
    rw [hrose]
    exact ⟨(congrArg State.drive hbeside :), (congrArg State.arb hbeside :)⟩
  refine ⟨_, exec_chginRise h, ?_⟩
  rw [conclude_dock hquiet, conclude_pins, conclude_pack, conclude_of_no_signals hquiet, finish_drive, finish_arb,
    hsame.1, hsame.2, ← conclude_of_no_signals hquiet]
  rw [hrose]
  refine ⟨(congrArg (fun w : State => w.pins.chgin) hbeside :), ?_, rfl, ?_, ?_, rfl, rfl, conclude_keeps _ _ hevent, rfl, rfl⟩
  · change v.dock.state = _
    rw [hdock, Dock.enter_state]
  · exact congrArg some hms
  · exact hms

theorem exec_chginDrop (hs : s.powered) : exec .chginDrop s = .next (conclude (chginFell s)) := by
  have hpower : s.pack.power ≠ .shutdown := hs
  exact (if_neg hpower).trans (event_of_powered chginFell s hs)

/-! ## DETACH (R145, R170, R16) -/

/-- The dock after a detach (R145). -/
theorem detach_dock (h : s.dock.state ≠ .detached) : (detachNow s).dock
    = (clearDock { s with dock := s.dock.enter .detached }).dock := by
  have hraised (b : Bool) (v : State) : (abortEvac .detach (raiseIf b .dockDetach v)).dock = v.dock := by
    unfold abortEvac endEvac
    split
    · exact raiseIf_dock _ _ _
    · exact raiseIf_dock _ _ _
  unfold detachNow
  rw [if_neg h]
  change (abortEvac .detach (raiseIf _ .dockDetach (clearDock (setCharge .detached s)))).dock = _
  rw [hraised]
  simp only [clearDock, setCharge_dock]

/-- The state of a detach before the evacuation is ended. -/
def detaching (s : State) : State :=
  raiseIf (s.dock.attach == .attached) .dockDetach (clearDock (setCharge .detached s))

theorem detachNow_eq (h : s.dock.state ≠ .detached) : detachNow s = { abortEvac .detach (detaching s) with
    evac := { (abortEvac .detach (detaching s)).evac with auto := false }
    pack := { (abortEvac .detach (detaching s)).pack with
      shutdown := if (abortEvac .detach (detaching s)).pack.cutoff && (abortEvac .detach (detaching s)).pack.shutdown.isNone
        then some 2000 else (abortEvac .detach (detaching s)).pack.shutdown } } := if_neg h

theorem detaching_besideDock (s : State) : besideDock (detaching s) = besideDock s :=
  besideDock_ite (setCharge_besideDock .detached s) (setCharge_besideDock .detached s)

theorem abortEvac_evac (o : EvacOutcome) (s : State) : (abortEvac o s).evac
    = if evacInProgress s then { s.evac with state := .aborted, outcome := o, timer := none } else s.evac := by
  unfold abortEvac endEvac
  split <;> rfl

/-- What the end of an evacuation leaves. -/
theorem abortEvac_rest (o : EvacOutcome) (s : State) : (abortEvac o s).pack = s.pack ∧ (abortEvac o s).dirt = s.dirt
    ∧ (abortEvac o s).drive = s.drive ∧ (abortEvac o s).signals = s.signals := by
  unfold abortEvac endEvac
  split <;> exact ⟨rfl, rfl, rfl, rfl⟩

theorem hasEvent_abortEvac_ne {e : Event} (h : e.ctorIdx ≠ Event.evacEnd.ctorIdx) (o : EvacOutcome) (s : State) :
    hasEvent e (abortEvac o s) = hasEvent e s := by
  unfold abortEvac endEvac
  split
  · rw [hasEvent_raise_ne h]
    rfl
  · rfl

theorem evacInProgress_of_evac (h : t.evac = s.evac) : evacInProgress t = evacInProgress s := by
  unfold evacInProgress
  rw [h]

theorem detachNow_facts (h : s.dock.state ≠ .detached) : let u := detachNow s
    u.signals = s.signals ∧ u.drive = s.drive ∧ u.dirt = s.dirt
      ∧ u.pack = { s.pack with
          shutdown := if s.pack.cutoff = true ∧ s.pack.shutdown = none then some 2000 else s.pack.shutdown }
      ∧ u.evac.auto = false
      ∧ (evacInProgress s = true → u.evac.state = .aborted ∧ u.evac.outcome = .detach ∧ u.evac.timer = none
          ∧ hasEvent .evacEnd u = true)
      ∧ (evacInProgress s = false → u.evac = { s.evac with auto := false })
      ∧ hasEvent .chargeState u = true
      ∧ (s.dock.attach = .attached → hasEvent .dockDetach u = true)
      ∧ (s.dock.attach ≠ .attached → hasEvent .dockDetach u = hasEvent .dockDetach s) := by
  have hbeside := detaching_besideDock s
  have hevac : (detaching s).evac = s.evac := evac_of_besideDock hbeside
  have hpack : (detaching s).pack = s.pack := (congrArg State.pack hbeside :)
  have hprogress := evacInProgress_of_evac hevac
  obtain ⟨hpack', hdirt, hdrive, hsignals⟩ := abortEvac_rest .detach (detaching s)
  have hcharge : hasEvent .chargeState (detaching s) = true := raiseIf_keeps _ _ _ _ (hasEvent_setCharge h)
  have hset (e : Event) (he : e.ctorIdx ≠ Event.chargeState.ctorIdx) :
      hasEvent e (clearDock (setCharge .detached s)) = hasEvent e s := hasEvent_setCharge_ne he _ _
  rw [detachNow_eq h, hpack', hpack, abortEvac_evac, hprogress, hevac]
  refine ⟨?_, ?_, ?_, ?_, rfl, fun hin => ?_, fun hnot => ?_, ?_, fun hatt => ?_, fun hatt => ?_⟩
  · exact hsignals.trans (signals_of_besideDock hbeside)
  · exact hdrive.trans (congrArg State.drive hbeside :)
  · exact hdirt.trans (congrArg State.dirt hbeside :)
  · simp [Option.isNone_iff_eq_none]
  · rw [if_pos hin]
    refine ⟨rfl, rfl, rfl, ?_⟩
    change hasEvent .evacEnd (abortEvac .detach (detaching s)) = true
    rw [abortEvac, if_pos (hprogress.trans hin)]
    exact hasEvent_raise _ _
  · rw [if_neg (show ¬evacInProgress s = true by simp [hnot])]
  · change hasEvent .chargeState (abortEvac .detach (detaching s)) = true
    rw [hasEvent_abortEvac_ne (by decide)]
    exact hcharge
  · change hasEvent .dockDetach (abortEvac .detach (detaching s)) = true
    rw [hasEvent_abortEvac_ne (by decide), detaching, raiseIf_of_true _ _ (by simp [hatt])]
    exact hasEvent_raise _ _
  · change hasEvent .dockDetach (abortEvac .detach (detaching s)) = _
    rw [hasEvent_abortEvac_ne (by decide), detaching, raiseIf_of_false _ _ (by simp [hatt])]
    exact hset .dockDetach (by decide)

theorem finish_event (e : Event) (s : State) : hasEvent e (finish s) = hasEvent e s := by
  unfold finish
  cases s.host.fence with
  | none => rfl
  | some f =>
    dsimp only
    split <;> rfl

/-! ## The completed debounce (R143, R144, R51) -/

/-- The dock with the debounce complete. -/
def attachedDock (level : CoarseClass) (d : Dock) : Dock :=
  { d with attach := .attached, debounce := none, coarse := some level }

theorem debounceDone_eq (level : CoarseClass) (hatt : s.dock.attach = .debouncing) (hdeb : s.dock.debounce.isSome = true) :
    debounceDone level s
      = leaveAttachWait (stopOrder .docked (raise .dockAttach { s with dock := attachedDock level s.dock })) :=
  if_pos ⟨hatt, hdeb⟩

/-- An entry to OFF, FAULT or LOCKED is one to the state in which ATTACH_WAIT may be left. -/
theorem enterRest_leaves (new : MotorState) (s : State) : ∃ w, enterRest new s = leaveAttachWait w ∧ w.dock = s.dock
    ∧ w.drive.state = new ∧ besideMotor w = besideMotor s := by
  obtain ⟨w, hw⟩ : ∃ w, w = setActive false (deliver .motorSpeed noneMark (deliver .motorW noneMark
    { zeroSetPoint (changeState new s) with drive := { (zeroSetPoint (changeState new s)).drive with
      bridge := .off, iMotor := none, pMeas := none, speed := none } })) := ⟨_, rfl⟩
  refine ⟨w, hw ▸ rfl, ?_, ?_, ?_⟩
  · rw [hw, dock_of_besideTools (setActive_besideTools _ _), deliver_dock, deliver_dock]
    exact changeState_dock new s
  · rw [hw, drive_of_besideTools (setActive_besideTools _ _), deliver_drive, deliver_drive]
    change (changeState new s).drive.state = new
    rw [changeState_drive]
  · rw [hw]
    exact (setActive_besideMotor _ _).trans (changeState_besideMotor new s)

theorem reachOff_leaves (s : State) : ∃ w, (reachOff s).dock = (leaveAttachWait w).dock ∧ w.dock = s.dock
    ∧ w.drive.state = .off ∧ besideMotor w = besideMotor s := by
  obtain ⟨w, hrest, hdock, hoff, hbeside⟩ := enterRest_leaves .off s
  refine ⟨w, ?_, hdock, hoff, hbeside⟩
  rw [← hrest]
  unfold reachOff
  dsimp only
  split <;> rfl

theorem reachOff_event (s : State) : hasEvent .motorStopped (reachOff s) = true := by
  unfold reachOff
  dsimp only
  split
  · exact emit_keeps _ _ _ (hasEvent_raise _ _)
  · exact hasEvent_raise _ _

/-- A stop order in ARMING or ALIGN (R52): OFF, and ATTACH_WAIT may be left. -/
theorem stopOrder_of_still (c : StopCause) (h : s.drive.state = .arming ∨ s.drive.state = .align) :
    (stopOrder c s).drive = { s.drive.stopTimers with
        state := .off, stopCause := c, pset := 0, bridge := .off, iMotor := none, pMeas := none, speed := none }
      ∧ hasEvent .motorStopped (stopOrder c s) = true
      ∧ ∃ w, (stopOrder c s).dock = (leaveAttachWait w).dock ∧ w.dock = s.dock ∧ w.drive.state = .off
          ∧ besideMotor w = besideMotor s := by
  have hdrives : s.drive.state.drives = true := by rcases h with h | h <;> rw [h] <;> rfl
  obtain ⟨v, hv⟩ : ∃ v, v = zeroSetPoint (changeState .stopping { s with drive := { s.drive with stopCause := c } }) :=
    ⟨_, rfl⟩
  have hstop : stopOrder c s = reachOff v := by
    rw [stopOrder_of_drives c hdrives, hv]
    exact if_pos h
  have hbeside : besideMotor v = besideMotor s := by
    rw [hv]
    exact changeState_besideMotor .stopping { s with drive := { s.drive with stopCause := c } }
  have hdock : v.dock = s.dock := by
    rw [hv]
    exact changeState_dock .stopping { s with drive := { s.drive with stopCause := c } }
  obtain ⟨w, hleaves, hwdock, hoff, hw⟩ := reachOff_leaves v
  refine ⟨?_, ?_, w, ?_, hwdock.trans hdock, hoff, hw.trans hbeside⟩
  · rw [stopOrder_of_drives c hdrives, enterStopping_drive, if_pos h]
  · rw [hstop]
    exact reachOff_event v
  · rw [hstop, hleaves]

theorem leaveAttachWait_of_moving (h : s.drive.state.atRest = false) : leaveAttachWait s = s :=
  if_neg fun hc => by simp [h] at hc

/-- A dock that waits in ATTACH_WAIT waits on while the motor brakes. -/
theorem take_waits (g : Signal) (hd : resting s.drive) (hstate : s.dock.state = .attachWait) :
    (take g s).dock.state = .attachWait := by
  have hpause (on : Bool) (u : State) (hu : u.dock.state = .attachWait) : (pauseOrderChanged on u).dock.state = .attachWait := by
    have hsame : pauseOrderChanged on u = u := by
      cases on <;> simp [pauseOrderChanged, pausable, hu]
    rw [hsame, hu]
  cases g with
  | recompute =>
    have hhanded (b : Bool) (a : Arb) : (handTools (raiseIf b .allotStarved { s with arb := a })).dock = s.dock := by
      rw [dock_of_besideTools (handTools_besideTools _), raiseIf_dock]
    have hdrive (b : Bool) (a : Arb) : (handTools (raiseIf b .allotStarved { s with arb := a })).drive = s.drive := by
      rw [drive_of_besideTools (handTools_besideTools _), raiseIf_drive]
    have hgrant (n : Nat) (u : State) (hu : u.dock = s.dock) (hu' : u.drive = s.drive) :
        (grantArrives n u).dock.state = .attachWait := by
      unfold grantArrives
      dsimp only
      have hrest : u.drive.state.drives = false := hu' ▸ hd.1
      split <;> split
      · rename_i hc
        exact absurd hc.2 (by simp [hrest])
      · rw [limitSetPoint_dock]
        exact hu ▸ hstate
      · rename_i hc
        exact absurd hc.2 (by simp [hrest])
      · rw [limitSetPoint_dock]
        exact hu ▸ hstate
    change (recomputeNow s).dock.state = _
    unfold recomputeNow
    dsimp only
    split
    · rw [hhanded]
      exact hstate
    · exact hgrant _ _ (hhanded _ _) (hdrive _ _)
  | update q v =>
    have hwatch (u : State) (hu : u.dock.state = .attachWait) : (handWatch u).dock.state = .attachWait := by
      by_cases hsame : pauseOrdered u.watch.recs.toList = u.watch.pauseOrder
      · rw [handWatch_dock_of_same hsame]
        exact hu
      · obtain ⟨w, hw, -, hhanded⟩ := handWatch_dock_of_changed (s := u) rfl (Ne.symm hsame)
        rw [hhanded]
        exact hpause _ w (hw ▸ hu)
    change (watchUpdate q v s).dock.state = _
    unfold watchUpdate
    dsimp only
    refine hwatch _ ?_
    split
    · rw [stopOrder_of_rest (by rw [raiseIf_drive]; exact hd.1), raiseIf_dock]
      exact hstate
    · rw [raiseIf_dock]
      exact hstate
  | stop c =>
    change (stopOrder c s).dock.state = _
    rw [stopOrder_of_rest hd.1]
    exact hstate
  | cutoffStop =>
    change (cutoffStopNow s).dock.state = _
    unfold cutoffStopNow
    rw [if_neg (by simp [hd.1]), stopOrder_of_rest hd.1]
    exact hstate
  | startCheck =>
    change (repeatCheck s).dock.state = _
    unfold repeatCheck
    split
    · rename_i hp
      rw [startRefusal_of_not_off (hd.2 hp)]
      dsimp only
      rw [if_neg (by decide)]
      split <;> exact hstate
    · exact hstate

theorem drain_waits (n : Nat) (hd : resting s.drive) (hstate : s.dock.state = .attachWait) :
    (drain n s).dock.state = .attachWait := by
  induction n generalizing s with
  | zero => exact hstate
  | succ n ih =>
    unfold drain
    split
    · exact hstate
    · rename_i sig rest _
      have hrests : restsOn s.drive (take sig { s with signals := rest }).drive := take_restsOn sig hd
      exact ih (hrests.resting hd) (take_waits (s := { s with signals := rest }) sig hd hstate)

theorem conclude_waits (hd : resting s.drive) (hstate : s.dock.state = .attachWait) :
    (conclude s).dock.state = .attachWait := by
  rw [conclude, finish_dock]
  exact drain_waits 400 hd hstate

/-- The debounce complete in RUN or SPINUP (R51, R52). -/
theorem debounceDone_turning (level : CoarseClass) (hatt : s.dock.attach = .debouncing)
    (hdeb : s.dock.debounce.isSome = true) (hstate : s.dock.state = .attachWait)
    (h : s.drive.state = .run ∨ s.drive.state = .spinup) : let t := conclude (debounceDone level s)
    t.drive.state = .stopping ∧ t.drive.bridge = .braking ∧ t.drive.stopCause = .docked ∧ t.dock.state = .attachWait := by
  obtain ⟨v, hv⟩ : ∃ v, v = raise .dockAttach { s with dock := attachedDock level s.dock } := ⟨_, rfl⟩
  have hdrive : v.drive = s.drive := hv ▸ rfl
  have hstopped := stopOrder_of_turns (s := v) .docked (by rw [hdrive]; exact h)
  have hdrives : v.drive.state.drives = true := by rcases h with h | h <;> rw [hdrive, h] <;> rfl
  have hdone : debounceDone level s = stopOrder .docked v := by
    rw [debounceDone_eq level hatt hdeb, ← hv]
    exact leaveAttachWait_of_moving (by rw [hstopped]; rfl)
  have hdock : (stopOrder .docked v).dock.state = .attachWait := by
    rw [stopOrder_of_drives _ hdrives, enterStopping]
    dsimp only
    rw [if_neg (by rcases h with h | h <;> rw [hdrive, h] <;> decide)]
    change (changeState .stopping _).dock.state = _
    rw [changeState_dock, hv]
    exact hstate
  have hresting : resting (stopOrder .docked v).drive := by
    rw [hstopped]
    exact ⟨rfl, fun _ hoff => nomatch hoff⟩
  have hrests := conclude_restsOn hresting
  have hsettled := hrests.1
  rw [hstopped] at hsettled
  rw [hdone]
  exact ⟨(congrArg Drive.state hsettled :), (congrArg Drive.bridge hsettled :), (congrArg Drive.stopCause hsettled :),
    conclude_waits hresting hdock⟩

/-- The first state of R144 that applies. -/
def firstState (s : State) : ChargeState :=
  if s.dock.disabled then .disabled else if s.pack.overvolt then .fault else if s.watch.pauseOrder then .paused else .identify

theorem firstState_ne (s : State) : firstState s ≠ .attachWait := by
  unfold firstState
  repeat' split
  all_goals decide

/-- The debounce complete in ARMING or ALIGN (R52, R144). -/
theorem debounceDone_still (level : CoarseClass) (hatt : s.dock.attach = .debouncing)
    (hdeb : s.dock.debounce.isSome = true) (hstate : s.dock.state = .attachWait)
    (h : s.drive.state = .arming ∨ s.drive.state = .align) : let u := debounceDone level s
    u.drive.state = .off ∧ u.drive.bridge = .off ∧ u.drive.stopCause = .docked
      ∧ u.drive.startPending = s.drive.startPending ∧ hasEvent .motorStopped u = true
      ∧ u.dock.period = some 1000 ∧ u.dock.total = 0 ∧ u.dock.state = firstState s := by
  obtain ⟨v, hv⟩ : ∃ v, v = raise .dockAttach { s with dock := attachedDock level s.dock } := ⟨_, rfl⟩
  have hdrive : v.drive = s.drive := hv ▸ rfl
  obtain ⟨hstopped, hevent, w, hleaves, hwdock, hoff, hbeside⟩ :=
    stopOrder_of_still (s := v) .docked (by rw [hdrive]; exact h)
  have hpack : w.pack = s.pack := by
    have hsame : w.pack = v.pack := (congrArg State.pack hbeside :)
    rw [hsame, hv]
    rfl
  have hwatch : w.watch = s.watch := by
    have hsame : w.watch = v.watch := (congrArg State.watch hbeside :)
    rw [hsame, hv]
    rfl
  have hheld : w.dock = attachedDock level s.dock := by
    rw [hwdock, hv]
    rfl
  obtain ⟨hperiod, htotal, hfirst, -, -, -⟩ := leaveAttachWait_facts (s := w) (by rw [hheld]; exact hstate)
    (by rw [hheld]; rfl) (by rw [hoff]; rfl)
  have hfirst' : (leaveAttachWait w).dock.state = firstState s := by
    rw [hfirst, hheld, hpack, hwatch]
    rfl
  have hdone : debounceDone level s = stopOrder .docked v := by
    rw [debounceDone_eq level hatt hdeb, ← hv]
    exact leaveAttachWait_of_ne (by rw [hleaves, hfirst']; exact firstState_ne s)
  rw [hdone]
  dsimp only
  rw [hleaves, hstopped, hdrive]
  exact ⟨rfl, rfl, rfl, rfl, hevent, hperiod, htotal, hfirst'⟩

theorem debounceDone_stopped (level : CoarseClass) (hatt : s.dock.attach = .debouncing)
    (hdeb : s.dock.debounce.isSome = true) (h : s.drive.state.drives = false) : debounceDone level s
      = leaveAttachWait (raise .dockAttach { s with dock := attachedDock level s.dock }) := by
  rw [debounceDone_eq level hatt hdeb, stopOrder_of_rest (by exact h)]

theorem drives_of_rest {m : MotorState} (h : m.atRest = true) : m.drives = false := by
  cases m <;> simp_all [MotorState.atRest, MotorState.drives]

theorem attachment_of_lasting {d d' : Dock} {level : CoarseClass} (h : d'.lasting = (attachedDock level d).lasting) :
    d'.attach = .attached ∧ d'.debounce = none ∧ d'.coarse = some level :=
  ⟨(congrArg Dock.attach h :), (congrArg Dock.debounce h :), (congrArg Dock.coarse h :)⟩

/-- Settles O32: a rise and a fall by the debounce and the 10 ms, the detach by its parts, and the completed debounce by
the motor's state. -/
theorem chginAttachesAndDetaches : Obligations.ChginAttachesAndDetaches := by
  refine ⟨fun s => ⟨fun h hsig hstate => exec_chginRise_attaches h hsig hstate, fun h hstate hatt hdeb => ?_,
    fun h hstate hor => ?_, fun hs hstate => ?_, fun hs hstate => ?_⟩, fun s hs hsig hstate => ?_,
    fun level s hs hsig hstate hatt hdeb => ?_⟩
  · rw [exec_chginRise h, chginRose_of_active h, if_neg hstate, if_pos ⟨hatt, by simp [hdeb]⟩]
    rfl
  · have hno : ¬(s.dock.attach = .debouncing ∧ s.dock.debounce.isNone = true) := by
      rintro ⟨hatt, hdeb⟩
      rcases hor with h' | h'
      · exact h' hatt
      · rw [Option.isNone_iff_eq_none.mp hdeb] at h'
        exact nomatch h'
    rw [exec_chginRise h, chginRose_of_active h, if_neg hstate, if_neg hno]
    rfl
  · rw [exec_chginDrop hs]
    refine congrArg (fun u => Host.Outcome.next (conclude u)) ((if_neg hstate).trans ?_)
    cases s.dock.drop <;> rfl
  · have hfell : chginFell s = { s with pins := { s.pins with chgin := false } } := if_pos hstate
    rw [exec_chginDrop hs, hfell]
  · obtain ⟨v, hv⟩ : ∃ v, v = chginAt false s := ⟨_, rfl⟩
    have hvstate : v.dock.state ≠ .detached := hv ▸ hstate
    have hexec : exec .detach s = .next (conclude (detachNow v)) := hv ▸ event_of_powered detached s hs
    obtain ⟨hsignals, hdrive, hdirt, hpack, hauto, hended, hidle, hcharge, hraised, hnot⟩ := detachNow_facts hvstate
    have hquiet : (detachNow v).signals = [] := by
      rw [hsignals, hv]
      exact hsig
    have hevent (e : Event) : hasEvent e (conclude (detachNow v)) = hasEvent e (detachNow v) := by
      rw [conclude_of_no_signals hquiet, finish_event]
    have hdirt' : (conclude (detachNow v)).dirt = (detachNow v).dirt := by
      rw [conclude_of_no_signals hquiet, finish_dirt]
    have hdrive' : (conclude (detachNow v)).drive = (detachNow v).drive := by
      rw [conclude_of_no_signals hquiet, finish_drive]
    have hdock := detach_dock hvstate
    have hkept {α : Type} (f : Dock → α)
        (hf : ∀ (d : Dock) st sw i b, f { d with state := st, csw := sw, iChg := i, bleed := b } = f d) :
        f (v.dock.enter .detached) = f v.dock := Dock.enter_keeps f hf _ _
    refine ⟨_, hexec, ?_⟩
    rw [conclude_dock hquiet, hevent, hevent, conclude_evac, hevent, conclude_pack, hdirt', hdrive', hdock, hpack, hdirt,
      hdrive]
    refine ⟨Dock.enter_state _ _, rfl, rfl, rfl, rfl, rfl, rfl, rfl, rfl, rfl, rfl, rfl, rfl, rfl, rfl, rfl, rfl, rfl,
      ?_, ?_, ?_, hcharge, ?_, ?_, hauto, ?_, ?_, ?_⟩
    · exact (hkept Dock.disabled fun _ _ _ _ _ => rfl).trans (by rw [hv]; rfl)
    · exact (hkept Dock.lastFault fun _ _ _ _ _ => rfl).trans (by rw [hv]; rfl)
    · exact (hkept Dock.iMax fun _ _ _ _ _ => rfl).trans (by rw [hv]; rfl)
    · rw [hv] at hraised ⊢
      exact hraised
    · rw [hv] at hnot ⊢
      exact hnot
    · rw [hv] at hended ⊢
      exact hended
    · rw [hv] at hidle ⊢
      exact hidle
    · rw [hv]
      exact ⟨rfl, rfl, rfl⟩
  · have hexec := event_of_powered (debounceDone level) s hs
    obtain ⟨v, hv⟩ : ∃ v, v = raise .dockAttach { s with dock := attachedDock level s.dock } := ⟨_, rfl⟩
    have hlasting : (conclude (debounceDone level s)).dock.lasting = (attachedDock level s.dock).lasting := by
      rw [conclude_dock_lasting, debounceDone_eq level hatt hdeb, leaveAttachWait_dock_lasting, stopOrder_dock_lasting]
      rfl
    have hevent : hasEvent .dockAttach (conclude (debounceDone level s)) = true := by
      rw [debounceDone_eq level hatt hdeb]
      exact conclude_keeps _ _ (leaveAttachWait_keeps _ _ (stopOrder_keeps _ _ _ (hasEvent_raise _ _)))
    obtain ⟨hattached, hdone, hlevel⟩ := attachment_of_lasting hlasting
    refine ⟨_, hexec, hattached, hdone, hlevel, hevent, fun h => debounceDone_turning level hatt hdeb hstate h, fun h =>
      ⟨rfl, debounceDone_still level hatt hdeb hstate h⟩, fun h => ?_, fun h => ?_⟩
    · have hstopped := debounceDone_stopped level hatt hdeb (by rw [h]; rfl)
      rw [← hv, leaveAttachWait_of_moving (by rw [hv]; change s.drive.state.atRest = _; rw [h]; rfl)] at hstopped
      have hquiet : v.signals = [] := hv ▸ hsig
      rw [hstopped, conclude_dock hquiet, conclude_of_no_signals hquiet, finish_drive, hv]
      exact ⟨rfl, hstate⟩
    · have hstopped := debounceDone_stopped level hatt hdeb (drives_of_rest h)
      have hfacts := leaveAttachWait_facts (s := v) (hv ▸ hstate) (hv ▸ rfl) (hv ▸ h)
      have hbeside : besideDock (leaveAttachWait v) = besideDock v := leaveAttachWait_besideDock v
      have hquiet : (leaveAttachWait v).signals = [] := (signals_of_besideDock hbeside).trans (hv ▸ hsig)
      have hdrive : (leaveAttachWait v).drive = s.drive := by
        have hsame : (leaveAttachWait v).drive = v.drive := (congrArg State.drive hbeside :)
        rw [hsame, hv]
        rfl
      obtain ⟨hperiod, htotal, hfirst, hfault, hpause, hhello⟩ := hfacts
      rw [← hv] at hstopped
      rw [hstopped, conclude_dock hquiet, hasEvent, conclude_of_no_signals hquiet, finish_drive]
      refine ⟨hdrive, hperiod, htotal, ?_, fun hf => ?_, hpause, ?_⟩
      · rw [hfirst, hv]
        rfl
      · exact ⟨(hfault hf).1, (finish_event _ _).trans (hfault hf).2⟩
      · rw [hv] at hhello ⊢
        exact hhello

end Sys2Proof.Machine
end

section
namespace Sys2Proof.Machine

variable {s t u : State}

/-! ## The start check (R43, R44) -/

theorem startRefusal_of_mayStart (h : mayStart s) : startRefusal s = .none := by
  obtain ⟨hoff, hready, hdock, hwatch, hpos, hfloor⟩ := h
  unfold startRefusal
  rw [if_neg (by simp [hoff]), if_neg (by simp [hready]), if_neg (by simp [hdock]), if_neg (by simp [hwatch]),
    if_neg (by omega)]

theorem startRefusal_of_refused {c : StartRefusal} (h : refusedFor s c) : startRefusal s = c ∧ c ≠ .none := by
  unfold startRefusal
  rcases h with ⟨hoff, rfl⟩ | ⟨hoff, hready, rfl⟩ | ⟨hoff, hready, hdock, rfl⟩ | ⟨hoff, hready, hdock, hwatch, rfl⟩
    | ⟨hoff, hready, hdock, hwatch, hgrant, rfl⟩
  · rw [if_pos hoff]
    exact ⟨rfl, by decide⟩
  · rw [if_neg (by simp [hoff]), if_pos (by simp [hready])]
    exact ⟨rfl, by decide⟩
  · rw [if_neg (by simp [hoff]), if_neg (by simp [hready]), if_pos hdock]
    exact ⟨rfl, by decide⟩
  · rw [if_neg (by simp [hoff]), if_neg (by simp [hready]), if_neg (by simp [hdock]), if_pos hwatch]
    exact ⟨rfl, by decide⟩
  · rw [if_neg (by simp [hoff]), if_neg (by simp [hready]), if_neg (by simp [hdock]), if_neg (by simp [hwatch]),
      if_pos hgrant]
    exact ⟨rfl, by decide⟩

theorem staysPending_eq (c : StartRefusal) (s : State) : staysPending c s.drive = decide (leavesPending s c) := by
  rw [Bool.eq_iff_iff, decide_eq_true_iff]
  simp [staysPending, leavesPending, and_assoc]

theorem changeState_of_not_run (new : MotorState) (h : s.drive.state ≠ .run) :
    changeState new s = { s with drive := { s.drive.stopTimers with state := new } } := if_neg h

/-- Entry to ARMING from OFF (R45). -/
theorem enterArming_of_off (h : s.drive.state = .off) :
    enterArming s = setActive true { s with drive := armed s.drive } := by
  have hstate : ({ s with drive := { s.drive with startPending := false } } : State).drive.state ≠ .run := by
    simp [h]
  unfold enterArming
  rw [changeState_of_not_run _ hstate]
  rfl

theorem press_of_mayStart (h : mayStart s) : press s = setActive true { s with drive := armed s.drive } := by
  have hpress : press s = enterArming s := if_pos (startRefusal_of_mayStart h)
  obtain ⟨hoff, -⟩ := h
  rw [hpress, enterArming_of_off hoff]

theorem press_of_refused {c : StartRefusal} (h : refusedFor s c) : press s = { s with drive := { s.drive with
    refused := c, startPending := decide (leavesPending s c) } } := by
  obtain ⟨hc, hne⟩ := startRefusal_of_refused h
  unfold press
  rw [hc]
  dsimp only
  rw [if_neg hne, staysPending_eq]

theorem repeatCheck_of_idle (h : s.drive.startPending = false) : repeatCheck s = s :=
  if_neg (by simp [h])

theorem repeatCheck_of_mayStart (hp : s.drive.startPending = true) (h : mayStart s) :
    repeatCheck s = setActive true { s with drive := armed s.drive } := by
  have hcheck : repeatCheck s = enterArming s := (if_pos hp).trans (if_pos (startRefusal_of_mayStart h))
  obtain ⟨hoff, -⟩ := h
  rw [hcheck, enterArming_of_off hoff]

theorem repeatCheck_of_refused {c : StartRefusal} (hp : s.drive.startPending = true) (h : refusedFor s c) :
    repeatCheck s = if leavesPending s c then s else { s with drive := { s.drive with
      refused := c, startPending := false } } := by
  obtain ⟨hc, hne⟩ := startRefusal_of_refused h
  unfold repeatCheck
  rw [if_pos hp, hc]
  dsimp only
  rw [if_neg hne, staysPending_eq]
  exact if_congr decide_eq_true_iff rfl rfl

/-! ## A level that settles (R42) -/

theorem wakeForPress_of_active (h : s.pack.power = .active) : wakeForPress s = s := by
  unfold wakeForPress
  rw [wake_of_active s h, ite_self]

/-- The debounce timer ended, with the level it settled. -/
def settledTrigger (s : State) : State :=
  { s with drive := { s.drive with debounce := none, settlingIn := false, trig := s.pins.trig } }

theorem triggerSettled_of_active (h : s.pack.power = .active) (hd : s.drive.debounce.isSome = true) : triggerSettled s
    = if s.drive.settlingIn = true ∨ s.pins.trig = s.drive.trig then settledTrigger s
      else if s.pins.trig then press (settledTrigger s) else releaseTrigger (settledTrigger s) := by
  unfold triggerSettled
  rw [if_pos hd, wakeForPress_of_active h]
  rfl

theorem exec_debounceExpiry (h : s.pack.power = .active) :
    exec .triggerDebounceExpiry s = .next (conclude (triggerSettled s)) :=
  event_of_powered triggerSettled s (powered_of_active h)

theorem exec_settledPress (h : s.pack.power = .active) (hd : s.drive.debounce.isSome = true)
    (hfirst : s.drive.settlingIn = false) (hpin : s.pins.trig = true) (htrig : s.drive.trig = false) :
    exec .triggerDebounceExpiry s = .next (conclude (press (settledTrigger s))) := by
  rw [exec_debounceExpiry h, triggerSettled_of_active h hd, if_neg (by simp [hfirst, hpin, htrig]), if_pos hpin]

theorem settledTrigger_pressed (hpin : s.pins.trig = true) : settledTrigger s = { s with drive := { s.drive with
    debounce := none, settlingIn := false, trig := true } } := by
  rw [settledTrigger, hpin]

/-- Settles O17: the start check by the first condition that fails, as a press and as the repeated check take it. -/
theorem aPressStartsTheMotorOrIsRefused : Obligations.APressStartsTheMotorOrIsRefused := by
  refine ⟨fun b s h => ⟨fun hne => ?_, fun heq => ?_⟩, fun s h hd hfirst hpin htrig => ⟨fun hstart => ?_, fun c hc => ?_⟩,
    fun s h hd hor => ?_, fun s n rest => ⟨rfl, repeatCheck_of_idle, fun hp => ⟨repeatCheck_of_mayStart hp, fun c hc =>
      ⟨fun hleaves => ?_, fun hleaves => ?_⟩⟩⟩⟩
  · have hwake : wake { s with pins := { s.pins with trig := b } } = { s with pins := { s.pins with trig := b } } :=
      wake_of_active _ h
    have hchanged : trigChanged b s = { s with
        pins := { s.pins with trig := b }, drive := { s.drive with debounce := some 20 } } := by
      unfold trigChanged
      rw [if_neg hne, hwake]
    exact (if_neg (by simp [h])).trans ((event_of_powered _ s (powered_of_active h)).trans (by rw [hchanged]))
  · have hsame : trigChanged b s = s := if_pos heq
    exact (if_neg (by simp [h])).trans ((event_of_powered _ s (powered_of_active h)).trans (by rw [hsame]))
  · rw [exec_settledPress h hd hfirst hpin htrig, settledTrigger_pressed hpin, press_of_mayStart (by exact hstart)]
    rfl
  · rw [exec_settledPress h hd hfirst hpin htrig, settledTrigger_pressed hpin, press_of_refused (by exact hc)]
  · rw [exec_debounceExpiry h, triggerSettled_of_active h hd, if_pos hor]
    rfl
  · rw [repeatCheck_of_refused hp hc, if_pos hleaves]
  · rw [repeatCheck_of_refused hp hc, if_neg hleaves]

end Sys2Proof.Machine
end

section
namespace Sys2Proof.Machine

variable {s t u : State}

/-! ## What the hand-overs leave while the motor rests -/

/-- The mode stack, the dirt record, the load record but for its counts, the set point at the drive, and what of the
governor follows no grant. -/
def restFrame (s : State) : List StackEntry × Dirt × LoadMon × Nat :=
  (s.gov.stack, s.dirt, { s.load with rise := 0, block := 0, release := 0 }, s.drive.pset)

theorem restFrame_stack (h : restFrame t = restFrame s) : t.gov.stack = s.gov.stack := congrArg (·.1) h
theorem restFrame_dirt (h : restFrame t = restFrame s) : t.dirt = s.dirt := congrArg (·.2.1) h
theorem restFrame_pset (h : restFrame t = restFrame s) : t.drive.pset = s.drive.pset := congrArg (·.2.2.2) h
theorem restFrame_load (h : restFrame t = restFrame s) : ({ t.load with rise := 0, block := 0, release := 0 } : LoadMon)
    = { s.load with rise := 0, block := 0, release := 0 } := congrArg (·.2.2.1) h

theorem restFrame_of_besideTools (h : besideTools t = besideTools s) : restFrame t = restFrame s :=
  (congrArg restFrame h :)

theorem restFrame_of_besideDock (h : besideDock t = besideDock s) : restFrame t = restFrame s :=
  (congrArg restFrame h :)

theorem tracking_of_rest (h : s.drive.state.drives = false) : tracking s = false := by
  unfold tracking
  revert h
  cases s.drive.state <;> decide

theorem limitSetPoint_of_rest (h : s.drive.state.drives = false) : limitSetPoint s
    = { formCeiling s with drive := { (formCeiling s).drive with ceiling := (formCeiling s).gov.ceiling } } :=
  if_neg (by simp [tracking_of_rest h])

theorem limitSetPoint_restFrame (h : s.drive.state.drives = false) : restFrame (limitSetPoint s) = restFrame s := by
  rw [limitSetPoint_of_rest h]
  rfl

theorem handWatch_restFrame (h : s.drive.state.drives = false) : restFrame (handWatch s) = restFrame s := by
  obtain ⟨v, w, hv, hw, hhanded⟩ := handWatch_eq s
  have hlimited : restFrame w = restFrame s := by
    rw [hw, hv]
    split
    · rfl
    · exact limitSetPoint_restFrame h
  rw [hhanded]
  split
  · exact hlimited
  · exact (restFrame_of_besideDock (pauseOrderChanged_besideDock _ w)).trans hlimited

theorem raiseIf_restFrame (c : Bool) (e : Event) (s : State) : restFrame (raiseIf c e s) = restFrame s := by
  unfold raiseIf
  split <;> rfl

theorem grantArrives_restFrame (g : Nat) (h : s.drive.state.drives = false) :
    restFrame (grantArrives g s) = restFrame s := by
  unfold grantArrives
  dsimp only
  split <;> split
  · rename_i hc
    exact absurd hc.2 (by simp [h])
  · exact limitSetPoint_restFrame h
  · rename_i hc
    exact absurd hc.2 (by simp [h])
  · exact limitSetPoint_restFrame h

theorem take_restFrame (g : Signal) (h : resting s.drive) : restFrame (take g s) = restFrame s := by
  cases g with
  | recompute =>
    have hhanded (b : Bool) (a : Arb) : restFrame (handTools (raiseIf b .allotStarved { s with arb := a })) = restFrame s :=
      (restFrame_of_besideTools (handTools_besideTools _)).trans (raiseIf_restFrame _ _ _)
    have hdrive (b : Bool) (a : Arb) : (handTools (raiseIf b .allotStarved { s with arb := a })).drive = s.drive := by
      rw [drive_of_besideTools (handTools_besideTools _), raiseIf_drive]
    have hgrant (n : Nat) (u : State) (hu : restFrame u = restFrame s) (hu' : u.drive = s.drive) :
        restFrame (if n = u.gov.grant then u else grantArrives n u) = restFrame s := by
      split
      · exact hu
      · exact (grantArrives_restFrame n (hu' ▸ h.1)).trans hu
    exact hgrant _ _ (hhanded _ _) (hdrive _ _)
  | update q v =>
    change restFrame (watchUpdate q v s) = _
    unfold watchUpdate
    dsimp only
    split
    · rw [stopOrder_of_rest (by rw [raiseIf_drive]; exact h.1)]
      exact (handWatch_restFrame (by rw [raiseIf_drive]; exact h.1)).trans (raiseIf_restFrame _ _ _)
    · exact (handWatch_restFrame (by rw [raiseIf_drive]; exact h.1)).trans (raiseIf_restFrame _ _ _)
  | stop c =>
    change restFrame (stopOrder c s) = _
    rw [stopOrder_of_rest h.1]
  | cutoffStop =>
    change restFrame (cutoffStopNow s) = _
    unfold cutoffStopNow
    rw [if_neg (by simp [h.1]), stopOrder_of_rest h.1]
  | startCheck =>
    change restFrame (repeatCheck s) = _
    unfold repeatCheck
    split
    · rename_i hp
      rw [startRefusal_of_not_off (h.2 hp)]
      dsimp only
      rw [if_neg (by decide)]
      split <;> rfl
    · rfl

theorem drain_restFrame (n : Nat) (h : resting s.drive) : restFrame (drain n s) = restFrame s := by
  induction n generalizing s with
  | zero => rfl
  | succ n ih =>
    unfold drain
    split
    · rfl
    · rename_i sig rest _
      have htaken : restFrame (take sig { s with signals := rest }) = restFrame s :=
        take_restFrame (s := { s with signals := rest }) sig h
      have hrests : restsOn s.drive (take sig { s with signals := rest }).drive := take_restsOn sig h
      exact (ih (hrests.resting h)).trans htaken

theorem conclude_restFrame (h : resting s.drive) : restFrame (conclude s) = restFrame s := by
  have hfinish (u : State) : restFrame (finish u) = restFrame u := by
    simp only [restFrame, finish_gov, finish_dirt, finish_load, finish_drive]
  rw [conclude, hfinish]
  exact drain_restFrame 400 h

/-- What stands of the drive after the hand-overs of an event that leaves the motor at rest. -/
theorem conclude_rest (h : resting s.drive) : let t := conclude s
    t.drive.state = s.drive.state ∧ t.drive.bridge = s.drive.bridge ∧ t.drive.stopCause = s.drive.stopCause
      ∧ t.drive.trig = s.drive.trig ∧ (s.drive.startPending = false → t.drive.startPending = false)
      ∧ t.drive.faultTimer = s.drive.faultTimer ∧ t.drive.coastTimer = s.drive.coastTimer
      ∧ t.drive.trips = s.drive.trips ∧ t.drive.tripCause = s.drive.tripCause
      ∧ t.drive.tripCount = s.drive.tripCount := by
  obtain ⟨hsettled, hpending⟩ := conclude_restsOn h
  refine ⟨(congrArg Drive.state hsettled :), (congrArg Drive.bridge hsettled :), (congrArg Drive.stopCause hsettled :),
    (congrArg Drive.trig hsettled :), fun hp => ?_, (congrArg Drive.faultTimer hsettled :),
    (congrArg Drive.coastTimer hsettled :), (congrArg Drive.trips hsettled :), (congrArg Drive.tripCause hsettled :),
    (congrArg Drive.tripCount hsettled :)⟩
  exact Bool.eq_false_iff.mpr fun ht => Bool.eq_false_iff.mp hp (hpending ht)

/-! ## A release (R50, R55, R71) -/

/-- The stack collapsed, and nothing else of the drive and the dirt record. -/
theorem collapseStack_facts (s : State) : (collapseStack s).gov.stack = s.gov.stack.take 1
    ∧ (collapseStack s).drive = s.drive ∧ (collapseStack s).load.phase = .none ∧ (collapseStack s).dirt = s.dirt := by
  obtain ⟨l, hl⟩ := setStack_writes (s.gov.stack.take 1) s
  unfold collapseStack
  dsimp only
  rw [hl]
  exact ⟨rfl, rfl, rfl, rfl⟩

/-- The state of a release before the motor's own part (R50, R71). -/
def released (s : State) : State :=
  collapseStack { s with drive := { s.drive with startPending := false } }

theorem released_facts (s : State) : (released s).gov.stack = s.gov.stack.take 1
    ∧ (released s).drive = { s.drive with startPending := false } ∧ (released s).load.phase = .none :=
  let ⟨hstack, hdrive, hphase, _⟩ := collapseStack_facts { s with drive := { s.drive with startPending := false } }
  ⟨hstack, hdrive, hphase⟩

theorem releaseTrigger_eq (s : State) : releaseTrigger s = match s.drive.state with
    | .off | .stopping | .locked => released s
    | .arming | .align | .spinup => abortStart (released s)
    | .run => enterStopping .trigger (released s)
    | .fault => if s.drive.faultTimer.isNone then leaveFault (released s) else released s := by
  obtain ⟨-, hdrive, -⟩ := released_facts s
  have hstate : (released s).drive.state = s.drive.state := by rw [hdrive]
  have htimer : (released s).drive.faultTimer = s.drive.faultTimer := by rw [hdrive]
  unfold releaseTrigger
  dsimp only
  rw [← released.eq_def, hstate, htimer] <;> cases s.drive.state <;> rfl

theorem releaseTrigger_of_stopped (h : s.drive.state = .off ∨ s.drive.state = .stopping ∨ s.drive.state = .locked) :
    releaseTrigger s = released s := by
  rw [releaseTrigger_eq]
  rcases h with h | h | h <;> rw [h]

theorem releaseTrigger_of_starting (h : s.drive.state = .arming ∨ s.drive.state = .align ∨ s.drive.state = .spinup) :
    releaseTrigger s = abortStart (released s) := by
  rw [releaseTrigger_eq]
  rcases h with h | h | h <;> rw [h]

theorem releaseTrigger_of_run (h : s.drive.state = .run) : releaseTrigger s = enterStopping .trigger (released s) := by
  rw [releaseTrigger_eq, h]

theorem releaseTrigger_of_fault (h : s.drive.state = .fault) : releaseTrigger s
    = if s.drive.faultTimer.isNone then leaveFault (released s) else released s := by
  rw [releaseTrigger_eq, h]

/-- A motor state by what a release does in it. -/
theorem state_by_release (m : MotorState) : (m = .off ∨ m = .stopping ∨ m = .locked)
    ∨ (m = .arming ∨ m = .align ∨ m = .spinup) ∨ m = .run ∨ m = .fault := by
  cases m <;> decide

/-- The stack through an entry to a resting state from a state other than RUN. -/
theorem enterRest_stack (new : MotorState) (h : s.drive.state ≠ .run) : (enterRest new s).gov.stack = s.gov.stack := by
  unfold enterRest
  rw [changeState_of_not_run new h]
  obtain ⟨v, hv⟩ : ∃ v, v = setActive false (deliver .motorSpeed noneMark (deliver .motorW noneMark
    { zeroSetPoint { s with drive := { s.drive.stopTimers with state := new } } with
      drive := { (zeroSetPoint { s with drive := { s.drive.stopTimers with state := new } }).drive with
        bridge := .off, iMotor := none, pMeas := none, speed := none } })) := ⟨_, rfl⟩
  have hstack : v.gov.stack = s.gov.stack := by
    have hbeside := hv ▸ setActive_besideTools false (deliver .motorSpeed noneMark (deliver .motorW noneMark
      { zeroSetPoint { s with drive := { s.drive.stopTimers with state := new } } with
        drive := { (zeroSetPoint { s with drive := { s.drive.stopTimers with state := new } }).drive with
          bridge := .off, iMotor := none, pMeas := none, speed := none } }))
    exact (congrArg (fun w : State => w.gov.stack) hbeside :)
  have hleft : (leaveAttachWait v).gov.stack = v.gov.stack :=
    (congrArg (fun w : State => w.gov.stack) (leaveAttachWait_besideDock v) :)
  rw [hv] at hleft hstack
  exact hleft.trans hstack

theorem loadRest_stack (h : s.load.phase ≠ .pulse) : (loadRest s).gov.stack = s.gov.stack := by
  unfold loadRest
  dsimp only
  rw [if_neg (fun hc => h hc.1)]

theorem dirtRunExit_facts (s : State) : (dirtRunExit s).gov = s.gov ∧ (dirtRunExit s).dirt.level = 0
    ∧ (dirtRunExit s).dirt.window = none ∧ (dirtRunExit s).load = s.load := by
  unfold dirtRunExit zeroLevel
  dsimp only
  rw [deliver_gov, deliver_dirt, deliver_load, raiseIf_gov, raiseIf_dirt, raiseIf_load]
  exact ⟨rfl, rfl, rfl, rfl⟩

/-- Leaving RUN for STOPPING (R51, R90, R95). -/
theorem enterStopping_of_run (c : StopCause) (h : s.drive.state = .run) : enterStopping c s = { zeroSetPoint (leaveRun
    { s with drive := { s.drive.stopTimers with stopCause := c, state := .stopping } }) with
      drive := { (zeroSetPoint (leaveRun
        { s with drive := { s.drive.stopTimers with stopCause := c, state := .stopping } })).drive with
          bridge := .braking } } := by
  have hchange : changeState .stopping { s with drive := { s.drive with stopCause := c } } = leaveRun
      { s with drive := { s.drive.stopTimers with stopCause := c, state := .stopping } } := if_pos h
  unfold enterStopping
  dsimp only
  rw [if_neg (by rw [h]; decide), hchange]

theorem enterStopping_of_run_facts (c : StopCause) (h : s.drive.state = .run) :
    (enterStopping c s).dirt.level = 0 ∧ (enterStopping c s).dirt.window = none
      ∧ (s.load.phase ≠ .pulse → (enterStopping c s).gov.stack = s.gov.stack) := by
  obtain ⟨v, hv⟩ : ∃ v, v = loadRest
    { s with drive := { s.drive.stopTimers with stopCause := c, state := .stopping } } := ⟨_, rfl⟩
  have hleave : leaveRun { s with drive := { s.drive.stopTimers with stopCause := c, state := .stopping } }
      = dirtRunExit v := hv ▸ rfl
  obtain ⟨hgov, hlevel, hwindow, -⟩ := dirtRunExit_facts v
  rw [enterStopping_of_run c h, hleave]
  refine ⟨hlevel, hwindow, fun hphase => ?_⟩
  change (dirtRunExit v).gov.stack = _
  rw [hgov, hv]
  exact loadRest_stack hphase

/-- What a release leads to before the hand-overs are taken, by the motor's state. -/
theorem releaseTrigger_facts (hfree : s.drive.trig = false) : let u := releaseTrigger s
    u.gov.stack = s.gov.stack.take 1 ∧ resting u.drive ∧ u.drive.startPending = false ∧ u.drive.trig = false
      ∧ (s.drive.state = .off ∨ s.drive.state = .stopping ∨ s.drive.state = .locked →
          u.drive.state = s.drive.state ∧ u.drive.stopCause = s.drive.stopCause)
      ∧ (s.drive.state = .arming ∨ s.drive.state = .align ∨ s.drive.state = .spinup →
          u.drive.state = .off ∧ u.drive.bridge = .off ∧ u.drive.stopCause = .trigger
            ∧ hasEvent .motorStopped u = true)
      ∧ (s.drive.state = .run → u.drive.state = .stopping ∧ u.drive.bridge = .braking
          ∧ u.drive.stopCause = .trigger ∧ u.drive.pset = 0 ∧ u.dirt.level = 0 ∧ u.dirt.window = none)
      ∧ (s.drive.state = .fault → u.drive.state = if s.drive.faultTimer = none then .off else .fault) := by
  obtain ⟨hstack, hdrive, hphase⟩ := released_facts s
  have hstays (hst : s.drive.state = .off ∨ s.drive.state = .stopping ∨ s.drive.state = .locked
      ∨ s.drive.state = .fault) : resting (released s).drive := by
    rw [hdrive]
    refine ⟨?_, nofun⟩
    rcases hst with h | h | h | h <;> simp [h, MotorState.drives]
  dsimp only
  rcases state_by_release s.drive.state with hst | hst | hst | hst
  · have hrest := hstays (by rcases hst with h | h | h <;> simp [h])
    rw [releaseTrigger_of_stopped hst, hdrive]
    refine ⟨hstack, hdrive ▸ hrest, rfl, hfree, fun _ => ⟨rfl, rfl⟩, ?_, ?_, ?_⟩ <;> rcases hst with h | h | h <;> simp [h]
  · have hne : ({ released s with drive := { (released s).drive with stopCause := .trigger } } : State).drive.state
        ≠ .run := by
      rw [hdrive]
      rcases hst with h | h | h <;> simp [h]
    have hdrive' : (abortStart (released s)).drive = { s.drive.stopTimers with
        state := .off, stopCause := .trigger, startPending := false, pset := 0, bridge := .off, iMotor := none
        pMeas := none, speed := none } := by
      refine (enterRest_drive .off _).trans ?_
      rw [hdrive]
      rfl
    rw [releaseTrigger_of_starting hst, hdrive']
    refine ⟨(enterRest_stack .off hne).trans hstack, ⟨rfl, nofun⟩, rfl, hfree, ?_, fun _ =>
      ⟨rfl, rfl, rfl, hasEvent_raise _ _⟩, ?_, ?_⟩ <;> rcases hst with h | h | h <;> simp [h]
  · have hrun : (released s).drive.state = .run := by rw [hdrive]; exact hst
    have hstop := enterStopping_drive .trigger (released s)
    rw [if_neg (by rw [hrun]; decide)] at hstop
    obtain ⟨hlevel, hwindow, hkept⟩ := enterStopping_of_run_facts .trigger hrun
    rw [releaseTrigger_of_run hst, hstop]
    refine ⟨(hkept (by rw [hphase]; decide)).trans hstack, ⟨rfl, fun _ h => nomatch h⟩, ?_, ?_, by simp [hst], by simp [hst],
      fun _ => ⟨rfl, rfl, rfl, rfl, hlevel, hwindow⟩, by simp [hst]⟩
    · rw [hdrive]
      rfl
    · rw [hdrive]
      exact hfree
  · rw [releaseTrigger_of_fault hst]
    by_cases hnone : s.drive.faultTimer = none
    · have hoff := enterRest_drive .off (released s)
      have hstack' : (leaveFault (released s)).gov.stack = _ :=
        (enterRest_stack .off (s := released s) (by rw [hdrive]; simp [hst])).trans hstack
      rw [if_pos (by simp [hnone]), if_pos hnone]
      refine ⟨hstack', ?_, ?_, ?_, by simp [hst], by simp [hst], by simp [hst], fun _ => ?_⟩ <;> rw [leaveFault, hoff]
      · exact ⟨rfl, by rw [hdrive]; nofun⟩
      · rw [hdrive]
        rfl
      · rw [hdrive]
        exact hfree
    · rw [if_neg (by simp [hnone]), hdrive, if_neg hnone]
      exact ⟨hstack, hdrive ▸ hstays (by simp [hst]), rfl, hfree, by simp [hst], by simp [hst], by simp [hst], fun _ => hst⟩

theorem triggerSettled_released (hd : s.drive.debounce.isSome = true) (hfirst : s.drive.settlingIn = false)
    (hpin : s.pins.trig = false) (htrig : s.drive.trig = true) :
    triggerSettled s = releaseTrigger (settledTrigger s) := by
  have hwake : wakeForPress s = s := if_neg (by simp [hpin])
  have hsettled : triggerSettled s = if s.drive.settlingIn = true ∨ s.pins.trig = s.drive.trig then settledTrigger s
      else if s.pins.trig then press (settledTrigger s) else releaseTrigger (settledTrigger s) := by
    unfold triggerSettled
    rw [if_pos hd, hwake]
    rfl
  rw [hsettled, if_neg (by simp [hfirst, hpin, htrig]), if_neg (by simp [hpin])]

/-- Settles O18: the release leaves the motor at rest or braking, and the hand-overs leave what it wrote. -/
theorem aReleaseActsByState : Obligations.AReleaseActsByState := by
  intro s hs hsig hd hfirst hpin htrig
  obtain ⟨u, hu⟩ : ∃ u, u = releaseTrigger (settledTrigger s) := ⟨_, rfl⟩
  have hexec := event_of_powered triggerSettled s hs
  rw [triggerSettled_released hd hfirst hpin htrig, ← hu] at hexec
  obtain ⟨hstack, hrest, hpending, hfree, hstays, haborts, hstops, hfault⟩ :=
    releaseTrigger_facts (s := settledTrigger s) hpin
  rw [← hu] at hstack hrest hpending hfree hstays haborts hstops hfault
  obtain ⟨hstate, hbridge, hcause, htrig', hpending', -, -, -, -, -⟩ := conclude_rest hrest
  have hframe := conclude_restFrame hrest
  refine ⟨_, hexec, htrig'.trans hfree, hpending' hpending, (restFrame_stack hframe).trans hstack, fun h => ?_,
    fun h => ?_, fun h => ?_, fun h => ?_⟩
  · obtain ⟨hsame, hkept⟩ := hstays h
    exact ⟨hstate.trans hsame, hcause.trans hkept⟩
  · obtain ⟨hoff, hopen, hstop, hevent⟩ := haborts h
    exact ⟨hstate.trans hoff, hbridge.trans hopen, hcause.trans hstop, conclude_keeps _ _ hevent⟩
  · obtain ⟨hstopping, hbraking, hstop, hzero, hlevel, hwindow⟩ := hstops h
    rw [restFrame_dirt hframe, restFrame_pset hframe]
    exact ⟨hstate.trans hstopping, hbridge.trans hbraking, hcause.trans hstop, hzero, hlevel, hwindow⟩
  · exact hstate.trans (hfault h)

end Sys2Proof.Machine
end

section
namespace Sys2Proof.Machine

variable {s t u : State}

/-! ## From ARMING to RUN (R45 to R48) -/

theorem enterAlign_of_arming (h : s.drive.state = .arming) : enterAlign s = { s with drive := { s.drive.stopTimers with
    state := .align, bridge := .driving, alignTimer := some 30 } } := by
  unfold enterAlign
  rw [changeState_of_not_run _ (by simp [h])]

theorem enterSpinup_of_align (h : s.drive.state = .align) : enterSpinup s = { s with
    drive := { s.drive.stopTimers with
      state := .spinup, bridge := .driving, spinTimer := some 400, rampTimer := some 10
      rampRate := 30, driven := 0, drivenMs := 0, crossings := 0 }
    dirt := { s.dirt with echo := some 2, pulses := s.dirt.pulses + 1 } } := by
  unfold enterSpinup
  rw [changeState_of_not_run _ (by simp [h])]
  rfl

theorem enterRun_of_spinup (h : s.drive.state = .spinup) : enterRun s = raise .motorStarted { s with
    drive := { s.drive.stopTimers with state := .run }
    dirt := { s.dirt with window := some ⟨100, 0, 0⟩ } } := by
  unfold enterRun
  rw [changeState_of_not_run _ (by simp [h])]
  rfl

theorem lockReached_iff (d : Drive) : lockReached d = true ↔ 24 ≤ d.crossings ∧ 300 ≤ d.rampRate := by
  simp [lockReached]

theorem runIfLocked_of_not (h : ¬(24 ≤ s.drive.crossings ∧ 300 ≤ s.drive.rampRate)) : runIfLocked s = s :=
  if_neg (by rw [lockReached_iff]; exact h)

/-- Lock in SPINUP enters RUN (R47). -/
theorem runIfLocked_runs (h : s.drive.state = .spinup) (hlock : 24 ≤ s.drive.crossings ∧ 300 ≤ s.drive.rampRate) :
    hasEvent .motorStarted (conclude (runIfLocked s)) = true
      ∧ (conclude (runIfLocked s)).drive.rampRate = s.drive.rampRate
      ∧ (s.signals = [] → (conclude (runIfLocked s)).drive.state = .run) := by
  have hrun : runIfLocked s = enterRun s := if_pos ((lockReached_iff _).mpr hlock)
  rw [hrun, enterRun_of_spinup h]
  refine ⟨conclude_keeps _ _ (hasEvent_raise _ _), conclude_drive Drive.rampRate (fun _ => rfl) _, fun hsig => ?_⟩
  rw [conclude_of_no_signals (by exact hsig), finish_drive]
  rfl

theorem rampStepped_of_spinup (h : s.drive.state = .spinup) : rampStepped s = runIfLocked { s with drive := { s.drive with
    rampRate := s.drive.rampRate + 15, rampTimer := some 10 } } := if_pos h

theorem commutate_of_spinup (x : Bool) (p i : Nat) (h : s.drive.state = .spinup) : commutate x p i s
    = runIfLocked { s with drive := { s.drive with crossings := if x then s.drive.crossings + 1 else 0 } } := by
  unfold commutate
  rw [h]

theorem commutate_of_run (x : Bool) (p i : Nat) (h : s.drive.state = .run) : commutate x p i s
    = { s with drive := { s.drive with level := trackLevel s.drive p i } } := by
  unfold commutate
  rw [h]

theorem exec_commutation (x : Bool) (p i : Nat) (hs : s.powered) :
    exec (.commutation x p i) s = .next (conclude (commutate x p i s)) := event_of_powered _ s hs

theorem exec_openLoopRampStep (hs : s.powered) (h : s.drive.state = .spinup) : exec .openLoopRampStep s
    = .next (conclude (runIfLocked { s with drive := { s.drive with
        rampRate := s.drive.rampRate + 15, rampTimer := some 10 } })) := by
  rw [← rampStepped_of_spinup h]
  exact event_of_powered rampStepped s hs

/-- Settles O19: each entry as it stands, the lock by the count and the rate, the level by the comparison of R48. -/
theorem theStartProceedsToRun : Obligations.TheStartProceedsToRun := by
  refine ⟨fun s hs => ⟨fun h => ?_, fun h => ?_, fun h => ?_⟩, fun s hs h => ⟨fun hno => ?_, fun hlock => ?_,
    fun p i => ?_, fun p i hno => ?_, fun p i hcross hrate => ?_⟩, fun x p i s hs h => ?_⟩
  · have hdone : armingDone s = enterAlign s := if_pos h
    rw [← enterAlign_of_arming h, ← hdone]
    exact event_of_powered armingDone s hs
  · have hdone : alignDone s = enterSpinup s := if_pos h
    rw [← enterSpinup_of_align h, ← hdone]
    exact event_of_powered alignDone s hs
  · have hdone : locked s = enterRun s := if_pos h
    rw [← enterRun_of_spinup h, ← hdone]
    exact event_of_powered locked s hs
  · rw [exec_openLoopRampStep hs h, runIfLocked_of_not (by exact hno)]
  · obtain ⟨hevent, hrate, hrun⟩ := runIfLocked_runs (s := { s with drive := { s.drive with
      rampRate := s.drive.rampRate + 15, rampTimer := some 10 } }) h hlock
    exact ⟨_, exec_openLoopRampStep hs h, hevent, hrate, hrun⟩
  · rw [exec_commutation false p i hs, commutate_of_spinup false p i h]
    refine congrArg (fun v => Host.Outcome.next (conclude v)) (runIfLocked_of_not ?_)
    change ¬(24 ≤ 0 ∧ _)
    omega
  · rw [exec_commutation true p i hs, commutate_of_spinup true p i h, runIfLocked_of_not (by exact hno)]
    rfl
  · obtain ⟨hevent, -, hrun⟩ := runIfLocked_runs (s := { s with drive := { s.drive with
      crossings := s.drive.crossings + 1 } }) h ⟨hcross, hrate⟩
    refine ⟨_, exec_commutation true p i hs, ?_⟩
    rw [commutate_of_spinup true p i h]
    exact ⟨hevent, hrun⟩
  · rw [exec_commutation x p i hs, commutate_of_run x p i h]
    rfl

end Sys2Proof.Machine
end

section
namespace Sys2Proof.Machine

variable {s t u : State}

/-! ## What a trip leaves (R53, R54) -/

/-- The drive with the trip entered, before the state is changed. -/
def Drive.tripped (c : TripCause) (d : Drive) : Drive :=
  { d with bridge := .off, tripCause := c, trips := addTrip ⟨c, d.clock, d.state⟩ d.trips
           tripCount := bump 65535 d.tripCount, startPending := false }

/-- The state with the trip entered and its events raised, before the drive changes its state. -/
def tripEntered (c : TripCause) (s : State) : State :=
  raiseIf (locks (addTrip ⟨c, s.drive.clock, s.drive.state⟩ s.drive.trips)) .motorLocked
    (raise .motorFault { s with drive := s.drive.tripped c })

theorem trip_eq (c : TripCause) (s : State) : trip c s
    = if locks (addTrip ⟨c, s.drive.clock, s.drive.state⟩ s.drive.trips) then enterRest .locked (tripEntered c s)
      else { enterRest .fault (tripEntered c s) with
        drive := { (enterRest .fault (tripEntered c s)).drive with faultTimer := some 500 } } := rfl

theorem tripEntered_drive (c : TripCause) (s : State) : (tripEntered c s).drive = s.drive.tripped c := raiseIf_drive _ _ _

/-- The state a trip enters and the fault timer it starts follow from the time stamps (R54). -/
theorem trip_drive (c : TripCause) (s : State) : ∃ m timer, (trip c s).drive = { (s.drive.tripped c).stopTimers with
      state := m, pset := 0, bridge := .off, iMotor := none, pMeas := none, speed := none, faultTimer := timer }
    ∧ (m, timer) = (if locks (addTrip ⟨c, s.drive.clock, s.drive.state⟩ s.drive.trips)
        then (.locked, none) else (.fault, some 500)) := by
  rw [trip_eq]
  split
  · exact ⟨.locked, none, by rw [enterRest_drive, tripEntered_drive]; rfl, rfl⟩
  · exact ⟨.fault, some 500, by dsimp only; rw [enterRest_drive, tripEntered_drive], rfl⟩

theorem trip_keeps_tripEntered (c : TripCause) (s : State) (i : Nat)
    (h : (tripEntered c s).host.events.getLsbD i = true) : (trip c s).host.events.getLsbD i = true := by
  rw [trip_eq]
  split
  · exact enterRest_keeps _ _ _ h
  · exact enterRest_keeps _ _ _ h

theorem hasEvent_motorFault_trip (c : TripCause) (s : State) : hasEvent .motorFault (trip c s) = true :=
  trip_keeps_tripEntered c s _ (raiseIf_keeps _ _ _ _ (hasEvent_raise _ _))

theorem hasEvent_motorLocked_trip {c : TripCause}
    (h : locks (addTrip ⟨c, s.drive.clock, s.drive.state⟩ s.drive.trips) = true) :
    hasEvent .motorLocked (trip c s) = true := by
  refine trip_keeps_tripEntered c s _ ?_
  unfold tripEntered
  rw [h]
  exact hasEvent_raise _ _

theorem trip_resting (c : TripCause) (s : State) : resting (trip c s).drive := by
  obtain ⟨m, timer, hdrive, hchoice⟩ := trip_drive c s
  rw [hdrive]
  split at hchoice
  · obtain ⟨rfl, rfl⟩ := Prod.mk.inj hchoice
    exact ⟨rfl, nofun⟩
  · obtain ⟨rfl, rfl⟩ := Prod.mk.inj hchoice
    exact ⟨rfl, nofun⟩

theorem addTrip_eq (x : Trip) (l : List Trip) : addTrip x l = (if l.length < 3 then l else l.tail) ++ [x] := by
  unfold addTrip
  by_cases h : l.length < 3
  · rw [if_pos h, if_neg (by omega)]
  · rw [if_neg h, if_pos (by omega)]

theorem locks_triple (a b c : Trip) : locks [a, b, c] = true ↔ (c.time - a.time).toNat ≤ 10000 := by simp [locks]

theorem locks_only_triple {l : List Trip} (h : locks l = true) : ∃ a b c, l = [a, b, c] := by
  match l, h with
  | [a, b, c], _ => exact ⟨a, b, c, rfl⟩

/-! ## The trips' events (R53) -/

theorem deliverAll_drive (l : List (Quantity × Half)) (s : State) : (deliverAll l s).drive = s.drive := by
  unfold deliverAll
  induction l generalizing s with
  | nil => rfl
  | cons x l ih => exact ih _

theorem supervise_besideTools (i : Nat) (s : State) : besideTools (supervise i s) = besideTools s := by
  have htrip : besideTools (overcurrentTrip s) = besideTools s :=
    (setTpwr_besideTools .signal .overcurrent (raise .toolOvercurrent s) :)
  exact besideTools_ite (besideTools_ite htrip rfl) rfl

theorem overvoltOrder_drive (s : State) : (overvoltOrder s).drive = s.drive := by
  unfold overvoltOrder
  split
  · rfl
  · exact (congrArg State.drive (enterChargeFault_besideDock _ _) :)

theorem cutoffOrders_drive (s : State) : (cutoffOrders s).drive = s.drive :=
  drive_of_besideTools (holdPower_besideTools (emit .cutoffStop s))

/-- The THERMAL check is the last of a round's own work on the drive. -/
theorem packRound_thermalCheck (r : Readings) (s : State) : ∃ v, packRound r s = thermalCheck (dieTemp r.die) v
    ∧ v.drive = s.drive := by
  refine ⟨_, rfl, ?_⟩
  have hite {c : Prop} [Decidable c] {v w : State} (hv : v.drive = w.drive) : (if c then v else w).drive = w.drive := by
    split
    · exact hv
    · rfl
  have hcut (u : State) : (cutoffOrders (raise .packCutoff u)).drive = u.drive := cutoffOrders_drive _
  rw [deliverAll_drive, hite (drive_of_besideTools (askRecompute_besideTools _)),
    drive_of_besideTools (supervise_besideTools _ _), hite (drive_of_besideTools (releasePower_besideTools _)),
    hite (hcut _), hite (overvoltOrder_drive _)]
  simp only [raiseIf_drive]

theorem lt_dieTemp {x : Int} (h : 125 < x) : 125 < dieTemp x := by
  unfold dieTemp
  split
  · omega
  · split <;> omega

theorem overcurrentChecked_iff (d : Drive) : overcurrentChecked d = true
    ↔ d.state.drives = true ∨ (d.state = .stopping ∧ d.bridge ≠ .off) := by
  simp [overcurrentChecked]

/-- The trip is checked in this state on this command (R53). -/
def tripDue (s : State) (c : Instr) (cause : TripCause) : Prop :=
  (c = .motorOvercurrent ∧ cause = .overcurrent
      ∧ (s.drive.state.drives = true ∨ (s.drive.state = .stopping ∧ s.drive.bridge ≠ .off)))
    ∨ (c = .stallTimerExpiry ∧ cause = .stall ∧ s.drive.state = .run ∧ s.drive.stallTimer.isSome)
    ∨ (c = .syncMiss ∧ cause = .sync ∧ s.drive.state = .run)
    ∨ (∃ r, c = .packRound r ∧ cause = .thermal ∧ 125 < r.die
        ∧ (s.drive.state.drives = true ∨ s.drive.state = .stopping))
    ∨ (c = .gateTestFail ∧ cause = .gateTest ∧ s.drive.state = .arming)
    ∨ (c = .startFail ∧ cause = .startFail ∧ s.drive.state = .spinup)

/-- The command trips the drive, perhaps after work that leaves the drive alone. -/
theorem exec_trips {c : Instr} {cause : TripCause} (hs : s.powered) (h : tripDue s c cause) :
    ∃ v, exec c s = .next (conclude (trip cause v)) ∧ v.drive = s.drive := by
  rcases h with ⟨rfl, rfl, hd⟩ | ⟨rfl, rfl, hd, htimer⟩ | ⟨rfl, rfl, hd⟩ | ⟨r, rfl, rfl, hdie, hd⟩ | ⟨rfl, rfl, hd⟩
    | ⟨rfl, rfl, hd⟩
  · have hseen : overcurrentSeen s = trip .overcurrent s := if_pos ((overcurrentChecked_iff _).mpr hd)
    exact ⟨s, hseen ▸ event_of_powered overcurrentSeen s hs, rfl⟩
  · have hseen : stalled s = trip .stall s := if_pos ⟨hd, htimer⟩
    exact ⟨s, hseen ▸ event_of_powered stalled s hs, rfl⟩
  · have hseen : syncMissed s = trip .sync s := if_pos hd
    exact ⟨s, hseen ▸ event_of_powered syncMissed s hs, rfl⟩
  · obtain ⟨v, hv, hdrive⟩ := packRound_thermalCheck r s
    have hseen : packRound r s = trip .thermal v := hv.trans (if_pos ⟨lt_dieTemp hdie, hdrive ▸ hd⟩)
    exact ⟨v, hseen ▸ event_of_powered (packRound r) s hs, hdrive⟩
  · have hseen : gateFailed s = trip .gateTest s := if_pos hd
    exact ⟨s, hseen ▸ event_of_powered gateFailed s hs, rfl⟩
  · have hseen : startFailed s = trip .startFail s := if_pos hd
    exact ⟨s, hseen ▸ event_of_powered startFailed s hs, rfl⟩

/-- Settles O20: the command trips the drive, and the drive then rests through the hand-overs. -/
theorem aTripIsRecorded : Obligations.ATripIsRecorded := by
  intro s c cause hs h
  obtain ⟨v, hexec, hv⟩ := exec_trips hs h
  obtain ⟨m, timer, hdrive, hchoice⟩ := trip_drive cause v
  obtain ⟨hstate, hbridge, hcause, -, hpending, htimer, -, htrips, htripCause, hcount⟩ :=
    conclude_rest (trip_resting cause v)
  rw [hdrive] at hstate hbridge hcause hpending htimer htrips htripCause hcount
  rw [hv] at hcause htrips htripCause hcount hchoice
  have hlist : (conclude (trip cause v)).drive.trips = addTrip ⟨cause, s.drive.clock, s.drive.state⟩ s.drive.trips := htrips
  refine ⟨_, ⟨cause, s.drive.clock, s.drive.state⟩, hexec, rfl, hlist.trans (addTrip_eq _ _), htripCause, hcount, hbridge,
    hpending rfl, hcause, conclude_keeps _ _ (hasEvent_motorFault_trip cause v), fun a b hab hnear => ?_, fun hfar => ?_⟩
  · have hlocks := (locks_triple a b _).mpr hnear
    rw [← hab, hlist] at hlocks
    rw [if_pos hlocks] at hchoice
    obtain ⟨rfl, rfl⟩ := Prod.mk.inj hchoice
    exact ⟨hstate, conclude_keeps _ _ (hasEvent_motorLocked_trip (hv ▸ hlocks)), htimer⟩
  · have hno : ¬ locks (addTrip ⟨cause, s.drive.clock, s.drive.state⟩ s.drive.trips) = true := by
      intro hlocks
      obtain ⟨a, b, x, hab⟩ := locks_only_triple hlocks
      have hlast : x = ⟨cause, s.drive.clock, s.drive.state⟩ := by
        have hback := congrArg List.getLast? hab
        rw [addTrip, List.getLast?_append] at hback
        exact (Option.some.inj hback).symm
      have hnear := (locks_triple a b x).mp (hab ▸ hlocks)
      rw [hlast] at hab hnear
      exact absurd (hfar a b (hlist.trans hab)) (by omega)
    rw [if_neg hno] at hchoice
    obtain ⟨rfl, rfl⟩ := Prod.mk.inj hchoice
    exact ⟨hstate, htimer⟩

end Sys2Proof.Machine
end

section
namespace Sys2Proof.Machine

variable {s t u : State}

/-! ## The end of a stop and of a fault (R52, R55) -/

theorem reachOff_resting (h : s.drive.startPending = false) : resting (reachOff s).drive := by
  rw [reachOff_drive]
  exact ⟨rfl, fun hp => absurd hp (by simp [Drive.stopTimers, h])⟩

/-- OFF is entered, and nothing pending: the hand-overs leave the drive at rest. -/
theorem conclude_reachOff (h : s.drive.startPending = false) : let t := conclude (reachOff s)
    t.drive.state = .off ∧ t.drive.bridge = .off ∧ t.drive.coastTimer = none ∧ t.drive.stopCause = s.drive.stopCause
      ∧ hasEvent .motorStopped t = true ∧ t.drive.trips = s.drive.trips := by
  obtain ⟨hstate, hbridge, hcause, -, -, -, hcoast, htrips, -, -⟩ := conclude_rest (reachOff_resting h)
  rw [reachOff_drive] at hstate hbridge hcause hcoast htrips
  exact ⟨hstate, hbridge, hcoast, hcause, conclude_keeps _ _ (reachOff_event s), htrips⟩

/-- A press that is pending is checked again as the last of the entry to OFF (R44). -/
theorem reachOff_startCheck (h : s.drive.startPending = true) : let u := reachOff s
    u.signals.getLast? = some .startCheck ∧ u.drive.state = .off ∧ u.drive.bridge = .off ∧ u.drive.startPending = true
      ∧ u.drive.stopCause = s.drive.stopCause ∧ hasEvent .motorStopped u = true := by
  have hpending : (raise .motorStopped (enterRest .off s)).drive.startPending = true := by
    rw [raise_drive, enterRest_drive]
    exact h
  have hlast : (reachOff s).signals.getLast? = some .startCheck := by
    have hemit : reachOff s = emit .startCheck (raise .motorStopped (enterRest .off s)) := if_pos hpending
    rw [hemit]
    exact List.getLast?_concat
  dsimp only
  refine ⟨hlast, ?_, ?_, ?_, ?_, reachOff_event s⟩ <;> rw [reachOff_drive]
  · exact h
  · rfl

theorem exec_rotorAtRest (hs : s.powered) (h : s.drive.state = .stopping) (hb : s.drive.bridge = .braking) :
    exec .rotorAtRest s = .next (conclude (reachOff s)) := by
  have hdone : rotorStopped s = reachOff s := if_pos ⟨h, hb⟩
  exact hdone ▸ event_of_powered rotorStopped s hs

theorem exec_coastTimerExpiry (hs : s.powered) (h : s.drive.state = .stopping) (hc : s.drive.coastTimer.isSome) :
    exec .coastTimerExpiry s = .next (conclude (reachOff s)) := by
  have hdone : coasted s = reachOff s := if_pos ⟨h, hc⟩
  exact hdone ▸ event_of_powered coasted s hs

/-- FAULT_TIMER_EXPIRY stops the timer, and with the trigger released leaves FAULT (R55). -/
theorem faultTimedOut_of_fault (h : s.drive.state = .fault) (ht : s.drive.faultTimer.isSome) : faultTimedOut s
    = if s.drive.trig then { s with drive := { s.drive with faultTimer := none } }
      else enterRest .off { s with drive := { s.drive with faultTimer := none } } := if_pos ⟨h, ht⟩

/-- Settles O21: the entry to OFF with the press pending or not, and the fault timer's expiry by the trigger. -/
theorem aStopAndAFaultEnd : Obligations.AStopAndAFaultEnd := by
  refine ⟨fun s hs hstop => ⟨fun hb hp => ?_, fun hc hp => ?_, fun c hp hcase => ?_, fun hb => ?_⟩,
    fun s hs hfault ht => ⟨fun htrig => ?_, fun htrig hp => ?_, fun htrig => ?_⟩⟩
  · obtain ⟨hstate, hbridge, -, hcause, hevent, htrips⟩ := conclude_reachOff hp
    exact ⟨_, exec_rotorAtRest hs hstop hb, hstate, hbridge, hcause, hevent, htrips⟩
  · obtain ⟨hstate, -, hcoast, hcause, hevent, htrips⟩ := conclude_reachOff hp
    exact ⟨_, exec_coastTimerExpiry hs hstop hc, hstate, hcoast, hcause, hevent, htrips⟩
  · rcases hcase with ⟨rfl, hb⟩ | ⟨rfl, hc⟩
    · exact ⟨_, exec_rotorAtRest hs hstop hb, reachOff_startCheck hp⟩
    · exact ⟨_, exec_coastTimerExpiry hs hstop hc, reachOff_startCheck hp⟩
  · have hdone : lockLost s = { s with drive := { s.drive with bridge := .off, coastTimer := some 500 } } :=
      if_pos ⟨hstop, hb⟩
    exact hdone ▸ event_of_powered lockLost s hs
  · have hexec := event_of_powered faultTimedOut s hs
    rw [faultTimedOut_of_fault hfault ht, if_pos htrig] at hexec
    exact hexec
  · have hexec := event_of_powered faultTimedOut s hs
    rw [faultTimedOut_of_fault hfault ht, if_neg (by simp [htrig])] at hexec
    obtain ⟨v, hv⟩ : ∃ v, v = enterRest .off { s with drive := { s.drive with faultTimer := none } } := ⟨_, rfl⟩
    have hdrive := enterRest_drive .off { s with drive := { s.drive with faultTimer := none } }
    have hrest : resting v.drive := by
      rw [hv, hdrive]
      exact ⟨rfl, fun h => nomatch hp.symm.trans h⟩
    obtain ⟨hstate, -, -, -, -, htimer, -, htrips, hcause, -⟩ := conclude_rest hrest
    rw [hv, hdrive] at hstate htimer htrips hcause
    exact ⟨_, hexec, hstate, htimer, htrips, hcause⟩
  · have hexec := event_of_powered faultTimedOut s hs
    rw [faultTimedOut_of_fault hfault ht, if_neg (by simp [htrig])] at hexec
    refine ⟨_, hexec, ?_, ?_, ?_⟩ <;> rw [enterRest_drive]
    · rfl
    · rfl

end Sys2Proof.Machine
end

section
namespace Sys2Proof.Machine

variable {s t u : State}

/-! ## The suction side through the hand-overs (R75 to R78, R90, R95) -/

/-- The set point, the load monitor but for its sustain counts, and the dirt record. -/
def suctionSide (s : State) : Nat × LoadMon × Dirt :=
  (s.gov.pset, { s.load with rise := 0, block := 0, release := 0 }, s.dirt)

/-- The set point has not risen, and the monitors stand as they were, or rest since the motor has left RUN. -/
def eased (s t : State) : Prop :=
  t.gov.pset ≤ s.gov.pset ∧ ((suctionSide t).2 = (suctionSide s).2
    ∨ (t.dirt.level = 0 ∧ t.load.phase = .none ∧ t.load.timer = none))

theorem eased.pset (h : eased s t) : t.gov.pset ≤ s.gov.pset := h.1

theorem eased.monitors (h : eased s t) : (suctionSide t).2 = (suctionSide s).2
    ∨ (t.dirt.level = 0 ∧ t.load.phase = .none ∧ t.load.timer = none) := h.2

theorem eased_of_same (h : suctionSide t = suctionSide s) : eased s t :=
  ⟨Nat.le_of_eq (congrArg Prod.fst h), .inl (congrArg Prod.snd h)⟩

theorem eased_of_besideTools (h : besideTools t = besideTools s) : eased s t :=
  eased_of_same (congrArg (fun w : State => suctionSide w) h :)

theorem eased_of_besideDock (h : besideDock t = besideDock s) : eased s t :=
  eased_of_same (congrArg (fun w : State => suctionSide w) h :)

theorem eased.trans (h : eased s t) (h' : eased t u) : eased s u := by
  refine ⟨h'.pset.trans h.pset, ?_⟩
  rcases h'.monitors with hsame | hrest
  · rcases h.monitors with hbefore | ⟨hlevel, hphase, htimer⟩
    · exact .inl (hsame.trans hbefore)
    · have hd : u.dirt = t.dirt := congrArg Prod.snd hsame
      have hl : u.load.phase = t.load.phase := congrArg (fun p => p.1.phase) hsame
      have ht : u.load.timer = t.load.timer := congrArg (fun p => p.1.timer) hsame
      exact .inr ⟨hd ▸ hlevel, hl ▸ hphase, ht ▸ htimer⟩
  · exact .inr hrest

theorem eased.level (h : eased s t) : t.dirt.level = s.dirt.level ∨ t.dirt.level = 0 :=
  h.monitors.imp (fun hsame => congrArg (fun p => p.2.level) hsame) (·.1)

theorem eased_of_ite {c : Prop} [Decidable c] (ht : eased s t) (hu : eased s u) : eased s (if c then t else u) := by
  split
  · exact ht
  · exact hu

theorem leaveRun_eased (s : State) : eased s (leaveRun s) := by
  obtain ⟨hgov, hlevel, -, hload⟩ := dirtRunExit_facts (loadRest s)
  have hpop (u : State) : (clearPop u).gov.pset = u.gov.pset := by
    unfold clearPop
    split
    · obtain ⟨l, h⟩ := setStack_writes u.gov.stack.dropLast u
      rw [h]
    · rfl
  have hrest : (loadRest s).gov.pset = s.gov.pset ∧ (loadRest s).load.phase = .none ∧ (loadRest s).load.timer = none := by
    unfold loadRest
    split
    · exact ⟨hpop s, rfl, rfl⟩
    · exact ⟨rfl, rfl, rfl⟩
  obtain ⟨hpset, hphase, htimer⟩ := hrest
  refine ⟨Nat.le_of_eq ?_, .inr ⟨hlevel, ?_, ?_⟩⟩
  · exact (congrArg Gov.pset hgov).trans hpset
  · exact (congrArg LoadMon.phase hload).trans hphase
  · exact (congrArg LoadMon.timer hload).trans htimer

theorem changeState_eased (new : MotorState) (s : State) : eased s (changeState new s) :=
  eased_of_ite (leaveRun_eased { s with drive := { s.drive.stopTimers with state := new } }) (eased_of_same rfl)

theorem zeroSetPoint_eased (s : State) : eased s (zeroSetPoint s) := ⟨Nat.zero_le _, .inl rfl⟩

theorem enterRest_eased (new : MotorState) (s : State) : eased s (enterRest new s) := by
  obtain ⟨v, hv⟩ : ∃ v : State, v = { zeroSetPoint (changeState new s) with
    drive := { (zeroSetPoint (changeState new s)).drive with
      bridge := .off, iMotor := none, pMeas := none, speed := none } } := ⟨_, rfl⟩
  have hzero : eased s v := by
    rw [hv]
    exact (changeState_eased new s).trans (zeroSetPoint_eased (changeState new s))
  have hrest : enterRest new s
      = leaveAttachWait (setActive false (deliver .motorSpeed noneMark (deliver .motorW noneMark v))) := hv ▸ rfl
  rw [hrest]
  refine hzero.trans (eased.trans ?_ (eased_of_besideDock (leaveAttachWait_besideDock _)))
  exact eased_of_besideTools (setActive_besideTools _ _)

theorem reachOff_eased (s : State) : eased s (reachOff s) := eased_of_ite (enterRest_eased .off s) (enterRest_eased .off s)

theorem enterStopping_eased (c : StopCause) (s : State) : eased s (enterStopping c s) := by
  have hchange : eased s (zeroSetPoint (changeState .stopping { s with drive := { s.drive with stopCause := c } })) :=
    (changeState_eased .stopping { s with drive := { s.drive with stopCause := c } } :).trans (zeroSetPoint_eased _)
  exact eased_of_ite (hchange.trans (reachOff_eased _)) hchange

theorem stopOrder_eased (c : StopCause) (s : State) : eased s (stopOrder c s) :=
  eased_of_ite (enterStopping_eased c s) (eased_of_same rfl)

theorem limitSetPoint_eased (s : State) : eased s (limitSetPoint s) := by
  unfold limitSetPoint
  split
  · exact ⟨Nat.min_le_left _ _, .inl rfl⟩
  · exact eased_of_same rfl

theorem handWatch_eased (s : State) : eased s (handWatch s) := by
  obtain ⟨v, w, hv, hw, hhanded⟩ := handWatch_eq s
  have hlimited : eased s w := by
    rw [hw, hv]
    exact eased_of_ite (eased_of_same rfl) (limitSetPoint_eased _ :)
  rw [hhanded]
  exact eased_of_ite hlimited (hlimited.trans (eased_of_besideDock (pauseOrderChanged_besideDock _ w)))

theorem grantArrives_eased (g : Nat) (s : State) : eased s (grantArrives g s) := by
  obtain ⟨v, hv⟩ : ∃ v : State, v = if s.drive.startPending
    then emit .startCheck { s with gov := { s.gov with grant := g } } else { s with gov := { s.gov with grant := g } } := ⟨_, rfl⟩
  have hheld : eased s v := by
    rw [hv]
    exact eased_of_ite (eased_of_same rfl) (eased_of_same rfl)
  have hgrant : grantArrives g s = if g = 0 ∧ v.drive.state.drives
      then stopOrder .starved { v with gov := { v.gov with stopStarved := true, pset := 0 } } else limitSetPoint v :=
    hv ▸ rfl
  have hstarved : eased v { v with gov := { v.gov with stopStarved := true, pset := 0 } } := ⟨Nat.zero_le _, .inl rfl⟩
  rw [hgrant]
  exact eased_of_ite (hheld.trans (hstarved.trans (stopOrder_eased _ _))) (hheld.trans (limitSetPoint_eased v))

theorem enterArming_eased (s : State) : eased s (enterArming s) := by
  obtain ⟨u, hu⟩ : ∃ u, u = changeState .arming { s with drive := { s.drive with startPending := false } } := ⟨_, rfl⟩
  have hchange : eased s { u with drive := { u.drive with bridge := .testing, armTimer := some 50 } } := by
    rw [hu]
    exact changeState_eased .arming { s with drive := { s.drive with startPending := false } }
  have harming : enterArming s
      = setActive true { u with drive := { u.drive with bridge := .testing, armTimer := some 50 } } := hu ▸ rfl
  rw [harming]
  exact hchange.trans (eased_of_besideTools (setActive_besideTools true _))

theorem take_eased (g : Signal) (s : State) : eased s (take g s) := by
  have hraised (b : Bool) (e : Event) (u : State) : eased u (raiseIf b e u) :=
    eased_of_besideTools (raiseIf_besideTools _ _ _)
  cases g with
  | recompute =>
    have hhanded (b : Bool) (a : Arb) : eased s (handTools (raiseIf b .allotStarved { s with arb := a })) :=
      (hraised b .allotStarved { s with arb := a } :).trans (eased_of_besideTools (handTools_besideTools _))
    exact eased_of_ite (hhanded _ _) ((hhanded _ _).trans (grantArrives_eased _ _))
  | update q v =>
    change eased s (watchUpdate q v s)
    unfold watchUpdate
    dsimp only
    refine eased.trans ?_ (handWatch_eased _)
    have hwatched (b : Bool) (w : WatchUnit) : eased s (raiseIf b .watchFired { s with watch := w }) :=
      hraised b .watchFired { s with watch := w }
    exact eased_of_ite ((hwatched _ _).trans (stopOrder_eased _ _)) (hwatched _ _)
  | stop c => exact stopOrder_eased c s
  | cutoffStop =>
    have hfree : eased s { s with free := s.free + 1 } := eased_of_same rfl
    exact eased_of_ite (eased_of_ite (hfree.trans (stopOrder_eased _ _)) (hfree.trans (grantArrives_eased _ _)))
      (stopOrder_eased _ _)
  | startCheck =>
    have hstays : eased s s := eased_of_same rfl
    exact eased_of_ite (eased_of_ite (enterArming_eased s) (eased_of_ite hstays (eased_of_same rfl))) hstays

theorem drain_eased (n : Nat) (s : State) : eased s (drain n s) := by
  induction n generalizing s with
  | zero => exact eased_of_same rfl
  | succ n ih =>
    unfold drain
    split
    · exact eased_of_same rfl
    · rename_i sig rest _
      have htaken : eased s (take sig { s with signals := rest }) := take_eased sig { s with signals := rest }
      exact htaken.trans (ih _)

theorem conclude_eased (s : State) : eased s (conclude s) := by
  refine (drain_eased 400 s).trans (eased_of_same ?_)
  change suctionSide (finish (drain 400 s)) = _
  rw [suctionSide, finish_gov, finish_load, finish_dirt]
  rfl

/-! ## The classification of a rate (R99, R100) -/

/-- The record of a dirt monitor with the results of a window written in. -/
def Dirt.withWindow (w : Window) (f : Nat) (rate : Option Nat) (held : Bool) (d : Dirt) : Dirt :=
  { d with
    window := some ⟨100, 0, 0⟩, lastSmall := w.small, lastLarge := w.large, lastW := weighted w.small w.large
    lastF := f, rate := rate, heldLevel := held }

theorem fallRule_withWindow (r : Nat) (w : Window) (f : Nat) (rate : Option Nat) (held : Bool) (d : Dirt) :
    fallRule r (d.withWindow w f rate held) = (fallRule r d).withWindow w f rate held := by
  unfold fallRule
  simp only [apply_ite (Dirt.withWindow w f rate held)]
  rfl

theorem classify_withWindow (r : Nat) (w : Window) (f : Nat) (rate : Option Nat) (held : Bool) (d : Dirt) :
    classify r (d.withWindow w f rate held) = (classify r d).withWindow w f rate held := by
  have hfirst := fallRule_withWindow r w f rate held { d with rise := 1, cand := candidate d r }
  have hstays := fallRule_withWindow r w f rate held { d with rise := 0, cand := 0 }
  unfold classify
  simp only [apply_ite (Dirt.withWindow w f rate held), ← hfirst, ← hstays]
  rfl

theorem fallRule_zero (r : Nat) {d : Dirt} (h : d.level = 0) : fallRule r d = d := if_pos h

theorem fallRule_of_high (r : Nat) {d : Dirt} (h : fallThreshold d d.level ≤ r) :
    fallRule r d = if d.level = 0 then d else { d with fall := 0 } := by
  unfold fallRule
  rw [if_neg (show ¬ r < fallThreshold d d.level by omega)]

theorem fallRule_of_low {r : Nat} {d : Dirt} (hpos : 0 < d.level) (h : r < fallThreshold d d.level) :
    fallRule r d = if 9 ≤ d.fall then { d with level := d.level - 1, fall := 0 } else { d with fall := d.fall + 1 } := by
  unfold fallRule
  rw [if_neg (by omega), if_pos h]
  simp only [show (10 ≤ d.fall + 1) = (9 ≤ d.fall) from propext (by omega)]

theorem classify_of_le {r : Nat} {d : Dirt} (h : candidate d r ≤ d.level) :
    classify r d = fallRule r { d with rise := 0, cand := 0 } := if_neg (by omega)

theorem fallRule_rise (r : Nat) (d : Dirt) : (fallRule r d).rise = d.rise ∧ (fallRule r d).cand = d.cand := by
  unfold fallRule
  split
  · exact ⟨rfl, rfl⟩
  · split
    · split <;> exact ⟨rfl, rfl⟩
    · exact ⟨rfl, rfl⟩

/-- A rate with a candidate above the level is not below the level's fall threshold. -/
theorem fallThreshold_le {r : Nat} {d : Dirt} (h12 : d.t1 < d.t2) (h23 : d.t2 < d.t3) (h : d.level < candidate d r) :
    d.level = 0 ∨ fallThreshold d d.level ≤ r := by
  unfold candidate at h
  unfold fallThreshold
  split_ifs at h ⊢ <;> omega

end Sys2Proof.Machine
end

section
namespace Sys2Proof.Machine

variable {s t u : State}

/-! ## The window end (R98 to R104) -/

/-- The rate of a window that ends (R98). -/
def windowRate (w : Window) (s : State) : Option Nat :=
  if s.dirt.status == .absent then none else some (rateOf (weighted w.small w.large) (flowIndex s.gov.pset))

/-- The dirt record with the window's results, before the level is moved. -/
def windowBase (w : Window) (s : State) : Dirt :=
  s.dirt.withWindow w (flowIndex s.gov.pset) (windowRate w s) (s.load.cls != .clear)

theorem windowRecord_of_rate {w : Window} {r : Nat} (h : windowRate w s = some r) : windowRecord w s
    = if s.load.cls != .clear then windowBase w s else classify r (windowBase w s) := by
  have hrate : (if s.dirt.status == .absent then none
      else some (rateOf (weighted w.small w.large) (flowIndex s.gov.pset))) = some r := h
  unfold windowRecord windowBase Dirt.withWindow
  dsimp only
  rw [h, hrate]

theorem windowRecord_of_no_rate {w : Window} (h : windowRate w s = none) : windowRecord w s
    = { windowBase w s with level := 0, rise := 0, cand := 0, fall := 0 } := by
  have hrate : (if s.dirt.status == .absent then none
      else some (rateOf (weighted w.small w.large) (flowIndex s.gov.pset))) = none := h
  unfold windowRecord windowBase Dirt.withWindow
  dsimp only
  rw [h, hrate]

theorem evalFull_dirt (s : State) : (evalFull s).dirt
    = { s.dirt with full := decide (s.dirt.fullPct ≤ binPct s.dirt) } := raiseIf_dirt _ _ _

theorem windowEnd_dirt (w : Window) (s : State) : (windowEnd w s).dirt = { countedRecord w s with
    full := decide ((countedRecord w s).fullPct ≤ binPct (countedRecord w s)) } := by
  rw [windowEnd_eq, deliverBin, deliver_dirt, deliver_dirt, evalFull_dirt, raiseIf_dirt]

theorem fallRule_lasting (r : Nat) (d : Dirt) : (fallRule r d).lasting = d.lasting := by
  unfold fallRule
  simp only [apply_ite Dirt.lasting]
  split_ifs <;> rfl

theorem classify_lasting (r : Nat) (d : Dirt) : (classify r d).lasting = d.lasting := by
  unfold classify
  simp only [apply_ite Dirt.lasting, fallRule_lasting]
  split_ifs <;> rfl

theorem windowRate_of_absent (w : Window) (h : s.dirt.status = .absent) : windowRate w s = none :=
  if_pos (by rw [h]; rfl)

theorem windowRate_of_sensing (w : Window) (h : s.dirt.status ≠ .absent) : windowRate w s
    = some (rateOf (weighted w.small w.large) (flowIndex s.gov.pset)) := if_neg (by simpa using h)

theorem windowRecord_of_held (w : Window) (h : s.dirt.status ≠ .absent) (hcls : s.load.cls ≠ .clear) :
    windowRecord w s = windowBase w s := by
  rw [windowRecord_of_rate (windowRate_of_sensing w h)]
  exact if_pos (by simpa using hcls)

theorem windowRecord_of_clear (w : Window) (h : s.dirt.status ≠ .absent) (hcls : s.load.cls = .clear) : windowRecord w s
    = (classify (rateOf (weighted w.small w.large) (flowIndex s.gov.pset)) s.dirt).withWindow w (flowIndex s.gov.pset)
        (windowRate w s) (s.load.cls != .clear) := by
  rw [← classify_withWindow, windowRecord_of_rate (windowRate_of_sensing w h)]
  exact if_neg (by simp [hcls])

theorem windowRecord_lasting (w : Window) (s : State) : (windowRecord w s).lasting = (windowBase w s).lasting := by
  cases h : windowRate w s with
  | none => rw [windowRecord_of_no_rate h]; rfl
  | some r =>
    rw [windowRecord_of_rate h]
    split
    · rfl
    · exact classify_lasting _ _

theorem windowRecord_window (w : Window) (s : State) : (windowRecord w s).window = some ⟨100, 0, 0⟩
    ∧ (windowRecord w s).rate = windowRate w s := by
  by_cases h : s.dirt.status = .absent
  · rw [windowRecord_of_no_rate (windowRate_of_absent w h)]
    exact ⟨rfl, rfl⟩
  · by_cases hcls : s.load.cls = .clear
    · rw [windowRecord_of_clear w h hcls]
      exact ⟨rfl, rfl⟩
    · rw [windowRecord_of_held w h hcls]
      exact ⟨rfl, rfl⟩

/-- Counting the window into the bin writes the bin and its saturation only. -/
theorem countedRecord_frame (w : Window) (s : State) : ∃ bin sat, countedRecord w s
    = { windowRecord w s with bin := bin, sat := sat } := by
  unfold countedRecord
  split
  · exact ⟨_, _, rfl⟩
  · exact ⟨_, _, rfl⟩

theorem countedRecord_bin (w : Window) (s : State) :
    (s.dirt.status = .present → (countedRecord w s).bin = min (s.dirt.bin + (w.small + 4 * w.large)) s.dirt.capacity
        ∧ (countedRecord w s).sat
          = (s.dirt.sat || decide (s.dirt.capacity ≤ s.dirt.bin + (w.small + 4 * w.large))))
      ∧ (s.dirt.status ≠ .present → (countedRecord w s).bin = s.dirt.bin ∧ (countedRecord w s).sat = s.dirt.sat) := by
  have hframe := windowRecord_lasting w s
  have hstatus : (windowRecord w s).status = s.dirt.status := (congrArg Dirt.status hframe :)
  have hbin : (windowRecord w s).bin = s.dirt.bin := (congrArg Dirt.bin hframe :)
  have hsat : (windowRecord w s).sat = s.dirt.sat := (congrArg Dirt.sat hframe :)
  have hcap : (windowRecord w s).capacity = s.dirt.capacity := (congrArg Dirt.capacity hframe :)
  have hfull (a b : Nat) : (min a b == b) = decide (b ≤ a) := by
    rw [Bool.eq_iff_iff]
    simp
  constructor
  · intro h
    have hcount : countedRecord w s = accumulate (weighted w.small w.large) (windowRecord w s) := if_pos (hstatus.trans h)
    rw [hcount, accumulate, hbin, hsat, hcap, weighted]
    exact ⟨rfl, congrArg (s.dirt.sat || ·) (hfull _ _)⟩
  · intro h
    have hcount : countedRecord w s = windowRecord w s := if_neg (hstatus ▸ h)
    rw [hcount]
    exact ⟨hbin, hsat⟩

theorem windowEnd_signals (w : Window) (s : State) : (windowEnd w s).signals = s.signals
    ++ [.update .dirtRate (reportNat (windowRate w s)),
      .update .binPct (report (some (binPct (windowEnd w s).dirt)))] := by
  obtain ⟨v, hv⟩ : ∃ v, v = evalFull (raiseIf ((windowRecord w s).level != s.dirt.level) .dirtLevel
    { s with dirt := countedRecord w s }) := ⟨_, rfl⟩
  have hend : windowEnd w s = deliverBin (deliver .dirtRate (reportNat (windowRate w s)) v) := hv ▸ windowEnd_eq w s
  have hsignals : v.signals = s.signals := by
    rw [hv, evalFull, raiseIf_signals]
    exact raiseIf_signals _ _ _
  rw [hend]
  change (v.signals ++ _) ++ _ = _
  rw [List.append_assoc, hsignals]
  rfl

/-- The events of a window end stand to the end of the hand-overs. -/
theorem windowEnd_events (w : Window) (s : State) :
    ((windowRecord w s).level ≠ s.dirt.level → hasEvent .dirtLevel (conclude (windowEnd w s)) = true)
      ∧ ((windowEnd w s).dirt.full = true → s.dirt.full = false → hasEvent .binFull (conclude (windowEnd w s)) = true) := by
  constructor
  · intro hmoved
    have hraised (u : State) : hasEvent .dirtLevel (raiseIf ((windowRecord w s).level != s.dirt.level) .dirtLevel u) = true := by
      rw [raiseIf_of_true _ _ (by simpa using hmoved)]
      exact hasEvent_raise _ _
    exact conclude_keeps _ _ (raiseIf_keeps _ _ _ _ (hraised _))
  · intro hfull hwas
    obtain ⟨bin, sat, hcount⟩ := countedRecord_frame w s
    have hfullRecord : (countedRecord w s).full = s.dirt.full := by
      rw [hcount]
      exact (congrArg Dirt.full (windowRecord_lasting w s) :)
    rw [windowEnd_dirt] at hfull
    have hraised (u : State) (hu : u.dirt = countedRecord w s) : hasEvent .binFull (evalFull u) = true := by
      unfold evalFull
      dsimp only
      rw [raiseIf_of_true _ _ (by rw [hu, hfullRecord, hwas]; simpa using hfull)]
      exact hasEvent_raise _ _
    exact conclude_keeps _ _ (hraised _ (raiseIf_dirt _ _ _))

theorem countedRecord_level (w : Window) (s : State) : (countedRecord w s).level = (windowRecord w s).level := by
  obtain ⟨bin, sat, hcount⟩ := countedRecord_frame w s
  rw [hcount]

/-- What the sensor's status and the airflow class make of a window's rate (R98 to R100). -/
theorem windowRecord_cases (w : Window) (s : State) :
    let d := windowRecord w s
    let r := rateOf (weighted w.small w.large) (flowIndex s.gov.pset)
    (s.dirt.status = .absent → d.rate = none ∧ d.level = 0)
      ∧ (s.dirt.status ≠ .absent → d.rate = some r
          ∧ (s.load.cls ≠ .clear → d.level = s.dirt.level ∧ d.rise = s.dirt.rise ∧ d.cand = s.dirt.cand
              ∧ d.fall = s.dirt.fall)
          ∧ (s.load.cls = .clear → d.level = (classify r s.dirt).level ∧ d.rise = (classify r s.dirt).rise
              ∧ d.cand = (classify r s.dirt).cand ∧ d.fall = (classify r s.dirt).fall)) := by
  dsimp only
  refine ⟨fun h => ?_, fun h => ⟨?_, fun hcls => ?_, fun hcls => ?_⟩⟩
  · exact ⟨(windowRecord_window w s).2.trans (windowRate_of_absent w h), windowRecord_level w h⟩
  · exact (windowRecord_window w s).2.trans (windowRate_of_sensing w h)
  · rw [windowRecord_of_held w h hcls]
    exact ⟨rfl, rfl, rfl, rfl⟩
  · rw [windowRecord_of_clear w h hcls]
    exact ⟨rfl, rfl, rfl, rfl⟩

theorem flowIndex_eq (p : Nat) : flowIndex p = min 100 (max 10 (p * 100 / 500)) := by
  unfold flowIndex clampNat
  split_ifs <;> omega

/-- The dirt record at the end of the hand-overs of a window end: all but the level and the rate stand. -/
theorem windowEnd_lasting (w : Window) (s : State) : let t := conclude (windowEnd w s)
    t.dirt.lastSmall = w.small ∧ t.dirt.lastLarge = w.large ∧ t.dirt.lastW = w.small + 4 * w.large
      ∧ t.dirt.lastF = flowIndex s.gov.pset
      ∧ (s.dirt.status = .present →
          t.dirt.bin = min (s.dirt.bin + (w.small + 4 * w.large)) s.dirt.capacity
          ∧ t.dirt.sat = (s.dirt.sat || decide (s.dirt.capacity ≤ s.dirt.bin + (w.small + 4 * w.large))))
      ∧ (s.dirt.status ≠ .present → t.dirt.bin = s.dirt.bin ∧ t.dirt.sat = s.dirt.sat)
      ∧ t.dirt.full = decide (s.dirt.fullPct ≤ t.dirt.bin * 100 / s.dirt.capacity)
      ∧ t.dirt.full = (windowEnd w s).dirt.full
      ∧ t.dirt.status = s.dirt.status ∧ t.dirt.capacity = s.dirt.capacity := by
  obtain ⟨bin, sat, hcount⟩ := countedRecord_frame w s
  have hframe {α : Type} (f : Dirt → α) (hf : ∀ d : Dirt, f d.lasting = f d)
      (hbin : ∀ (d : Dirt) (b : Nat) (c : Bool), f { d with bin := b, sat := c } = f d) :
      f (countedRecord w s) = f (windowBase w s) := by
    rw [hcount, hbin, ← hf, windowRecord_lasting, hf]
  have hfield {α : Type} (f : Dirt → α) (hf : ∀ d : Dirt, f d.lasting = f d) :
      f (conclude (windowEnd w s)).dirt = f { countedRecord w s with
        full := decide ((countedRecord w s).fullPct ≤ binPct (countedRecord w s)) } :=
    (conclude_dirt f hf _).trans (congrArg f (windowEnd_dirt w s))
  have hcap : (countedRecord w s).capacity = s.dirt.capacity := hframe Dirt.capacity (fun _ => rfl) (fun _ _ _ => rfl)
  have hpct : (countedRecord w s).fullPct = s.dirt.fullPct := hframe Dirt.fullPct (fun _ => rfl) (fun _ _ _ => rfl)
  obtain ⟨hpresent, hother⟩ := countedRecord_bin w s
  dsimp only
  rw [hfield Dirt.lastSmall (fun _ => rfl), hfield Dirt.lastLarge (fun _ => rfl), hfield Dirt.lastW (fun _ => rfl),
    hfield Dirt.lastF (fun _ => rfl), hfield Dirt.bin (fun _ => rfl), hfield Dirt.sat (fun _ => rfl),
    hfield Dirt.full (fun _ => rfl), hfield Dirt.status (fun _ => rfl), hfield Dirt.capacity (fun _ => rfl), windowEnd_dirt]
  refine ⟨hframe Dirt.lastSmall (fun _ => rfl) (fun _ _ _ => rfl), hframe Dirt.lastLarge (fun _ => rfl) (fun _ _ _ => rfl),
    hframe Dirt.lastW (fun _ => rfl) (fun _ _ _ => rfl), hframe Dirt.lastF (fun _ => rfl) (fun _ _ _ => rfl), hpresent,
    hother, ?_, rfl, hframe Dirt.status (fun _ => rfl) (fun _ _ _ => rfl), hcap⟩
  dsimp only
  rw [binPct, hpct, hcap]

/-- The thresholds' meaning for the level, by the candidate of the rate (R99, R100). -/
theorem classify_cases (d : Dirt) (r : Nat) (h3 : d.level ≤ 3) :
    (d.level < candidate d r → d.rise ≠ 0 →
        classify r d = { d with level := min d.cand (candidate d r), rise := 0, cand := 0, fall := 0 })
      ∧ (d.t1 < d.t2 → d.t2 < d.t3 → d.level < candidate d r → d.rise = 0 →
        classify r d = { d with rise := 1, cand := candidate d r, fall := if d.level = 0 then d.fall else 0 })
      ∧ (d.level = 0 → candidate d r = 0 → classify r d = { d with rise := 0, cand := 0 })
      ∧ (candidate d r ≤ d.level → (classify r d).rise = 0 ∧ (classify r d).cand = 0
        ∧ (0 < d.level → r < fallThreshold d d.level → d.fall < 9 →
            (classify r d).level = d.level ∧ (classify r d).fall = d.fall + 1)
        ∧ (0 < d.level → r < fallThreshold d d.level → 9 ≤ d.fall →
            (classify r d).level = d.level - 1 ∧ (classify r d).fall = 0)
        ∧ (0 < d.level → fallThreshold d d.level ≤ r → (classify r d).level = d.level ∧ (classify r d).fall = 0)) := by
  have hstill (hle : candidate d r ≤ d.level) := classify_of_le hle
  refine ⟨fun hup hrise => ?_, fun h12 h23 hup hrise => ?_, fun hzero hcand => ?_, fun hle => ?_⟩
  · exact (if_pos hup).trans (if_neg hrise)
  · have hfirst : classify r d = fallRule r { d with rise := 1, cand := candidate d r } :=
      (if_pos hup).trans (if_pos hrise)
    rw [hfirst]
    rcases fallThreshold_le h12 h23 hup with hzero | hhigh
    · rw [if_pos hzero]
      exact fallRule_zero r hzero
    · refine (fallRule_of_high r (by exact hhigh)).trans ?_
      split
      · rfl
      · rfl
  · rw [hstill (by omega)]
    exact fallRule_zero r hzero
  · obtain ⟨hrise, hcand⟩ := fallRule_rise r { d with rise := 0, cand := 0 }
    rw [hstill hle]
    refine ⟨hrise, hcand, fun hpos hlow hfew => ?_, fun hpos hlow hmany => ?_, fun hpos hhigh => ?_⟩
    · rw [fallRule_of_low (by exact hpos) (by exact hlow), if_neg (by exact Nat.not_le.mpr hfew)]
      exact ⟨rfl, rfl⟩
    · rw [fallRule_of_low (by exact hpos) (by exact hlow), if_pos (by exact hmany)]
      exact ⟨rfl, rfl⟩
    · rw [fallRule_of_high r (by exact hhigh), if_neg (by exact Nat.ne_of_gt hpos)]
      exact ⟨rfl, rfl⟩

/-- The sensor found ABSENT, before the level follows (R94). -/
def echoLost (s : State) : State := raiseIf (s.dirt.status != .absent) .dirtSensor
  { s with dirt := { s.dirt with echo := none, status := .absent } }

theorem exec_echoTimerExpiry (hs : s.powered) (he : s.dirt.echo.isSome) : exec .echoTimerExpiry s
    = .next (conclude (if s.drive.state = .run then zeroLevel none (echoLost s) else echoLost s)) := by
  have hdrive : (echoLost s).drive = s.drive := raiseIf_drive _ _ _
  have hmissed : echoMissed s = if (echoLost s).drive.state = .run then zeroLevel none (echoLost s) else echoLost s :=
    if_pos he
  rw [hdrive] at hmissed
  rw [← hmissed]
  exact event_of_powered echoMissed s hs

/-- The echo missed in RUN (R94, R95). -/
theorem echoMissed_in_run (hs : s.powered) (he : s.dirt.echo.isSome) (hrun : s.drive.state = .run) :
    ∃ t, exec .echoTimerExpiry s = .next t ∧ t.dirt.status = .absent ∧ t.dirt.echo = none ∧ t.dirt.level = 0
      ∧ (0 < s.dirt.level → hasEvent .dirtLevel t = true)
      ∧ (s.dirt.status ≠ .absent → hasEvent .dirtSensor t = true) ∧ t.dirt.bin = s.dirt.bin := by
  obtain ⟨v, hv⟩ : ∃ v, v = echoLost s := ⟨_, rfl⟩
  have hexec := exec_echoTimerExpiry hs he
  rw [if_pos hrun, ← hv] at hexec
  have hvdirt : v.dirt = { s.dirt with echo := none, status := .absent } := by
    rw [hv]
    exact raiseIf_dirt _ _ _
  have hdirt : (zeroLevel none v).dirt = { s.dirt with
      echo := none, status := .absent, level := 0, rise := 0, cand := 0, fall := 0, rate := none } := by
    unfold zeroLevel
    rw [raiseIf_dirt, hvdirt]
  have hlevel := (conclude_eased (zeroLevel none v)).level
  rw [hdirt] at hlevel
  refine ⟨_, hexec, ?_, ?_, hlevel.elim id id, fun hpos => ?_, fun hsensing => ?_, ?_⟩
  · rw [conclude_dirt Dirt.status (fun _ => rfl), hdirt]
  · rw [conclude_dirt Dirt.echo (fun _ => rfl), hdirt]
  · refine conclude_keeps _ _ ?_
    unfold zeroLevel
    rw [raiseIf_of_true _ _ (by rw [hvdirt]; simpa using hpos)]
    exact hasEvent_raise _ _
  · refine conclude_keeps _ _ (raiseIf_keeps _ _ _ _ ?_)
    rw [hv, echoLost, raiseIf_of_true _ _ (by simpa using hsensing)]
    exact hasEvent_raise _ _
  · rw [conclude_dirt Dirt.bin (fun _ => rfl), hdirt]

/-- Settles O24: the echo, an impact, a window's end and the classification, each by the record it writes. -/
theorem dirtIsCountedAndRated : Obligations.DirtIsCountedAndRated := by
  refine ⟨fun s hs he => ⟨?_, fun hstate hst => ?_, fun hstate hst => ?_, echoMissed_in_run hs he⟩,
    fun amplitude w s hs hw => ⟨fun hbig => ?_, ?_, fun hsmall => ?_⟩, fun w s hs hw => ?_, fun d r h3 => ?_⟩
  · have hheard : echoHeard s = { s with dirt := { s.dirt with echo := none, status := .present } } := if_pos he
    exact hheard ▸ event_of_powered echoHeard s hs
  · rw [exec_echoTimerExpiry hs he, if_neg hstate, echoLost, raiseIf_of_true _ _ (by simpa using hst)]
  · rw [exec_echoTimerExpiry hs he, if_neg hstate, echoLost, raiseIf_of_false _ _ (by simp [hst]), ← hst]
  · have hended : impactEnded ⟨amplitude, false⟩ s = { s with dirt := { s.dirt with
        window := some (if s.dirt.large ≤ amplitude then { w with large := bump 65535 w.large }
          else { w with small := bump 65535 w.small }) } } := by
      unfold impactEnded
      rw [hw]
      exact if_neg (by simp [detectionLevel]; omega)
    exact hended ▸ event_of_powered (impactEnded ⟨amplitude, false⟩) s hs
  · have hended : impactEnded ⟨amplitude, true⟩ s = s := by
      unfold impactEnded
      rw [hw]
      exact if_pos (.inl rfl)
    have hexec := event_of_powered (impactEnded ⟨amplitude, true⟩) s hs
    rw [hended] at hexec
    exact hexec
  · have hended : impactEnded ⟨amplitude, false⟩ s = s := by
      unfold impactEnded
      rw [hw]
      exact if_pos (.inr hsmall)
    have hexec := event_of_powered (impactEnded ⟨amplitude, false⟩) s hs
    rw [hended] at hexec
    exact hexec
  · have hended : windowEnded s = windowEnd w s := by rw [windowEnded, hw]
    obtain ⟨hwindow, hrate⟩ := windowRecord_window w s
    obtain ⟨bin, sat, hcount⟩ := countedRecord_frame w s
    obtain ⟨habsent, hsensing⟩ := windowRecord_cases w s
    obtain ⟨hsmall, hlarge, hW, hF, hpresent, hother, hfull, hfullSame, hstatus, hcap⟩ := windowEnd_lasting w s
    obtain ⟨hlevelEvent, hfullEvent⟩ := windowEnd_events w s
    have hdirt := windowEnd_dirt w s
    rw [hcount] at hdirt
    have hrateOf : rateOf (weighted w.small w.large) (flowIndex s.gov.pset)
        = min 32767 ((w.small + 4 * w.large) * 100 / min 100 (max 10 (s.gov.pset * 100 / 500))) := by
      rw [rateOf, flowIndex_eq, weighted]
    rw [hrateOf] at hsensing
    have hlevel : (windowEnd w s).dirt.level = (windowRecord w s).level := (congrArg Dirt.level hdirt :)
    have hrise : (windowEnd w s).dirt.rise = (windowRecord w s).rise := (congrArg Dirt.rise hdirt :)
    have hcand : (windowEnd w s).dirt.cand = (windowRecord w s).cand := (congrArg Dirt.cand hdirt :)
    have hfall : (windowEnd w s).dirt.fall = (windowRecord w s).fall := (congrArg Dirt.fall hdirt :)
    have hrateEnd : (windowEnd w s).dirt.rate = (windowRecord w s).rate := (congrArg Dirt.rate hdirt :)
    have hsignals := windowEnd_signals w s
    rw [← hrate, ← hrateEnd] at hsignals
    rw [← hlevel, ← hrateEnd] at habsent
    rw [← hlevel, ← hrateEnd, ← hrise, ← hcand, ← hfall] at hsensing
    rw [← hlevel] at hlevelEvent
    refine ⟨hended ▸ event_of_powered windowEnded s hs, ?_, habsent, hsensing, ?_, hlevelEvent, (conclude_eased _).level,
      hsignals, hsmall, hlarge, hW, hF.trans (flowIndex_eq _), hpresent, hother, hfull, fun hset hwas =>
      hfullEvent (hfullSame ▸ hset) hwas, hstatus, hcap⟩
    · exact (congrArg Dirt.window hdirt).trans hwindow
    · have hheld : (windowRecord w s).heldLevel = (windowBase w s).heldLevel :=
        (congrArg Dirt.heldLevel (windowRecord_lasting w s) :)
      rw [hdirt]
      dsimp only
      rw [hheld]
      rw [Bool.eq_iff_iff]
      simp [windowBase, Dirt.withWindow, Dirt.lasting]
  · exact classify_cases d r h3

end Sys2Proof.Machine
end

section
namespace Sys2Proof.Machine

variable {s t u : State}

/-! ## What a step of the load monitor writes (R81 to R88) -/

/-- The load monitor's block, the mode stack, the line, hand-overs and events, and nothing else. -/
def monitorWrites (s t : State) : Prop := ∃ m st l sigs ev, t = { s with
  load := m, gov := { s.gov with stack := st }, line := l, signals := s.signals ++ sigs
  host := { s.host with events := ev } }

theorem monitorWrites.refl (s : State) : monitorWrites s s :=
  ⟨s.load, s.gov.stack, s.line, [], s.host.events, by rw [List.append_nil]⟩

theorem monitorWrites.trans (h : monitorWrites s t) (h' : monitorWrites t u) : monitorWrites s u := by
  obtain ⟨m, st, l, sigs, ev, rfl⟩ := h
  obtain ⟨m', st', l', sigs', ev', rfl⟩ := h'
  exact ⟨m', st', l', sigs ++ sigs', ev', by rw [List.append_assoc]⟩

theorem monitorWrites_of_load (m : LoadMon) (s : State) : monitorWrites s { s with load := m } :=
  ⟨m, s.gov.stack, s.line, [], s.host.events, by rw [List.append_nil]⟩

theorem monitorWrites_ite {c : Prop} [Decidable c] (ht : monitorWrites s t) (hu : monitorWrites s u) :
    monitorWrites s (if c then t else u) := by
  split
  · exact ht
  · exact hu

theorem monitorWrites_emit (g : Signal) (s : State) : monitorWrites s (emit g s) :=
  ⟨s.load, s.gov.stack, s.line, [g], s.host.events, rfl⟩

theorem monitorWrites_raise (e : Event) (s : State) : monitorWrites s (raise e s) :=
  ⟨s.load, s.gov.stack, s.line, [], (raise e s).host.events, by rw [List.append_nil]; rfl⟩

theorem monitorWrites_setStack (st : List StackEntry) (s : State) : monitorWrites s (setStack st s) := by
  obtain ⟨l, h⟩ := setStack_writes st s
  exact ⟨s.load, st, l, [], s.host.events, by rw [h, List.append_nil]⟩

theorem monitorWrites_clearPush (s : State) : monitorWrites s (clearPush s) :=
  monitorWrites_ite ((monitorWrites_setStack _ s).trans (monitorWrites_of_load _ _)) (monitorWrites_of_load _ s)

theorem monitorWrites_startAttempt (s : State) : monitorWrites s (startAttempt s) :=
  ((monitorWrites_of_load { s.load with attempts := s.load.attempts + 1 } s).trans (monitorWrites_clearPush _)).trans
    (monitorWrites_of_load _ _)

theorem monitorWrites_failEpisode (s : State) : monitorWrites s (failEpisode s) :=
  ((monitorWrites_of_load { s.load with phase := .none, timer := none } s).trans (monitorWrites_emit _ _)).trans
    (monitorWrites_raise _ _)

theorem monitorWrites_attemptOrFail (s : State) : monitorWrites s (attemptOrFail s) :=
  monitorWrites_ite (monitorWrites_startAttempt s) (monitorWrites_failEpisode s)

theorem monitorWrites_classChanged (new : BlockClass) (s : State) : monitorWrites s (classChanged new s) := by
  have hcls := monitorWrites_of_load { s.load with
    cls := new, rise := 0, block := blockAfter new s.load.block, release := 0 } s
  refine hcls.trans ?_
  cases new with
  | blocked => exact monitorWrites_ite (.refl _) (monitorWrites_attemptOrFail _)
  | clear => exact monitorWrites_ite (monitorWrites_of_load _ _) (monitorWrites_of_load _ _)
  | restricted => exact monitorWrites_ite (monitorWrites_of_load _ _) (.refl _)

theorem monitorWrites_countedStep (l : Nat) (s : State) : monitorWrites s (countedStep l s) := by
  obtain ⟨c, hc⟩ : ∃ c, c = sustainStep s.load.cls s.load.blockPct l ⟨s.load.rise, s.load.block, s.load.release⟩ := ⟨_, rfl⟩
  have hcounts := monitorWrites_of_load { s.load with rise := c.rise, block := c.block, release := c.release } s
  have hstep : countedStep l s = if decideClass s.load.cls s.load.blockPct s.load.blockMs l c = s.load.cls
      then { s with load := { s.load with rise := c.rise, block := c.block, release := c.release } }
      else classChanged (decideClass s.load.cls s.load.blockPct s.load.blockMs l c)
        { s with load := { s.load with rise := c.rise, block := c.block, release := c.release } } := hc ▸ rfl
  rw [hstep]
  exact monitorWrites_ite hcounts (hcounts.trans (monitorWrites_classChanged _ _))

/-- The expected speed of a step (R81). -/
def stepExpected (pset : Nat) (s : State) : Option Int :=
  if s.drive.state = .run then some (expectedSpeed s.gov.curve pset) else none

/-- The load ratio of a step (R82). -/
def stepRatio (pset : Nat) (ramping : Bool) (s : State) : Option Nat :=
  (stepExpected pset s).bind (loadRatio s.drive.state pset ramping s.drive.pMeas s.drive.speed)

/-- The ratio of a step written and delivered. -/
def ratioTaken (pset : Nat) (ramping : Bool) (s : State) : State :=
  deliver .loadPct (reportNat (stepRatio pset ramping s)) { s with load := { s.load with
    ratio := stepRatio pset ramping s, expected := stepExpected pset s } }

theorem loadStep_eq (pset : Nat) (ramping : Bool) (s : State) : loadStep pset ramping s
    = ((stepRatio pset ramping s).map (countedStep · (ratioTaken pset ramping s))).getD (ratioTaken pset ramping s) := by
  by_cases h : s.drive.state = .run
  · have hexp : stepExpected pset s = some (expectedSpeed s.gov.curve pset) := if_pos h
    obtain ⟨r, hr⟩ : ∃ r, r = loadRatio s.drive.state pset ramping s.drive.pMeas s.drive.speed
      (expectedSpeed s.gov.curve pset) := ⟨_, rfl⟩
    have hratio : stepRatio pset ramping s = r := by rw [stepRatio, hexp, hr]; rfl
    unfold loadStep ratioTaken
    dsimp only
    rw [hratio, hexp, if_pos h]
    dsimp only
    rw [← hr]
    cases r <;> rfl
  · have hexp : stepExpected pset s = none := if_neg h
    have hratio : stepRatio pset ramping s = none := by rw [stepRatio, hexp]; rfl
    unfold loadStep ratioTaken
    dsimp only
    rw [hratio, hexp, if_neg h]
    rfl

theorem monitorWrites_loadStep (pset : Nat) (ramping : Bool) (s : State) : monitorWrites s (loadStep pset ramping s) := by
  have htaken : monitorWrites s (ratioTaken pset ramping s) :=
    (monitorWrites_of_load _ s).trans (monitorWrites_emit _ _)
  rw [loadStep_eq]
  cases stepRatio pset ramping s with
  | none => exact htaken
  | some r => exact htaken.trans (monitorWrites_countedStep r _)

end Sys2Proof.Machine
end

section
namespace Sys2Proof.Machine

variable {s t u : State}

/-! ## The stages of a governor step (R72 to R78) -/

/-- The request of a step, before the claim is formed (R73, R79). -/
def requested (s : State) : State := formRequest (takeBoost s)

/-- The boost level of a step (R79). -/
def boostTaken (s : State) : Nat := if s.drive.state = .run then s.dirt.level else s.gov.boost

theorem takeBoost_eq (s : State) : takeBoost s = { s with gov := { s.gov with boost := boostTaken s } } := by
  unfold takeBoost boostTaken
  split <;> rfl

theorem boostPercent_eq (s : State) : boostPercent s = if (activeProfile s.gov).auto = false ∨ s.dirt.status = .absent
    ∨ s.load.cls = .blocked then 0 else (activeProfile s.gov).gain * s.gov.boost * 5 := by
  unfold boostPercent
  dsimp only
  simp only [Bool.or_eq_true, Bool.not_eq_true', beq_iff_eq, or_assoc]

theorem requested_eq (s : State) : ∃ pct req, requested s = { s with gov := { s.gov with
      boost := boostTaken s, pBase := basePower s.gov, boostPct := pct, pReq := req } }
    ∧ pct = (if (activeProfile s.gov).auto = false ∨ s.dirt.status = .absent ∨ s.load.cls = .blocked then 0
        else (activeProfile s.gov).gain * boostTaken s * 5)
    ∧ req = requestPower (basePower s.gov) pct s.gov.factor (activeProfile s.gov).floor := by
  have hpct := boostPercent_eq { s with gov := { s.gov with boost := boostTaken s } }
  refine ⟨_, _, ?_, hpct, rfl⟩
  rw [requested, takeBoost_eq]
  rfl

/-- The claim's request and floor for the voltage of the claim (R74). -/
def claimFormed (s : State) : Nat × Nat :=
  (powerToCurrent s.gov.pReq (claimVolts s), powerToCurrent (activeProfile s.gov).floor (claimVolts s))

/-- The claim formed is the one last delivered (R26). -/
def claimSame (s : State) : Prop :=
  s.gov.delivered = true ∧ (claimFormed s).1 = s.gov.claimReq ∧ (claimFormed s).2 = s.gov.claimFloor

/-- The arbiter's table with the claim in the SUCTION slot (R26, R80). -/
def claimEntered (s : State) : Arb := { s.arb with
  active := if s.gov.delivered then s.arb.active else !s.drive.state.atRest
  suction := { s.arb.suction with
    request := (claimFormed s).1, floor := min (claimFormed s).2 (claimFormed s).1 } }

theorem askRecompute_asks (s : State) : ∃ sigs, askRecompute s = { s with signals := s.signals ++ sigs }
    ∧ .recompute ∈ s.signals ++ sigs := by
  unfold askRecompute
  split
  · rename_i h
    exact ⟨[], by rw [List.append_nil], by simpa using h⟩
  · exact ⟨[.recompute], rfl, by simp⟩

/-- The claim delivered: the governor's own record of it, the SUCTION slot where it differs, and what is asked. -/
theorem deliverSuction_writes (s : State) : ∃ a sigs, deliverSuction s = { s with
      gov := { s.gov with claimReq := (claimFormed s).1, claimFloor := (claimFormed s).2, delivered := true }
      arb := a, signals := s.signals ++ sigs }
    ∧ (claimSame s → a = s.arb)
    ∧ (¬claimSame s → a = claimEntered s ∧ .recompute ∈ s.signals ++ sigs
        ∧ (s.drive.startPending = true → a.suction.floor ≠ s.arb.suction.floor → .startCheck ∈ s.signals ++ sigs)) := by
  by_cases h : claimSame s
  · obtain ⟨hdelivered, hreq, hfloor⟩ := h
    have hsame : deliverSuction s = s := if_pos ⟨hdelivered, hreq, hfloor⟩
    refine ⟨s.arb, [], ?_, fun _ => rfl, fun hno => absurd ⟨hdelivered, hreq, hfloor⟩ hno⟩
    rw [hsame, hreq, hfloor, ← hdelivered, List.append_nil]
  · obtain ⟨v, hv⟩ : ∃ v : State, v = { s with
      gov := { s.gov with claimReq := (claimFormed s).1, claimFloor := (claimFormed s).2, delivered := true }
      arb := claimEntered s } := ⟨_, rfl⟩
    obtain ⟨sigs, hasks, hmem⟩ := askRecompute_asks v
    have hdeliver : deliverSuction s = if s.drive.startPending && s.arb.suction.floor
        != min (claimFormed s).2 (claimFormed s).1 then emit .startCheck (askRecompute v) else askRecompute v :=
      hv ▸ if_neg h
    have hsignals : v.signals = s.signals := by rw [hv]
    rw [hsignals] at hmem hasks
    rw [hdeliver]
    split
    · refine ⟨claimEntered s, sigs ++ [.startCheck], ?_, fun hsame => absurd hsame h, fun _ => ⟨rfl, ?_, fun _ _ => ?_⟩⟩
      · rw [hasks, hv, ← List.append_assoc]
        rfl
      · rw [← List.append_assoc]
        exact List.mem_append_left _ hmem
      · simp
    · rename_i hstill
      refine ⟨claimEntered s, sigs, ?_, fun hsame => absurd hsame h, fun _ => ⟨rfl, hmem, fun hpending hfloor => ?_⟩⟩
      · rw [hasks, hv]
      · refine absurd ?_ hstill
        rw [hpending, Bool.true_and, bne_iff_ne]
        exact fun heq => hfloor heq.symm

theorem tracking_iff (s : State) : tracking s = true ↔ s.drive.state = .spinup ∨ s.drive.state = .run := by
  simp [tracking]

/-- P_eff of a step or of a limit: the request, and the cap reduced by the derate (R75). -/
def effective (s : State) : Nat := min s.gov.pReq (s.gov.grant * packVolts s / 1000000 * s.watch.derate / 100)

theorem stepSetPoint_writes (s : State) : ∃ cap eff set ramping ceil, stepSetPoint s = { s with
      gov := { s.gov with pCap := cap, pEff := eff, pset := set, ramping := ramping, ceiling := ceil }
      drive := { s.drive with pset := set, ceiling := ceil } }
    ∧ ceil = s.gov.grant * s.watch.derate / 100
    ∧ (tracking s = true → set = rampStep s.gov.pset (effective s) (activeProfile s.gov).ramp
        ∧ ramping = decide (set < effective s))
    ∧ (tracking s = false → set = 0) := by
  cases h : tracking s with
  | true => exact ⟨_, _, _, _, _, if_pos h, rfl, fun _ => ⟨rfl, rfl⟩, nofun⟩
  | false => exact ⟨s.gov.pCap, s.gov.pEff, _, s.gov.ramping, _, if_neg (by simp [h]), rfl, nofun, fun _ => rfl⟩

theorem limitSetPoint_writes (s : State) : ∃ cap eff set ramping ceil dset, limitSetPoint s = { s with
      gov := { s.gov with pCap := cap, pEff := eff, pset := set, ramping := ramping, ceiling := ceil }
      drive := { s.drive with pset := dset, ceiling := ceil } }
    ∧ ceil = s.gov.grant * s.watch.derate / 100
    ∧ (tracking s = true → set = min s.gov.pset (effective s) ∧ dset = set)
    ∧ (tracking s = false → set = s.gov.pset ∧ dset = s.drive.pset) := by
  cases h : tracking s with
  | true => exact ⟨_, _, _, _, _, _, if_pos h, rfl, fun _ => ⟨rfl, rfl⟩, nofun⟩
  | false => exact ⟨s.gov.pCap, s.gov.pEff, _, s.gov.ramping, _, _, if_neg (by simp [h]), rfl, nofun, fun _ => ⟨rfl, rfl⟩⟩

theorem measure_writes (i p : Nat) (s : State) : ∃ timer sigs, measure i p s = { s with
    drive := { s.drive with
      iMotor := recordCurrent s.drive i, pMeas := recordPower s.drive (packVolts s) (recordCurrent s.drive i)
      speed := recordSpeed s.drive p, stallTimer := timer, driven := 0, drivenMs := 0 }
    signals := s.signals ++ sigs } :=
  ⟨_, [_] ++ [_], by rw [← List.append_assoc]; rfl⟩

end Sys2Proof.Machine
end

section
namespace Sys2Proof.Machine

variable {s t u : State}

/-! ## The governor's own stages together (R72) -/

/-- What the governor's stages of a step write, and from what. -/
theorem governorWork_facts (s : State) : let w := governorWork s
    w = { s with
      gov := w.gov, drive := { s.drive with pset := w.gov.pset, ceiling := w.gov.ceiling }, arb := w.arb
      signals := w.signals }
    ∧ w.gov = { s.gov with
      boost := boostTaken s, pBase := basePower s.gov, boostPct := w.gov.boostPct, pReq := w.gov.pReq
      claimReq := w.gov.claimReq, claimFloor := w.gov.claimFloor, delivered := true, pCap := w.gov.pCap
      pEff := w.gov.pEff, pset := w.gov.pset, ramping := w.gov.ramping, ceiling := w.gov.ceiling }
    ∧ w.gov.boostPct = (if (activeProfile s.gov).auto = false ∨ s.dirt.status = .absent ∨ s.load.cls = .blocked then 0
        else (activeProfile s.gov).gain * boostTaken s * 5)
    ∧ w.gov.pReq = requestPower (basePower s.gov) w.gov.boostPct s.gov.factor (activeProfile s.gov).floor
    ∧ w.gov.claimReq = powerToCurrent w.gov.pReq (claimVolts s)
    ∧ w.gov.claimFloor = powerToCurrent (activeProfile s.gov).floor (claimVolts s)
    ∧ w.gov.ceiling = s.gov.grant * s.watch.derate / 100
    ∧ (tracking s = true → w.gov.pset = rampStep s.gov.pset (min w.gov.pReq (s.gov.grant * packVolts s / 1000000
          * s.watch.derate / 100)) (activeProfile s.gov).ramp
        ∧ w.gov.ramping = decide (w.gov.pset < min w.gov.pReq (s.gov.grant * packVolts s / 1000000
          * s.watch.derate / 100)))
    ∧ (tracking s = false → w.gov.pset = 0) := by
  obtain ⟨pct, req, hrequested, hpct, hreq⟩ := requested_eq s
  obtain ⟨a, sigs, hdelivered, -, -⟩ := deliverSuction_writes (requested s)
  obtain ⟨cap, eff, set, ramping, ceil, hset, hceil, htracks, hrests⟩ :=
    stepSetPoint_writes (deliverSuction (requested s))
  have hwork : governorWork s = stepSetPoint (deliverSuction (requested s)) := rfl
  rw [hdelivered, hrequested] at hset hceil htracks hrests
  rw [hwork, hdelivered, hrequested, hset]
  exact ⟨rfl, rfl, hpct, hreq, rfl, rfl, hceil, htracks, hrests⟩

/-- What a governor's step makes of the arbiter's table and of the hand-overs (R26, R44). -/
theorem governorWork_claim (s : State) : let w := governorWork s
    let same := s.gov.delivered = true ∧ w.gov.claimReq = s.gov.claimReq ∧ w.gov.claimFloor = s.gov.claimFloor
    (same → w.arb = s.arb)
      ∧ (¬same → w.arb = { s.arb with
            active := if s.gov.delivered then s.arb.active else !s.drive.state.atRest
            suction := { s.arb.suction with
              request := w.gov.claimReq, floor := min w.gov.claimFloor w.gov.claimReq } }
          ∧ .recompute ∈ w.signals
          ∧ (s.drive.startPending = true → w.arb.suction.floor ≠ s.arb.suction.floor → .startCheck ∈ w.signals)) := by
  obtain ⟨pct, req, hrequested, hpct, hreq⟩ := requested_eq s
  obtain ⟨a, sigs, hdelivered, hsame, hnew⟩ := deliverSuction_writes (requested s)
  obtain ⟨cap, eff, set, ramping, ceil, hset, -, -, -⟩ := stepSetPoint_writes (deliverSuction (requested s))
  have hwork : governorWork s = stepSetPoint (deliverSuction (requested s)) := rfl
  rw [hdelivered, hrequested] at hset
  rw [hrequested] at hsame hnew
  rw [hwork, hdelivered, hrequested, hset]
  exact ⟨hsame, hnew⟩

end Sys2Proof.Machine
end

section
namespace Sys2Proof.Machine

variable {s t u : State}

/-! ## A governor step to its end (R49, R72) -/

/-- The measurement and the load monitor's part write the drive's record, the monitor's block and the mode stack. -/
theorem loadStep_measure_writes (pset : Nat) (ramping : Bool) (i p : Nat) (s : State) : ∃ m st l sigs ev timer,
    loadStep pset ramping (measure i p s) = { s with
      load := m, gov := { s.gov with stack := st }, line := l, signals := s.signals ++ sigs
      host := { s.host with events := ev }
      drive := { s.drive with
        iMotor := recordCurrent s.drive i, pMeas := recordPower s.drive (packVolts s) (recordCurrent s.drive i)
        speed := recordSpeed s.drive p, stallTimer := timer, driven := 0, drivenMs := 0 } } := by
  obtain ⟨timer, sigs, hmeasure⟩ := measure_writes i p s
  obtain ⟨m, st, l, sigs', ev, hload⟩ := monitorWrites_loadStep pset ramping (measure i p s)
  refine ⟨m, st, l, sigs ++ sigs', ev, timer, ?_⟩
  rw [hload, hmeasure, List.append_assoc]

theorem exec_governorStep (i p : Nat) (hs : s.powered) (h : s.gov.step.isSome) : exec (.governorStep i p) s
    = .next (conclude (loadStep s.gov.pset s.gov.ramping
        (measure i p (governorWork { s with gov := { s.gov with step := some 10 } })))) := by
  have hstep : governorStep i p s = loadStep s.gov.pset s.gov.ramping
      (measure i p (governorWork { s with gov := { s.gov with step := some 10 } })) := if_pos h
  rw [← hstep]
  exact event_of_powered (governorStep i p) s hs

/-- What the hand-overs leave of the governor, field by field. -/
theorem conclude_gov {α : Type} (f : Gov → α) (hf : ∀ g : Gov, f g.lasting = f g) (s : State) :
    f (conclude s).gov = f s.gov := by
  rw [← hf, conclude_gov_lasting, hf]

theorem powerToCurrent_eq (w v : Nat) : powerToCurrent w v = (w * 1000000 + v - 1) / v := rfl

/-- The request a step forms stands through the hand-overs (R73, R74). -/
theorem governorStep_request (i p : Nat) (s : State) (hs : s.powered) (h : s.gov.step.isSome) :
    ∃ t, exec (.governorStep i p) s = .next t
      ∧ t.gov.step = some 10
      ∧ t.gov.boost = (if s.drive.state = .run then s.dirt.level else s.gov.boost)
      ∧ t.gov.pBase = (if s.gov.floor = .carpet then (activeProfile s.gov).carpet
          else (activeProfile s.gov).hard)
      ∧ t.gov.boostPct = (if (activeProfile s.gov).auto = false ∨ s.dirt.status = .absent
            ∨ s.load.cls = .blocked then 0 else (activeProfile s.gov).gain * t.gov.boost * 5)
      ∧ t.gov.pReq = min 600 (max (t.gov.pBase * (100 + t.gov.boostPct) / 100 * s.gov.factor / 100)
          (activeProfile s.gov).floor)
      ∧ t.gov.claimReq = powerToCurrent t.gov.pReq (claimVolts s)
      ∧ t.gov.claimFloor = powerToCurrent (activeProfile s.gov).floor (claimVolts s)
      ∧ t.gov.delivered = true := by
  obtain ⟨w, hw⟩ : ∃ w, w = governorWork { s with gov := { s.gov with step := some 10 } } := ⟨_, rfl⟩
  obtain ⟨-, hgov, hpct, hreq, hclaim, hfloor, -, -, -⟩ := hw ▸ governorWork_facts { s with gov := { s.gov with step := some 10 } }
  obtain ⟨m, st, l, sigs, ev, timer, hu⟩ := loadStep_measure_writes s.gov.pset s.gov.ramping i p w
  have hfield {α : Type} (f : Gov → α) (hf : ∀ g : Gov, f g.lasting = f g) :
      f (conclude (loadStep s.gov.pset s.gov.ramping (measure i p w))).gov = f w.gov := by
    rw [conclude_gov f hf, hu]
    exact (hf { w.gov with stack := st }).symm.trans (hf w.gov)
  have hboost : w.gov.boost = boostTaken s := (congrArg Gov.boost hgov :)
  have hbase : w.gov.pBase = basePower s.gov := (congrArg Gov.pBase hgov :)
  refine ⟨_, exec_governorStep i p hs h, ?_⟩
  rw [← hw, hfield Gov.step (fun _ => rfl), hfield Gov.boost (fun _ => rfl), hfield Gov.pBase (fun _ => rfl),
    hfield Gov.boostPct (fun _ => rfl), hfield Gov.pReq (fun _ => rfl), hfield Gov.claimReq (fun _ => rfl),
    hfield Gov.claimFloor (fun _ => rfl), hfield Gov.delivered (fun _ => rfl), hboost, hbase]
  exact ⟨(congrArg Gov.step hgov :), rfl, rfl, hpct, hreq, hclaim, hfloor, (congrArg Gov.delivered hgov :)⟩

/-- The claim's voltage as the obligation reads it. -/
theorem claimVolts_cases (s : State) : claimVolts s = match s.pack.record with
    | some r => max r.vpack 10000
    | none => 10000 := by
  unfold claimVolts
  cases s.pack.record <;> rfl

theorem rampStep_bounds (pset peff ramp : Nat) : rampStep pset peff ramp ≤ peff ∧ rampStep pset peff ramp ≤ pset + ramp := by
  unfold rampStep
  split <;> omega

/-- The set point, the ceiling, the claim and the record of a step (R49, R74, R75, R78). -/
theorem governorStep_setPoint (i p : Nat) (s : State) (hs : s.powered) (h : s.gov.step.isSome) :
    let u := loadStep s.gov.pset s.gov.ramping
      (measure i p (governorWork { s with gov := { s.gov with step := some 10 } }))
    let t := conclude u
    let ramp := (activeProfile s.gov).ramp
    let cap := s.gov.grant * packVolts s / 1000000 * s.watch.derate / 100
    let peff := min u.gov.pReq cap
    exec (.governorStep i p) s = .next t
      ∧ (s.drive.state = .spinup ∨ s.drive.state = .run →
          u.gov.pset = (if peff < s.gov.pset then peff else s.gov.pset + min ramp (peff - s.gov.pset))
          ∧ u.gov.ramping = decide (u.gov.pset < peff)
          ∧ t.gov.pset ≤ u.gov.pset ∧ t.gov.pset ≤ s.gov.pset + ramp
          ∧ t.gov.pset ≤ t.gov.pReq ∧ t.gov.pset ≤ cap)
      ∧ (s.drive.state ≠ .spinup → s.drive.state ≠ .run → u.gov.pset = 0 ∧ t.gov.pset = 0)
      ∧ u.gov.ceiling = s.gov.grant * s.watch.derate / 100
      ∧ u.drive.pset = u.gov.pset ∧ u.drive.ceiling = u.gov.ceiling
      ∧ (let same := s.gov.delivered = true ∧ u.gov.claimReq = s.gov.claimReq
           ∧ u.gov.claimFloor = s.gov.claimFloor
         (same → u.arb = s.arb)
         ∧ (¬same → u.arb = { s.arb with
                active := if s.gov.delivered then s.arb.active else !s.drive.state.atRest
                suction := { s.arb.suction with
                  request := u.gov.claimReq, floor := min u.gov.claimFloor u.gov.claimReq } }
              ∧ .recompute ∈ u.signals
              ∧ (s.drive.startPending = true → u.arb.suction.floor ≠ s.arb.suction.floor →
                  .startCheck ∈ u.signals)))
      ∧ (s.drive.state = .spinup → u.drive.speed = some (if s.drive.drivenMs = 0 then s.drive.rampRate
          else s.drive.driven / s.drive.drivenMs))
      ∧ u.drive.driven = 0 ∧ u.drive.drivenMs = 0 := by
  obtain ⟨w, hw⟩ : ∃ w, w = governorWork { s with gov := { s.gov with step := some 10 } } := ⟨_, rfl⟩
  obtain ⟨hwork, hgov, -, -, -, -, hceil, htracks, hrests⟩ :=
    hw ▸ governorWork_facts { s with gov := { s.gov with step := some 10 } }
  obtain ⟨hsame, hnew⟩ := hw ▸ governorWork_claim { s with gov := { s.gov with step := some 10 } }
  obtain ⟨m, st, l, sigs, ev, timer, hu⟩ := loadStep_measure_writes s.gov.pset s.gov.ramping i p w
  obtain ⟨u, hloaded⟩ : ∃ u, u = loadStep s.gov.pset s.gov.ramping (measure i p w) := ⟨_, rfl⟩
  have hdrive : w.drive = { s.drive with pset := w.gov.pset, ceiling := w.gov.ceiling } := (congrArg State.drive hwork :)
  have heased := (conclude_eased u).pset
  have hpReq : (conclude u).gov.pReq = u.gov.pReq := conclude_gov Gov.pReq (fun _ => rfl) u
  have hexec := exec_governorStep i p hs h
  rw [← hw, ← hloaded] at hexec
  rw [← hloaded] at hu
  have hpset : u.gov.pset = w.gov.pset := by rw [hu]
  have hreq : u.gov.pReq = w.gov.pReq := by rw [hu]
  have hrate : u.drive.speed = recordSpeed w.drive p := by rw [hu]
  dsimp only
  rw [← hw, ← hloaded]
  refine ⟨hexec, fun hstate => ?_, fun hspin hrun => ?_, ?_, ?_, ?_, ?_, fun hspin => ?_, ?_, ?_⟩
  · obtain ⟨hset, hramp⟩ := htracks ((tracking_iff _).mpr hstate)
    obtain ⟨hbelow, hrise⟩ := rampStep_bounds s.gov.pset
      (min w.gov.pReq (s.gov.grant * packVolts s / 1000000 * s.watch.derate / 100)) (activeProfile s.gov).ramp
    have hset' : w.gov.pset = rampStep s.gov.pset
      (min w.gov.pReq (s.gov.grant * packVolts s / 1000000 * s.watch.derate / 100)) (activeProfile s.gov).ramp := hset
    have hramping : u.gov.ramping = w.gov.ramping := by rw [hu]
    rw [hpReq, hreq, hramping]
    rw [← hset', ← hpset] at hbelow hrise
    refine ⟨hpset.trans hset, ?_, heased, heased.trans hrise, ?_, ?_⟩
    · rw [hpset]
      exact hramp
    · exact (heased.trans hbelow).trans (Nat.min_le_left _ _)
    · exact (heased.trans hbelow).trans (Nat.min_le_right _ _)
  · have hzero : u.gov.pset = 0 := hpset.trans (hrests (Bool.eq_false_iff.mpr fun ht =>
      ((tracking_iff _).mp ht).elim hspin hrun))
    exact ⟨hzero, Nat.le_zero.mp (hzero ▸ heased)⟩
  · rw [hu]
    exact hceil
  · rw [hu, hdrive]
  · rw [hu, hdrive]
  · rw [hu]
    refine ⟨hsame, fun hno => ?_⟩
    obtain ⟨harb, hmem, hcheck⟩ := hnew hno
    exact ⟨harb, List.mem_append_left _ hmem, fun hp hf => List.mem_append_left _ (hcheck hp hf)⟩
  · rw [hrate, hdrive]
    exact if_pos hspin
  · rw [hu]
  · rw [hu]

end Sys2Proof.Machine
end

section
namespace Sys2Proof.Machine

variable {s t u : State}

/-! ## A changed grant and a changed derate (R76, R77) -/

theorem tracking_of_not (hspin : s.drive.state ≠ .spinup) (hrun : s.drive.state ≠ .run) : tracking s = false :=
  Bool.eq_false_iff.mpr fun ht => ((tracking_iff s).mp ht).elim hspin hrun

theorem limitSetPoint_facts (s : State) : let t := limitSetPoint s
    t.drive.ceiling = s.gov.grant * s.watch.derate / 100 ∧ t.gov.ceiling = t.drive.ceiling
      ∧ (s.drive.state = .spinup ∨ s.drive.state = .run →
          t.gov.pset = min s.gov.pset (effective s) ∧ t.drive.pset = t.gov.pset)
      ∧ (s.drive.state ≠ .spinup → s.drive.state ≠ .run →
          t.gov.pset = s.gov.pset ∧ t.drive.pset = s.drive.pset)
      ∧ t.gov.stack = s.gov.stack ∧ t.arb = s.arb ∧ t.pack = s.pack ∧ t.load = s.load ∧ t.gov.grant = s.gov.grant := by
  obtain ⟨cap, eff, set, ramping, ceil, dset, h, hceil, htracks, hrests⟩ := limitSetPoint_writes s
  dsimp only
  rw [h]
  exact ⟨hceil, rfl, fun hstate => htracks ((tracking_iff s).mpr hstate), fun hspin hrun => hrests (tracking_of_not hspin hrun),
    rfl, rfl, rfl, rfl, rfl⟩

/-- The grant held, and a pending press asked to be checked again (R76). -/
def grantHeld (g : Nat) (s : State) : State :=
  if s.drive.startPending then emit .startCheck { s with gov := { s.gov with grant := g } }
  else { s with gov := { s.gov with grant := g } }

theorem grantHeld_facts (g : Nat) (s : State) : (grantHeld g s).drive = s.drive ∧ (grantHeld g s).gov.grant = g
    ∧ (grantHeld g s).arb = s.arb := by
  unfold grantHeld
  split <;> exact ⟨rfl, rfl, rfl⟩

theorem grantArrives_eq (g : Nat) (s : State) : grantArrives g s = if g = 0 ∧ s.drive.state.drives then
      stopOrder .starved { grantHeld g s with gov := { (grantHeld g s).gov with stopStarved := true, pset := 0 } }
    else limitSetPoint (grantHeld g s) := by
  have hstate : (grantHeld g s).drive.state = s.drive.state := by rw [(grantHeld_facts g s).1]
  rw [← hstate]
  rfl

theorem grantArrives_of_limit {g : Nat} (h : g ≠ 0 ∨ s.drive.state.drives = false) :
    grantArrives g s = limitSetPoint (grantHeld g s) := by
  rw [grantArrives_eq, if_neg]
  rintro ⟨hzero, hdrives⟩
  exact h.elim (· hzero) fun hrest => Bool.noConfusion (hrest.symm.trans hdrives)

/-- A grant of 0 stops a driving motor (R76). -/
theorem grantArrives_starves (h : s.drive.state.drives = true) : let t := grantArrives 0 s
    t.gov.grant = 0 ∧ t.gov.pset = 0 ∧ t.drive.pset = 0 ∧ t.gov.stopStarved = true
      ∧ t.drive.stopCause = .starved ∧ t.drive.state.drives = false := by
  obtain ⟨hdrive, hgrant, -⟩ := grantHeld_facts 0 s
  obtain ⟨v, hv⟩ : ∃ v : State, v = { grantHeld 0 s with
    gov := { (grantHeld 0 s).gov with stopStarved := true, pset := 0 } } := ⟨_, rfl⟩
  have hvdrive : v.drive = s.drive := by rw [hv]; exact hdrive
  have hstop : grantArrives 0 s = enterStopping .starved v := by
    rw [grantArrives_eq, if_pos ⟨rfl, h⟩, ← hv]
    exact if_pos (hvdrive ▸ h)
  have hbeside : besideMotor (enterStopping .starved v) = besideMotor v := enterStopping_besideMotor .starved v
  have hpset := (enterStopping_eased .starved v).pset
  have hstopped := enterStopping_drive .starved v
  dsimp only
  rw [hstop]
  refine ⟨?_, ?_, ?_, ?_, ?_, ?_⟩
  · refine (congrArg (fun w : State => w.gov.grant) hbeside :).trans ?_
    rw [hv]
    exact hgrant
  · rw [hv] at hpset ⊢
    exact Nat.le_zero.mp hpset
  · rw [hstopped]
    split <;> rfl
  · refine (congrArg (fun w : State => w.gov.stopStarved) hbeside :).trans ?_
    rw [hv]
    rfl
  · rw [hstopped]
    split <;> rfl
  · rw [hstopped]
    split <;> rfl

theorem stopOrder_suction (c : StopCause) (s : State) : (stopOrder c s).arb.suction = s.arb.suction
    ∧ (stopOrder c s).gov.grant = s.gov.grant :=
  ⟨(congrArg (fun w : State => w.arb.suction) (stopOrder_besideMotor c s) :),
    (congrArg (fun w : State => w.gov.grant) (stopOrder_besideMotor c s) :)⟩

theorem grantArrives_grant (g : Nat) (s : State) : (grantArrives g s).gov.grant = g
    ∧ (grantArrives g s).arb.suction = s.arb.suction := by
  obtain ⟨-, hgrant, harb⟩ := grantHeld_facts g s
  rw [grantArrives_eq]
  split
  · obtain ⟨hsuction, hheld⟩ := stopOrder_suction .starved
      { grantHeld g s with gov := { (grantHeld g s).gov with stopStarved := true, pset := 0 } }
    exact ⟨hheld.trans hgrant, hsuction.trans (congrArg Arb.suction harb)⟩
  · obtain ⟨-, -, -, -, -, hsame, -, -, hheld⟩ := limitSetPoint_facts (grantHeld g s)
    exact ⟨hheld.trans hgrant, congrArg Arb.suction (hsame.trans harb)⟩

/-- A recompute hands the governor its grant (R37, R76). -/
theorem recomputeNow_grant (s : State) : (recomputeNow s).gov.grant = (recomputeNow s).arb.suction.grant := by
  have hhanded (v : State) : (if v.arb.suction.grant = v.gov.grant then v else grantArrives v.arb.suction.grant v).gov.grant
      = (if v.arb.suction.grant = v.gov.grant then v else grantArrives v.arb.suction.grant v).arb.suction.grant := by
    split
    · rename_i hsame
      exact hsame.symm
    · obtain ⟨hgrant, hsuction⟩ := grantArrives_grant v.arb.suction.grant v
      rw [hgrant, hsuction]
  exact hhanded _

theorem handWatch_of_same (h : pauseOrdered s.watch.recs.toList = s.watch.pauseOrder) : handWatch s
    = if derateInForce s.watch.recs.toList = s.watch.derate then s
      else limitSetPoint { s with watch := { s.watch with derate := derateInForce s.watch.recs.toList } } := by
  obtain ⟨v, w, hv, hw, hhanded⟩ := handWatch_eq s
  have hderated : v = { s with watch := { s.watch with derate := derateInForce s.watch.recs.toList } } := by
    rw [hv, h]
  rw [hhanded, if_pos h, hw]
  split
  · rename_i hsame
    rw [hderated, hsame]
  · rw [hderated]

/-- Settles O22: the request and the claim, the set point of a step, and that of a changed grant or derate. -/
theorem aGovernorStepFormsRequestAndSetPoint : Obligations.AGovernorStepFormsRequestAndSetPoint := by
  refine ⟨fun i p s hs h => ?_, fun i p s hs h => governorStep_setPoint i p s hs h, fun s => ?_, fun g s =>
    ⟨fun hg => grantArrives_of_limit hg, fun hg hdrives => ?_⟩, recomputeNow_grant, fun s hsame => handWatch_of_same hsame⟩
  · obtain ⟨t, hexec, hstep, hboost, hbase, hpct, hreq, hclaim, hfloor, hdelivered⟩ := governorStep_request i p s hs h
    have hvolts := claimVolts_cases s
    rw [powerToCurrent_eq] at hclaim hfloor
    refine ⟨t, hexec, hstep, hboost, hbase, hpct, hreq, ?_, ?_, hdelivered⟩
    · rw [hclaim, hvolts] <;> rfl
    · rw [hfloor, hvolts] <;> rfl
  · obtain ⟨hceil, hsame, htracks, hrests, hstack, harb, hpack, hload, -⟩ := limitSetPoint_facts s
    exact ⟨hceil, hsame, htracks, hrests, hstack, harb, hpack, hload⟩
  · rw [hg]
    exact grantArrives_starves hdrives

end Sys2Proof.Machine
end

section
namespace Sys2Proof.Machine

variable {s t u : State}

/-! ## Clear pushes and pops (R70, R86, R87) -/

/-- The pop at the end of a pulse whose push was made (R87). -/
def popMade (s : State) : State := if s.load.pushMade then clearPop s else s

theorem popMade_writes (s : State) : ∃ l, popMade s = { s with
    gov := { s.gov with stack := if s.load.pushMade = true ∧ topOrigin s.gov = some .clear
      then s.gov.stack.dropLast else s.gov.stack }
    line := l } := by
  unfold popMade clearPop
  by_cases hmade : s.load.pushMade = true
  · rw [if_pos hmade]
    by_cases htop : topOrigin s.gov = some .clear
    · rw [if_pos htop, if_pos ⟨hmade, htop⟩]
      exact setStack_writes _ s
    · rw [if_neg htop, if_neg (fun h => htop h.2)]
      exact ⟨s.line, rfl⟩
  · rw [if_neg hmade, if_neg (fun h => hmade h.1)]
    exact ⟨s.line, rfl⟩

theorem pulseEnded_writes (h : s.load.phase = .pulse) : ∃ l, pulseEnded s = { s with
    gov := { s.gov with stack := if s.load.pushMade = true ∧ topOrigin s.gov = some .clear
      then s.gov.stack.dropLast else s.gov.stack }
    line := l
    load := if s.load.cls = .blocked then { s.load with phase := .wait, timer := some 1000 }
      else { s.load with phase := .none, timer := none } } := by
  obtain ⟨l, hpop⟩ := popMade_writes s
  have hended : pulseEnded s = if (popMade s).load.cls = .blocked
      then { popMade s with load := { (popMade s).load with phase := .wait, timer := some 1000 } }
      else { popMade s with load := { (popMade s).load with phase := .none, timer := none } } := if_pos h
  refine ⟨l, ?_⟩
  rw [hended, hpop]
  dsimp only
  split <;> rfl

theorem clearPush_writes (s : State) : ∃ l, clearPush s = { s with
    load := { s.load with pushMade := decide (s.gov.stack.length < 4) && !hasClear s.gov.stack }
    gov := { s.gov with stack := if decide (s.gov.stack.length < 4) && !hasClear s.gov.stack
      then s.gov.stack ++ [⟨15, .clear⟩] else s.gov.stack }
    line := l } := by
  unfold clearPush clearPushAllowed
  split
  · rename_i hroom
    obtain ⟨l, h⟩ := setStack_writes (s.gov.stack ++ [⟨15, .clear⟩]) s
    exact ⟨l, by rw [h, hroom]⟩
  · rename_i hroom
    exact ⟨s.line, by rw [Bool.eq_false_iff.mpr hroom]⟩

theorem startAttempt_writes (s : State) : ∃ l, startAttempt s = { s with
    load := { s.load with
      attempts := s.load.attempts + 1, phase := .pulse, timer := some 600
      pushMade := decide (s.gov.stack.length < 4) && !hasClear s.gov.stack }
    gov := { s.gov with stack := if decide (s.gov.stack.length < 4) && !hasClear s.gov.stack
      then s.gov.stack ++ [⟨15, .clear⟩] else s.gov.stack }
    line := l } := by
  obtain ⟨l, h⟩ := clearPush_writes { s with load := { s.load with attempts := s.load.attempts + 1 } }
  refine ⟨l, ?_⟩
  unfold startAttempt
  dsimp only
  rw [h]

/-! ## The failure of an episode (R88) -/

theorem failEpisode_facts (s : State) : let u := failEpisode s
    u.load = { s.load with phase := .none, timer := none } ∧ u.signals = s.signals ++ [.stop .blocked]
      ∧ u.drive = s.drive ∧ hasEvent .blockage u = true :=
  ⟨rfl, rfl, rfl, hasEvent_raise _ _⟩

theorem enterStopping_of_run_load (c : StopCause) (h : s.drive.state = .run) :
    (enterStopping c s).load.cls = .clear ∧ (enterStopping c s).load.attempts = 0
      ∧ (enterStopping c s).load.ratio = none := by
  obtain ⟨v, hv⟩ : ∃ v, v = loadRest
    { s with drive := { s.drive.stopTimers with stopCause := c, state := .stopping } } := ⟨_, rfl⟩
  have hload : (enterStopping c s).load = v.load := by
    rw [enterStopping_of_run c h, hv]
    exact (dirtRunExit_facts _).2.2.2
  rw [hload, hv]
  exact ⟨rfl, rfl, rfl⟩

/-- The failed episode of a motor in RUN ends in the stop it orders. -/
theorem conclude_failEpisode_of_run (hsig : s.signals = []) (h : s.drive.state = .run) :
    let t := conclude (failEpisode s)
    t.drive.state = .stopping ∧ t.drive.stopCause = .blocked ∧ t.load.cls = .clear ∧ t.load.attempts = 0
      ∧ t.load.ratio = none := by
  obtain ⟨v, hv⟩ : ∃ v, v = { failEpisode s with signals := [] } := ⟨_, rfl⟩
  have hvrun : v.drive.state = .run := by rw [hv]; exact h
  have htake : drain 400 (failEpisode s) = drain 399 (enterStopping .blocked v) := by
    have hone : (failEpisode s).signals = [.stop .blocked] := by
      rw [(failEpisode_facts s).2.1, hsig]
      rfl
    have hstop : take (.stop .blocked) v = enterStopping .blocked v := if_pos (by rw [hvrun]; rfl)
    rw [drain_cons 399 _ _ _ hone, ← hv, hstop]
  have hdrive := enterStopping_drive .blocked v
  rw [if_neg (by rw [hvrun]; decide)] at hdrive
  have hrest : resting (enterStopping .blocked v).drive := by
    rw [hdrive]
    exact ⟨rfl, nofun⟩
  have hframe := restFrame_load (drain_restFrame 399 hrest)
  obtain ⟨hsettled, -⟩ := drain_restsOn 399 hrest
  obtain ⟨hcls, hattempts, hratio⟩ := enterStopping_of_run_load .blocked hvrun
  have hconclude : conclude (failEpisode s) = finish (drain 399 (enterStopping .blocked v)) := by
    rw [← htake]
    rfl
  dsimp only
  rw [hconclude, finish_drive, finish_load]
  refine ⟨(congrArg Drive.state hsettled :).trans ?_, (congrArg Drive.stopCause hsettled :).trans ?_,
    (congrArg LoadMon.cls hframe :).trans hcls, (congrArg LoadMon.attempts hframe :).trans hattempts,
    (congrArg LoadMon.ratio hframe :).trans hratio⟩
  · rw [hdrive]
    rfl
  · rw [hdrive]
    rfl

theorem conclude_failEpisode (s : State) : hasEvent .blockage (conclude (failEpisode s)) = true
    ∧ (conclude (failEpisode s)).load.phase = .none ∧ (conclude (failEpisode s)).load.timer = none := by
  obtain ⟨hload, -, -, hevent⟩ := failEpisode_facts s
  refine ⟨conclude_keeps _ _ hevent, ?_⟩
  rcases (conclude_eased (failEpisode s)).monitors with hsame | ⟨-, hphase, htimer⟩
  · have hphase : (conclude (failEpisode s)).load.phase = (failEpisode s).load.phase := congrArg (·.1.phase) hsame
    have htimer : (conclude (failEpisode s)).load.timer = (failEpisode s).load.timer := congrArg (·.1.timer) hsame
    rw [hphase, htimer, hload]
    exact ⟨rfl, rfl⟩
  · exact ⟨hphase, htimer⟩

/-! ## The counts and the class of a step (R84, R85) -/

theorem sustain_eq (q : Bool) (n : Nat) : sustain q n = if q then min 255 (n + 1) else 0 := by
  have hbump : bump 255 n = min 255 (n + 1) := by
    unfold bump
    split <;> omega
  rw [sustain, hbump]

/-- The load monitor with the counts and the class of a step that moves the class (R85). -/
def classMoved (new : BlockClass) (s : State) : State :=
  { s with load := { s.load with cls := new, rise := 0, block := blockAfter new s.load.block, release := 0 } }

theorem classChanged_blocked (s : State) : classChanged .blocked s
    = if s.load.phase = .pulse then classMoved .blocked s else attemptOrFail (classMoved .blocked s) := rfl

theorem classChanged_opened {new : BlockClass} (h : new ≠ .blocked) (s : State) : classChanged new s = { s with
    load := { (classMoved new s).load with
      attempts := if new = .clear then 0 else s.load.attempts
      phase := if s.load.phase = .wait then .none else s.load.phase
      timer := if s.load.phase = .wait then none else s.load.timer } } := by
  cases new with
  | blocked => exact absurd rfl h
  | clear =>
    have hopened : classChanged .clear s = if s.load.phase = .wait
      then { classMoved .clear s with load := { (classMoved .clear s).load with attempts := 0, phase := .none, timer := none } }
      else { classMoved .clear s with load := { (classMoved .clear s).load with attempts := 0 } } := rfl
    rw [hopened]
    split <;> rfl
  | restricted =>
    have hopened : classChanged .restricted s = if s.load.phase = .wait
      then { classMoved .restricted s with load := { (classMoved .restricted s).load with phase := .none, timer := none } }
      else classMoved .restricted s := rfl
    rw [hopened]
    split <;> rfl

/-- What a change of class writes, by the new class and by the phase and the attempts (R85, R86, R88). -/
theorem classChanged_facts (new : BlockClass) (s : State) : let u := classChanged new s
    (u.load.cls = new ∧ u.load.ratio = s.load.ratio ∧ u.load.expected = s.load.expected)
      ∧ (new = .blocked → s.load.phase = .pulse →
          u.load.attempts = s.load.attempts ∧ u.load.phase = .pulse ∧ u.load.timer = s.load.timer)
      ∧ (new = .blocked → s.load.phase ≠ .pulse → s.load.attempts < 3 →
          u.load.attempts = s.load.attempts + 1 ∧ u.load.phase = .pulse ∧ u.load.timer = some 600
          ∧ u.load.pushMade = (decide (s.gov.stack.length < 4) && !hasClear s.gov.stack)
          ∧ u.gov.stack = (if u.load.pushMade then s.gov.stack ++ [⟨15, .clear⟩] else s.gov.stack))
      ∧ (new = .blocked → s.load.phase ≠ .pulse → 3 ≤ s.load.attempts →
          u.load.attempts = s.load.attempts ∧ u.load.phase = .none ∧ u.load.timer = none
          ∧ .stop .blocked ∈ u.signals ∧ hasEvent .blockage u = true)
      ∧ (new ≠ .blocked → u.load.attempts = (if new = .clear then 0 else s.load.attempts)
          ∧ (s.load.phase = .wait → u.load.phase = .none ∧ u.load.timer = none)
          ∧ (s.load.phase ≠ .wait → u.load.phase = s.load.phase ∧ u.load.timer = s.load.timer))
      ∧ (u.load.rise = 0 ∧ u.load.release = 0 ∧ u.load.block = if new = .restricted then s.load.block else 0) := by
  by_cases hnew : new = .blocked
  · subst hnew
    have hno {q : Prop} : BlockClass.blocked ≠ .blocked → q := fun h => absurd rfl h
    by_cases hpulse : s.load.phase = .pulse
    · have h : classChanged .blocked s = classMoved .blocked s := if_pos hpulse
      dsimp only
      rw [h]
      exact ⟨⟨rfl, rfl, rfl⟩, fun _ _ => ⟨rfl, hpulse, rfl⟩, fun _ hp => absurd hpulse hp, fun _ hp => absurd hpulse hp, hno,
        rfl, rfl, rfl⟩
    · by_cases hfew : s.load.attempts < 3
      · have h : classChanged .blocked s = startAttempt (classMoved .blocked s) := (if_neg hpulse).trans (if_pos hfew)
        obtain ⟨l, hattempt⟩ := startAttempt_writes (classMoved .blocked s)
        dsimp only
        rw [h, hattempt]
        exact ⟨⟨rfl, rfl, rfl⟩, fun _ hp => absurd hp hpulse, fun _ _ _ => ⟨rfl, rfl, rfl, rfl, rfl⟩,
          fun _ _ hmany => absurd hfew (Nat.not_lt.mpr hmany), hno, rfl, rfl, rfl⟩
      · have h : classChanged .blocked s = failEpisode (classMoved .blocked s) := (if_neg hpulse).trans (if_neg hfew)
        dsimp only
        rw [h]
        exact ⟨⟨rfl, rfl, rfl⟩, fun _ hp => absurd hp hpulse, fun _ _ hlt => absurd hlt hfew,
          fun _ _ _ => ⟨rfl, rfl, rfl, List.mem_append_right _ (List.mem_singleton_self _), hasEvent_raise _ _⟩, hno,
          rfl, rfl, rfl⟩
  · dsimp only
    rw [classChanged_opened hnew s]
    refine ⟨⟨rfl, rfl, rfl⟩, fun h => absurd h hnew, fun h => absurd h hnew, fun h => absurd h hnew, fun _ =>
      ⟨rfl, fun hwait => ⟨if_pos hwait, if_pos hwait⟩, fun hwait => ⟨if_neg hwait, if_neg hwait⟩⟩, rfl, rfl, rfl⟩

end Sys2Proof.Machine
end

section
namespace Sys2Proof.Machine

variable {s t u : State}

/-! ## A counted step (R82, R84, R85) -/

/-- The load monitor's state with the counts of a step. -/
def countsTaken (c : Sustain) (s : State) : State :=
  { s with load := { s.load with rise := c.rise, block := c.block, release := c.release } }

theorem countedStep_eq (l : Nat) {s : State} {c : Sustain} {new : BlockClass}
    (hc : sustainStep s.load.cls s.load.blockPct l ⟨s.load.rise, s.load.block, s.load.release⟩ = c)
    (hnew : decideClass s.load.cls s.load.blockPct s.load.blockMs l c = new) :
    countedStep l s = if new = s.load.cls then countsTaken c s else classChanged new (countsTaken c s) := by
  subst hc hnew
  rfl

/-- What a counted step writes, by the class it decides (R84 to R86, R88). -/
theorem countedStep_facts (l : Nat) {s : State} {c : Sustain} {new : BlockClass}
    (hc : sustainStep s.load.cls s.load.blockPct l ⟨s.load.rise, s.load.block, s.load.release⟩ = c)
    (hnew : decideClass s.load.cls s.load.blockPct s.load.blockMs l c = new) : let u := countedStep l s
    (u.load.ratio = s.load.ratio ∧ u.load.expected = s.load.expected)
      ∧ u.load.cls = new
      ∧ (new = s.load.cls → u.load = { s.load with rise := c.rise, block := c.block, release := c.release })
      ∧ (new = .blocked → s.load.cls ≠ .blocked → s.load.phase = .pulse →
          u.load.attempts = s.load.attempts ∧ u.load.phase = .pulse ∧ u.load.timer = s.load.timer)
      ∧ (new = .blocked → s.load.cls ≠ .blocked → s.load.phase ≠ .pulse → s.load.attempts < 3 →
          u.load.attempts = s.load.attempts + 1 ∧ u.load.phase = .pulse ∧ u.load.timer = some 600
          ∧ u.load.pushMade = (decide (s.gov.stack.length < 4) && !hasClear s.gov.stack)
          ∧ u.gov.stack = (if u.load.pushMade then s.gov.stack ++ [⟨15, .clear⟩] else s.gov.stack))
      ∧ (new = .blocked → s.load.cls ≠ .blocked → s.load.phase ≠ .pulse → 3 ≤ s.load.attempts →
          u.load.attempts = s.load.attempts ∧ u.load.phase = .none ∧ u.load.timer = none
          ∧ .stop .blocked ∈ u.signals ∧ hasEvent .blockage u = true)
      ∧ (new ≠ .blocked → new ≠ s.load.cls →
          u.load.attempts = (if new = .clear then 0 else s.load.attempts)
          ∧ (s.load.phase = .wait → u.load.phase = .none ∧ u.load.timer = none)
          ∧ (s.load.phase ≠ .wait → u.load.phase = s.load.phase ∧ u.load.timer = s.load.timer))
      ∧ (new ≠ s.load.cls → u.load.rise = 0 ∧ u.load.release = 0
          ∧ u.load.block = if new = .restricted then c.block else 0) := by
  have hstep := countedStep_eq l hc hnew
  by_cases hsame : new = s.load.cls
  · rw [if_pos hsame] at hstep
    dsimp only
    rw [hstep]
    exact ⟨⟨rfl, rfl⟩, hsame.symm, fun _ => rfl, fun hb hne => absurd (hsame.symm.trans hb) hne,
      fun hb hne => absurd (hsame.symm.trans hb) hne, fun hb hne => absurd (hsame.symm.trans hb) hne,
      fun _ hne => absurd hsame hne, fun hne => absurd hsame hne⟩
  · obtain ⟨⟨hcls, hratio, hexp⟩, hpulse, hattempt, hfail, hopened, hcounts⟩ := classChanged_facts new (countsTaken c s)
    rw [if_neg hsame] at hstep
    dsimp only
    rw [hstep]
    exact ⟨⟨hratio, hexp⟩, hcls, fun h => absurd h hsame, fun hb _ => hpulse hb, fun hb _ => hattempt hb,
      fun hb _ => hfail hb, fun hb _ => hopened hb, fun _ => hcounts⟩

/-! ## The step in RUN -/

/-- The measured power of a step in RUN (R49). -/
def runPower (i : Nat) (s : State) : Option Nat :=
  if s.drive.bridge = .off then none else some (packVolts s * min 40000 i / 1000000)

/-- The measured speed of a step in RUN (R49). -/
def runSpeed (p : Nat) : Option Nat := if 0 < p then some (100000 / p) else none

theorem recordPower_of_run {d : Drive} (h : d.state = .run) (volts i : Nat) : recordPower d volts (recordCurrent d i)
    = if d.bridge = .off then none else some (volts * min 40000 i / 1000000) := by
  unfold recordPower recordCurrent
  rw [if_pos (.inr h)]
  split <;> rfl

theorem recordSpeed_of_run {d : Drive} (h : d.state = .run) (p : Nat) : recordSpeed d p = runSpeed p := by
  unfold recordSpeed runSpeed
  rw [if_neg (by rw [h]; decide)]
  dsimp only
  by_cases hp : 0 < p
  · rw [if_pos ⟨by rw [h]; rfl, hp⟩, if_pos hp]
  · rw [if_neg (fun hc => hp hc.2), if_neg hp]

/-- The set point has stood, and the power has reached it: the ratio is taken (R82). -/
def ratioTracked (i p : Nat) (s : State) : Prop := let pm := packVolts s * min 40000 i / 1000000
  s.drive.bridge ≠ .off ∧ 0 < p ∧ 0 < s.gov.pset ∧ s.gov.ramping = false
    ∧ (pm - s.gov.pset) + (s.gov.pset - pm) ≤ s.gov.pset / 10 ∧ 0 < expectedSpeed s.gov.curve s.gov.pset

theorem loadRatio_of_tracked (i p : Nat) (h : ratioTracked i p s) : loadRatio .run s.gov.pset s.gov.ramping (runPower i s)
      (runSpeed p) (expectedSpeed s.gov.curve s.gov.pset)
    = some (min 32767 (100000 / p * 100 / (expectedSpeed s.gov.curve s.gov.pset).toNat)) := by
  obtain ⟨hbridge, hp, hset, hramp, hnear, hn⟩ := h
  unfold runPower runSpeed
  rw [if_neg hbridge, if_pos hp]
  exact if_pos ⟨rfl, hset, hramp, hnear, hn⟩

theorem loadRatio_of_not_tracked (i p : Nat) (h : ¬ratioTracked i p s) : loadRatio .run s.gov.pset s.gov.ramping
    (runPower i s) (runSpeed p) (expectedSpeed s.gov.curve s.gov.pset) = none := by
  unfold runPower runSpeed
  by_cases hbridge : s.drive.bridge = .off
  · rw [if_pos hbridge]
    rfl
  · rw [if_neg hbridge]
    by_cases hp : 0 < p
    · rw [if_pos hp]
      exact if_neg fun ⟨_, hset, hramp, hnear, hn⟩ => h ⟨hbridge, hp, hset, hramp, hnear, hn⟩
    · rw [if_neg hp]
      rfl

/-- What the load monitor meets in a governor's step in RUN. -/
theorem stepped_of_run (i p : Nat) (h : s.drive.state = .run) :
    let v := measure i p (governorWork { s with gov := { s.gov with step := some 10 } })
    v.drive.state = .run ∧ v.drive.pMeas = runPower i s ∧ v.drive.speed = runSpeed p ∧ v.load = s.load
      ∧ v.gov.stack = s.gov.stack ∧ v.gov.curve = s.gov.curve := by
  obtain ⟨w, hw⟩ : ∃ w, w = governorWork { s with gov := { s.gov with step := some 10 } } := ⟨_, rfl⟩
  obtain ⟨hwork, hgov, -⟩ := hw ▸ governorWork_facts { s with gov := { s.gov with step := some 10 } }
  obtain ⟨timer, sigs, hmeasure⟩ := measure_writes i p w
  have hdrive : w.drive = { s.drive with pset := w.gov.pset, ceiling := w.gov.ceiling } := (congrArg State.drive hwork :)
  have hpack : w.pack = s.pack := (congrArg State.pack hwork :)
  have hload : w.load = s.load := (congrArg State.load hwork :)
  have hrun : w.drive.state = .run := by rw [hdrive]; exact h
  have hbridge : w.drive.bridge = s.drive.bridge := by rw [hdrive]
  have hvolts : packVolts w = packVolts s := by rw [packVolts, hpack, packVolts]
  dsimp only
  rw [← hw, hmeasure]
  refine ⟨hrun, ?_, recordSpeed_of_run hrun p, hload, (congrArg Gov.stack hgov :), (congrArg Gov.curve hgov :)⟩
  dsimp only
  rw [recordPower_of_run hrun, hbridge, hvolts]
  rfl

theorem between_eq (sa sb pa p : Nat) : between sa sb pa p = (sa : Int) + ((p : Int) - pa) * ((sb : Int) - sa) / 150 := rfl

theorem expectedSpeed_cases (c : Curve) (p : Nat) :
    (p ≤ 100 → expectedSpeed c p = c.s1) ∧ (550 ≤ p → expectedSpeed c p = c.s4)
    ∧ (100 < p → p < 250 → expectedSpeed c p = c.s1 + ((p : Int) - 100) * ((c.s2 : Int) - c.s1) / 150)
    ∧ (250 ≤ p → p < 400 → expectedSpeed c p = c.s2 + ((p : Int) - 250) * ((c.s3 : Int) - c.s2) / 150)
    ∧ (400 ≤ p → p < 550 → expectedSpeed c p = c.s3 + ((p : Int) - 400) * ((c.s4 : Int) - c.s3) / 150) := by
  refine ⟨fun h => if_pos h, fun h => ?_, fun h1 h2 => ?_, fun h1 h2 => ?_, fun h1 h2 => ?_⟩ <;> unfold expectedSpeed
  · rw [if_neg (by omega), if_pos h]
  · rw [if_neg (by omega), if_neg (by omega), if_pos h2, between_eq]
    rfl
  · rw [if_neg (by omega), if_neg (by omega), if_neg (by omega), if_pos h2, between_eq]
    rfl
  · rw [if_neg (by omega), if_neg (by omega), if_neg (by omega), if_neg (by omega), between_eq]
    rfl

end Sys2Proof.Machine
end

section
namespace Sys2Proof.Machine

variable {s t u : State}

/-! ## An episode (R85 to R88) -/

theorem execPulse_facts (hs : s.powered) (hsig : s.signals = []) (h : s.load.phase = .pulse) :
    ∃ t, exec .pulseTimerExpiry s = .next t
      ∧ t.gov.stack = (if s.load.pushMade = true ∧ topOrigin s.gov = some .clear
          then s.gov.stack.dropLast else s.gov.stack)
      ∧ t.load = (if s.load.cls = .blocked then { s.load with phase := .wait, timer := some 1000 }
          else { s.load with phase := .none, timer := none })
      ∧ t.drive = s.drive ∧ t.arb = s.arb := by
  obtain ⟨l, hended⟩ := pulseEnded_writes h
  have hexec := event_of_powered pulseEnded s hs
  rw [conclude_of_no_signals (by rw [hended]; exact hsig)] at hexec
  refine ⟨_, hexec, ?_, ?_, ?_, ?_⟩
  · rw [finish_gov, hended]
  · rw [finish_load, hended]
  · rw [finish_drive, hended]
  · rw [finish_arb, hended]

theorem execWait_attempts (hs : s.powered) (hsig : s.signals = []) (h : s.load.phase = .wait)
    (hfew : s.load.attempts < 3) : ∃ t, exec .waitTimerExpiry s = .next t
      ∧ t.load = { s.load with
          attempts := s.load.attempts + 1, phase := .pulse, timer := some 600
          pushMade := decide (s.gov.stack.length < 4) && !hasClear s.gov.stack }
      ∧ t.gov.stack = (if t.load.pushMade = true then s.gov.stack ++ [⟨15, .clear⟩] else s.gov.stack)
      ∧ t.drive = s.drive := by
  obtain ⟨l, hattempt⟩ := startAttempt_writes s
  have hended : waitEnded s = startAttempt s := (if_pos h).trans (if_pos hfew)
  have hexec := event_of_powered waitEnded s hs
  rw [hended, conclude_of_no_signals (by rw [hattempt]; exact hsig)] at hexec
  have hload : (finish (startAttempt s)).load = { s.load with
      attempts := s.load.attempts + 1, phase := .pulse, timer := some 600
      pushMade := decide (s.gov.stack.length < 4) && !hasClear s.gov.stack } := by rw [finish_load, hattempt]
  refine ⟨_, hexec, hload, ?_, ?_⟩
  · rw [hload, finish_gov, hattempt]
  · rw [finish_drive, hattempt]

theorem execWait_fails (hs : s.powered) (hsig : s.signals = []) (h : s.load.phase = .wait)
    (hmany : 3 ≤ s.load.attempts) : ∃ t, exec .waitTimerExpiry s = .next t
      ∧ hasEvent .blockage t = true ∧ t.load.phase = .none ∧ t.load.timer = none
      ∧ (s.drive.state = .run → t.drive.state = .stopping ∧ t.drive.stopCause = .blocked
          ∧ t.load.cls = .clear ∧ t.load.attempts = 0 ∧ t.load.ratio = none) := by
  have hended : waitEnded s = failEpisode s := (if_pos h).trans (if_neg (by omega))
  have hexec := event_of_powered waitEnded s hs
  rw [hended] at hexec
  obtain ⟨hevent, hphase, htimer⟩ := conclude_failEpisode s
  exact ⟨_, hexec, hevent, hphase, htimer, conclude_failEpisode_of_run hsig⟩

/-! ## The step in RUN, by the ratio -/

/-- The load monitor's end of a step in RUN. -/
def runStep (i p : Nat) (s : State) : State :=
  loadStep s.gov.pset s.gov.ramping (measure i p (governorWork { s with gov := { s.gov with step := some 10 } }))

/-- The ratio taken of a step in RUN, or none (R82). -/
def runRatio (i p : Nat) (s : State) : Option Nat :=
  loadRatio .run s.gov.pset s.gov.ramping (runPower i s) (runSpeed p) (expectedSpeed s.gov.curve s.gov.pset)

/-- A step in RUN comes to the load monitor with its ratio and its expected speed. -/
theorem runStep_eq (i p : Nat) (h : s.drive.state = .run) : ∃ x, runStep i p s
      = ((runRatio i p s).map (countedStep · x)).getD x
    ∧ x.load = { s.load with ratio := runRatio i p s, expected := some (expectedSpeed s.gov.curve s.gov.pset) }
    ∧ x.gov.stack = s.gov.stack ∧ .update .loadPct (reportNat (runRatio i p s)) ∈ x.signals := by
  obtain ⟨v, hv⟩ : ∃ v, v = measure i p (governorWork { s with gov := { s.gov with step := some 10 } }) := ⟨_, rfl⟩
  obtain ⟨hrun, hpower, hspeed, hload, hstack, hcurve⟩ := hv ▸ stepped_of_run i p h
  have hexp : stepExpected s.gov.pset v = some (expectedSpeed s.gov.curve s.gov.pset) := by
    rw [stepExpected, if_pos hrun, hcurve]
  have hratio : stepRatio s.gov.pset s.gov.ramping v = runRatio i p s := by
    rw [stepRatio, hexp, hrun, hpower, hspeed]
    rfl
  refine ⟨ratioTaken s.gov.pset s.gov.ramping v, ?_, ?_, hstack, ?_⟩
  · rw [← hratio, runStep, ← hv]
    exact loadStep_eq _ _ _
  · unfold ratioTaken
    rw [deliver_load, hratio, hexp, hload]
  · rw [← hratio]
    exact List.mem_append_right _ (List.mem_singleton_self _)

/-- The record of a step in RUN (R49). -/
theorem runStep_record (i p : Nat) (h : s.drive.state = .run) : (runStep i p s).drive.pMeas = runPower i s
    ∧ (runStep i p s).drive.speed = runSpeed p := by
  obtain ⟨-, hpower, hspeed, -⟩ := stepped_of_run i p h
  obtain ⟨m, st, l, sigs, ev, hwrites⟩ := monitorWrites_loadStep s.gov.pset s.gov.ramping
    (measure i p (governorWork { s with gov := { s.gov with step := some 10 } }))
  rw [runStep, hwrites]
  exact ⟨hpower, hspeed⟩

theorem countedStep_signals (l : Nat) {g : Signal} (h : g ∈ s.signals) : g ∈ (countedStep l s).signals := by
  obtain ⟨m, st, line, sigs, ev, hwrites⟩ := monitorWrites_countedStep l s
  rw [hwrites]
  exact List.mem_append_left _ h

/-- With a ratio or without, the step's ratio and expected speed stand and are delivered. -/
theorem runStep_ratio (i p : Nat) (h : s.drive.state = .run) :
    (runStep i p s).load.ratio = runRatio i p s
      ∧ (runStep i p s).load.expected = some (expectedSpeed s.gov.curve s.gov.pset)
      ∧ .update .loadPct (reportNat (runRatio i p s)) ∈ (runStep i p s).signals := by
  obtain ⟨x, hstep, hload, -, hmem⟩ := runStep_eq i p h
  rw [hstep]
  cases hr : runRatio i p s with
  | none =>
    rw [hr] at hload hmem
    exact ⟨congrArg LoadMon.ratio hload, congrArg LoadMon.expected hload, hmem⟩
  | some l =>
    rw [hr] at hload hmem
    obtain ⟨⟨hratio, hexp⟩, -⟩ := countedStep_facts l (s := x) rfl rfl
    exact ⟨hratio.trans (congrArg LoadMon.ratio hload), hexp.trans (congrArg LoadMon.expected hload),
      countedStep_signals l hmem⟩

/-- The three counts of a step (R84), the guards of the class in the conditions. -/
theorem sustainStep_eq (cls : BlockClass) (pct l : Nat) (c : Sustain) : sustainStep cls pct l c
    = ⟨if cls = .clear ∧ pct - 8 ≤ l then min 255 (c.rise + 1) else 0,
      if cls ≠ .blocked ∧ pct ≤ l then min 255 (c.block + 1) else 0,
      if (cls = .restricted ∧ l < pct - 12) ∨ (cls = .blocked ∧ l < pct - 6) then min 255 (c.release + 1) else 0⟩ := by
  cases cls <;> simp [sustainStep, sustain_eq, Nat.sub_sub]

/-- The class a step decides (R85). -/
theorem decideClass_eq (cls : BlockClass) (pct ms l : Nat) (c : Sustain) : decideClass cls pct ms l c = match cls with
    | .clear => if ms / 10 ≤ c.block then .blocked else if 20 ≤ c.rise then .restricted else .clear
    | .restricted => if ms / 10 ≤ c.block then .blocked else if 30 ≤ c.release then .clear else .restricted
    | .blocked => if 30 ≤ c.release then (if l < pct - 12 then .clear else .restricted) else BlockClass.blocked := by
  have hsub : pct - 8 - 4 = pct - 12 := by omega
  cases cls with
  | clear => rfl
  | restricted => rfl
  | blocked => rw [decideClass, hsub]

/-- Settles O23: the timers of an episode, the step in RUN by its ratio, and the points of the curve. -/
theorem anEpisodeRunsOnItsClass : Obligations.AnEpisodeRunsOnItsClass := by
  refine ⟨fun s hs hsig h => execPulse_facts hs hsig h, fun s hs hsig h => ⟨fun hfew => execWait_attempts hs hsig h hfew,
    fun hmany => execWait_fails hs hsig h hmany⟩, fun i p s hs hstep h => ?_, expectedSpeed_cases⟩
  intro u pm n l tracked
  obtain ⟨hpower, hspeed⟩ := runStep_record i p h
  obtain ⟨hratio, hexp, hmem⟩ := runStep_ratio i p h
  obtain ⟨x, hrun, hload, hstack, -⟩ := runStep_eq i p h
  have hu : u = runStep i p s := rfl
  refine ⟨exec_governorStep i p hs hstep, hpower, hspeed, hexp, ?_, fun hno => ?_, fun htracked => ?_⟩
  · rw [hu, hratio]
    exact hmem
  · have hnone : runRatio i p s = none := loadRatio_of_not_tracked i p hno
    rw [hnone] at hrun hload
    rw [hu, hrun]
    exact hload
  · have hsome : runRatio i p s = some l := loadRatio_of_tracked i p htracked
    rw [hsome] at hrun hload
    refine ⟨hratio.trans hsome, ?_⟩
    intro up pct rise block release new
    have hc : sustainStep x.load.cls x.load.blockPct l ⟨x.load.rise, x.load.block, x.load.release⟩
        = ⟨rise, block, release⟩ := by
      rw [hload]
      exact sustainStep_eq s.load.cls s.load.blockPct l ⟨s.load.rise, s.load.block, s.load.release⟩
    have hnew : decideClass x.load.cls x.load.blockPct x.load.blockMs l ⟨rise, block, release⟩ = new := by
      rw [hload]
      exact decideClass_eq s.load.cls s.load.blockPct s.load.blockMs l ⟨rise, block, release⟩
    have hfacts := (countedStep_facts l hc hnew).2
    have hend : countedStep l x = u := hrun.symm
    rw [hend, hload, hstack] at hfacts
    exact hfacts

end Sys2Proof.Machine
end

section
namespace Sys2Proof.Machine

variable {s t u : State} {a : Arb} {sl : Slot}

/-! ## The targets of a recompute (R29, R30) -/

/-- The target and the state of a slot in the starved case (R30). -/
def starvedShare (sl : Slot) : Nat × SlotState := (0, if sl.request = 0 then .idle else .passed)

/-- The chain's shares, or those of the starved case, entered in the table. -/
theorem aimAll_eq (a : Arb) (limit : Nat) : ∃ th tl tx tu, a.aimAll limit = { a with
      reserve := a.reserve.aim (a.reserve.request, .granted), head := a.head.aim th, lamp := a.lamp.aim tl
      aux := a.aux.aim tx, suction := a.suction.aim tu, starved := decide (limit < a.reserve.request) }
    ∧ (limit < a.reserve.request → th = starvedShare a.head ∧ tl = starvedShare a.lamp ∧ tx = starvedShare a.aux
        ∧ tu = starvedShare a.suction)
    ∧ (a.reserve.request ≤ limit → th = chainTool a.head (limit - a.reserve.request) a.setAside
        ∧ tl = chainTool a.lamp (limit - a.reserve.request - th.1) a.setAside
        ∧ tx = chainTool a.aux (limit - a.reserve.request - th.1 - tl.1) a.setAside
        ∧ tu = chainSuction a.suction (limit - a.reserve.request - th.1 - tl.1 - tx.1)) := by
  by_cases h : limit < a.reserve.request
  · refine ⟨_, _, _, _, ?_, fun _ => ⟨rfl, rfl, rfl, rfl⟩, fun hle => absurd h (by omega)⟩
    rw [decide_eq_true h]
    exact if_pos h
  · refine ⟨_, _, _, _, ?_, fun hlt => absurd hlt h, fun _ => ⟨rfl, rfl, rfl, rfl⟩⟩
    rw [decide_eq_false h]
    exact if_neg h

theorem chainTool_le (sl : Slot) (avail aside : Nat) : (chainTool sl avail aside).1 ≤ avail := by
  unfold chainTool
  dsimp only
  split_ifs <;> dsimp only <;> omega

theorem chainSuction_le (sl : Slot) (avail : Nat) : (chainSuction sl avail).1 ≤ avail := by
  unfold chainSuction
  dsimp only
  split_ifs <;> dsimp only <;> omega

/-- The targets together are at most the budget. -/
theorem aimAll_targets_le (a : Arb) (limit : Nat) : let d := a.aimAll limit
    d.reserve.target + d.head.target + d.lamp.target + d.aux.target + d.suction.target
      ≤ max limit a.reserve.request := by
  obtain ⟨th, tl, tx, tu, haim, hstarved, hchain⟩ := aimAll_eq a limit
  dsimp only
  rw [haim]
  simp only [aim_target]
  rcases Nat.lt_or_ge limit a.reserve.request with hlt | hle
  · obtain ⟨rfl, rfl, rfl, rfl⟩ := hstarved hlt
    simp only [starvedShare]
    omega
  · obtain ⟨hth, htl, htx, htu⟩ := hchain hle
    have hhead := chainTool_le a.head (limit - a.reserve.request) a.setAside
    have hlamp := chainTool_le a.lamp (limit - a.reserve.request - th.1) a.setAside
    have haux := chainTool_le a.aux (limit - a.reserve.request - th.1 - tl.1) a.setAside
    have hsuction := chainSuction_le a.suction (limit - a.reserve.request - th.1 - tl.1 - tx.1)
    rw [← hth] at hhead
    rw [← htl] at hlamp
    rw [← htx] at haux
    rw [← htu] at hsuction
    omega

/-! ## One slot through the decreases and the increases (R31, R35, R36) -/

/-- The slot keeps its claim and its share. -/
def sameShare (x y : Slot) : Prop := y.target = x.target ∧ y.state = x.state ∧ y.request = x.request

theorem lowerTool_facts (full : Bool) (sl : Slot) : sameShare sl (sl.lowerTool full)
    ∧ (sl.lowerTool full).grant = min sl.grant sl.target := by
  unfold Slot.lowerTool
  split
  · have hmin : sl.target = min sl.grant sl.target := by omega
    dsimp only
    split
    · split <;> exact ⟨⟨rfl, rfl, rfl⟩, hmin⟩
    · exact ⟨⟨rfl, rfl, rfl⟩, hmin⟩
  · exact ⟨⟨rfl, rfl, rfl⟩, by omega⟩

theorem raiseBy_le (sl : Slot) (free : Nat) : sl.raiseBy free ≤ sl.target - sl.grant := Nat.min_le_left _ _

theorem raisePlain_facts (sl : Slot) (free : Nat) : sameShare sl (sl.raisePlain free)
    ∧ (sl.grant ≤ sl.target → (sl.raisePlain free).grant ≤ sl.target) := by
  refine ⟨⟨rfl, rfl, rfl⟩, fun h => ?_⟩
  have hraise := raiseBy_le sl free
  change sl.grant + sl.raiseBy free ≤ sl.target
  omega

theorem raiseTool_facts (full offers : Bool) (old free : Nat) (sl : Slot) :
    sameShare sl (sl.raiseTool full offers old free)
      ∧ (sl.grant ≤ sl.target → (sl.raiseTool full offers old free).grant ≤ sl.target) := by
  have hraise := raiseBy_le sl free
  unfold Slot.raiseTool Slot.markWaiting
  dsimp only
  split
  · exact ⟨⟨rfl, rfl, rfl⟩, fun h => by dsimp only; omega⟩
  · split <;> split <;> exact ⟨⟨rfl, rfl, rfl⟩, id⟩

theorem sameShare.trans {x y z : Slot} (h : sameShare x y) (h' : sameShare y z) : sameShare x z :=
  ⟨h'.1.trans h.1, h'.2.1.trans h.2.1, h'.2.2.trans h.2.2⟩

/-- The slots of a table after a recompute have the shares they were aimed at, and their grants within them. -/
theorem recompute_shares (a : Arb) (limit : Nat) (full offers : Bool) : let d := a.aimAll limit
    let b := a.recompute limit full offers
    (sameShare d.reserve b.reserve ∧ b.reserve.grant ≤ d.reserve.target)
      ∧ (sameShare d.head b.head ∧ b.head.grant ≤ d.head.target) ∧ (sameShare d.lamp b.lamp ∧ b.lamp.grant ≤ d.lamp.target)
      ∧ (sameShare d.aux b.aux ∧ b.aux.grant ≤ d.aux.target)
      ∧ (sameShare d.suction b.suction ∧ b.suction.grant ≤ d.suction.target) ∧ b.starved = d.starved := by
  have htool (sl : Slot) (old free : Nat) : sameShare sl ((sl.lowerTool full).raiseTool full offers old free)
      ∧ ((sl.lowerTool full).raiseTool full offers old free).grant ≤ sl.target := by
    obtain ⟨hsame, hgrant⟩ := lowerTool_facts full sl
    obtain ⟨hraised, hle⟩ := raiseTool_facts full offers old free (sl.lowerTool full)
    refine ⟨hsame.trans hraised, ?_⟩
    rw [← hsame.1]
    exact hle (by rw [hgrant, hsame.1]; exact Nat.min_le_right _ _)
  have hplain (sl : Slot) (free : Nat) : sameShare sl (sl.lowerPlain.raisePlain free)
      ∧ (sl.lowerPlain.raisePlain free).grant ≤ sl.target := by
    obtain ⟨hraised, hle⟩ := raisePlain_facts sl.lowerPlain free
    exact ⟨hraised, hle (Nat.min_le_right _ _)⟩
  exact ⟨hplain _ _, htool _ _ _, htool _ _ _, htool _ _ _, hplain _ _, rfl⟩

/-- Settles O12: the grants are within the targets, and the targets within the budget. -/
theorem aRecomputeKeepsWithinTheBudget : Obligations.ARecomputeKeepsWithinTheBudget := by
  refine ⟨fun a limit full offers => ?_, fun a limit full offers => ?_⟩
  · obtain ⟨⟨hreserve, hgrant⟩, ⟨hhead, hgrantHead⟩, ⟨hlamp, hgrantLamp⟩, ⟨haux, hgrantAux⟩, ⟨hsuction, hgrantSuction⟩, -⟩ :=
      recompute_shares a limit full offers
    have hsum := aimAll_targets_le a limit
    have hrequest : (a.recompute limit full offers).reserve.request = a.reserve.request := by
      obtain ⟨th, tl, tx, tu, haim, -⟩ := aimAll_eq a limit
      rw [hreserve.2.2, haim]
      rfl
    dsimp only at hsum ⊢
    rw [hrequest, hreserve.1, hhead.1, hlamp.1, haux.1, hsuction.1]
    omega
  · obtain ⟨⟨hreserve, hgrant⟩, ⟨hhead, hgrantHead⟩, ⟨hlamp, hgrantLamp⟩, ⟨haux, hgrantAux⟩, ⟨hsuction, hgrantSuction⟩,
      hstarved⟩ := recompute_shares a limit full offers
    obtain ⟨th, tl, tx, tu, haim, hshares, -⟩ := aimAll_eq a limit
    rw [haim] at hreserve hhead hlamp haux hsuction hgrantHead hgrantLamp hgrantAux hgrantSuction hstarved
    refine ⟨fun hlt => ⟨hstarved.trans (decide_eq_true hlt), hreserve.1, ?_⟩,
      fun hle => hstarved.trans (decide_eq_false (by omega))⟩
    obtain ⟨rfl, rfl, rfl, rfl⟩ := hshares hlt
    have hslot {x y : Slot} (hsame : sameShare (x.aim (starvedShare x)) y)
        (hle : y.grant ≤ (x.aim (starvedShare x)).target) :
        y.target = 0 ∧ y.grant = 0 ∧ y.state = if y.request = 0 then .idle else .passed := by
      obtain ⟨htarget, hstate, hrequest⟩ := hsame
      have hreq : y.request = x.request := hrequest
      rw [hreq]
      exact ⟨htarget, Nat.le_zero.mp hle, hstate⟩
    intro sl hsl
    simp only [List.mem_cons, List.not_mem_nil, or_false] at hsl
    rcases hsl with rfl | rfl | rfl | rfl
    · exact hslot hhead hgrantHead
    · exact hslot hlamp hgrantLamp
    · exact hslot haux hgrantAux
    · exact hslot hsuction hgrantSuction

end Sys2Proof.Machine
end

section
namespace Sys2Proof.Machine

variable {s t u : State} {a : Arb} {sl : Slot}

/-! ## The increases in chain order (R35) -/

/-- The free amount of a budget beside five slots (R35). -/
def freeOf (budget : Nat) (r h l x u : Slot) : Nat :=
  budget - (r.committed + h.committed + l.committed + x.committed + u.committed)

/-- A slot of RESERVE or SUCTION raised from a free amount (R35). -/
def raisedPlain (sl : Slot) (free : Nat) : Slot :=
  { sl with grant := sl.grant + raiseOf sl free, waiting := decide (sl.grant + raiseOf sl free < sl.target) }

/-- Each slot is raised from the free amount that the slots before it leave. -/
theorem raiseAll_facts (d old : Arb) (limit : Nat) (full offers : Bool) : let b := d.raiseAll old limit full offers
    let free := freeOf (max limit d.reserve.request)
    b.reserve = raisedPlain d.reserve (free d.reserve d.head d.lamp d.aux d.suction)
      ∧ b.head = d.head.raiseTool full offers old.head.target (free b.reserve d.head d.lamp d.aux d.suction)
      ∧ b.lamp = d.lamp.raiseTool full offers old.lamp.target (free b.reserve b.head d.lamp d.aux d.suction)
      ∧ b.aux = d.aux.raiseTool full offers old.aux.target (free b.reserve b.head b.lamp d.aux d.suction)
      ∧ b.suction = raisedPlain d.suction (free b.reserve b.head b.lamp b.aux d.suction)
      ∧ b = { d with reserve := b.reserve, head := b.head, lamp := b.lamp, aux := b.aux, suction := b.suction } :=
  ⟨rfl, rfl, rfl, rfl, rfl, rfl⟩

/-- A raise takes a slot's committed amount at most to its own with the free amount. -/
theorem committed_raise_le (sl : Slot) (free : Nat) : max (sl.grant + raiseOf sl free) sl.held ≤ sl.committed + free := by
  have hraise : raiseOf sl free ≤ (sl.held - sl.grant) + free := Nat.min_le_right _ _
  have hown : sl.committed = max sl.grant sl.held := rfl
  omega

theorem committed_raisedPlain_le (sl : Slot) (free : Nat) : (raisedPlain sl free).committed ≤ sl.committed + free :=
  committed_raise_le sl free

theorem committed_raiseTool_le (offers : Bool) (old free : Nat) (sl : Slot) :
    (sl.raiseTool true offers old free).committed ≤ sl.committed + free := by
  rw [(raiseTool_raises true offers old free sl).1 rfl]
  exact committed_raise_le sl free

/-- With TPWR FULL the committed amounts grow at most to the budget. -/
theorem raiseAll_committed_le (d old : Arb) (limit : Nat) (offers : Bool) :
    (d.raiseAll old limit true offers).committed ≤ max (max limit d.reserve.request) d.committed := by
  obtain ⟨hreserve, hhead, hlamp, haux, hsuction, -⟩ := raiseAll_facts d old limit true offers
  obtain ⟨b, hb⟩ : ∃ b, b = d.raiseAll old limit true offers := ⟨_, rfl⟩
  rw [← hb] at hreserve hhead hlamp haux hsuction ⊢
  have h1 := committed_raisedPlain_le d.reserve
    (freeOf (max limit d.reserve.request) d.reserve d.head d.lamp d.aux d.suction)
  have h2 := committed_raiseTool_le offers old.head.target
    (freeOf (max limit d.reserve.request) b.reserve d.head d.lamp d.aux d.suction) d.head
  have h3 := committed_raiseTool_le offers old.lamp.target
    (freeOf (max limit d.reserve.request) b.reserve b.head d.lamp d.aux d.suction) d.lamp
  have h4 := committed_raiseTool_le offers old.aux.target
    (freeOf (max limit d.reserve.request) b.reserve b.head b.lamp d.aux d.suction) d.aux
  have h5 := committed_raisedPlain_le d.suction
    (freeOf (max limit d.reserve.request) b.reserve b.head b.lamp b.aux d.suction)
  rw [← hreserve] at h1
  rw [← hhead] at h2
  rw [← hlamp] at h3
  rw [← haux] at h4
  rw [← hsuction] at h5
  simp only [freeOf] at h1 h2 h3 h4 h5
  simp only [Arb.committed]
  omega

/-- The table after the decreases, slot by slot. -/
theorem lowered_eq (a : Arb) (limit : Nat) (full : Bool) : ∃ th tl tx tu, (a.aimAll limit).lowerAll full = { a with
      reserve := (a.reserve.aim (a.reserve.request, .granted)).lowerPlain, head := (a.head.aim th).lowerTool full
      lamp := (a.lamp.aim tl).lowerTool full, aux := (a.aux.aim tx).lowerTool full
      suction := (a.suction.aim tu).lowerPlain, starved := decide (limit < a.reserve.request) }
    ∧ (a.reserve.request ≤ limit → th = chainTool a.head (limit - a.reserve.request) a.setAside
        ∧ tl = chainTool a.lamp (limit - a.reserve.request - th.1) a.setAside
        ∧ tx = chainTool a.aux (limit - a.reserve.request - th.1 - tl.1) a.setAside
        ∧ tu = chainSuction a.suction (limit - a.reserve.request - th.1 - tl.1 - tx.1)) := by
  obtain ⟨th, tl, tx, tu, haim, -, hchain⟩ := aimAll_eq a limit
  exact ⟨th, tl, tx, tu, by rw [haim]; rfl, hchain⟩

theorem lowered_reserve_request (a : Arb) (limit : Nat) (full : Bool) :
    ((a.aimAll limit).lowerAll full).reserve.request = a.reserve.request := by
  obtain ⟨th, tl, tx, tu, h, -⟩ := lowered_eq a limit full
  rw [h]
  rfl

/-- The shares of the chain as the slots hold them after the decreases (R29). -/
theorem lowered_shares (a : Arb) (limit : Nat) (full : Bool) (hle : a.reserve.request ≤ limit) :
    let d := (a.aimAll limit).lowerAll full
    let left := limit - a.reserve.request
    sharesTool a.head left a.setAside d.head
      ∧ sharesTool a.lamp (left - d.head.target) a.setAside d.lamp
      ∧ sharesTool a.aux (left - d.head.target - d.lamp.target) a.setAside d.aux
      ∧ sharesSuction a.suction (left - d.head.target - d.lamp.target - d.aux.target) d.suction := by
  obtain ⟨th, tl, tx, tu, h, hchain⟩ := lowered_eq a limit full
  obtain ⟨hth, htl, htx, htu⟩ := hchain hle
  dsimp only
  rw [h]
  simp only [lowerTool_target, aim_target]
  refine ⟨chainTool_shares _ _ _ _ ?_ ?_, chainTool_shares _ _ _ _ ?_ ?_, chainTool_shares _ _ _ _ ?_ ?_,
    chainSuction_shares _ _ _ ?_ ?_⟩
  · rw [lowerTool_target, aim_target, hth]
  · rw [lowerTool_state, aim_state, hth]
  · rw [lowerTool_target, aim_target, htl]
  · rw [lowerTool_state, aim_state, htl]
  · rw [lowerTool_target, aim_target, htx]
  · rw [lowerTool_state, aim_state, htx]
  · exact congrArg Prod.fst htu
  · exact congrArg Prod.snd htu

theorem mayOffer_eq (s : State) : mayOffer s
    = decide (s.arb.holdoff = none ∧ s.line.tpwr ≠ .off ∧ s.host.ready = true) := by
  rw [Bool.eq_iff_iff]
  simp [mayOffer, and_assoc]

/-- Settles O13: each stage of a recompute by the lemma about one slot, and the recompute an event brings. -/
theorem aRecomputeSharesLowersAndRaises : Obligations.ARecomputeSharesLowersAndRaises := by
  refine ⟨fun a limit full offers => ?_, fun s n rest => ⟨?_, rfl⟩⟩
  · obtain ⟨th, tl, tx, tu, hd, -⟩ := lowered_eq a limit full
    obtain ⟨hreserve, hhead, hlamp, haux, hsuction, hrest⟩ :=
      raiseAll_facts ((a.aimAll limit).lowerAll full) a limit full offers
    have hbudget := lowered_reserve_request a limit full
    rw [hbudget] at hreserve hhead hlamp haux hsuction
    refine ⟨lowered_shares a limit full, ?_, ?_, fun k => ?_, ⟨hreserve, ?_, ?_, ?_, hsuction⟩, ?_, fun hfull => ?_⟩
    · rw [hd]
      rfl
    · rw [hd]
      rfl
    · rw [hd]
      cases k with
      | head => exact lowerTool_lowers full a.head th
      | lamp => exact lowerTool_lowers full a.lamp tl
      | aux => exact lowerTool_lowers full a.aux tx
    · exact hhead ▸ raiseTool_raises full offers _ _ _
    · exact hlamp ▸ raiseTool_raises full offers _ _ _
    · exact haux ▸ raiseTool_raises full offers _ _ _
    · obtain ⟨b, hb⟩ : ∃ b, b = ((a.aimAll limit).lowerAll full).raiseAll a limit full offers := ⟨_, rfl⟩
      have hsame : a.recompute limit full offers = b := hb.symm
      rw [hsame]
      rw [← hb, hd] at hrest
      exact hrest
    · have hle := raiseAll_committed_le ((a.aimAll limit).lowerAll true) a limit offers
      rw [lowered_reserve_request] at hle
      rw [hfull]
      exact hle
  · have htpwr : (s.line.tpwr == .full) = decide (s.line.tpwr = .full) := by
      rw [Bool.eq_iff_iff]
      simp
    rw [← htpwr, ← mayOffer_eq]
    rfl

end Sys2Proof.Machine
end

section
namespace Sys2Proof.Machine

variable {s t u : State} {a : Arb} {sl : Slot}

/-! ## The allotment table and the level of TPWR through the hand-overs -/

/-- The allotment table but for the active flag, and the level of TPWR. -/
def tableSide (s : State) : Arb × Tpwr := ({ s.arb with active := false }, s.line.tpwr)

theorem tableSide_of_besideMotor (h : besideMotor t = besideMotor s) : tableSide t = tableSide s :=
  (congrArg (fun w : State => tableSide w) h :)

theorem tableSide_of_besideLimits (h : besideLimits t = besideLimits s) : tableSide t = tableSide s :=
  (congrArg (fun w : State => tableSide w) h :)

theorem tool_of_tableSide (h : tableSide t = tableSide s) (k : ToolSlot) : t.arb.tool k = s.arb.tool k := by
  cases k with
  | head => exact congrArg (·.1.head) h
  | lamp => exact congrArg (·.1.lamp) h
  | aux => exact congrArg (·.1.aux) h

/-- Of the hand-overs only a recompute changes the table and the level of TPWR. -/
theorem take_tableSide {g : Signal} (h : g ≠ .recompute) (s : State) : tableSide (take g s) = tableSide s := by
  cases g with
  | recompute => exact absurd rfl h
  | update q v => exact (congrArg (fun w : State => tableSide w) (watchUpdate_besideLimits q v s) :)
  | stop c => exact tableSide_of_besideLimits (stopOrder_besideLimits c s)
  | cutoffStop => exact tableSide_of_besideLimits (cutoffStopNow_besideLimits s)
  | startCheck => exact tableSide_of_besideMotor (repeatCheck_besideMotor s)

/-- The table a recompute of an event leaves, before the tools are handed theirs. -/
def tableFormed (s : State) : State :=
  let arb := s.arb.recompute s.pack.published (s.line.tpwr == .full) (mayOffer s)
  raiseIf (arb.starved && !s.arb.starved) .allotStarved { s with arb := arb }

theorem recomputeNow_tableSide (s : State) : tableSide (recomputeNow s) = tableSide (handTools (tableFormed s)) := by
  have hgrant (v : State) : tableSide (if v.arb.suction.grant = v.gov.grant then v
      else grantArrives v.arb.suction.grant v) = tableSide v := by
    split
    · rfl
    · exact tableSide_of_besideLimits (grantArrives_besideLimits _ _)
  exact hgrant (handTools (tableFormed s))

theorem finish_tableSide (s : State) : tableSide (finish s) = tableSide s := by
  rw [tableSide, finish_arb, finish_line]
  rfl

/-- What stands through a recompute stands through all the hand-overs of an event. -/
theorem conclude_of_tableSide {p : State → Prop} (hside : ∀ v w : State, tableSide w = tableSide v → p v → p w)
    (hrecompute : ∀ v, p v → p (recomputeNow v)) (h : p s) : p (conclude s) := by
  have htake (g : Signal) (v : State) (hv : p v) : p (take g v) := by
    by_cases hg : g = .recompute
    · exact hg ▸ hrecompute v hv
    · exact hside v _ (take_tableSide hg v) hv
  have hdrain (n : Nat) (v : State) (hv : p v) : p (drain n v) := by
    induction n generalizing v with
    | zero => exact hv
    | succ n ih =>
      unfold drain
      split
      · exact hv
      · exact ih _ (htake _ _ (hside v _ rfl hv))
  exact hside _ _ (finish_tableSide _) (hdrain 400 s h)

/-! ## A forced release stands (R34) -/

/-- Nothing is granted, held, settling or offered at the slot. -/
def emptied (sl : Slot) : Prop := sl.grant = 0 ∧ sl.held = 0 ∧ sl.settling = false ∧ sl.offer = none

/-- After a forced release: TPWR at SIGNAL, the hold-off just started, the cause and the count recorded, every tool
slot emptied. -/
def heldDown (c : ReleaseCause) (n : Nat) (s : State) : Prop := s.line.tpwr = .signal ∧ s.arb.holdoff = some 1000
  ∧ s.arb.cause = c ∧ s.arb.supCount = n ∧ ∀ k, emptied (s.arb.tool k)

theorem heldDown_of_tableSide {c : ReleaseCause} {n : Nat} (h : tableSide t = tableSide s) (hs : heldDown c n s) :
    heldDown c n t := by
  obtain ⟨htpwr, hholdoff, hcause, hcount, htools⟩ := hs
  refine ⟨?_, ?_, ?_, ?_, fun k => tool_of_tableSide h k ▸ htools k⟩
  · exact (congrArg Prod.snd h).trans htpwr
  · exact (congrArg (·.1.holdoff) h).trans hholdoff
  · exact (congrArg (·.1.cause) h).trans hcause
  · exact (congrArg (·.1.supCount) h).trans hcount

/-- Below FULL and with no offers an emptied slot stays emptied through a recompute. -/
theorem emptied_raise (x : Nat × SlotState) (old free : Nat) (h : emptied sl) :
    emptied (((sl.aim x).lowerTool false).raiseTool false false old free) := by
  obtain ⟨hgrant, hheld, hsettling, hoffer⟩ := h
  have hlower : (sl.aim x).lowerTool false = sl.aim x := if_neg (by change ¬ x.1 < sl.grant; omega)
  have hraise : (sl.aim x).raiseTool false false old free = (sl.aim x).markWaiting := by
    unfold Slot.raiseTool
    dsimp only
    rw [show (sl.aim x).offer = none from hoffer]
    rfl
  rw [hlower, hraise]
  exact ⟨hgrant, hheld, hsettling, hoffer⟩

theorem recompute_emptied (a : Arb) (limit : Nat) (h : ∀ k, emptied (a.tool k)) (k : ToolSlot) :
    emptied ((a.recompute limit false false).tool k) := by
  obtain ⟨th, tl, tx, tu, hd, -⟩ := lowered_eq a limit false
  have hb : a.recompute limit false false = ((a.aimAll limit).lowerAll false).raiseAll a limit false false := rfl
  rw [hb, hd]
  cases k with
  | head => exact emptied_raise th _ _ (h .head)
  | lamp => exact emptied_raise tl _ _ (h .lamp)
  | aux => exact emptied_raise tx _ _ (h .aux)

/-- The table and the level after the hand-over to tools that are granted nothing. -/
theorem handTools_emptied (h : s.line.tpwr = .signal) (htools : ∀ k, emptied (s.arb.tool k)) :
    (handTools s).line.tpwr = .signal ∧ ∃ f : Slot → Slot, (∀ sl, f sl = { sl with news := false })
      ∧ (handTools s).arb = s.arb.mapTools f := by
  obtain ⟨hhead, -⟩ := htools .head
  obtain ⟨hlamp, -⟩ := htools .lamp
  obtain ⟨haux, -⟩ := htools .aux
  have hrule (l : List Addr) : powerRule (queueCaps l { s with arb := s.arb.mapTools fun sl => { sl with news := false } })
      = queueCaps l { s with arb := s.arb.mapTools fun sl => { sl with news := false } } := by
    obtain ⟨q, w, hq⟩ := queueCaps_writes l { s with arb := s.arb.mapTools fun sl => { sl with news := false } }
    have hsum : s.arb.head.grant + s.arb.lamp.grant + s.arb.aux.grant = 0 := by
      have h1 : s.arb.head.grant = 0 := hhead
      have h2 : s.arb.lamp.grant = 0 := hlamp
      have h3 : s.arb.aux.grant = 0 := haux
      omega
    have hnone : ¬ (0 < (s.arb.mapTools fun sl => { sl with news := false }).head.grant
        + (s.arb.mapTools fun sl => { sl with news := false }).lamp.grant
        + (s.arb.mapTools fun sl => { sl with news := false }).aux.grant) := by
      change ¬ (0 < s.arb.head.grant + s.arb.lamp.grant + s.arb.aux.grant)
      omega
    rw [hq]
    unfold powerRule
    rw [if_neg (fun hc => Tpwr.noConfusion (h.symm.trans hc.1)), if_neg (fun hc => hnone hc.2.1)]
  have hall (l : List Addr) : handTools s = powerRule (queueCaps l
      { s with arb := s.arb.mapTools fun sl => { sl with news := false } }) →
      (handTools s).line.tpwr = .signal
        ∧ (handTools s).arb = s.arb.mapTools fun sl => { sl with news := false } := by
    intro heq
    obtain ⟨q, w, hq⟩ := queueCaps_writes l { s with arb := s.arb.mapTools fun sl => { sl with news := false } }
    rw [heq, hrule, hq]
    exact ⟨h, rfl⟩
  obtain ⟨htpwr, harb⟩ := hall _ rfl
  exact ⟨htpwr, _, fun _ => rfl, harb⟩

theorem tool_mapTools (f : Slot → Slot) (a : Arb) (k : ToolSlot) : (a.mapTools f).tool k = f (a.tool k) := by
  cases k <;> rfl

theorem recomputeNow_heldDown {c : ReleaseCause} {n : Nat} (h : heldDown c n s) : heldDown c n (recomputeNow s) := by
  refine heldDown_of_tableSide (recomputeNow_tableSide s) ?_
  obtain ⟨htpwr, hholdoff, hcause, hcount, htools⟩ := h
  have hoffers : mayOffer s = false := by simp [mayOffer, hholdoff]
  have hfull : (s.line.tpwr == .full) = false := by rw [htpwr]; rfl
  obtain ⟨v, hv⟩ : ∃ v, v = tableFormed s := ⟨_, rfl⟩
  have harb : v.arb = s.arb.recompute s.pack.published false false := by
    rw [hv, tableFormed, hoffers, hfull]
    exact raiseIf_arb _ _ _
  have hline : v.line.tpwr = .signal := by
    rw [hv, tableFormed, raiseIf_line]
    exact htpwr
  have hempty (k : ToolSlot) : emptied (v.arb.tool k) := harb ▸ recompute_emptied s.arb s.pack.published htools k
  obtain ⟨hlevel, f, hf, hhanded⟩ := handTools_emptied hline hempty
  have hrest : (s.arb.recompute s.pack.published false false).holdoff = s.arb.holdoff
      ∧ (s.arb.recompute s.pack.published false false).cause = s.arb.cause
      ∧ (s.arb.recompute s.pack.published false false).supCount = s.arb.supCount := by
    obtain ⟨th, tl, tx, tu, hd, -⟩ := lowered_eq s.arb s.pack.published false
    have hb : s.arb.recompute s.pack.published false false
        = ((s.arb.aimAll s.pack.published).lowerAll false).raiseAll s.arb s.pack.published false false := rfl
    rw [hb, hd]
    exact ⟨rfl, rfl, rfl⟩
  obtain ⟨hh, hc, hn⟩ := hrest
  rw [← hv]
  refine ⟨hlevel, ?_, ?_, ?_, fun k => ?_⟩
  · rw [hhanded, harb]
    exact hh.trans hholdoff
  · rw [hhanded, harb]
    exact hc.trans hcause
  · rw [hhanded, harb]
    exact hn.trans hcount
  · rw [hhanded, tool_mapTools, hf]
    exact hempty k

/-- A forced release stands to the end of its event. -/
theorem conclude_heldDown {c : ReleaseCause} {n : Nat} (h : heldDown c n s) : heldDown c n (conclude s) :=
  conclude_of_tableSide (p := heldDown c n) (fun _ _ hside hv => heldDown_of_tableSide hside hv)
    (fun _ hv => recomputeNow_heldDown hv) h

end Sys2Proof.Machine
end

section
namespace Sys2Proof.Machine

variable {s t u : State} {a : Arb} {sl : Slot}

/-! ## The stages of a round (R1) -/

/-- The record a round forms, without its factors (R2, R3). -/
def roundRecord (r : Readings) (s : State) : PackRecord := convert s.pack.count r

/-- The Pack Monitor after the stages of a round. -/
def roundPack (r : Readings) (s : State) : Pack :=
  roundOf (s.dock.state != .detached) s.dock.state.charges (roundRecord r s) s.pack

/-- The round's events of the sensors, the flags and the gauge (R3, R5, R10, R14, R17). -/
def roundRaised (r : Readings) (s : State) : State :=
  raiseIf ((roundPack r s).overvolt && !s.pack.overvolt) .cellOvervolt
    (raiseIf ((roundPack r s).clip && !s.pack.clip) .gaugeClipped
      (raiseIf ((roundPack r s).low && !s.pack.low) .packLow
        (raiseIf (tempLimitRaised s.pack (roundRecord r s).tmax) .tempLimit
          (raiseIf ((roundRecord r s).tmax.isNone && s.pack.hadTemp) .tempSensor
            { s with pack := roundPack r s }))))

/-- The round's order of an over-voltage (R17). -/
def roundOvervolted (r : Readings) (s : State) : State :=
  if (roundPack r s).overvolt && !s.pack.overvolt then overvoltOrder (roundRaised r s) else roundRaised r s

/-- The round's orders of a cut-off that is declared or ends (R15, R126). -/
def roundCut (r : Readings) (s : State) : State :=
  let v := if (roundPack r s).cutoff && !s.pack.cutoff then cutoffOrders (raise .packCutoff (roundOvervolted r s))
    else roundOvervolted r s
  if s.pack.cutoff && !(roundPack r s).cutoff then releasePower v else v

/-- The tool supply supervision of the round, and the recompute its limit asks for (R8, R38). -/
def roundSupervised (r : Readings) (s : State) : State :=
  if (roundPack r s).published ≠ s.pack.published ∨ s.pack.record.isNone
  then askRecompute (supervise (roundRecord r s).itool (roundCut r s))
  else supervise (roundRecord r s).itool (roundCut r s)

theorem packRound_eq (r : Readings) (s : State) : packRound r s = thermalCheck (roundRecord r s).die
    (deliverAll (packUpdates (roundPack r s) (roundRecord r s)) (roundSupervised r s)) := rfl

/-! ## What a round's orders leave alone -/

theorem roundRaised_besideMotor (r : Readings) (s : State) :
    besideMotor (roundRaised r s) = besideMotor { s with pack := roundPack r s } := by
  simp only [roundRaised, raiseIf_besideMotor]

theorem overvoltOrder_besideDock (s : State) : besideDock (overvoltOrder s) = besideDock s :=
  besideDock_ite rfl (enterChargeFault_besideDock _ _)

theorem roundOvervolted_besideMotor (r : Readings) (s : State) :
    besideMotor (roundOvervolted r s) = besideMotor { s with pack := roundPack r s } := by
  unfold roundOvervolted
  split
  · rw [besideMotor_of_besideDock (overvoltOrder_besideDock (roundRaised r s))]
    exact roundRaised_besideMotor r s
  · exact roundRaised_besideMotor r s

theorem trip_besideMotor (c : TripCause) (s : State) : besideMotor (trip c s) = besideMotor s := by
  have hentered : besideMotor (tripEntered c s) = besideMotor s := raiseIf_besideMotor _ _ _
  have htimer (u : State) (d : Drive) : besideMotor { u with drive := d } = besideMotor u := rfl
  rw [trip_eq]
  split
  · exact (enterRest_besideMotor _ _).trans hentered
  · rw [htimer]
    exact (enterRest_besideMotor _ _).trans hentered

theorem thermalCheck_besideMotor (x : Int) (s : State) : besideMotor (thermalCheck x s) = besideMotor s :=
  besideMotor_ite (trip_besideMotor _ s) rfl

theorem deliverAll_eq (l : List (Quantity × Half)) (s : State) :
    deliverAll l s = { s with signals := s.signals ++ l.map fun x => .update x.1 x.2 } := by
  unfold deliverAll
  induction l generalizing s with
  | nil => rw [List.map_nil, List.append_nil]; rfl
  | cons x l ih =>
    rw [List.foldl_cons, ih, List.map_cons]
    simp only [deliver, emit, List.append_assoc]
    rfl

theorem deliverAll_besideMotor (l : List (Quantity × Half)) (s : State) : besideMotor (deliverAll l s) = besideMotor s := by
  rw [deliverAll_eq]
  rfl

theorem askRecompute_tableSide (s : State) : tableSide (askRecompute s) = tableSide s := by
  unfold askRecompute
  split <;> rfl

theorem roundSupervised_tableSide (r : Readings) (s : State) :
    tableSide (roundSupervised r s) = tableSide (supervise (roundRecord r s).itool (roundCut r s)) := by
  unfold roundSupervised
  split
  · exact askRecompute_tableSide _
  · rfl

theorem packRound_tableSide (r : Readings) (s : State) :
    tableSide (packRound r s) = tableSide (supervise (roundRecord r s).itool (roundCut r s)) := by
  rw [packRound_eq]
  exact (tableSide_of_besideMotor ((thermalCheck_besideMotor _ _).trans (deliverAll_besideMotor _ _))).trans
    (roundSupervised_tableSide r s)

/-- A round in which no cut-off is declared or ends keeps the table and TPWR up to its supervision. -/
theorem roundCut_of_same (r : Readings) (h : (roundPack r s).cutoff = s.pack.cutoff) :
    roundCut r s = roundOvervolted r s := by
  unfold roundCut
  rw [h]
  cases s.pack.cutoff <;> rfl

/-! ## Signals are appended -/

/-- Hand-overs are added behind those that stand. -/
def appends (s t : State) : Prop := ∃ l, t.signals = s.signals ++ l

theorem appends_of_eq (h : t.signals = s.signals) : appends s t := ⟨[], by rw [h, List.append_nil]⟩

theorem appends.trans (h : appends s t) (h' : appends t u) : appends s u := by
  obtain ⟨l, h⟩ := h
  obtain ⟨m, h'⟩ := h'
  exact ⟨l ++ m, by rw [h', h, List.append_assoc]⟩

theorem appends.mem {g : Signal} (h : appends s t) (hg : g ∈ s.signals) : g ∈ t.signals := by
  obtain ⟨l, h⟩ := h
  rw [h]
  exact List.mem_append_left _ hg

theorem appends_ite {c : Prop} [Decidable c] (ht : appends s t) (hu : appends s u) : appends s (if c then t else u) := by
  split
  · exact ht
  · exact hu

theorem appends_askRecompute (s : State) : appends s (askRecompute s) := appends_ite (appends_of_eq rfl) ⟨_, rfl⟩

theorem appends_setActive (b : Bool) (s : State) : appends s (setActive b s) :=
  appends_ite (appends_of_eq rfl) (appends_askRecompute { s with arb := { s.arb with active := b } })

theorem appends_leaveRun (s : State) : appends s (leaveRun s) := by
  have hrest : (loadRest s).signals = s.signals := by
    have hpop (u : State) : (clearPop u).signals = u.signals := by
      unfold clearPop
      split
      · obtain ⟨l, h⟩ := setStack_writes u.gov.stack.dropLast u
        rw [h]
      · rfl
    unfold loadRest
    dsimp only
    split
    · exact hpop s
    · rfl
  have hzero (rate : Option Nat) (u : State) : appends u (zeroLevel rate u) := appends_of_eq (raiseIf_signals _ _ _)
  have hdeliver (v : Half) (u : State) : appends u (deliver .dirtRate v u) := ⟨[.update .dirtRate v], rfl⟩
  exact (appends_of_eq hrest).trans ((hzero _ { loadRest s with
    dirt := { (loadRest s).dirt with window := none } } :).trans (hdeliver _ _))

theorem appends_changeState (new : MotorState) (s : State) : appends s (changeState new s) :=
  appends_ite (appends_leaveRun { s with drive := { s.drive.stopTimers with state := new } }) (appends_of_eq rfl)

theorem appends_enterRest (new : MotorState) (s : State) : appends s (enterRest new s) := by
  obtain ⟨v, hv⟩ : ∃ v : State, v = { zeroSetPoint (changeState new s) with
    drive := { (zeroSetPoint (changeState new s)).drive with
      bridge := .off, iMotor := none, pMeas := none, speed := none } } := ⟨_, rfl⟩
  have hchanged : appends s v := hv ▸ appends_changeState new s
  have hrest : enterRest new s
      = leaveAttachWait (setActive false (deliver .motorSpeed noneMark (deliver .motorW noneMark v))) := hv ▸ rfl
  have hdelivered : appends v (deliver .motorSpeed noneMark (deliver .motorW noneMark v)) :=
    ⟨[_] ++ [_], by rw [← List.append_assoc]; rfl⟩
  rw [hrest]
  exact (hchanged.trans hdelivered).trans ((appends_setActive _ _).trans
    (appends_of_eq (congrArg State.signals (leaveAttachWait_besideDock _) :)))

theorem appends_thermalCheck (x : Int) (s : State) : appends s (thermalCheck x s) := by
  have htrip : appends s (trip .thermal s) := by
    have hentered : appends s (tripEntered .thermal s) := appends_of_eq (raiseIf_signals _ _ _)
    rw [trip_eq]
    exact appends_ite (hentered.trans (appends_enterRest _ _)) (hentered.trans (appends_enterRest _ _))
  exact appends_ite htrip (appends_of_eq rfl)

/-- A round's updates stand behind what its stages handed on, and the trip's hand-overs behind them. -/
theorem packRound_signals (r : Readings) (s : State) : ∃ after, (packRound r s).signals = (roundSupervised r s).signals
    ++ (packUpdates (roundPack r s) (roundRecord r s)).map (fun x => .update x.1 x.2) ++ after := by
  obtain ⟨after, h⟩ := appends_thermalCheck (roundRecord r s).die
    (deliverAll (packUpdates (roundPack r s) (roundRecord r s)) (roundSupervised r s))
  refine ⟨after, ?_⟩
  rw [packRound_eq, h, deliverAll_eq]

end Sys2Proof.Machine
end

section
namespace Sys2Proof.Machine

variable {s t u : State} {a : Arb} {sl : Slot}

/-! ## Away from FULL (R34, R125) -/

/-- The table after a forced release of the tool slots (R34). -/
def tableReleased (c : ReleaseCause) (a : Arb) : Arb := { ({ a with supCount := 0 } : Arb).mapTools Slot.release with cause := c }

/-- A change of TPWR from FULL to SIGNAL is a forced release, and asks for a recompute. -/
theorem setTpwr_signal_of_full (c : ReleaseCause) (h : s.line.tpwr = .full) : let t := setTpwr .signal c s
    t.arb = tableReleased c s.arb ∧ t.line.tpwr = .signal ∧ .recompute ∈ t.signals := by
  obtain ⟨v, hv⟩ : ∃ v, v = forcedRelease c { discardCaps { s with line := { s.line with tpwr := .signal } } with
    arb := { s.arb with supCount := 0 } } := ⟨_, rfl⟩
  have hset : setTpwr .signal c s = askRecompute v := by
    have hbefore : s.line.tpwr ≠ .signal := by rw [h]; decide
    unfold setTpwr
    rw [if_neg hbefore]
    dsimp only
    rw [if_pos h, if_neg (by decide), hv]
    rfl
  obtain ⟨sigs, hasks, hmem⟩ := askRecompute_asks v
  obtain ⟨sigs', hasks', -⟩ := askRecompute_asks
    { discardCaps { s with line := { s.line with tpwr := .signal } } with arb := tableReleased c s.arb }
  have hvarb : v.arb = tableReleased c s.arb := by
    rw [hv]
    exact congrArg State.arb hasks'
  have hvline : v.line.tpwr = .signal := by
    rw [hv]
    exact congrArg (fun w : State => w.line.tpwr) hasks'
  dsimp only
  rw [hset, hasks]
  exact ⟨hvarb, hvline, hmem⟩

/-- A released slot is emptied, and no node is concerned in it. -/
theorem release_facts (sl : Slot) : emptied sl.release ∧ sl.release.concerned = [] ∧ sl.release.settleDl = none :=
  ⟨⟨rfl, rfl, rfl, rfl⟩, rfl, rfl⟩

theorem tableReleased_tool (c : ReleaseCause) (a : Arb) (k : ToolSlot) : (tableReleased c a).tool k = (a.tool k).release := by
  cases k <;> rfl

/-- The trip of the supervision (R38). -/
theorem overcurrentTrip_facts (h : s.line.tpwr = .full) : let t := overcurrentTrip s
    heldDown .overcurrent 0 t ∧ hasEvent .toolOvercurrent t = true ∧ .recompute ∈ t.signals
      ∧ ∀ k, t.arb.tool k = (s.arb.tool k).release := by
  obtain ⟨harb, hlevel, hmem⟩ := setTpwr_signal_of_full (s := raise .toolOvercurrent s) .overcurrent h
  have htrip : overcurrentTrip s = { setTpwr .signal .overcurrent (raise .toolOvercurrent s) with
      arb := { tableReleased .overcurrent s.arb with holdoff := some 1000, supCount := 0 } } := by
    unfold overcurrentTrip startHoldoff
    dsimp only
    rw [harb]
    rfl
  have hslot (k : ToolSlot) : ({ tableReleased .overcurrent s.arb with holdoff := some 1000, supCount := 0 } : Arb).tool k
      = (s.arb.tool k).release := by
    cases k <;> rfl
  have hevent : hasEvent .toolOvercurrent (setTpwr .signal .overcurrent (raise .toolOvercurrent s)) = true :=
    setTpwr_keeps _ _ _ _ (hasEvent_raise _ _)
  dsimp only
  rw [htrip]
  exact ⟨⟨hlevel, rfl, rfl, rfl, fun k => hslot k ▸ (release_facts _).1⟩, hevent, hmem, hslot⟩

theorem heldDown.tools {c : ReleaseCause} {n : Nat} (h : heldDown c n s) (k : ToolSlot) : emptied (s.arb.tool k) :=
  h.2.2.2.2 k

/-- TOOL_OVERCURRENT with TPWR FULL (R38). -/
theorem toolOvercurrent_trips (hs : s.powered) (h : s.line.tpwr = .full) (hcount : 0 < s.arb.supCount) :
    ∃ t, exec .toolOvercurrent s = .next t ∧ hasEvent .toolOvercurrent t = true ∧ heldDown .overcurrent 0 t := by
  obtain ⟨hdown, hevent, -⟩ := overcurrentTrip_facts h
  have htrip : supervisionTrip s = overcurrentTrip s := if_pos ⟨h, hcount⟩
  exact ⟨_, htrip ▸ event_of_powered supervisionTrip s hs, conclude_keeps _ _ hevent, conclude_heldDown hdown⟩

/-- SETTLE_DEADLINE_EXPIRY with TPWR FULL (R33). -/
theorem settleDeadline_releases (slot : ToolSlot) (hs : s.powered) (h : s.line.tpwr = .full)
    (hdl : (s.arb.tool slot).settleDl.isSome) :
    ∃ t, exec (.settleDeadlineExpiry slot) s = .next t ∧ heldDown .timeout 0 t := by
  obtain ⟨harb, hlevel, -⟩ := setTpwr_signal_of_full (s := s) .timeout h
  have hexpired : settleExpired slot s = startHoldoff (setTpwr .signal .timeout s) := by
    unfold settleExpired
    rw [if_pos hdl, if_pos h]
  have hdown : heldDown .timeout 0 (settleExpired slot s) := by
    rw [hexpired]
    unfold startHoldoff
    rw [harb]
    refine ⟨hlevel, rfl, rfl, rfl, fun k => ?_⟩
    have hslot : ({ tableReleased .timeout s.arb with holdoff := some 1000 } : Arb).tool k = (s.arb.tool k).release := by
      cases k <;> rfl
    exact hslot ▸ (release_facts _).1
  exact ⟨_, event_of_powered (settleExpired slot) s hs, conclude_heldDown hdown⟩

/-! ## The supervision of a round (R38) -/

theorem supervise_of_below (i : Nat) (h : s.line.tpwr ≠ .full) : supervise i s = { s with arb := { s.arb with supCount := 0 } } :=
  if_neg fun hc => h hc.1

theorem supervise_cases (i : Nat) (h : s.line.tpwr = .full) : let t := supervise i s
    (i ≤ permitted s.arb → t = { s with arb := { s.arb with supCount := 0 } })
      ∧ (permitted s.arb < i → s.arb.supCount < 4 → t = { s with arb := { s.arb with supCount := s.arb.supCount + 1 } })
      ∧ (permitted s.arb < i → 4 ≤ s.arb.supCount → t = overcurrentTrip s) := by
  refine ⟨fun hle => if_neg fun hc => absurd hc.2 (by omega), fun hlt hfew => ?_, fun hlt hmany => ?_⟩
  · exact (if_pos ⟨h, hlt⟩).trans (if_neg (by omega))
  · exact (if_pos ⟨h, hlt⟩).trans (if_pos (by omega))

/-- Below FULL after the supervision, the count is 0. -/
theorem supervise_count_of_below (i : Nat) (s : State) (h : (supervise i s).line.tpwr ≠ .full) :
    (supervise i s).arb.supCount = 0 := by
  by_cases hfull : s.line.tpwr = .full
  · obtain ⟨hle, hfew, hmany⟩ := supervise_cases i hfull
    rcases Nat.lt_or_ge (permitted s.arb) i with hlt | hge
    · rcases Nat.lt_or_ge s.arb.supCount 4 with hcount | hcount
      · rw [hfew hlt hcount] at h
        exact absurd hfull h
      · rw [hmany hlt hcount]
        obtain ⟨⟨-, -, -, hzero, -⟩, -⟩ := overcurrentTrip_facts hfull
        exact hzero
    · rw [hle hge]
  · rw [supervise_of_below i hfull]

theorem thermalCheck_keeps (x : Int) (s : State) (i : Nat) (h : s.host.events.getLsbD i = true) :
    (thermalCheck x s).host.events.getLsbD i = true := by
  unfold thermalCheck
  split
  · exact trip_keeps_tripEntered _ _ _ (raiseIf_keeps _ _ _ _ (raise_keeps _ _ _ h))
  · exact h

/-- What stands at the supervision of a round, stands at the round's end. -/
theorem packRound_of_supervised (r : Readings) (s : State) : let v := supervise (roundRecord r s).itool (roundCut r s)
    (∀ g ∈ v.signals, g ∈ (packRound r s).signals)
      ∧ ∀ i, v.host.events.getLsbD i = true → (packRound r s).host.events.getLsbD i = true := by
  refine ⟨fun g hg => ?_, fun i hi => ?_⟩
  · obtain ⟨after, hsignals⟩ := packRound_signals r s
    have hasked : g ∈ (roundSupervised r s).signals := by
      unfold roundSupervised
      split
      · exact (appends_askRecompute _).mem hg
      · exact hg
    rw [hsignals]
    exact List.mem_append_left _ (List.mem_append_left _ hasked)
  · rw [packRound_eq, deliverAll_eq]
    refine thermalCheck_keeps _ _ _ ?_
    change (roundSupervised r s).host.events.getLsbD i = true
    unfold roundSupervised
    split
    · exact askRecompute_keeps _ _ hi
    · exact hi

theorem convert_itool (n : Nat) (r : Readings) : (convert n r).itool = min 32000 r.tool := rfl

end Sys2Proof.Machine
end

section
namespace Sys2Proof.Machine

variable {s t u : State} {a : Arb} {sl : Slot}

theorem pack_of_besideTools (h : besideTools t = besideTools s) : t.pack = s.pack := (congrArg State.pack h :)

theorem roundCut_pack (r : Readings) (s : State) : (roundCut r s).pack = roundPack r s := by
  have hvolt : (roundOvervolted r s).pack = roundPack r s := (congrArg State.pack (roundOvervolted_besideMotor r s) :)
  have hcut : (cutoffOrders (raise .packCutoff (roundOvervolted r s))).pack = roundPack r s :=
    (pack_of_besideTools (holdPower_besideTools (emit .cutoffStop (raise .packCutoff (roundOvervolted r s)))) :).trans hvolt
  unfold roundCut
  dsimp only
  split
  · rw [pack_of_besideTools (releasePower_besideTools _)]
    split
    · exact hcut
    · exact hvolt
  · split
    · exact hcut
    · exact hvolt

/-- The Pack Monitor's state after a round is the one its stages form. -/
theorem packRound_pack (r : Readings) (s : State) : (packRound r s).pack = roundPack r s := by
  have hthermal (x : Int) (u : State) : (thermalCheck x u).pack = u.pack := (congrArg State.pack (thermalCheck_besideMotor x u) :)
  rw [packRound_eq, hthermal, deliverAll_eq]
  change (roundSupervised r s).pack = _
  unfold roundSupervised
  split
  · rw [askRecompute_pack, pack_of_besideTools (supervise_besideTools _ _), roundCut_pack]
  · rw [pack_of_besideTools (supervise_besideTools _ _), roundCut_pack]

theorem permitted_of_tableSide (h : tableSide t = tableSide s) : permitted t.arb = permitted s.arb := by
  have hhead : t.arb.head = s.arb.head := tool_of_tableSide h .head
  have hlamp : t.arb.lamp = s.arb.lamp := tool_of_tableSide h .lamp
  have haux : t.arb.aux = s.arb.aux := tool_of_tableSide h .aux
  rw [permitted, permitted, hhead, hlamp, haux]

/-- The supervision of a round by the permitted amount and the count (R38). -/
theorem packRound_supervises (r : Readings) (s : State) (h : s.line.tpwr = .full)
    (hcut : (packRound r s).pack.cutoff = s.pack.cutoff) : let u := packRound r s
    let used := min 32000 r.tool
    let allowed := permitted s.arb
    (used ≤ allowed → u.line.tpwr = .full ∧ u.arb.supCount = 0)
      ∧ (allowed < used → s.arb.supCount < 4 → u.line.tpwr = .full ∧ u.arb.supCount = s.arb.supCount + 1)
      ∧ (allowed < used → 4 ≤ s.arb.supCount →
          hasEvent .toolOvercurrent u = true ∧ heldDown .overcurrent 0 u ∧ .recompute ∈ u.signals
            ∧ ∀ k, u.arb.tool k = (s.arb.tool k).release) := by
  have hside : tableSide (roundCut r s) = tableSide s := by
    rw [packRound_pack] at hcut
    rw [roundCut_of_same r hcut]
    exact (congrArg (fun w : State => tableSide w) (roundOvervolted_besideMotor r s) :)
  have hend := packRound_tableSide r s
  obtain ⟨hsignals, hevents⟩ := packRound_of_supervised r s
  have hfull : (roundCut r s).line.tpwr = .full := (congrArg Prod.snd hside).trans h
  have hcount : (roundCut r s).arb.supCount = s.arb.supCount := congrArg (·.1.supCount) hside
  have hpermitted : permitted (roundCut r s).arb = permitted s.arb := permitted_of_tableSide hside
  obtain ⟨hle, hfew, hmany⟩ := supervise_cases (roundRecord r s).itool hfull
  have hitool : (roundRecord r s).itool = min 32000 r.tool := rfl
  rw [hitool] at hle hfew hmany hend hsignals hevents
  rw [hpermitted, hcount] at hfew
  rw [hpermitted] at hle
  rw [hpermitted, hcount] at hmany
  dsimp only
  refine ⟨fun hused => ?_, fun hused hless => ?_, fun hused hmore => ?_⟩
  · rw [hle hused] at hend
    exact ⟨(congrArg Prod.snd hend).trans hfull, congrArg (·.1.supCount) hend⟩
  · rw [hfew hused hless] at hend
    exact ⟨(congrArg Prod.snd hend).trans hfull, congrArg (·.1.supCount) hend⟩
  · rw [hmany hused hmore] at hend hsignals hevents
    obtain ⟨hdown, hevent, hmem, htools⟩ := overcurrentTrip_facts hfull
    exact ⟨hevents _ hevent, heldDown_of_tableSide hend hdown, hsignals _ hmem, fun k =>
      (tool_of_tableSide hend k).trans ((htools k).trans (congrArg Slot.release (tool_of_tableSide hside k)))⟩

/-- Settles O14: the forced releases, the offer's and the hold-off's ends, and the supervision of a round. -/
theorem toolSlotsAreReleasedAndOffersEnd : Obligations.ToolSlotsAreReleasedAndOffersEnd := by
  refine ⟨fun s hs h => ⟨fun hcount => ?_, fun slot hdl => ?_⟩, fun s hs => ⟨fun slot hdl => ?_, fun hhold => ?_⟩,
    fun r s hs => ⟨event_of_powered (packRound r) s hs, fun hbelow => ?_, fun h hcut => ?_⟩⟩
  · obtain ⟨t, hexec, hevent, hdown⟩ := toolOvercurrent_trips hs h hcount
    obtain ⟨hlevel, hholdoff, hcause, hzero, htools⟩ := hdown
    exact ⟨t, hexec, hevent, hcause, hzero, hlevel, hholdoff, htools⟩
  · obtain ⟨t, hexec, hdown⟩ := settleDeadline_releases slot hs h hdl
    obtain ⟨hlevel, hholdoff, hcause, -, htools⟩ := hdown
    exact ⟨t, hexec, hcause, hlevel, hholdoff, htools⟩
  · have hexpired : offerExpired slot s = askRecompute (startHoldoff { s with
        arb := s.arb.setTool slot { (s.arb.tool slot).withdraw with waiting := true } }) := if_pos hdl
    have hexec := event_of_powered (offerExpired slot) s hs
    rw [hexpired] at hexec
    exact hexec
  · have hexpired : holdoffExpired s = askRecompute { s with arb := { s.arb with holdoff := none } } := if_pos hhold
    have hexec := event_of_powered holdoffExpired s hs
    rw [hexpired] at hexec
    exact hexec
  · have hend := packRound_tableSide r s
    have hcount := supervise_count_of_below (roundRecord r s).itool (roundCut r s)
      (fun hfull => hbelow ((congrArg Prod.snd hend).trans hfull))
    exact (congrArg (·.1.supCount) hend).trans hcount
  · obtain ⟨hle, hfew, hmany⟩ := packRound_supervises r s h hcut
    refine ⟨hle, hfew, fun hused hmore => ?_⟩
    obtain ⟨hevent, hdown, hmem, hslots⟩ := hmany hused hmore
    obtain ⟨hlevel, hholdoff, hcause, -, htools⟩ := hdown
    refine ⟨hevent, hlevel, hcause, hholdoff, hmem, fun k => ?_⟩
    obtain ⟨hgrant, hheld, hsettling, hoffer⟩ := htools k
    obtain ⟨-, hconcerned, hdl⟩ := release_facts (s.arb.tool k)
    rw [hslots k]
    exact ⟨hslots k ▸ hgrant, hslots k ▸ hheld, hslots k ▸ hsettling, hconcerned, hdl, hslots k ▸ hoffer⟩

end Sys2Proof.Machine
end

section
namespace Sys2Proof.Machine

variable {s t u : State} {a : Arb} {sl : Slot}

/-! ## The table handed to the tools (R37, R123) -/

theorem mem_addrUnion {x : Addr} {l m : List Addr} : x ∈ addrUnion l m ↔ x ∈ l ∨ x ∈ m := by
  simp only [addrUnion, List.mem_append, List.mem_filter, Bool.not_eq_true', List.contains_iff_mem]
  by_cases h : x ∈ l
  · simp [h]
  · simp [h]

/-- The nodes that a slot with a changed value hands its CAP to (R37). -/
def newsNodes (sl : Slot) : List Addr := if sl.news then addrUnion sl.members sl.concerned else []

/-- The nodes of a recompute's hand-over. -/
def handedNodes (a : Arb) : List Addr := addrUnion (addrUnion (newsNodes a.head) (newsNodes a.lamp)) (newsNodes a.aux)

/-- The table with its changes marked as handed on. -/
def newsMarked (s : State) : State := { s with arb := s.arb.mapTools fun sl => { sl with news := false } }

theorem handTools_eq (s : State) : handTools s = powerRule (queueCaps (handedNodes s.arb) (newsMarked s)) := rfl

theorem mem_handedNodes {x : Addr} (k : ToolSlot) (hnews : (a.tool k).news = true)
    (h : x ∈ (a.tool k).members ∨ x ∈ (a.tool k).concerned) : x ∈ handedNodes a := by
  have hslot : x ∈ newsNodes (a.tool k) := by
    rw [newsNodes, if_pos hnews]
    exact mem_addrUnion.mpr h
  unfold handedNodes
  simp only [mem_addrUnion]
  cases k with
  | head => exact .inl (.inl hslot)
  | lamp => exact .inl (.inr hslot)
  | aux => exact .inr hslot

/-- A change of TPWR keeps a CAP that has no number yet. -/
theorem mem_setTpwr {x : Addr} {b : CapBody} (l : Tpwr) (c : ReleaseCause) (h : .cap x b none ∈ s.line.queue) :
    .cap x b none ∈ (setTpwr l c s).line.queue := by
  have hreleased (u : State) : (forcedRelease c u).line = u.line := askRecompute_line _
  have hkept : .cap x b none ∈ (discardCaps { s with line := { s.line with tpwr := l } }).line.queue :=
    List.mem_filter.mpr ⟨h, rfl⟩
  unfold setTpwr
  split
  · exact h
  · dsimp only
    rw [askRecompute_line]
    split <;> split
    · change _ ∈ (forcedRelease c _).line.queue
      rw [hreleased]
      exact hkept
    · exact hkept
    · rw [hreleased]
      exact hkept
    · exact hkept

theorem mem_powerRule {x : Addr} {b : CapBody} (h : .cap x b none ∈ s.line.queue) :
    .cap x b none ∈ (powerRule s).line.queue := by
  unfold powerRule
  dsimp only
  split
  · exact mem_setTpwr _ _ h
  · split
    · exact mem_setTpwr _ _ h
    · exact h

theorem capBody_newsMarked (s : State) (n : Node) : capBody (newsMarked s) n = capBody s n := by
  have hslot : brushLimit (newsMarked s) n.addr = brushLimit s n.addr := by
    unfold brushLimit Arb.brushSlotOf newsMarked Arb.mapTools
    dsimp only
    split
    · rfl
    · split <;> rfl
  unfold capBody
  rw [hslot]
  rfl

/-- A changed value reaches its nodes as a CAP (R37, R123). -/
theorem handTools_queues (n : Node) (k : ToolSlot) (hn : nodeAt s n.addr = some n) (hp : s.line.tpwr ≠ .off)
    (hnews : (s.arb.tool k).news = true) (h : n.addr ∈ (s.arb.tool k).members ∨ n.addr ∈ (s.arb.tool k).concerned) :
    .cap n.addr (capBody s n) none ∈ (handTools s).line.queue := by
  have hqueued := mem_queueCaps (handedNodes s.arb) n.addr n (newsMarked s) hp hn (.inl (mem_handedNodes k hnews h))
  rw [capBody_newsMarked] at hqueued
  exact mem_powerRule hqueued

/-! ## The level after a hand-over (R125) -/

/-- A tool slot has a grant. -/
def granted (a : Arb) : Prop := 0 < a.head.grant + a.lamp.grant + a.aux.grant

/-- No hold of TPWR stands (R125). -/
theorem powerHeld_eq_false_iff (s : State) : powerHeld s = false ↔ s.pack.cutoff = false ∧ s.pack.power = .active := by
  simp [powerHeld]

theorem powerRule_of_full (h : s.line.tpwr = .full) (hno : ¬granted s.arb) : powerRule s = setTpwr .signal .power s :=
  if_pos ⟨h, hno⟩

theorem powerRule_of_signal (h : s.line.tpwr = .signal) (hg : granted s.arb) (hfree : powerHeld s = false) :
    powerRule s = setTpwr .full .power s := by
  refine (if_neg fun hc => hc.2 hg).trans (if_pos ⟨h, hg, hfree⟩)

theorem powerRule_of_other (hfull : ¬(s.line.tpwr = .full ∧ ¬granted s.arb))
    (hsignal : ¬(s.line.tpwr = .signal ∧ granted s.arb ∧ powerHeld s = false)) : powerRule s = s :=
  (if_neg hfull).trans (if_neg hsignal)

/-- Where the rule leaves the state alone, neither of its conditions holds. -/
theorem powerRule_fixed (h : powerRule s = s) : ¬(s.line.tpwr = .full ∧ ¬granted s.arb)
    ∧ ¬(s.line.tpwr = .signal ∧ granted s.arb ∧ powerHeld s = false) := by
  refine ⟨fun ⟨hfull, hno⟩ => ?_, fun ⟨hsignal, hg, hfree⟩ => ?_⟩
  · have hlevel := setTpwr_tpwr .signal .power s
    rw [← powerRule_of_full hfull hno, h, hfull] at hlevel
    exact Tpwr.noConfusion hlevel
  · have hlevel := setTpwr_tpwr .full .power s
    rw [← powerRule_of_signal hsignal hg hfree, h, hsignal] at hlevel
    exact Tpwr.noConfusion hlevel

/-- With no change of the level, every change of the table is marked as handed on. -/
theorem handTools_news (h : powerRule s = s) (k : ToolSlot) : ((handTools s).arb.tool k).news = false := by
  obtain ⟨hfull, hsignal⟩ := powerRule_fixed h
  obtain ⟨q, w, hq⟩ := queueCaps_writes (handedNodes s.arb) (newsMarked s)
  have hrule : powerRule (queueCaps (handedNodes s.arb) (newsMarked s)) = queueCaps (handedNodes s.arb) (newsMarked s) := by
    rw [hq]
    exact powerRule_of_other hfull hsignal
  rw [handTools_eq, hrule, hq]
  change ((s.arb.mapTools fun sl => { sl with news := false }).tool k).news = false
  rw [tool_mapTools]

theorem discardCaps_nodes (s : State) : ∀ n ∈ (discardCaps s).line.nodes, n.pending = none := by
  intro n hn
  obtain ⟨m, -, rfl⟩ := List.mem_map.mp hn
  rfl

/-- A change of the level leaves no CAP pending, and asks for a recompute (R124). -/
theorem setTpwr_discards {l : Tpwr} (c : ReleaseCause) (h : s.line.tpwr ≠ l) :
    (∀ n ∈ (setTpwr l c s).line.nodes, n.pending = none) ∧ .recompute ∈ (setTpwr l c s).signals := by
  obtain ⟨v, hv⟩ : ∃ v, v = discardCaps { s with line := { s.line with tpwr := l } } := ⟨_, rfl⟩
  obtain ⟨w, hw⟩ : ∃ w, w = if s.line.tpwr = .full then forcedRelease c { v with arb := { s.arb with supCount := 0 } }
    else v := ⟨_, rfl⟩
  have hset : setTpwr l c s = askRecompute (if l = .full then { w with arb := w.arb.mapTools Slot.toFull } else w) := by
    unfold setTpwr
    rw [if_neg h, hw, hv]
    rfl
  have hline : w.line = v.line := by
    rw [hw]
    split
    · exact askRecompute_line _
    · rfl
  have hend : (if l = .full then { w with arb := w.arb.mapTools Slot.toFull } else w).line = v.line := by
    split
    · exact hline
    · exact hline
  obtain ⟨sigs, hasks, hmem⟩ := askRecompute_asks (if l = .full then { w with arb := w.arb.mapTools Slot.toFull } else w)
  rw [hset]
  refine ⟨?_, ?_⟩
  · rw [askRecompute_line, hend, hv]
    exact discardCaps_nodes _
  · rw [hasks]
    exact hmem

theorem setTpwr_full_of_signal (c : ReleaseCause) (h : s.line.tpwr = .signal) :
    (setTpwr .full c s).arb = s.arb.mapTools Slot.toFull := by
  have hasked (u : State) : (askRecompute u).arb = u.arb := by
    unfold askRecompute
    split <;> rfl
  unfold setTpwr
  rw [if_neg (by rw [h]; decide)]
  dsimp only
  rw [if_neg (show ¬ s.line.tpwr = .full by rw [h]; decide), if_pos rfl, hasked]
  rfl

end Sys2Proof.Machine
end

section
namespace Sys2Proof.Machine

variable {s t u : State} {a : Arb} {sl : Slot}

/-! ## An acknowledgement and a departure at a slot (R32) -/

theorem ack_of_not_mem {x : Addr} (h : x ∉ sl.concerned) : sl.ack x = sl := if_neg (by simpa using h)

theorem ack_of_others {x : Addr} (h : x ∈ sl.concerned) (ho : sl.concerned.filter (· != x) ≠ []) :
    sl.ack x = { sl with concerned := sl.concerned.filter (· != x) } :=
  (if_pos (by simpa using h)).trans (if_neg (by rw [List.isEmpty_iff]; exact ho))

theorem ack_of_last {x : Addr} (h : x ∈ sl.concerned) (ho : sl.concerned.filter (· != x) = []) :
    sl.ack x = { sl with
      concerned := [], held := 0, settling := false, settleDl := none, offerDl := none
      grant := sl.offer.getD sl.grant, offer := none } := by
  unfold Slot.ack
  rw [if_pos (by simpa using h)]
  dsimp only
  rw [ho]
  rfl

theorem depart_of_last {x : Addr} (h : x ∈ sl.concerned) (ho : sl.concerned.filter (· != x) = []) :
    sl.depart x = { sl with
      concerned := [], held := 0, settling := false, settleDl := none, offerDl := none, offer := none
      grant := if sl.offer.isSome then 0 else sl.grant, news := sl.news || sl.offer.isSome } := by
  have hcond : (sl.concerned.contains x && (sl.concerned.filter (· != x)).isEmpty) = true := by
    rw [ho]
    simpa using h
  exact if_pos hcond

theorem depart_of_others {x : Addr} (h : x ∉ sl.concerned ∨ sl.concerned.filter (· != x) ≠ []) :
    sl.depart x = { sl with concerned := sl.concerned.filter (· != x) } := by
  refine if_neg fun hc => ?_
  obtain ⟨hmem, hempty⟩ := Bool.and_eq_true_iff.mp hc
  exact h.elim (· (by simpa using hmem)) (· (List.isEmpty_iff.mp hempty))

/-- A slot of the table ends its settling by the acknowledgement. -/
def settlesBy (x : Addr) (a : Arb) (k : ToolSlot) : Bool := (a.tool k).settling && !((a.tool k).ack x).settling

theorem reportAck_eq (x : Addr) (s : State) : reportAck x s
    = if settlesBy x s.arb .head || settlesBy x s.arb .lamp || settlesBy x s.arb .aux
      then askRecompute { s with arb := s.arb.mapTools (Slot.ack x) }
      else { s with arb := s.arb.mapTools (Slot.ack x) } := rfl

theorem reportAck_tool (x : Addr) (s : State) (k : ToolSlot) : (reportAck x s).arb.tool k = (s.arb.tool k).ack x := by
  have harb : (reportAck x s).arb = s.arb.mapTools (Slot.ack x) := by
    rw [reportAck_eq]
    split
    · obtain ⟨sigs, hasks, -⟩ := askRecompute_asks { s with arb := s.arb.mapTools (Slot.ack x) }
      rw [hasks]
    · rfl
  rw [harb, tool_mapTools]

theorem reportAck_recompute {x : Addr} {k : ToolSlot} (h : settlesBy x s.arb k = true) : .recompute ∈ (reportAck x s).signals := by
  have hany : (settlesBy x s.arb .head || settlesBy x s.arb .lamp || settlesBy x s.arb .aux) = true := by
    cases k <;> simp [h]
  obtain ⟨sigs, hasks, hmem⟩ := askRecompute_asks { s with arb := s.arb.mapTools (Slot.ack x) }
  rw [reportAck_eq, if_pos hany, hasks]
  exact hmem

theorem reportAck_of_stranger {x : Addr} (h : ∀ k, x ∉ (s.arb.tool k).concerned) : reportAck x s = s := by
  have hsame (k : ToolSlot) : (s.arb.tool k).ack x = s.arb.tool k := ack_of_not_mem (h k)
  have hnone (k : ToolSlot) : settlesBy x s.arb k = false := by
    rw [settlesBy, hsame k]
    simp
  have hhead : s.arb.head.ack x = s.arb.head := hsame .head
  have hlamp : s.arb.lamp.ack x = s.arb.lamp := hsame .lamp
  have haux : s.arb.aux.ack x = s.arb.aux := hsame .aux
  rw [reportAck_eq, hnone, hnone, hnone, if_neg (by decide), Arb.mapTools, hhead, hlamp, haux]

/-! ## The ACK of a CAP's window (R124) -/

theorem setNode_setNode (x : Addr) (f g : Node → Node) (hf : ∀ n, (f n).addr = n.addr) (s : State) :
    setNode x g (setNode x f s) = setNode x (fun n => g (f n)) s := by
  have hnode (n : Node) : (if (if n.addr == x then f n else n).addr == x then g (if n.addr == x then f n else n)
      else (if n.addr == x then f n else n)) = if n.addr == x then g (f n) else n := by
    by_cases h : (n.addr == x) = true
    · simp [h, hf]
    · simp [h]
  unfold setNode
  simp only [List.map_map]
  refine congrArg (fun l => { s with line := { s.line with nodes := l } }) (List.map_congr_left fun n _ => hnode n)

theorem takeAck_of_window {x : Addr} {seq limit : Byte} {c : Cap} {n : Node} (hp : s.pack.power = .active)
    (hl : s.line.tpwr ≠ .off) (hr : s.line.resetting = none) (hn : nodeAt s x = some n) (hc : n.pending = some c)
    (hw : s.line.await = some (.cap x)) (hi : s.line.idle ≤ 6) (hseq : c.seq = seq) :
    takeAck x seq limit s = ackTaken x c limit s := by
  have hup : lineUp s = true := by simp [lineUp, hl, hr, hp]
  have hpending : (nodeAt s x).bind (·.pending) = some c := by rw [hn]; exact hc
  unfold takeAck
  rw [if_pos hup, if_pos ⟨hw, hi⟩, hpending]
  exact if_pos hseq

theorem ackTaken_of_newest {x : Addr} {limit : Byte} {c : Cap} (hle : limit.toNat ≤ c.body.limit)
    (hq : queued (.cap x c.body none) s = false) : ackTaken x c limit s = reportAck x (setNode x
      (fun m => { m with ackLimit := limit.toNat, pending := none })
      { s with line := { s.line with await := none, idle := 0 } }) := by
  have hset : setNode x (fun n => { n with pending := none }) (setNode x (fun n => { n with ackLimit := limit.toNat })
      { s with line := { s.line with await := none, idle := 0 } })
      = setNode x (fun m => { m with ackLimit := limit.toNat, pending := none })
        { s with line := { s.line with await := none, idle := 0 } } :=
    setNode_setNode x (fun n => { n with ackLimit := limit.toNat }) (fun n => { n with pending := none })
      (fun _ => rfl) _
  have htaken : ackTaken x c limit s = if limit.toNat ≤ c.body.limit
      then if queued (.cap x c.body none) s then
          setNode x (fun n => { n with pending := none }) (setNode x (fun n => { n with ackLimit := limit.toNat })
            { s with line := { s.line with await := none, idle := 0 } })
        else reportAck x (setNode x (fun n => { n with pending := none })
          (setNode x (fun n => { n with ackLimit := limit.toNat })
            { s with line := { s.line with await := none, idle := 0 } }))
      else requeueCap x (setNode x (fun n => { n with ackLimit := limit.toNat })
        { s with line := { s.line with await := none, idle := 0 } }) := rfl
  rw [htaken, if_pos hle, if_neg (by simp [hq]), hset]

/-! ## The values of a CAP (R123) -/

theorem capBody_facts (s : State) (n : Node) : let b := capBody s n
    (n.addr ∈ s.arb.head.members → b.limit = s.arb.head.value / 50)
      ∧ (n.addr ∉ s.arb.head.members → n.addr ∈ s.arb.aux.members → b.limit = s.arb.aux.value / 50)
      ∧ (n.addr ∉ s.arb.head.members → n.addr ∉ s.arb.aux.members → b.limit = 0) := by
  have hlimit : (capBody s n).limit = ((s.arb.brushSlotOf n.addr).map Slot.value).getD 0 / 50 := rfl
  dsimp only
  rw [hlimit]
  unfold Arb.brushSlotOf
  refine ⟨fun h => ?_, fun h h' => ?_, fun h h' => ?_⟩
  · rw [if_pos (by simpa using h)]
    rfl
  · rw [if_neg (by simpa using h), if_pos (by simpa using h')]
    rfl
  · rw [if_neg (by simpa using h), if_neg (by simpa using h')]
    rfl

/-- The slots as TPWR becomes FULL (R33, R36). -/
theorem toFull_eq (sl : Slot) : sl.toFull = if sl.offer.isSome then sl.withdraw
    else if sl.settling then { sl with settleDl := some (sl.settleDl.getD 20) } else sl := rfl

/-- Settles O15: a changed value's CAPs, their contents, the level after a hand-over, and the ACK. -/
theorem aTableValueReachesItsNodesAndSettles : Obligations.ATableValueReachesItsNodesAndSettles := by
  refine ⟨fun s n k hn hp hnews h => ⟨handTools_queues n k hn hp hnews h, fun hfixed j => handTools_news hfixed j⟩,
    fun s n => ?_, fun s => ⟨fun hfull hno => ?_, fun hsignal hgiven hfree => ?_, fun hother => ?_⟩, fun x s => ?_,
    fun x seq limit n c s hp hl hr hn hc hw hi hseq hle hq => ?_⟩
  · obtain ⟨hhead, haux, hnone⟩ := capBody_facts s n
    refine ⟨hhead, haux, hnone, rfl, ?_⟩
    have hlamps : lampsOn s = decide (s.arb.lamp.value = s.arb.lamp.request ∧ 0 < s.arb.lamp.value) := by
      rw [Bool.eq_iff_iff]
      simp [lampsOn]
    exact congrArg (n.lamp && ·) hlamps
  · obtain ⟨harb, hlevel, -⟩ := setTpwr_signal_of_full .power hfull
    obtain ⟨hnodes, hmem⟩ := setTpwr_discards (l := .signal) .power (s := s) (by rw [hfull]; decide)
    dsimp only
    rw [powerRule_of_full hfull hno]
    refine ⟨hlevel, by rw [harb]; rfl, by rw [harb]; rfl, fun k => ?_, hnodes, hmem⟩
    have hzero : (s.arb.tool k).grant = 0 := by
      have hsum : ¬ 0 < s.arb.head.grant + s.arb.lamp.grant + s.arb.aux.grant := hno
      cases k <;> simp only [Arb.tool] <;> omega
    have hkept : (s.arb.tool k).release.news = ((s.arb.tool k).news || (s.arb.tool k).offer.isSome) := by
      simp [Slot.release, Slot.withdraw, hzero]
    rw [harb, tableReleased_tool, ← hkept]
    rfl
  · obtain ⟨hnodes, hmem⟩ := setTpwr_discards (l := .full) .power (s := s) (by rw [hsignal]; decide)
    dsimp only
    rw [powerRule_of_signal hsignal hgiven ((powerHeld_eq_false_iff s).mpr hfree)]
    refine ⟨setTpwr_tpwr _ _ _, fun k => ?_, hnodes, hmem⟩
    rw [setTpwr_full_of_signal .power hsignal, tool_mapTools]
    exact toFull_eq _
  · refine powerRule_of_other (fun hc => ?_) (fun hc => ?_)
    · rcases hother with ⟨-, hgiven⟩ | ⟨hsignal, -⟩ | hoff
      · exact hc.2 hgiven
      · exact Tpwr.noConfusion (hsignal.symm.trans hc.1)
      · exact Tpwr.noConfusion (hoff.symm.trans hc.1)
    · obtain ⟨hsig, hgiven, hheld⟩ := hc
      rcases hother with ⟨hfull, -⟩ | ⟨-, hno⟩ | hoff
      · exact Tpwr.noConfusion (hfull.symm.trans hsig)
      · exact hno ⟨hgiven, (powerHeld_eq_false_iff s).mp hheld⟩
      · exact Tpwr.noConfusion (hoff.symm.trans hsig)
  · refine ⟨fun k h => ?_, fun k h ho => ?_, fun k h => ?_, fun k h hset => ?_, reportAck_of_stranger,
      fun k h ho => depart_of_last h ho, fun k h => depart_of_others h⟩
    · rw [reportAck_tool, ack_of_not_mem h]
    · rw [reportAck_tool, ack_of_others h ho]
    · rw [reportAck_tool, ack_of_last h.1 h.2]
    · refine reportAck_recompute (k := k) ?_
      rw [settlesBy, ack_of_last h.1 h.2, hset]
      rfl
  · rw [← ackTaken_of_newest hle hq, ← takeAck_of_window hp hl hr hn hc hw hi hseq]
    exact event_of_powered (takeAck x seq limit) s (by rw [State.powered, hp]; decide)

end Sys2Proof.Machine
end

section
namespace Sys2Proof.Machine

variable {s t u : State} {a : Arb} {sl : Slot}

/-! ## What a brush slot takes over (R27) -/

/-- The nodes of a slot's concerned set but for its old member. -/
def keptNodes (old : Slot) : List Addr := old.concerned.filter (fun x => some x != old.members.head?)

/-- The old member of a slot stays listed outside the brush slots with current still committed (R27). -/
def departing (newH newA : Option Addr) (listed : List Addr) (old : Slot) : Prop :=
  ∃ x, old.members.head? = some x ∧ x ∈ listed ∧ some x ≠ newH ∧ some x ≠ newA ∧ 0 < max old.grant old.held

/-- What is still held for the nodes that stay concerned. -/
def extraNodes (old : Slot) (departs : Bool) : List Addr :=
  keptNodes old ++ (if departs then old.members.head?.toList else [])

theorem extraNodes_of_departing {old : Slot} {x : Addr} (hx : old.members.head? = some x) : x ∈ extraNodes old true := by
  unfold extraNodes
  rw [if_pos rfl, hx]
  simp

theorem extraNodes_of_none {old : Slot} (h : keptNodes old = []) : extraNodes old false = [] := by
  unfold extraNodes
  rw [h]
  rfl

theorem addrUnion_nil (l : List Addr) : addrUnion l [] = l := by simp [addrUnion]

/-- A slot taken over by a node that stood in a brush slot (R27). -/
theorem reseat_moved (old c : Slot) (y : Addr) (departs full : Bool) :
    let new := old.reseat old.members.head? (some y) departs (some c) full
    let entry := if y ∈ c.concerned then [y] else []
    new.members = [y] ∧ new.grant = c.grant ∧ new.offer = c.offer
      ∧ new.held = (if (extraNodes old departs).isEmpty then c.held else c.committed
          + if departs then old.committed else if (keptNodes old).isEmpty then 0 else old.held)
      ∧ new.concerned = addrUnion entry (extraNodes old departs)
      ∧ new.settling = !(addrUnion entry (extraNodes old departs)).isEmpty
      ∧ new.request = old.request ∧ new.floor = old.floor ∧ new.target = old.target := by
  have hentry : (if c.concerned.contains y then [y] else []) = if y ∈ c.concerned then [y] else [] := by
    simp only [List.contains_iff_mem]
  dsimp only
  rw [← hentry]
  exact ⟨rfl, rfl, rfl, rfl, rfl, rfl, rfl, rfl, rfl⟩

/-- A slot left empty, or taken over by a node that stood in no brush slot (R27). -/
theorem reseat_placed (old : Slot) (m : Option Addr) (departs full : Bool) :
    let new := old.reseat old.members.head? m departs none full
    new.members = m.toList ∧ new.grant = 0 ∧ new.offer = none
      ∧ new.held = (if departs then old.committed else if (keptNodes old).isEmpty then 0 else old.held)
      ∧ new.concerned = extraNodes old departs ∧ new.settling = !(extraNodes old departs).isEmpty
      ∧ new.settleDl = (if (extraNodes old departs).isEmpty then none
          else old.settleDl <|> (if full then some 20 else none))
      ∧ new.request = old.request ∧ new.floor = old.floor ∧ new.target = old.target := by
  cases m <;> exact ⟨rfl, rfl, rfl, rfl, rfl, rfl, rfl, rfl, rfl, rfl⟩

theorem not_isEmpty_of_mem {l : List Addr} {x : Addr} (h : x ∈ l) : l.isEmpty = false := by
  cases l with
  | nil => simp at h
  | cons y l => rfl

/-- The content of a slot after its membership is derived again, by the new member and by the one that leaves. -/
theorem reseat_facts (old : Slot) (m : Option Addr) (leaves : Prop) (departs full : Bool) (slotOf : Addr → Option Slot)
    (hleaves : departs = true ↔ leaves) (hmember : leaves → ∃ x, old.members.head? = some x) :
    let new := old.reseat old.members.head? m departs (m.bind slotOf) full
    new.members = m.toList
      ∧ (∀ y c, m = some y → m.bind slotOf = some c → new.grant = c.grant ∧ new.offer = c.offer
          ∧ (¬leaves → keptNodes old = [] → new.held = c.held
              ∧ new.concerned = (if y ∈ c.concerned then [y] else [])
              ∧ new.settling = decide (y ∈ c.concerned))
          ∧ (leaves → new.held = max c.grant c.held + max old.grant old.held ∧ new.settling = true))
      ∧ (m.bind slotOf = none → new.grant = 0 ∧ new.offer = none
          ∧ (¬leaves → keptNodes old = [] → new.held = 0 ∧ new.concerned = [] ∧ new.settling = false)
          ∧ (leaves → new.held = max old.grant old.held ∧ new.settling = true
              ∧ (full = true → new.settleDl = some (old.settleDl.getD 20))))
      ∧ (leaves → ∀ x, old.members.head? = some x → x ∈ new.concerned)
      ∧ new.request = old.request ∧ new.floor = old.floor ∧ new.target = old.target := by
  have hstays (h : ¬leaves) : departs = false := Bool.eq_false_iff.mpr fun hd => h (hleaves.mp hd)
  have hextra (h : leaves) : (extraNodes old departs).isEmpty = false := by
    obtain ⟨x, hx⟩ := hmember h
    rw [hleaves.mpr h]
    exact not_isEmpty_of_mem (extraNodes_of_departing hx)
  cases hfrom : m.bind slotOf with
  | none =>
    obtain ⟨hmembers, hgrant, hoffer, hheld, hconcerned, hsettling, hdl, hrequest, hfloor, htarget⟩ :=
      reseat_placed old m departs full
    refine ⟨hmembers, fun y c _ hc => (nomatch hc), fun _ => ⟨hgrant, hoffer, fun hno hkept => ?_, fun hl => ?_⟩,
      fun hl x hx => ?_, hrequest, hfloor, htarget⟩
    · rw [hheld, hconcerned, hsettling, hstays hno, extraNodes_of_none hkept, hkept]
      exact ⟨rfl, rfl, rfl⟩
    · refine ⟨?_, ?_, fun hfull => ?_⟩
      · rw [hheld, if_pos (hleaves.mpr hl)]
        rfl
      · rw [hsettling, hextra hl]
        rfl
      · rw [hdl, hextra hl, hfull]
        cases old.settleDl <;> rfl
    · rw [hconcerned, hleaves.mpr hl]
      exact extraNodes_of_departing hx
  | some c =>
    cases m with
    | none => exact nomatch hfrom
    | some y =>
      obtain ⟨hmembers, hgrant, hoffer, hheld, hconcerned, hsettling, hrequest, hfloor, htarget⟩ :=
        reseat_moved old c y departs full
      refine ⟨hmembers, fun y' c' hy hc => ?_, fun hnone => (nomatch hnone), fun hl x hx => ?_, hrequest, hfloor, htarget⟩
      · obtain rfl := Option.some.inj hy
        obtain rfl := Option.some.inj hc
        refine ⟨hgrant, hoffer, fun hno hkept => ?_, fun hl => ?_⟩
        · rw [hheld, hconcerned, hsettling, hstays hno, extraNodes_of_none hkept, addrUnion_nil]
          refine ⟨rfl, rfl, ?_⟩
          split <;> simp_all
        · obtain ⟨x, hx⟩ := hmember hl
          have hin : x ∈ addrUnion (if y ∈ c.concerned then [y] else []) (extraNodes old departs) := by
            rw [hleaves.mpr hl]
            exact mem_addrUnion.mpr (.inr (extraNodes_of_departing hx))
          rw [hheld, hsettling, hextra hl, not_isEmpty_of_mem hin, if_pos (hleaves.mpr hl)]
          exact ⟨rfl, rfl⟩
      · rw [hconcerned, hleaves.mpr hl]
        exact mem_addrUnion.mpr (.inr (extraNodes_of_departing hx))

/-- The brush slot of an address, as a membership (R27). -/
def slotOfMember (a : Arb) (y : Addr) : Option Slot :=
  if y ∈ a.head.members then some a.head else if y ∈ a.aux.members then some a.aux else none

theorem brushSlotOf_eq (a : Arb) : a.brushSlotOf = slotOfMember a := by
  funext y
  simp only [Arb.brushSlotOf, slotOfMember, List.contains_iff_mem]

/-- The old member of a slot departs, as the rules compute it. -/
def departsFrom (newH newA : Option Addr) (listed : List Addr) (old : Slot) (m : Option Addr) : Bool :=
  match m with
  | some x => listed.contains x && some x != newH && some x != newA && 0 < old.committed
  | none => false

theorem departsFrom_iff (newH newA : Option Addr) (listed : List Addr) (old : Slot) :
    departsFrom newH newA listed old old.members.head? = true ↔ departing newH newA listed old := by
  unfold departsFrom departing
  cases old.members.head? with
  | none => simp
  | some x => simp [Slot.committed, and_assoc]

theorem reseatBrushes_eq (a : Arb) (newH newA : Option Addr) (listed : List Addr) (full : Bool) :
    a.reseatBrushes newH newA listed full = { a with
      head := if a.head.members.head? = newH then a.head
        else a.head.reseat a.head.members.head? newH (departsFrom newH newA listed a.head a.head.members.head?)
          (newH.bind a.brushSlotOf) full
      aux := if a.aux.members.head? = newA then a.aux
        else a.aux.reseat a.aux.members.head? newA (departsFrom newH newA listed a.aux a.aux.members.head?)
          (newA.bind a.brushSlotOf) full } := by
  unfold Arb.reseatBrushes departsFrom
  cases a.head.members.head? <;> cases a.aux.members.head? <;> rfl

end Sys2Proof.Machine
end

section
namespace Sys2Proof.Machine

variable {s t u : State} {a : Arb} {sl : Slot}

/-! ## Membership, floor and claims (R26, R27, R121, R122) -/

theorem declaresBrush_eq (s : State) (n : Node) :
    declaresBrush s n = (appliedRecord s n).any (fun r => decide (0 < r.brush)) := by
  unfold declaresBrush
  cases appliedRecord s n <;> rfl

theorem declaresLamp_eq (s : State) (n : Node) :
    declaresLamp s n = (appliedRecord s n).any (fun r => decide (0 < r.lamp)) := by
  unfold declaresLamp
  cases appliedRecord s n <;> rfl

theorem brushNodes_eq (s : State) : brushNodes s = ((s.line.nodes.filter (·.completed)).filter
    (fun n => (appliedRecord s n).any (fun r => decide (0 < r.brush)))).map (·.addr) := by
  unfold brushNodes attachedNodes
  rw [List.filter_congr fun n _ => declaresBrush_eq s n]

theorem lampNodes_eq (s : State) : lampNodes s = ((s.line.nodes.filter (·.completed)).filter
    (fun n => (appliedRecord s n).any (fun r => decide (0 < r.lamp)))).map (·.addr) := by
  unfold lampNodes attachedNodes
  rw [List.filter_congr fun n _ => declaresLamp_eq s n]

/-- The brush slots after their membership is derived again. -/
theorem reseatBrushes_members (a : Arb) (newH newA : Option Addr) (listed : List Addr) (full : Bool) :
    let b := a.reseatBrushes newH newA listed full
    b.head.members.head? = newH ∧ b.aux.members.head? = newA
      ∧ (b.head.members = a.head.members ∧ a.head.members.head? = newH ∨ b.head.members = newH.toList)
      ∧ (b.aux.members = a.aux.members ∧ a.aux.members.head? = newA ∨ b.aux.members = newA.toList)
      ∧ b = { a with head := b.head, aux := b.aux } := by
  have hmembers (old : Slot) (m n : Option Addr) (d : Bool) (c : Option Slot) : (old.reseat n m d c full).members = m.toList := by
    cases m <;> cases c <;> rfl
  have hfirst (m : Option Addr) : m.toList.head? = m := by cases m <;> rfl
  dsimp only
  rw [reseatBrushes_eq]
  refine ⟨?_, ?_, ?_, ?_, rfl⟩
  · dsimp only
    split
    · assumption
    · rw [hmembers, hfirst]
  · dsimp only
    split
    · assumption
    · rw [hmembers, hfirst]
  · dsimp only
    split
    · exact .inl ⟨rfl, ‹_›⟩
    · exact .inr (hmembers _ _ _ _ _)
  · dsimp only
    split
    · exact .inl ⟨rfl, ‹_›⟩
    · exact .inr (hmembers _ _ _ _ _)

theorem brushLimit_of_stranger {x : Addr} (hh : x ∉ s.arb.head.members) (ha : x ∉ s.arb.aux.members) :
    brushLimit s x = 0 := by
  unfold brushLimit Arb.brushSlotOf
  rw [if_neg (by simpa using hh), if_neg (by simpa using ha)]
  rfl

/-- A node that leaves the brush slots has a CAP with a limit of 0 in the queue. -/
def sentZero (s t : State) : Prop := ∀ x n, x ∈ s.arb.head.members ++ s.arb.aux.members → x ∉ t.arb.head.members →
  x ∉ t.arb.aux.members → nodeAt s x = some n → s.line.tpwr ≠ .off → ∃ b, .cap x b none ∈ t.line.queue ∧ b.limit = 0

/-- Membership derived again writes the tool slots, the queue and what is asked (R27). -/
theorem deriveMembers_facts (s : State) : ∃ b q w sigs, deriveMembers s = { s with
      arb := b, line := { s.line with queue := q, lost := w }, signals := sigs }
    ∧ b.head.members.head? = (brushNodes s)[0]? ∧ b.aux.members.head? = (brushNodes s)[1]?
    ∧ b.lamp.members = lampNodes s ∧ b = { s.arb with head := b.head, aux := b.aux, lamp := b.lamp }
    ∧ (b ≠ s.arb → .recompute ∈ sigs) ∧ sentZero s (deriveMembers s) := by
  by_cases hsame : s.arb.head.members = (brushNodes s)[0]?.toList ∧ s.arb.aux.members = (brushNodes s)[1]?.toList
      ∧ s.arb.lamp.members = lampNodes s
  · have hstays : deriveMembers s = s := if_pos hsame
    obtain ⟨hhead, haux, hlamp⟩ := hsame
    have hfirst (m : Option Addr) : m.toList.head? = m := by cases m <;> rfl
    refine ⟨s.arb, s.line.queue, s.line.lost, s.signals, hstays, ?_, ?_, hlamp, rfl, fun hne => absurd rfl hne, ?_⟩
    · rw [hhead, hfirst]
    · rw [haux, hfirst]
    · rw [hstays]
      intro x n hx hh ha
      exact absurd (List.mem_append.mp hx) (fun h => h.elim hh ha)
  · obtain ⟨hhead, haux, hheads, hauxs, hrest⟩ := reseatBrushes_members s.arb (brushNodes s)[0]? (brushNodes s)[1]?
      ((attachedNodes s).map (·.addr)) (s.line.tpwr == .full)
    obtain ⟨b, hb⟩ : ∃ b, b = s.arb.reseatBrushes (brushNodes s)[0]? (brushNodes s)[1]?
      ((attachedNodes s).map (·.addr)) (s.line.tpwr == .full) := ⟨_, rfl⟩
    obtain ⟨left, hleft⟩ : ∃ left, left = (s.arb.head.members ++ s.arb.aux.members).filter
      fun x => some x != (brushNodes s)[0]? && some x != (brushNodes s)[1]? := ⟨_, rfl⟩
    rw [← hb] at hhead haux hheads hauxs hrest
    obtain ⟨v, hv⟩ : ∃ v : State, v = { s with arb := { b with lamp := { b.lamp with members := lampNodes s } } } :=
      ⟨_, rfl⟩
    have hderive : deriveMembers s = askRecompute (queueCaps left v) := by
      rw [hv, hb, hleft]
      exact if_neg hsame
    obtain ⟨q, w, hq⟩ := queueCaps_writes left v
    obtain ⟨sigs, hasks, hmem⟩ := askRecompute_asks (queueCaps left v)
    rw [hq] at hmem
    have hshape : deriveMembers s = { s with
        arb := { b with lamp := { b.lamp with members := lampNodes s } }, line := { s.line with queue := q, lost := w }
        signals := s.signals ++ sigs } := by
      rw [hderive, hasks, hq, hv]
    refine ⟨{ b with lamp := { b.lamp with members := lampNodes s } }, q, w, s.signals ++ sigs, hshape, hhead, haux, rfl, ?_,
      fun _ => ?_, fun x n hx hh ha hn hp => ?_⟩
    · rw [hrest]
    · rw [hv] at hmem
      exact hmem
    · rw [hshape] at hh ha
      have hout (old : Slot) (m : Option Addr) (new : List Addr) (hnew : new = old.members ∧ old.members.head? = m
          ∨ new = m.toList) (hx : x ∉ new) : some x ≠ m := by
        rintro rfl
        rcases hnew with ⟨rfl, hfirst⟩ | rfl
        · exact hx (List.mem_of_head? hfirst)
        · exact hx (by simp)
      have hxleft : x ∈ left := by
        rw [hleft, List.mem_filter]
        refine ⟨hx, ?_⟩
        rw [Bool.and_eq_true, bne_iff_ne, bne_iff_ne]
        exact ⟨hout _ _ _ hheads hh, hout _ _ _ hauxs ha⟩
      have hvoff : v.line.tpwr ≠ .off := by rw [hv]; exact hp
      have hvnode : nodeAt v x = some n := by rw [hv]; exact hn
      have haddr : n.addr = x := by simpa using List.find?_some hn
      have hqueued := mem_queueCaps left x n v hvoff hvnode (.inl hxleft)
      refine ⟨capBody v n, ?_, ?_⟩
      · rw [hderive, askRecompute_line]
        exact hqueued
      · have hzero : brushLimit v n.addr = 0 := by
          rw [haddr, hv]
          exact brushLimit_of_stranger hh ha
        change brushLimit v n.addr / 50 = 0
        rw [hzero]

/-- The claims of the members entered in the table (R122). -/
def claimsEntered (s : State) : Arb := { s.arb with
  head := s.arb.head.take (brushClaim s s.arb.head.members.head?)
  aux := s.arb.aux.take (brushClaim s s.arb.aux.members.head?)
  lamp := s.arb.lamp.take (lampClaim s) }

theorem deliverClaims_facts (s : State) : ∃ sigs, deliverClaims s = { s with arb := claimsEntered s, signals := sigs }
    ∧ (∀ g ∈ s.signals, g ∈ sigs) ∧ (claimsEntered s ≠ s.arb → .recompute ∈ sigs) := by
  by_cases h : claimsEntered s = s.arb
  · have hstays : deliverClaims s = s := if_pos h
    exact ⟨s.signals, by rw [hstays, h], fun _ hg => hg, fun hne => absurd h hne⟩
  · obtain ⟨sigs, hasks, hmem⟩ := askRecompute_asks { s with arb := claimsEntered s }
    have hasked : deliverClaims s = askRecompute { s with arb := claimsEntered s } := if_neg h
    exact ⟨s.signals ++ sigs, by rw [hasked, hasks], fun _ hg => List.mem_append_left _ hg, fun _ => hmem⟩

theorem deriveFloor_facts (s : State) : deriveFloor s = { s with
    line := { s.line with floor := floorInUse s }
    gov := { s.gov with floor := if floorInUse s = s.line.floor then s.gov.floor else floorInUse s } } := by
  by_cases h : floorInUse s = s.line.floor
  · have hstays : deriveFloor s = s := if_pos h
    rw [hstays, if_pos h, h]
  · rw [if_neg h]
    exact if_neg h

/-- A brush claim taken by a slot (R26, R122). -/
theorem take_brushClaim (m : Option Addr) (sl : Slot) (s : State) :
    (∀ n r, m.bind (nodeAt s) = some n → appliedRecord s n = some r →
        (sl.take (brushClaim s m)).request = (if n.jam || n.fault then 0 else r.brush)
          ∧ (sl.take (brushClaim s m)).floor = (if n.jam || n.fault then 0 else min r.floor r.brush)
          ∧ (sl.take (brushClaim s m)).yielding = r.yielding)
      ∧ (m = none → (sl.take (brushClaim s m)).request = 0 ∧ (sl.take (brushClaim s m)).floor = 0
          ∧ (sl.take (brushClaim s m)).yielding = false) := by
  refine ⟨fun n r hn hr => ?_, fun hm => ?_⟩
  · have hclaim : brushClaim s m = if n.jam || n.fault then { Claim.withdrawn with yielding := r.yielding }
        else ⟨r.brush, min r.floor r.brush, r.yielding⟩ := by
      unfold brushClaim
      rw [hn]
      dsimp only
      rw [hr]
    rw [hclaim]
    split
    · exact ⟨rfl, rfl, rfl⟩
    · refine ⟨rfl, ?_, rfl⟩
      change min (min r.floor r.brush) r.brush = _
      omega
  · rw [hm]
    exact ⟨rfl, rfl, rfl⟩

end Sys2Proof.Machine
end

section
namespace Sys2Proof.Machine

variable {s t u : State} {a : Arb} {sl : Slot}

/-- The nodes, the records and the level of TPWR are those of another state. -/
def sameNodes (s v : State) : Prop := v.line.nodes = s.line.nodes ∧ v.tools = s.tools

theorem nodeAt_of_sameNodes {v : State} (h : sameNodes s v) (x : Addr) : nodeAt v x = nodeAt s x := by
  rw [nodeAt, h.1, nodeAt]

theorem appliedRecord_of_sameNodes {v : State} (h : sameNodes s v) (n : Node) : appliedRecord v n = appliedRecord s n := by
  unfold appliedRecord
  rw [h.2]

theorem brushClaim_of_sameNodes {v : State} (h : sameNodes s v) (m : Option Addr) : brushClaim v m = brushClaim s m := by
  have hnode : nodeAt v = nodeAt s := funext (nodeAt_of_sameNodes h)
  have happlied : appliedRecord v = appliedRecord s := funext (appliedRecord_of_sameNodes h)
  unfold brushClaim
  rw [hnode, happlied]

theorem lampWanted_of_sameNodes {v : State} (h : sameNodes s v) : lampWanted v = lampWanted s := by
  funext n
  rw [lampWanted, appliedRecord_of_sameNodes h, lampWanted]

/-- The floor class of a HEAD member (R121). -/
theorem floorInUse_of_head {m : Option Addr} (h : s.arb.head.members.head? = m) : floorInUse s
    = match m.bind (nodeAt s) with
      | some n => if n.floor = .carpet then .carpet else .hard
      | none => .hard := by
  unfold floorInUse headNode
  rw [h] <;> cases m.bind (nodeAt s) <;> rfl

/-- The whole derivation after a change of the nodes or of a record: what it writes. -/
theorem refreshTools_facts (s : State) : let t := refreshTools s
    let h := (brushNodes s)[0]?
    t.arb.head.members.head? = h ∧ t.arb.aux.members.head? = (brushNodes s)[1]? ∧ t.arb.lamp.members = lampNodes s
      ∧ (∃ sl : Slot, t.arb.head = sl.take (brushClaim s h)) ∧ (∃ sl : Slot, t.arb.aux = sl.take (brushClaim s (brushNodes s)[1]?))
      ∧ (∃ sl : Slot, t.arb.lamp = sl.take (let r := ((t.arb.lamp.members.filterMap (nodeAt s)).map (lampWanted s)).sum
          ⟨r, r, false⟩))
      ∧ t.line.floor = (match h.bind (nodeAt s) with
          | some n => if n.floor = .carpet then .carpet else .hard
          | none => .hard)
      ∧ t.gov = { s.gov with floor := if t.line.floor = s.line.floor then s.gov.floor else t.line.floor }
      ∧ t.arb.reserve = s.arb.reserve ∧ t.arb.suction = s.arb.suction ∧ t.line.nodes = s.line.nodes
      ∧ (t.arb ≠ s.arb → .recompute ∈ t.signals) ∧ sentZero s t := by
  obtain ⟨b, q, w, sigs, hmembers, hhead, haux, hlamp, hrest, hasked, hsent⟩ := deriveMembers_facts s
  obtain ⟨v, hv⟩ : ∃ v, v = deriveFloor (deriveMembers s) := ⟨_, rfl⟩
  have hfloored := deriveFloor_facts (deriveMembers s)
  rw [← hv] at hfloored
  obtain ⟨sigs', hdelivered, hkept, hclaimed⟩ := deliverClaims_facts v
  have ht : refreshTools s = { v with arb := claimsEntered v, signals := sigs' } := by rw [← hdelivered, hv]; rfl
  have hnodes : sameNodes s v := by
    rw [hfloored, hmembers]
    exact ⟨rfl, rfl⟩
  have hvarb : v.arb = b := by rw [hfloored, hmembers]
  have hvsignals : v.signals = sigs := by rw [hfloored, hmembers]
  have hfloor : floorInUse (deriveMembers s) = match ((brushNodes s)[0]?).bind (nodeAt s) with
      | some n => if n.floor = .carpet then .carpet else .hard
      | none => .hard := by
    have hm : (deriveMembers s).arb.head.members.head? = (brushNodes s)[0]? := by rw [hmembers]; exact hhead
    have hn : nodeAt (deriveMembers s) = nodeAt s := by rw [hmembers]; rfl
    rw [floorInUse_of_head hm, hn] <;> rfl
  have hvfloor : v.line.floor = floorInUse (deriveMembers s) := by rw [hfloored]
  have hvgov : v.gov = { s.gov with floor := if v.line.floor = s.line.floor then s.gov.floor else v.line.floor } := by
    rw [hvfloor, hfloored, hmembers]
  dsimp only
  rw [ht]
  refine ⟨?_, ?_, ?_, ⟨v.arb.head, ?_⟩, ⟨v.arb.aux, ?_⟩, ⟨v.arb.lamp, ?_⟩, hvfloor.trans hfloor, hvgov, ?_, ?_, hnodes.1,
    fun hne => ?_, ?_⟩
  · exact (congrArg (fun c : Arb => c.head.members.head?) hvarb).trans hhead
  · exact (congrArg (fun c : Arb => c.aux.members.head?) hvarb).trans haux
  · exact (congrArg (fun c : Arb => c.lamp.members) hvarb).trans hlamp
  · rw [← brushClaim_of_sameNodes hnodes, ← hhead, ← hvarb]
    rfl
  · rw [← brushClaim_of_sameNodes hnodes, ← haux, ← hvarb]
    rfl
  · have hnode : nodeAt v = nodeAt s := funext (nodeAt_of_sameNodes hnodes)
    rw [← hnode, ← lampWanted_of_sameNodes hnodes]
    rfl
  · change v.arb.reserve = _
    rw [hvarb, hrest]
  · change v.arb.suction = _
    rw [hvarb, hrest]
  · by_cases hclaims : claimsEntered v = v.arb
    · refine hkept _ ?_
      rw [hvsignals]
      refine hasked fun hb => hne ?_
      change claimsEntered v = s.arb
      rw [hclaims, hvarb, hb]
    · exact hclaimed hclaims
  · intro x n hx hh ha hn hp
    have hh' : x ∉ v.arb.head.members := hh
    have ha' : x ∉ v.arb.aux.members := ha
    rw [hvarb] at hh' ha'
    obtain ⟨body, hqueued, hzero⟩ := hsent x n hx (by rw [hmembers]; exact hh') (by rw [hmembers]; exact ha') hn hp
    refine ⟨body, ?_, hzero⟩
    change _ ∈ v.line.queue
    rw [hfloored]
    exact hqueued

/-- Settles O16: the derivation from the node list, and the content a brush slot takes over. -/
theorem membersClaimsAndTheFloorFollowTheNodes : Obligations.MembersClaimsAndTheFloorFollowTheNodes := by
  refine ⟨fun s => ?_, fun a newH newA listed full => ?_⟩
  · obtain ⟨hhead, haux, hlamp, ⟨slH, hslH⟩, ⟨slA, hslA⟩, ⟨slL, hslL⟩, hfloor, hgov, hreserve, hsuction, hnodes, hasked, hsent⟩ :=
      refreshTools_facts s
    rw [brushNodes_eq] at hhead haux hslH hslA hfloor
    rw [lampNodes_eq] at hlamp
    refine ⟨hhead, haux, hlamp, ?_, ?_, ?_, ?_, ?_, hfloor, hgov, hreserve, hsuction, hnodes, hasked, hsent⟩
    · rw [hslH]
      exact take_brushClaim _ _ _
    · rw [hslA]
      exact take_brushClaim _ _ _
    · exact (congrArg Slot.request hslL).trans rfl
    · rw [hslL]
      exact Nat.min_self _
    · rw [hslL]
      rfl
  · have htaken (old : Slot) (m : Option Addr) := reseat_facts old m (departing newH newA listed old)
      (departsFrom newH newA listed old old.members.head?) full a.brushSlotOf (departsFrom_iff newH newA listed old)
      (fun ⟨x, hx, _⟩ => ⟨x, hx⟩)
    rw [brushSlotOf_eq] at htaken
    dsimp only
    rw [reseatBrushes_eq, brushSlotOf_eq]
    refine ⟨fun h => if_pos h, fun h => if_pos h, fun h => ?_, fun h => ?_, rfl, rfl, rfl⟩
    · dsimp only
      rw [if_neg h]
      exact htaken a.head newH
    · dsimp only
      rw [if_neg h]
      exact htaken a.aux newA

end Sys2Proof.Machine
end

section
namespace Sys2Proof.Machine

variable {s t u : State} {a : Arb} {sl : Slot}

/-! ## Conversions (R2, R3) -/

/-- Between two neighbouring points of a falling curve the temperature is theirs, taken in proportion. -/
theorem alongCurve_segment {l : List (Int × Int)} {a b : Int × Int} {k : Nat} {raw : Int}
    (hl : l.Pairwise fun x y => y.1 < x.1) (ha : l[k]? = some a) (hb : l[k + 1]? = some b) (hlow : b.1 ≤ raw)
    (hhigh : raw ≤ a.1) : alongCurve raw l = some (a.2 + (a.1 - raw) * (b.2 - a.2) / (a.1 - b.1)) := by
  induction k generalizing l with
  | zero =>
    match l, ha, hb with
    | c :: d :: rest, ha, hb =>
      obtain rfl := Option.some.inj ha
      obtain rfl := Option.some.inj hb
      exact if_pos hlow
  | succ k ih =>
    match l, hl, ha, hb with
    | c :: d :: rest, hl, ha, hb =>
      have hrest : (d :: rest).Pairwise fun x y => y.1 < x.1 := hl.of_cons
      by_cases hd : d.1 ≤ raw
      · have hfirst : alongCurve raw (c :: d :: rest) = some (c.2 + (c.1 - raw) * (d.2 - c.2) / (c.1 - d.1)) := if_pos hd
        have hdc : d.1 < c.1 := (List.pairwise_cons.mp hl).1 d (List.mem_cons_self)
        have had : a = d := by
          cases k with
          | zero => exact (Option.some.inj ha).symm
          | succ k =>
            have hmem : a ∈ rest := List.mem_of_getElem? ha
            have hlt := (List.pairwise_cons.mp hrest).1 a hmem
            omega
        have hraw : raw = a.1 := by
          rw [had]
          rw [had] at hhigh
          omega
        rw [hfirst, hraw, had, Int.sub_self, Int.zero_mul, Int.zero_ediv, Int.mul_ediv_cancel_left _ (by omega)]
        congr 1
        omega
      · have hnext : alongCurve raw (c :: d :: rest) = alongCurve raw (d :: rest) := if_neg hd
        rw [hnext]
        exact ih hrest ha hb

/-- A reading at or above the last point of a curve has a temperature. -/
theorem alongCurve_isSome {x a : Int × Int} {l : List (Int × Int)} {raw : Int} (h : (a :: l).getLast? = some x)
    (hraw : x.1 ≤ raw) (hne : l ≠ []) : (alongCurve raw (a :: l)).isSome = true := by
  induction l generalizing a with
  | nil => exact absurd rfl hne
  | cons b l ih =>
    by_cases hb : b.1 ≤ raw
    · have hfirst : alongCurve raw (a :: b :: l) = some (a.2 + (a.1 - raw) * (b.2 - a.2) / (a.1 - b.1)) := if_pos hb
      rw [hfirst]
      rfl
    · have hnext : alongCurve raw (a :: b :: l) = alongCurve raw (b :: l) := if_neg hb
      have hlast : (b :: l).getLast? = some x := by rw [← h, List.getLast?_cons_cons]
      rw [hnext]
      refine ih hlast ?_
      rintro rfl
      obtain rfl := Option.some.inj hlast
      exact hb hraw

theorem thermistorCurve_falls : thermistorCurve.Pairwise fun x y => y.1 < x.1 := by decide

/-- A thermistor reading (R3). -/
theorem thermistor_facts (raw : BitVec 12) : (thermistor raw = none ↔ raw.toNat < 40 ∨ 4000 < raw.toNat)
    ∧ ∀ k, k < 11 → let a := thermistorCurve.getD k (0, 0)
        let b := thermistorCurve.getD (k + 1) (0, 0)
        b.1 ≤ (raw.toNat : Int) → (raw.toNat : Int) ≤ a.1 →
          thermistor raw = some (a.2 + (a.1 - raw.toNat) * (b.2 - a.2) / (a.1 - b.1)) := by
  have hpoint (k : Nat) (hk : k < 12) : thermistorCurve[k]? = some (thermistorCurve.getD k (0, 0)) := by
    have hlen : k < thermistorCurve.length := hk
    rw [List.getD_eq_getElem _ _ hlen, List.getElem?_eq_getElem hlen]
  have hrange (k : Nat) (hk : k < 12) : 40 ≤ (thermistorCurve.getD k (0, 0)).1 ∧ (thermistorCurve.getD k (0, 0)).1 ≤ 4000 := by
    have hall : ∀ p ∈ thermistorCurve, 40 ≤ p.1 ∧ p.1 ≤ 4000 := by decide
    exact hall _ (List.mem_of_getElem? (hpoint k hk))
  have hvalid (h : ¬(4000 < raw.toNat ∨ raw.toNat < 40)) :
      thermistor raw = alongCurve (Int.ofNat raw.toNat) thermistorCurve := if_neg h
  refine ⟨⟨fun hnone => ?_, fun hout => if_pos hout.symm⟩, fun k hk => ?_⟩
  · refine Classical.byContradiction fun hin => ?_
    have hsome : (alongCurve (Int.ofNat raw.toNat) thermistorCurve).isSome = true :=
      alongCurve_isSome (x := (40, 150)) rfl (show (40 : Int) ≤ (raw.toNat : Int) by omega) (by decide)
    rw [← hvalid (by omega), hnone] at hsome
    exact Bool.noConfusion hsome
  · intro a b hlow hhigh
    have hb40 : 40 ≤ b.1 := (hrange (k + 1) (by omega)).1
    have ha4000 : a.1 ≤ 4000 := (hrange k (by omega)).2
    rw [hvalid (by omega)]
    exact alongCurve_segment thermistorCurve_falls (hpoint k (by omega)) (hpoint (k + 1) (by omega)) hlow hhigh

theorem foldl_min_facts (l : List Nat) (v : Nat) : l.foldl min v ∈ v :: l ∧ ∀ x ∈ v :: l, l.foldl min v ≤ x := by
  induction l generalizing v with
  | nil => simp
  | cons w l ih =>
    obtain ⟨hmem, hle⟩ := ih (min v w)
    rw [List.foldl_cons]
    refine ⟨?_, fun x hx => ?_⟩
    · rcases List.mem_cons.mp hmem with heq | hin
      · rw [heq]
        rcases Nat.le_total v w with hvw | hwv
        · simp [Nat.min_eq_left hvw]
        · simp [Nat.min_eq_right hwv]
      · simp [hin]
    · have hfirst := hle (min v w) List.mem_cons_self
      simp only [List.mem_cons] at hx
      rcases hx with rfl | rfl | hin
      · omega
      · omega
      · exact hle x (List.mem_cons_of_mem _ hin)

theorem foldl_max_facts (l : List Nat) (v : Nat) : l.foldl max v ∈ v :: l ∧ ∀ x ∈ v :: l, x ≤ l.foldl max v := by
  induction l generalizing v with
  | nil => simp
  | cons w l ih =>
    obtain ⟨hmem, hle⟩ := ih (max v w)
    rw [List.foldl_cons]
    refine ⟨?_, fun x hx => ?_⟩
    · rcases List.mem_cons.mp hmem with heq | hin
      · rw [heq]
        rcases Nat.le_total v w with hvw | hwv
        · simp [Nat.max_eq_right hvw]
        · simp [Nat.max_eq_left hwv]
      · simp [hin]
    · have hfirst := hle (max v w) List.mem_cons_self
      simp only [List.mem_cons] at hx
      rcases hx with rfl | rfl | hin
      · omega
      · omega
      · exact hle x (List.mem_cons_of_mem _ hin)

theorem lowest_facts {l : List Nat} (h : l ≠ []) : lowest l ∈ l ∧ ∀ x ∈ l, lowest l ≤ x := by
  cases l with
  | nil => exact absurd rfl h
  | cons v l => exact foldl_min_facts l v

theorem highest_facts {l : List Nat} (h : l ≠ []) : highest l ∈ l ∧ ∀ x ∈ l, x ≤ highest l := by
  cases l with
  | nil => exact absurd rfl h
  | cons v l =>
    have hstart : highest (v :: l) = l.foldl max v := by
      unfold highest
      rw [List.foldl_cons, Nat.zero_max]
    rw [hstart]
    exact foldl_max_facts l v

theorem higher_none (x y : Option Int) : higher x y = none ↔ x = none ∧ y = none := by
  cases x <;> cases y <;> simp [higher]

theorem higher_some {x y : Option Int} {v : Int} (h : higher x y = some v) : (x = some v ∨ y = some v)
    ∧ (∀ w, x = some w → w ≤ v) ∧ ∀ w, y = some w → w ≤ v := by
  cases x with
  | none => exact ⟨.inr h, nofun, fun w hw => Int.le_of_eq (Option.some.inj (hw.symm.trans h))⟩
  | some p =>
    cases y with
    | none => exact ⟨.inl h, fun w hw => Int.le_of_eq (Option.some.inj (hw.symm.trans h)), nofun⟩
    | some q =>
      have hv : max p q = v := Option.some.inj h
      refine ⟨?_, fun w hw => ?_, fun w hw => ?_⟩
      · rcases Int.le_total p q with hle | hle
        · exact .inr (by rw [← hv, Int.max_eq_right hle])
        · exact .inl (by rw [← hv, Int.max_eq_left hle])
      · have hpw : p = w := Option.some.inj hw
        omega
      · have hqw : q = w := Option.some.inj hw
        omega

end Sys2Proof.Machine
end

section
namespace Sys2Proof.Machine

variable {s t u : State} {a : Arb} {sl : Slot}

/-! ## The record of a round (R1 to R3) -/

/-- The record a round leaves: the readings converted, and the two factors of the limit (R5). -/
theorem roundPack_record (r : Readings) (s : State) : (roundPack r s).record = some { roundRecord r s with
    fT := tempFactor (roundRecord r s).tmax, fV := voltFactor ((roundPack r s).vf.getD 0) } := rfl

/-- A round to the end of its event: the Pack Monitor as its stages leave it. -/
theorem exec_packRound (r : Readings) (hs : s.powered) : exec (.packRound r) s = .next (conclude (packRound r s))
    ∧ (conclude (packRound r s)).pack = roundPack r s :=
  ⟨event_of_powered (packRound r) s hs, by rw [conclude_pack, packRound_pack]⟩

theorem packCurrent_eq (i : Int) : packCurrent i = max (-32000) (min 32000 i) := by
  unfold packCurrent
  split_ifs <;> omega

theorem dieTemp_eq (x : Int) : dieTemp x = max (-40) (min 150 x) := by
  unfold dieTemp
  split_ifs <;> omega

/-- The highest of the three readings (R3). -/
theorem tmax_facts (x y z : Option Int) : (higher x (higher y z) = none ↔ x = none ∧ y = none ∧ z = none)
    ∧ ∀ v, higher x (higher y z) = some v → some v ∈ [x, y, z] ∧ ∀ w, some w ∈ [x, y, z] → w ≤ v := by
  refine ⟨by rw [higher_none, higher_none], fun v hv => ?_⟩
  obtain ⟨hmem, hx, hyz⟩ := higher_some hv
  have hinner (w : Int) (hw : some w = y ∨ some w = z) : w ≤ v := by
    obtain ⟨m, hm⟩ : ∃ m, higher y z = some m := by
      cases hnone : higher y z with
      | none =>
        obtain ⟨rfl, rfl⟩ := (higher_none y z).mp hnone
        rcases hw with hw | hw <;> exact nomatch hw
      | some m => exact ⟨m, rfl⟩
    obtain ⟨-, hy, hz⟩ := higher_some hm
    have hmv := hyz m hm
    have hwm : w ≤ m := hw.elim (fun h => hy w h.symm) (fun h => hz w h.symm)
    omega
  refine ⟨?_, fun w hw => ?_⟩
  · rcases hmem with rfl | hm
    · simp
    · rcases (higher_some hm).1 with rfl | rfl <;> simp
  · simp only [List.mem_cons, List.not_mem_nil, or_false] at hw
    rcases hw with hw | hw | hw
    · exact hx w hw.symm
    · exact hinner w (.inl hw)
    · exact hinner w (.inr hw)

/-- Settles O8: a round's record is the conversion of its readings, reading by reading. -/
theorem aRoundConvertsItsReadings : Obligations.ARoundConvertsItsReadings := by
  intro r s hs hcount
  obtain ⟨hexec, hpack⟩ := exec_packRound r hs
  have hcells : (r.taps.toList.take s.pack.count).map cellVolts ≠ [] := by
    intro hnil
    have hlen := congrArg List.length hnil
    rw [List.length_map, List.length_take, Vector.length_toList, List.length_nil] at hlen
    omega
  obtain ⟨hminMem, hminLe⟩ := lowest_facts hcells
  obtain ⟨hmaxMem, hmaxLe⟩ := highest_facts hcells
  obtain ⟨hnone, hsome⟩ := tmax_facts (thermistor r.th1) (thermistor r.th2) (thermistor r.th3)
  refine ⟨_, _, hexec, by rw [hpack]; exact roundPack_record r s, rfl, rfl, hminMem, hmaxMem,
    fun v hv => ⟨hminLe v hv, hmaxLe v hv⟩, packCurrent_eq r.shunt, rfl, dieTemp_eq r.die, ?_, hnone, hsome⟩
  intro curve raw x hx
  have hread : x = thermistor raw := by
    simp only [List.mem_cons, List.not_mem_nil, or_false, Prod.mk.injEq] at hx
    rcases hx with ⟨rfl, rfl⟩ | ⟨rfl, rfl⟩ | ⟨rfl, rfl⟩ <;> rfl
  rw [hread]
  exact thermistor_facts raw

end Sys2Proof.Machine
end

section
namespace Sys2Proof.Machine

variable {s t u : State} {a : Arb} {sl : Slot}

/-! ## Events stand through the work on the tool line -/

theorem event_ite {c : Prop} [Decidable c] {i : Nat} (ht : t.host.events.getLsbD i = true)
    (hu : u.host.events.getLsbD i = true) : (if c then t else u).host.events.getLsbD i = true := by
  split
  · exact ht
  · exact hu

theorem deriveNozzle_keeps (s : State) (i : Nat) (h : s.host.events.getLsbD i = true) :
    (deriveNozzle s).host.events.getLsbD i = true := event_ite h h

theorem refreshTools_keeps (s : State) (i : Nat) (h : s.host.events.getLsbD i = true) :
    (refreshTools s).host.events.getLsbD i = true := by
  have hmembers (u : State) (hu : u.host.events.getLsbD i = true) : (deriveMembers u).host.events.getLsbD i = true :=
    event_ite hu (askRecompute_keeps _ _ (queueCaps_keeps _ _ _ hu))
  have hfloor (u : State) (hu : u.host.events.getLsbD i = true) : (deriveFloor u).host.events.getLsbD i = true :=
    event_ite hu hu
  have hclaims (u : State) (hu : u.host.events.getLsbD i = true) : (deliverClaims u).host.events.getLsbD i = true :=
    event_ite hu (askRecompute_keeps _ _ hu)
  exact hclaims _ (hfloor _ (hmembers _ h))

theorem nodeGone_keeps (quiet : Bool) (x : Addr) (s : State) (i : Nat) (h : s.host.events.getLsbD i = true) :
    (nodeGone quiet x s).host.events.getLsbD i = true := by
  have hrefreshed (u : State) (hu : u.host.events.getLsbD i = true) :
      (refreshTools (deriveNozzle (askRecompute u))).host.events.getLsbD i = true :=
    refreshTools_keeps _ _ (deriveNozzle_keeps _ _ (askRecompute_keeps _ _ hu))
  unfold nodeGone
  split
  · exact h
  · dsimp only
    split
    · refine raiseIf_keeps _ _ _ _ (event_ite (deliver_keeps _ _ _ _ ?_) ?_)
      · exact hrefreshed _ h
      · exact hrefreshed _ h
    · exact h

theorem removeNodes_keeps (quiet : Bool) (s : State) (i : Nat) (h : s.host.events.getLsbD i = true) :
    (removeNodes quiet s).host.events.getLsbD i = true := by
  unfold removeNodes
  generalize s.line.nodes.map (·.addr) = l
  induction l generalizing s with
  | nil => exact h
  | cons x l ih => exact ih _ (nodeGone_keeps quiet x s i h)

theorem lineReset_keeps (quiet : Bool) (s : State) (i : Nat) (h : s.host.events.getLsbD i = true) :
    (lineReset quiet s).host.events.getLsbD i = true :=
  removeNodes_keeps quiet _ i (event_ite (setTpwr_keeps _ _ _ _ h) h)

theorem holdPower_keeps (s : State) (i : Nat) (h : s.host.events.getLsbD i = true) :
    (holdPower s).host.events.getLsbD i = true := by
  have hremoved : (removeNodes false (clearTraffic (setTpwr .off .power s))).host.events.getLsbD i = true :=
    removeNodes_keeps false _ i (setTpwr_keeps .off .power s i h)
  exact event_ite hremoved hremoved

theorem releasePower_keeps (s : State) (i : Nat) (h : s.host.events.getLsbD i = true) :
    (releasePower s).host.events.getLsbD i = true :=
  event_ite h (lineReset_keeps _ _ _ (setTpwr_keeps _ _ _ _ h))

theorem supervise_keeps (n : Nat) (s : State) (i : Nat) (h : s.host.events.getLsbD i = true) :
    (supervise n s).host.events.getLsbD i = true := by
  have htrip : (overcurrentTrip s).host.events.getLsbD i = true :=
    (setTpwr_keeps .signal .overcurrent (raise .toolOvercurrent s) i (raise_keeps _ _ _ h) :)
  exact event_ite (event_ite htrip h) h

/-! ## What the hand-overs do to the tool line -/

/-- A property of the tool line that CAPs, a new brush level and a change of TPWR leave standing. -/
structure HandLaw (p : ToolLine → Prop) : Prop where
  caps : ∀ (l : List Addr) (s : State), p s.line → p (queueCaps l s).line
  brush : ∀ (l : ToolLine) (b : Nat), p l → p { l with brush := b }
  level : ∀ (s : State) (l : Tpwr), p s.line → p (discardCaps { s with line := { s.line with tpwr := l } }).line

theorem line_ite {p : ToolLine → Prop} {c : Prop} [Decidable c] (ht : p t.line) (hu : p u.line) :
    p (if c then t else u).line := by
  split
  · exact ht
  · exact hu

theorem line_of_eq {p : ToolLine → Prop} (h : t.line = s.line) (hs : p s.line) : p t.line := by
  rw [h]
  exact hs

section
variable {p : ToolLine → Prop}

theorem HandLaw.setStack (hp : HandLaw p) (st : List StackEntry) (h : p s.line) : p (setStack st s).line := by
  unfold Machine.setStack
  dsimp only
  split
  · exact h
  · exact hp.caps _ _ (hp.brush _ _ h)

theorem HandLaw.leaveRun (hp : HandLaw p) (h : p s.line) : p (leaveRun s).line := by
  have hpop : p (if s.load.phase = .pulse ∧ s.load.pushMade then clearPop s else s).line :=
    line_ite (line_ite (hp.setStack _ h) h) h
  have hrest : p (loadRest s).line := hpop
  have hzero (u : State) (rate : Option Nat) (hu : p u.line) : p (zeroLevel rate u).line := line_ite hu hu
  exact hzero _ _ hrest

theorem HandLaw.changeState (hp : HandLaw p) (new : MotorState) (h : p s.line) : p (changeState new s).line :=
  line_ite (hp.leaveRun h) h

theorem line_askRecompute (h : p s.line) : p (askRecompute s).line := line_ite h h

theorem line_setActive (b : Bool) (h : p s.line) : p (setActive b s).line := line_ite h (line_askRecompute h)

theorem HandLaw.enterRest (hp : HandLaw p) (new : MotorState) (h : p s.line) : p (enterRest new s).line := by
  have hleft (u : State) (hu : p u.line) : p (leaveAttachWait u).line :=
    line_of_eq (congrArg State.line (leaveAttachWait_besideDock u) :) hu
  exact hleft _ (line_setActive false (hp.changeState new h))

theorem HandLaw.reachOff (hp : HandLaw p) (h : p s.line) : p (reachOff s).line :=
  line_ite (hp.enterRest .off h) (hp.enterRest .off h)

theorem HandLaw.stopOrder (hp : HandLaw p) (c : StopCause) (h : p s.line) : p (stopOrder c s).line := by
  have hchange : p (zeroSetPoint (Machine.changeState .stopping { s with drive := { s.drive with stopCause := c } })).line :=
    hp.changeState .stopping (s := { s with drive := { s.drive with stopCause := c } }) h
  exact line_ite (line_ite (hp.reachOff hchange) hchange) h

theorem HandLaw.trip (hp : HandLaw p) (c : TripCause) (h : p s.line) : p (trip c s).line := by
  have hentered : p (tripEntered c s).line := line_of_eq (raiseIf_line _ _ _) h
  have htimer (u : State) (d : Drive) (hu : p u.line) : p ({ u with drive := d } : State).line := hu
  rw [trip_eq]
  split
  · exact hp.enterRest _ hentered
  · exact htimer _ _ (hp.enterRest _ hentered)

theorem HandLaw.thermalCheck (hp : HandLaw p) (x : Int) (h : p s.line) : p (thermalCheck x s).line :=
  line_ite (hp.trip _ h) h

theorem line_limitSetPoint (h : p s.line) : p (limitSetPoint s).line := by
  unfold limitSetPoint
  split
  · exact h
  · exact h

theorem HandLaw.grantArrives (hp : HandLaw p) (g : Nat) (h : p s.line) : p (grantArrives g s).line := by
  have hheld : p (grantHeld g s).line := line_ite h h
  rw [grantArrives_eq]
  exact line_ite (hp.stopOrder _ hheld) (line_limitSetPoint hheld)

theorem line_handWatch (h : p s.line) : p (handWatch s).line := by
  obtain ⟨v, w, hv, hw, hhanded⟩ := handWatch_eq s
  have hlimited : p w.line := by
    rw [hw, hv]
    exact line_ite h (line_limitSetPoint h)
  rw [hhanded]
  exact line_ite hlimited (line_of_eq (congrArg State.line (pauseOrderChanged_besideDock _ w) :) hlimited)

theorem HandLaw.setTpwr (hp : HandLaw p) (l : Tpwr) (c : ReleaseCause) (h : p s.line) : p (setTpwr l c s).line := by
  have hdiscarded : p (discardCaps { s with line := { s.line with tpwr := l } }).line := hp.level s l h
  unfold Machine.setTpwr
  split
  · exact h
  · have hreleased (v : State) (hv : p v.line) : p (forcedRelease c v).line := line_askRecompute hv
    have hinner : p (if s.line.tpwr = .full then
        forcedRelease c { discardCaps { s with line := { s.line with tpwr := l } } with
          arb := { s.arb with supCount := 0 } }
        else discardCaps { s with line := { s.line with tpwr := l } }).line := line_ite (hreleased _ hdiscarded) hdiscarded
    exact line_askRecompute (line_ite hinner hinner)

theorem HandLaw.handTools (hp : HandLaw p) (h : p s.line) : p (handTools s).line := by
  have hqueued : p (queueCaps (handedNodes s.arb) (newsMarked s)).line := hp.caps _ _ h
  rw [handTools_eq]
  exact line_ite (hp.setTpwr _ _ hqueued) (line_ite (hp.setTpwr _ _ hqueued) hqueued)

theorem HandLaw.take (hp : HandLaw p) (g : Signal) (h : p s.line) : p (take g s).line := by
  have hraised (b : Bool) (e : Event) (v : State) (hv : p v.line) : p (raiseIf b e v).line :=
    line_of_eq (raiseIf_line _ _ _) hv
  cases g with
  | recompute =>
    have hformed : p (Machine.handTools (tableFormed s)).line := hp.handTools (hraised _ _ _ h)
    exact line_ite hformed (hp.grantArrives _ hformed)
  | update q v =>
    change p (watchUpdate q v s).line
    unfold watchUpdate
    dsimp only
    refine line_handWatch ?_
    have hwatched (b : Bool) (w : WatchUnit) : p (raiseIf b .watchFired { s with watch := w }).line := hraised _ _ _ h
    exact line_ite (hp.stopOrder _ (hwatched _ _)) (hwatched _ _)
  | stop c => exact hp.stopOrder c h
  | cutoffStop =>
    have hfree : p ({ s with free := s.free + 1 } : State).line := h
    exact line_ite (line_ite (hp.stopOrder _ hfree) (hp.grantArrives _ hfree)) (hp.stopOrder _ h)
  | startCheck =>
    have harming : p (enterArming s).line :=
      line_setActive true (hp.changeState .arming (s := { s with drive := { s.drive with startPending := false } }) h)
    exact line_ite (line_ite harming (line_ite h h)) h

theorem HandLaw.drain (hp : HandLaw p) (n : Nat) (h : p s.line) : p (drain n s).line := by
  induction n generalizing s with
  | zero => exact h
  | succ n ih =>
    unfold Machine.drain
    split
    · exact h
    · rename_i sig rest _
      exact ih (hp.take sig (s := { s with signals := rest }) h)

/-- A property of the line that the hand-overs leave standing stands at the event's end. -/
theorem HandLaw.conclude (hp : HandLaw p) (h : p s.line) : p (conclude s).line := line_of_eq (finish_line _) (hp.drain 400 h)

end

/-! ## A line without nodes stays without frames -/

/-- The line holds no node, and no frame is due. -/
def bareLine (l : ToolLine) : Prop := l.nodes = [] ∧ l.queue = []

theorem queueCaps_of_bare (l : List Addr) (h : s.line.nodes = []) : queueCaps l s = s := by
  have hone (x : Addr) : queueCap x s = s := by
    have hnone : nodeAt s x = none := by rw [nodeAt, h]; rfl
    rw [queueCap, hnone]
  unfold queueCaps
  induction l with
  | nil => rfl
  | cons x l ih => rw [List.foldl_cons, hone, ih]

theorem handLaw_bareLine : HandLaw bareLine where
  caps l s h := by
    rw [queueCaps_of_bare l h.1]
    exact h
  brush _ _ h := h
  level s l h := by
    obtain ⟨hnodes, hqueue⟩ := h
    refine ⟨?_, ?_⟩
    · change s.line.nodes.map _ = []
      rw [hnodes]
      rfl
    · change s.line.queue.filter _ = []
      rw [hqueue]
      rfl

end Sys2Proof.Machine
end

section
namespace Sys2Proof.Machine

variable {s t u : State} {a : Arb} {sl : Slot}

/-! ## A cut-off stops a driving motor (R15, R51) -/

theorem stopOrder_resting (c : StopCause) (hp : s.drive.startPending = false) : resting (stopOrder c s).drive := by
  by_cases h : s.drive.state.drives = true
  · have hdrive := enterStopping_drive c s
    rw [stopOrder_of_drives c h, hdrive]
    split
    · exact ⟨rfl, fun h' => nomatch hp.symm.trans h'⟩
    · exact ⟨rfl, fun h' => nomatch hp.symm.trans h'⟩
  · rw [stopOrder_of_rest (by simpa using h)]
    exact ⟨by simpa using h, fun h' => nomatch hp.symm.trans h'⟩

theorem grantArrives_resting (h : s.drive.state.drives = true) (hp : s.drive.startPending = false) :
    resting (grantArrives 0 s).drive := by
  obtain ⟨hdrive, -, -⟩ := grantHeld_facts 0 s
  rw [grantArrives_eq, if_pos ⟨rfl, h⟩]
  exact stopOrder_resting .starved (by
    change (grantHeld 0 s).drive.startPending = false
    rw [hdrive]
    exact hp)

theorem cutoffStopNow_resting (hp : s.drive.startPending = false) : resting (cutoffStopNow s).drive := by
  unfold cutoffStopNow
  split
  · rename_i hc
    dsimp only
    split
    · exact stopOrder_resting .pack (s := { s with free := s.free + 1 }) hp
    · exact grantArrives_resting (s := { s with free := s.free + 1 }) hc.1 hp
  · exact stopOrder_resting .pack hp

/-- The first hand-over of a cut-off's event stops the motor. -/
theorem conclude_of_cutoffStop {rest : List Signal} (hsig : s.signals = .cutoffStop :: rest)
    (hp : s.drive.startPending = false) : (conclude s).drive.state.drives = false := by
  have hrest : resting (take .cutoffStop { s with signals := rest }).drive :=
    cutoffStopNow_resting (s := { s with signals := rest }) hp
  have hdrain := drain_restsOn 399 hrest
  change (finish (drain 400 s)).drive.state.drives = false
  rw [finish_drive, drain_cons 399 _ _ _ hsig, hdrain.state]
  exact hrest.1

/-! ## What the cut-off's orders leave (R15, R126) -/

/-- A node's entry and its frames removed from the line. -/
def entryRemoved (x : Addr) (s : State) : State :=
  dropFrames x { s with line := { s.line with
    nodes := s.line.nodes.filter (fun m => m.addr != x)
    quarantine := s.line.quarantine ++ [⟨x, 250⟩] } }

/-- What follows the removal of a node that was a tool. -/
def toolDeparted (x : Addr) (s : State) : State :=
  refreshTools (deriveNozzle (askRecompute { s with arb := s.arb.mapTools (Slot.depart x) }))

theorem nodeGone_eq (quiet : Bool) (x : Addr) (s : State) : nodeGone quiet x s = match nodeAt s x with
    | none => s
    | some n => if n.completed then
        raiseIf (!quiet) .toolDetach (if s.arb.head.members.contains x
          then deliver .brushMa noneMark (toolDeparted x (entryRemoved x s)) else toolDeparted x (entryRemoved x s))
      else entryRemoved x s := by
  unfold nodeGone
  cases nodeAt s x <;> rfl

theorem appends_queueCaps (l : List Addr) (s : State) : appends s (queueCaps l s) := by
  obtain ⟨q, w, hq⟩ := queueCaps_writes l s
  exact appends_of_eq (by rw [hq])

theorem appends_refreshTools (s : State) : appends s (refreshTools s) := by
  have hasked (l : List Addr) (u : State) (b : Arb) : appends u (askRecompute (queueCaps l { u with arb := b })) :=
    appends.trans (appends_queueCaps l { u with arb := b }) (appends_askRecompute _)
  have hmembers (u : State) : appends u (deriveMembers u) := appends_ite (appends_of_eq rfl) (hasked _ u _)
  have hfloor (u : State) : appends u (deriveFloor u) := appends_ite (appends_of_eq rfl) (appends_of_eq rfl)
  have hclaims (u : State) : appends u (deliverClaims u) :=
    appends_ite (appends_of_eq rfl) (appends_askRecompute { u with arb := claimsEntered u })
  exact (hmembers s).trans ((hfloor _).trans (hclaims _))

theorem appends_toolDeparted (x : Addr) (s : State) : appends s (toolDeparted x s) := by
  have hnozzle (u : State) : appends u (deriveNozzle u) := appends_ite (appends_of_eq rfl) (appends_of_eq rfl)
  exact (appends_askRecompute { s with arb := s.arb.mapTools (Slot.depart x) }).trans
    ((hnozzle _).trans (appends_refreshTools _))

theorem appends_nodeGone (quiet : Bool) (x : Addr) (s : State) : appends s (nodeGone quiet x s) := by
  have hremoved : appends s (entryRemoved x s) := appends_of_eq rfl
  have hraised (c : Bool) (u : State) : appends u (raiseIf c .toolDetach u) := appends_of_eq (raiseIf_signals _ _ _)
  rw [nodeGone_eq]
  cases nodeAt s x with
  | none => exact appends_of_eq rfl
  | some n =>
    dsimp only
    split
    · refine appends.trans ?_ (hraised _ _)
      generalize entryRemoved x s = v at hremoved
      have hdeparted := hremoved.trans (appends_toolDeparted x v)
      split
      · exact hdeparted.trans ⟨[_], rfl⟩
      · exact hdeparted
    · exact hremoved

theorem appends_removeNodes (quiet : Bool) (s : State) : appends s (removeNodes quiet s) := by
  unfold removeNodes
  generalize s.line.nodes.map (·.addr) = l
  induction l generalizing s with
  | nil => exact appends_of_eq rfl
  | cons x l ih => exact (appends_nodeGone quiet x s).trans (ih _)

theorem appends_setTpwr (l : Tpwr) (c : ReleaseCause) (s : State) : appends s (setTpwr l c s) := by
  have hreleased (v : State) : appends v (forcedRelease c v) := appends.trans (appends_of_eq rfl) (appends_askRecompute _)
  unfold setTpwr
  split
  · exact appends_of_eq rfl
  · dsimp only
    refine appends.trans ?_ (appends_askRecompute _)
    split <;> split
    · exact hreleased { discardCaps { s with line := { s.line with tpwr := l } } with arb := { s.arb with supCount := 0 } }
    · exact appends_of_eq rfl
    · exact hreleased { discardCaps { s with line := { s.line with tpwr := l } } with arb := { s.arb with supCount := 0 } }
    · exact appends_of_eq rfl

theorem appends_holdPower (s : State) : appends s (holdPower s) := by
  have hfloor (u : State) : appends u (deriveFloor u) := appends_ite (appends_of_eq rfl) (appends_of_eq rfl)
  have hset : appends s (clearTraffic (setTpwr .off .power s)) := appends_setTpwr .off .power s
  have hremoved := hset.trans (appends_removeNodes false _)
  exact hremoved.trans (appends.trans (appends_of_eq rfl) (hfloor { clearTraffic (removeNodes false
    (clearTraffic (setTpwr .off .power s))) with line := { (clearTraffic (removeNodes false
      (clearTraffic (setTpwr .off .power s)))).line with quarantine := [] } }))

/-- The orders of a cut-off: the line is silent and empty, the motor's stop order stands before what is asked. -/
theorem cutoffOrders_facts (s : State) : (cutoffOrders s).line.tpwr = .off ∧ (cutoffOrders s).line.nodes = []
    ∧ appends (emit .cutoffStop s) (cutoffOrders s) ∧ (cutoffOrders s).drive = s.drive := by
  obtain ⟨hoff, hnodes⟩ := holdPower_line (emit .cutoffStop s)
  exact ⟨hoff, hnodes, appends_holdPower (emit .cutoffStop s), cutoffOrders_drive s⟩

theorem appends.head {g : Signal} {l : List Signal} (h : appends s t) (hs : s.signals = g :: l) :
    ∃ rest, t.signals = g :: rest := by
  obtain ⟨m, h⟩ := h
  exact ⟨l ++ m, by rw [h, hs]; rfl⟩

theorem conclude_nodes_nil (h : s.line.nodes = []) : (conclude s).line.nodes = [] := by
  have hkept : (conclude s).line.nodes.map (fun n => { n with pending := none })
      = s.line.nodes.map (fun n => { n with pending := none }) :=
    (congrArg ToolLine.nodes (conclude_line_lasting s) :)
  rw [h] at hkept
  exact List.map_eq_nil_iff.mp hkept

end Sys2Proof.Machine
end

section
namespace Sys2Proof.Machine

variable {s t u : State} {a : Arb} {sl : Slot}

/-! ## The protection of a round (R4, R14 to R17) -/

/-- The Pack Monitor after the protection of a round. -/
def guarded (r : Readings) (s : State) : Pack := protect (s.dock.state != .detached) (roundRecord r s) s.pack

theorem gaugeStage_writes (charges : Bool) (x : PackRecord) (p : Pack) : ∃ g rest clip,
    gaugeStage charges x p = { p with gauge := g, rest := rest, clip := clip } := by
  have hwrites (k x y m n : Nat) (b : Bool) : ∃ g rest clip,
      (if 1800000 ≤ k then { p with gauge := x, rest := m, clip := b } else { p with gauge := y, rest := n, clip := b } : Pack)
        = { p with gauge := g, rest := rest, clip := clip } := by
    split
    · exact ⟨x, m, b, rfl⟩
    · exact ⟨y, n, b, rfl⟩
  unfold gaugeStage
  dsimp only
  exact hwrites _ _ _ _ _ _

/-- The later stages of a round write the gauge, the limit, the record and the round's timer. -/
theorem roundPack_writes (r : Readings) (s : State) : ∃ g rest clip, roundPack r s
    = limitStage (roundRecord r s) { guarded r s with gauge := g, rest := rest, clip := clip } := by
  obtain ⟨g, rest, clip, h⟩ := gaugeStage_writes s.dock.state.charges (roundRecord r s) (guarded r s)
  exact ⟨g, rest, clip, congrArg (limitStage (roundRecord r s)) h⟩

/-- What the later stages of a round leave of the protection. -/
theorem roundPack_guarded (r : Readings) (s : State) : let p := roundPack r s
    let q := guarded r s
    p.vf = q.vf ∧ p.reseed = q.reseed ∧ p.low = q.low ∧ p.overvolt = q.overvolt ∧ p.cutTimer = q.cutTimer
      ∧ p.cutoff = q.cutoff ∧ p.shutdown = q.shutdown ∧ p.power = s.pack.power
      ∧ (q.cutoff = true → p.computed = 0) := by
  obtain ⟨g, rest, clip, h⟩ := roundPack_writes r s
  dsimp only
  rw [h]
  exact ⟨rfl, rfl, rfl, rfl, rfl, rfl, rfl, rfl, fun hc => if_pos hc⟩

/-- A computed limit of 0 is published at once. -/
theorem publish_zero (first : Bool) (n : Nat) : publish first 0 n = 0 := by
  unfold publish
  split <;> omega

theorem roundPack_published (r : Readings) (s : State) (h : (roundPack r s).computed = 0) : (roundPack r s).published = 0 := by
  obtain ⟨g, rest, clip, heq⟩ := roundPack_writes r s
  rw [heq] at h ⊢
  have hpublished : publish (guarded r s).record.isNone 0 (guarded r s).published = 0 := publish_zero _ _
  exact (congrArg (fun c => publish (guarded r s).record.isNone c (guarded r s).published) h).trans hpublished

/-- The voltage flags of a round (R14, R17). -/
theorem flags_facts (b : Bool) (n : Nat) : (n < 3300 → lowFlag b n = true) ∧ (3350 ≤ n → lowFlag b n = false)
    ∧ (3300 ≤ n → n < 3350 → lowFlag b n = b) ∧ (4250 < n → overFlag b n = true) ∧ (n ≤ 4200 → overFlag b n = false)
    ∧ (4200 < n → n ≤ 4250 → overFlag b n = b) := by
  unfold lowFlag overFlag
  split_ifs <;> simp <;> omega

/-- The filtered voltage of a round (R4). -/
theorem filtered_facts (p : Pack) (v : Int) : (p.vf = none ∨ p.reseed = true → filtered p v = v)
    ∧ ∀ w, p.vf = some w → p.reseed = false → filtered p v = w + (v - w).tdiv 8 := by
  unfold filtered
  refine ⟨fun h => ?_, fun w hw hr => by rw [hw, hr] <;> rfl⟩
  cases hvf : p.vf with
  | none => rfl
  | some w =>
    rcases h with h | h
    · exact nomatch hvf.symm.trans h
    · cases hreseed : p.reseed with
      | true => rfl
      | false => exact nomatch h.symm.trans hreseed

/-- The cut-off timer and the cut-off after a round (R15, R16). -/
theorem protect_cutoff (docked : Bool) (x : PackRecord) (p : Pack) : let q := protect docked x p
    let vf := filtered p x.vmin
    (3000 ≤ vf → q.cutTimer = 0)
      ∧ (q.cutoff = true → p.cutoff = false → q.shutdown = if docked then p.shutdown else some 2000)
      ∧ (p.power = .active → (vf < 3000 → q.cutTimer = p.cutTimer + 10)
          ∧ (p.cutoff = false → (q.cutoff = true ↔ vf < 3000 ∧ 500 ≤ p.cutTimer + 10)))
      ∧ (p.cutoff = true → (q.cutoff = false ↔ docked = true ∧ 3100 ≤ vf)) := by
  obtain ⟨vf, hvf⟩ : ∃ vf, vf = filtered p x.vmin := ⟨_, rfl⟩
  obtain ⟨n, hn⟩ : ∃ n, n = if vf < 3000 then p.cutTimer + roundPeriod p.power else 0 := ⟨_, rfl⟩
  have hprotect : protect docked x p = { p with
      vf := some vf, reseed := false
      low := lowFlag p.low x.vmin
      overvolt := overFlag p.overvolt x.vmax
      cutTimer := if p.cutoff && docked && decide (3100 ≤ vf) then 0 else n
      cutoff := (p.cutoff || !p.cutoff && decide (500 ≤ n)) && !(p.cutoff && docked && decide (3100 ≤ vf))
      shutdown := if !p.cutoff && decide (500 ≤ n) && !docked then some 2000 else p.shutdown } := by
    rw [hn, hvf]
    rfl
  have hhigh (h : 3000 ≤ vf) : n = 0 := hn.trans (if_neg (by omega))
  have hlow (ha : p.power = .active) (h : vf < 3000) : n = p.cutTimer + 10 := by
    rw [hn, if_pos h, ha] <;> rfl
  have hbelow (h : vf < 3000) : ¬ 3100 ≤ vf := by omega
  dsimp only
  rw [← hvf, hprotect]
  dsimp only
  refine ⟨fun h => ?_, fun hc hp => ?_, fun ha => ⟨fun h => ?_, fun hp => ?_⟩, fun hp => ?_⟩
  · rw [hhigh h]
    split <;> rfl
  · rw [hp] at hc ⊢
    simp only [Bool.false_or, Bool.not_false, Bool.true_and, Bool.false_and, Bool.and_true] at hc ⊢
    rw [hc]
    cases docked <;> rfl
  · rw [hlow ha h]
    simp [hbelow h]
  · rw [hp]
    simp only [Bool.false_or, Bool.not_false, Bool.true_and, Bool.false_and, Bool.and_true, decide_eq_true_eq]
    refine ⟨fun h => ?_, fun ⟨hv, h⟩ => hlow ha hv ▸ h⟩
    rcases Int.lt_or_le vf 3000 with hv | hv
    · exact ⟨hv, hlow ha hv ▸ h⟩
    · rw [hhigh hv] at h
      omega
  · rw [hp]
    simp

end Sys2Proof.Machine
end

section
namespace Sys2Proof.Machine

variable {s t u : State} {a : Arb} {sl : Slot}

/-! ## What a round's orders leave to its end -/

/-- What the supervision of a round leaves beside the motor, its end leaves. -/
theorem packRound_besideMotor (r : Readings) (s : State) : besideMotor (packRound r s)
    = besideMotor (supervise (roundRecord r s).itool (roundCut r s)) := by
  rw [packRound_eq]
  refine (thermalCheck_besideMotor _ _).trans ((deliverAll_besideMotor _ _).trans ?_)
  have hasked (u : State) : besideMotor (askRecompute u) = besideMotor u := besideMotor_ite rfl rfl
  exact besideMotor_ite (hasked _) rfl

theorem trip_dock (c : TripCause) (h : s.dock.state ≠ .attachWait) : (trip c s).dock = s.dock := by
  have hentered : (tripEntered c s).dock = s.dock := raiseIf_dock _ _ _
  have hrest (m : MotorState) : (enterRest m (tripEntered c s)).dock = s.dock := by
    obtain ⟨w, hleft, hdock, -⟩ := enterRest_leaves m (tripEntered c s)
    rw [hleft, leaveAttachWait_of_ne (by rw [hdock, hentered]; exact h), hdock, hentered]
  rw [trip_eq]
  split
  · exact hrest .locked
  · exact hrest .fault

/-- Outside ATTACH_WAIT a round leaves the dock as its over-voltage order does. -/
theorem packRound_dock (r : Readings) (s : State) (h : (roundOvervolted r s).dock.state ≠ .attachWait) :
    (packRound r s).dock = (roundOvervolted r s).dock := by
  obtain ⟨v, hv⟩ : ∃ v, v = roundOvervolted r s := ⟨_, rfl⟩
  have hcut : (roundCut r s).dock = v.dock := by
    have hdeclared : (cutoffOrders (raise .packCutoff v)).dock = v.dock :=
      dock_of_besideTools (holdPower_besideTools (emit .cutoffStop (raise .packCutoff v)))
    unfold roundCut
    rw [← hv]
    dsimp only
    split
    · rw [dock_of_besideTools (releasePower_besideTools _)]
      split
      · exact hdeclared
      · rfl
    · split
      · exact hdeclared
      · rfl
  have hsupervised : (roundSupervised r s).dock = v.dock := by
    unfold roundSupervised
    split
    · rw [dock_of_besideTools (askRecompute_besideTools _), dock_of_besideTools (supervise_besideTools _ _), hcut]
    · rw [dock_of_besideTools (supervise_besideTools _ _), hcut]
  rw [← hv] at h ⊢
  rw [packRound_eq, deliverAll_eq, ← hsupervised]
  rw [← hsupervised] at h
  unfold thermalCheck
  split
  · exact trip_dock .thermal h
  · rfl

/-! ## The round's events (R14, R15, R17) -/

theorem roundOvervolted_keeps (r : Readings) (s : State) (i : Nat) (h : (roundRaised r s).host.events.getLsbD i = true) :
    (roundOvervolted r s).host.events.getLsbD i = true :=
  event_ite (event_ite h (enterChargeFault_keeps _ _ _ h)) h

theorem roundCut_keeps (r : Readings) (s : State) (i : Nat) (h : (roundOvervolted r s).host.events.getLsbD i = true) :
    (roundCut r s).host.events.getLsbD i = true := by
  have hdeclared : (cutoffOrders (raise .packCutoff (roundOvervolted r s))).host.events.getLsbD i = true :=
    holdPower_keeps _ _ (raise_keeps _ _ _ h)
  exact event_ite (releasePower_keeps _ _ (event_ite hdeclared h)) (event_ite hdeclared h)

theorem packRound_keeps_roundCut (r : Readings) (s : State) (i : Nat) (h : (roundCut r s).host.events.getLsbD i = true) :
    (packRound r s).host.events.getLsbD i = true :=
  (packRound_of_supervised r s).2 i (supervise_keeps _ _ _ h)

theorem packRound_keeps (r : Readings) (s : State) (i : Nat) (h : (roundRaised r s).host.events.getLsbD i = true) :
    (packRound r s).host.events.getLsbD i = true :=
  packRound_keeps_roundCut r s i (roundCut_keeps r s i (roundOvervolted_keeps r s i h))

theorem hasEvent_raiseIf {c : Bool} (e : Event) (s : State) (h : c = true) : hasEvent e (raiseIf c e s) = true := by
  rw [raiseIf_of_true e s h]
  exact hasEvent_raise e s

/-- A flag of the cells that a round sets raises its event. -/
theorem packRound_flags (r : Readings) (s : State) :
    ((roundPack r s).low = true → s.pack.low = false → hasEvent .packLow (packRound r s) = true)
      ∧ ((roundPack r s).overvolt = true → s.pack.overvolt = false → hasEvent .cellOvervolt (packRound r s) = true) := by
  refine ⟨fun h h' => packRound_keeps r s _ ?_, fun h h' => packRound_keeps r s _ ?_⟩
  · exact raiseIf_keeps _ _ _ _ (raiseIf_keeps _ _ _ _ (hasEvent_raiseIf .packLow _ (by rw [h, h']; rfl)))
  · exact hasEvent_raiseIf .cellOvervolt _ (by rw [h, h']; rfl)

theorem roundRaised_signals (r : Readings) (s : State) : (roundRaised r s).signals = s.signals := by
  simp only [roundRaised, raiseIf_signals]

theorem roundOvervolted_signals (r : Readings) (s : State) : (roundOvervolted r s).signals = s.signals := by
  unfold roundOvervolted
  split
  · rw [signals_of_besideDock (overvoltOrder_besideDock _), roundRaised_signals]
  · exact roundRaised_signals r s

/-- A round whose cut-off is newly declared (R15): the orders of the cut-off, and what the rest of the round leaves. -/
theorem packRound_declares (r : Readings) (s : State) (h : (roundPack r s).cutoff = true) (h' : s.pack.cutoff = false) :
    let u := packRound r s
    hasEvent .packCutoff u = true ∧ u.line.tpwr = .off ∧ u.line.nodes = []
      ∧ (s.signals = [] → ∃ rest, u.signals = .cutoffStop :: rest) := by
  obtain ⟨v, hv⟩ : ∃ v, v = roundOvervolted r s := ⟨_, rfl⟩
  have hcut : roundCut r s = cutoffOrders (raise .packCutoff v) := by
    rw [hv, roundCut, h, h']
    rfl
  obtain ⟨hoff, hnodes, happends, -⟩ := cutoffOrders_facts (raise .packCutoff v)
  rw [← hcut] at hoff hnodes happends
  have hside := packRound_besideMotor r s
  rw [supervise_of_below _ (by rw [hoff]; decide)] at hside
  refine ⟨packRound_keeps_roundCut r s _ ?_, (congrArg (·.line.tpwr) hside :).trans hoff,
    (congrArg (·.line.nodes) hside :).trans hnodes, fun hsig => ?_⟩
  · rw [hcut]
    exact holdPower_keeps _ _ (hasEvent_raise .packCutoff v)
  · have hfirst : (emit .cutoffStop (raise .packCutoff v)).signals = [.cutoffStop] := by
      change v.signals ++ _ = _
      rw [hv, roundOvervolted_signals, hsig]
      rfl
    obtain ⟨rest, hrest⟩ := happends.head hfirst
    have hsupervised : (supervise (roundRecord r s).itool (roundCut r s)).signals = .cutoffStop :: rest := by
      rw [supervise_of_below _ (by rw [hoff]; decide)]
      exact hrest
    have hasked : ∃ rest, (roundSupervised r s).signals = .cutoffStop :: rest := by
      unfold roundSupervised
      split
      · exact (appends_askRecompute _).head hsupervised
      · exact ⟨rest, hsupervised⟩
    obtain ⟨rest', hasked⟩ := hasked
    obtain ⟨after, hround⟩ := packRound_signals r s
    exact ⟨_, by rw [hround, hasked, List.cons_append, List.cons_append]⟩

theorem packRound_startPending (r : Readings) (s : State) (h : s.drive.startPending = false) :
    (packRound r s).drive.startPending = false := by
  obtain ⟨v, hround, hdrive⟩ := packRound_thermalCheck r s
  rw [hround]
  unfold thermalCheck
  split
  · obtain ⟨m, timer, htrip, -⟩ := trip_drive .thermal v
    rw [htrip]
    rfl
  · rw [hdrive]
    exact h

/-! ## The end of a cut-off (R126) -/

/-- A line reset: the line's power, and the line without nodes, frames and quarantined addresses (R113). -/
theorem lineReset_line (quiet : Bool) (s : State) : let t := lineReset quiet s
    t.line.tpwr = (if s.line.tpwr = .full then .signal else s.line.tpwr) ∧ t.line.nodes = [] ∧ t.line.queue = []
      ∧ t.line.quarantine = [] ∧ t.line.resetting = some 40 ∧ t.line.idle = 0 := by
  obtain ⟨v, hv⟩ : ∃ v, v = if s.line.tpwr = .full then setTpwr .signal .power s else s := ⟨_, rfl⟩
  have hreset : lineReset quiet s = { clearTraffic (removeNodes quiet v) with line :=
      { (clearTraffic (removeNodes quiet v)).line with quarantine := [], resetting := some 40, idle := 0 } } := hv ▸ rfl
  have hlevel : v.line.tpwr = if s.line.tpwr = .full then .signal else s.line.tpwr := by
    rw [hv]
    split
    · exact setTpwr_tpwr _ _ _
    · rfl
  obtain ⟨q, hgone⟩ := removeNodes_line quiet v
  dsimp only
  rw [hreset, ← hlevel]
  exact ⟨(congrArg (·.1.tpwr) hgone :), removeNodes_nodes quiet v, rfl, rfl, rfl, rfl⟩

/-- The power released: the line starts with a reset. -/
theorem releasePower_facts (h : powerHeld s = false) (hoff : s.line.tpwr = .off) : let t := releasePower s
    t.line.tpwr = .signal ∧ t.line.resetting = some 40 ∧ t.line.nodes = [] ∧ t.line.queue = [] ∧ t.line.quarantine = [] := by
  have hreleased : releasePower s = lineReset false (setTpwr .signal .power s) := by
    rw [releasePower, h, hoff]
    rfl
  obtain ⟨hlevel, hnodes, hqueue, hquarantine, hresetting, -⟩ := lineReset_line false (setTpwr .signal .power s)
  rw [setTpwr_tpwr, if_neg (by decide)] at hlevel
  rw [hreleased]
  exact ⟨hlevel, hresetting, hnodes, hqueue, hquarantine⟩

/-- A round that ends a cut-off (R126): in ACTIVE the line starts from a reset, in STANDBY TPWR stays OFF. -/
theorem packRound_releases (r : Readings) (s : State) (h : s.pack.cutoff = true) (h' : (roundPack r s).cutoff = false)
    (hoff : s.line.tpwr = .off) : let u := packRound r s
    (s.pack.power = .active → u.line.tpwr = .signal ∧ u.line.resetting = some 40 ∧ u.line.nodes = []
        ∧ u.line.queue = [] ∧ u.line.quarantine = [])
      ∧ (s.pack.power = .standby → u.line.tpwr = .off) := by
  obtain ⟨v, hv⟩ : ∃ v, v = roundOvervolted r s := ⟨_, rfl⟩
  have hvside : besideMotor v = besideMotor { s with pack := roundPack r s } := hv ▸ roundOvervolted_besideMotor r s
  have hvpack : v.pack = roundPack r s := (congrArg State.pack hvside :)
  have hvoff : v.line.tpwr = .off := (congrArg (·.line.tpwr) hvside :).trans hoff
  obtain ⟨-, -, -, -, -, -, -, hpower, -⟩ := roundPack_guarded r s
  have hcut : roundCut r s = releasePower v := by
    rw [hv, roundCut, h, h']
    rfl
  have hside := packRound_besideMotor r s
  rw [hcut] at hside
  refine ⟨fun hactive => ?_, fun hstandby => ?_⟩
  · have hfree : powerHeld v = false := by
      rw [powerHeld_eq_false_iff, hvpack, hpower]
      exact ⟨h', hactive⟩
    obtain ⟨hlevel, hresetting, hnodes, hqueue, hquarantine⟩ := releasePower_facts hfree hvoff
    rw [supervise_of_below _ (by rw [hlevel]; decide)] at hside
    have hsupervised : bareLine (supervise (roundRecord r s).itool (roundCut r s)).line := by
      rw [hcut, supervise_of_below _ (by rw [hlevel]; decide)]
      exact ⟨hnodes, hqueue⟩
    have hasked : bareLine (roundSupervised r s).line := line_ite (line_askRecompute hsupervised) hsupervised
    have hbare : bareLine (packRound r s).line := by
      rw [packRound_eq, deliverAll_eq]
      exact handLaw_bareLine.thermalCheck _ hasked
    exact ⟨(congrArg (·.line.tpwr) hside :).trans hlevel, (congrArg (·.line.resetting) hside :).trans hresetting,
      hbare.1, hbare.2, (congrArg (·.line.quarantine) hside :).trans hquarantine⟩
  · have hheld : releasePower v = v := by
      have hholds : powerHeld v = true := by
        rw [powerHeld, hvpack, hpower, hstandby]
        simp
      rw [releasePower, hholds]
      rfl
    rw [hheld, supervise_of_below _ (by rw [hvoff]; decide)] at hside
    exact (congrArg (·.line.tpwr) hside :).trans hvoff

/-- A round in which the over-voltage flag is set while a dock is attached: the charge fault (R17, R160). -/
theorem packRound_faults (r : Readings) (s : State) (h : (roundPack r s).overvolt = true) (h' : s.pack.overvolt = false)
    (hd : s.dock.state ≠ .detached) (hw : s.dock.state ≠ .attachWait) : let u := packRound r s
    u.dock.state = .fault ∧ u.dock.lastFault = .cellOv ∧ u.dock.csw = false ∧ u.dock.iChg = 0
      ∧ u.dock.agreement = none ∧ hasEvent .chargeFault u = true := by
  have hraised : (roundRaised r s).dock = s.dock := by simp only [roundRaised, raiseIf_dock]
  have hvolt : roundOvervolted r s = enterChargeFault .cellOv (roundRaised r s) := by
    have hattached : ¬((roundRaised r s).dock.state = .detached ∨ (roundRaised r s).dock.state = .attachWait) := by
      rw [hraised]
      exact fun hc => hc.elim hd hw
    rw [roundOvervolted, h, h']
    exact if_neg hattached
  obtain ⟨hstate, hfault, hcsw, hcur, hagreement, hevent⟩ := enterChargeFault_facts .cellOv (roundRaised r s)
  rw [← hvolt] at hstate hfault hcsw hcur hagreement hevent
  dsimp only
  rw [packRound_dock r s (by rw [hstate]; decide)]
  exact ⟨hstate, hfault, hcsw, hcur, hagreement, packRound_keeps_roundCut r s _ (roundCut_keeps r s _ hevent)⟩

/-! ## CUTOFF_DECLARE (R15) -/

/-- The cut-off declared outside a round. -/
theorem exec_cutoffDeclare (hs : s.powered) (h : s.pack.cutoff = false) (hcut : 0 < s.pack.cutTimer) :
    ∃ t, exec .cutoffDeclare s = .next t
      ∧ t.pack = { s.pack with
          cutoff := true, computed := 0, published := 0
          shutdown := if s.dock.state = .detached then some 2000 else s.pack.shutdown }
      ∧ hasEvent .packCutoff t = true ∧ t.line.tpwr = .off ∧ t.line.nodes = []
      ∧ (s.signals = [] → s.drive.startPending = false → t.drive.state.drives = false) := by
  obtain ⟨p, hp⟩ : ∃ p : Pack, p = { s.pack with
      cutoff := true, computed := 0, published := 0
      shutdown := if s.dock.state != .detached then s.pack.shutdown else some 2000 } := ⟨_, rfl⟩
  obtain ⟨v, hv⟩ : ∃ v, v = cutoffOrders (raise .packCutoff { s with pack := p }) := ⟨_, rfl⟩
  have hexec : exec .cutoffDeclare s = .next (conclude (askRecompute v)) := by
    have hdeclared : cutoffReached s = askRecompute v := by
      rw [hv, hp]
      exact if_pos ⟨h, hcut⟩
    rw [← hdeclared]
    exact event_of_powered cutoffReached s hs
  obtain ⟨hoff, hnodes, happends, hdrive⟩ := cutoffOrders_facts (raise .packCutoff { s with pack := p })
  rw [← hv] at hoff hnodes happends hdrive
  have hline : (askRecompute v).line = v.line := askRecompute_line v
  have hpack : (askRecompute v).pack = p := by
    rw [askRecompute_pack, hv]
    exact pack_of_besideTools (holdPower_besideTools (emit .cutoffStop (raise .packCutoff { s with pack := p })))
  refine ⟨_, hexec, ?_, conclude_keeps _ _ (askRecompute_keeps _ _ ?_), conclude_tpwr_off (hline ▸ hoff),
    conclude_nodes_nil (hline ▸ hnodes), fun hsig hstart => ?_⟩
  · rw [conclude_pack, hpack, hp]
    by_cases hd : s.dock.state = .detached <;> simp [hd]
  · rw [hv]
    exact holdPower_keeps _ _ (hasEvent_raise .packCutoff _)
  · have hfirst : (emit .cutoffStop (raise .packCutoff { s with pack := p })).signals = [.cutoffStop] := by
      change s.signals ++ _ = _
      rw [hsig]
      rfl
    obtain ⟨rest, hrest⟩ := (happends.trans (appends_askRecompute v)).head hfirst
    refine conclude_of_cutoffStop hrest ?_
    rw [drive_of_besideTools (askRecompute_besideTools v), hdrive]
    exact hstart

/-- Settles O9: the filter, the flags, the cut-off timer and the cut-off of a round, and a cut-off declared between
rounds. -/
theorem aRoundProtectsAndACutoffIsDeclared : Obligations.ARoundProtectsAndACutoffIsDeclared := by
  refine ⟨fun r s hs => ?_, fun r s hs => ?_, fun s hs h hcut => exec_cutoffDeclare hs h hcut⟩
  · obtain ⟨hexec, hpack⟩ := exec_packRound r hs
    obtain ⟨hvf, hreseed, hlow, hover, htimer, hcutoff, hshut, -, hcomputed⟩ := roundPack_guarded r s
    obtain ⟨hfirst, hstep⟩ := filtered_facts s.pack (roundRecord r s).vmin
    obtain ⟨hlow1, hlow2, hlow3, -⟩ := flags_facts s.pack.low (roundRecord r s).vmin
    obtain ⟨-, -, -, hover1, hover2, hover3⟩ := flags_facts s.pack.overvolt (roundRecord r s).vmax
    obtain ⟨htimer0, hshutdown, hactive, hends⟩ := protect_cutoff (s.dock.state != .detached) (roundRecord r s) s.pack
    obtain ⟨hlowEvent, hoverEvent⟩ := packRound_flags r s
    refine ⟨_, _, filtered s.pack (roundRecord r s).vmin, hexec, by rw [hpack]; exact roundPack_record r s, ?_⟩
    rw [hpack, hlow, hover, htimer, hcutoff, hreseed]
    refine ⟨hvf, hfirst, hstep, rfl, hlow1, hlow2, hlow3, fun h h' => conclude_keeps _ _ (hlowEvent (hlow ▸ h) h'),
      hover1, hover2, hover3, fun h h' => conclude_keeps _ _ (hoverEvent (hover ▸ h) h'), htimer0, fun h h' => ?_,
      hactive, fun h => (hends h).trans (and_congr_left' (by simp))⟩
    obtain ⟨hevent, hoff, hnodes, hsignals⟩ := packRound_declares r s (hcutoff ▸ h) h'
    refine ⟨conclude_keeps _ _ hevent, conclude_tpwr_off hoff, conclude_nodes_nil hnodes, hcomputed h,
      roundPack_published r s (hcomputed h), fun hd => ?_, fun hsig hstart => ?_⟩
    · rw [hshut]
      exact (hshutdown h h').trans (by rw [hd]; rfl)
    · obtain ⟨rest, hrest⟩ := hsignals hsig
      exact conclude_of_cutoffStop hrest (packRound_startPending r s hstart)
  · obtain ⟨hexec, -⟩ := exec_packRound r hs
    have hpack := packRound_pack r s
    dsimp only
    rw [hpack]
    exact ⟨hexec, by rw [conclude_pack, hpack], packRound_faults r s, packRound_releases r s⟩

end Sys2Proof.Machine
end

section
namespace Sys2Proof.Machine

variable {s t u : State} {a : Arb} {sl : Slot}

/-! ## The gauge (R9 to R12) -/

/-- Between two neighbouring points of a rising table the charge is theirs, taken in proportion. -/
theorem ocvAlong_segment {l : List Nat} {base v k x y : Nat} (hl : l.Pairwise (· < ·)) (hx : l[k]? = some x)
    (hy : l[k + 1]? = some y) (hlow : x ≤ v) (hhigh : v < y) :
    ocvAlong base v l = base + k * 100 + (v - x) * 100 / (y - x) := by
  induction k generalizing l base with
  | zero =>
    match l, hx, hy with
    | c :: d :: rest, hx, hy =>
      obtain rfl := Option.some.inj hx
      obtain rfl := Option.some.inj hy
      rw [Nat.zero_mul, Nat.add_zero]
      exact if_pos hhigh
  | succ k ih =>
    match l, hl, hx, hy with
    | c :: d :: rest, hl, hx, hy =>
      have hd : d ≤ x := by
        cases k with
        | zero => exact Nat.le_of_eq (Option.some.inj hx)
        | succ k => exact Nat.le_of_lt ((List.pairwise_cons.mp hl.of_cons).1 x (List.mem_of_getElem? hx))
      have hnext : ocvAlong base v (c :: d :: rest) = ocvAlong (base + 100) v (d :: rest) := if_neg (by omega)
      rw [hnext, ih hl.of_cons hx hy]
      congr 1
      omega

/-- At or above the last point the charge is that of the last point. -/
theorem ocvAlong_last {l : List Nat} {base v x : Nat} (hl : l.Pairwise (· < ·)) (hx : l.getLast? = some x) (hv : x ≤ v) :
    ocvAlong base v l = base + (l.length - 1) * 100 := by
  induction l generalizing base with
  | nil => exact nomatch hx
  | cons c l ih =>
    cases l with
    | nil => rfl
    | cons d rest =>
      have hlast : (d :: rest).getLast? = some x := by rw [← hx, List.getLast?_cons_cons]
      have hd : d ≤ x := by
        rcases List.mem_cons.mp (List.mem_of_getLast? hlast) with heq | hin
        · exact Nat.le_of_eq heq.symm
        · exact Nat.le_of_lt ((List.pairwise_cons.mp hl.of_cons).1 x hin)
      have hnext : ocvAlong base v (c :: d :: rest) = ocvAlong (base + 100) v (d :: rest) := if_neg (by omega)
      rw [hnext, ih hl.of_cons hlast]
      simp only [List.length_cons]
      omega

theorem pairwise_of_increasing {l : List Nat} (h : increasing l = true) : l.Pairwise (· < ·) := by
  induction l with
  | nil => exact .nil
  | cons x l ih =>
    match l, h, ih with
    | [], _, _ => exact List.pairwise_singleton _ _
    | y :: l, h, ih =>
      simp only [increasing, Bool.and_eq_true, decide_eq_true_eq] at h
      obtain ⟨hxy, hrest⟩ := h
      have hpair := ih hrest
      refine List.pairwise_cons.mpr ⟨fun z hz => ?_, hpair⟩
      rcases List.mem_cons.mp hz with rfl | hin
      · exact hxy
      · exact Nat.lt_trans hxy ((List.pairwise_cons.mp hpair).1 z hin)

/-- The lookup over a rising table of eleven points (R11). -/
theorem ocvLookup_facts {table : List Nat} (v : Nat) (hlen : table.length = 11) (h : increasing table = true) :
    (v ≤ table.getD 0 0 → ocvLookup table v = 0) ∧ (table.getD 10 0 ≤ v → ocvLookup table v = 1000)
      ∧ ∀ k, k < 10 → table.getD k 0 ≤ v → v < table.getD (k + 1) 0 →
          ocvLookup table v = k * 100 + (v - table.getD k 0) * 100 / (table.getD (k + 1) 0 - table.getD k 0) := by
  have hpair := pairwise_of_increasing h
  have hpoint (k : Nat) (hk : k < 11) : table[k]? = some (table.getD k 0) := by
    rw [List.getD_eq_getElem _ _ (by omega), List.getElem?_eq_getElem (by omega)]
  have hrises (j k : Nat) (hjk : j < k) (hk : k < 11) : table.getD j 0 < table.getD k 0 := by
    rw [List.getD_eq_getElem _ _ (by omega), List.getD_eq_getElem _ _ (by omega)]
    exact List.pairwise_iff_getElem.mp hpair j k (by omega) (by omega) hjk
  have hhead : table.headD 0 = table.getD 0 0 := by cases table <;> rfl
  have hfirst (hv : v ≤ table.getD 0 0) : ocvLookup table v = 0 := if_pos (hhead ▸ hv)
  have habove (hv : ¬ v ≤ table.getD 0 0) : ocvLookup table v = ocvAlong 0 v table := if_neg (hhead ▸ hv)
  refine ⟨hfirst, fun hv => ?_, fun k hk hlow hhigh => ?_⟩
  · have hlast : table.getLast? = some (table.getD 10 0) := by
      rw [List.getLast?_eq_getElem?, hlen]
      exact hpoint 10 (by omega)
    have hlt := hrises 0 10 (by omega) (by omega)
    rw [habove (by omega), ocvAlong_last hpair hlast hv, hlen]
  · rcases Nat.lt_or_ge (table.getD 0 0) v with hv | hv
    · rw [habove (by omega), ocvAlong_segment hpair (hpoint k (by omega)) (hpoint (k + 1) (by omega)) hlow hhigh,
        Nat.zero_add]
    · have hk0 : k = 0 := by
        rcases Nat.eq_zero_or_pos k with hk0 | hpos
        · exact hk0
        · have hlt := hrises 0 k hpos (by omega)
          omega
      subst hk0
      have hdiff : v - table.getD 0 0 = 0 := by omega
      rw [hfirst hv, hdiff]
      simp

/-- The rest timer a round counts up to (R12). -/
def restCounted (charges : Bool) (x : PackRecord) (p : Pack) : Nat :=
  if isRestRound x.current charges then p.rest + roundPeriod p.power else 0

/-- The gauge of a round: counted, seeded by the first round, or corrected (R9, R10, R12). -/
theorem gaugeStage_facts (charges : Bool) (x : PackRecord) (p : Pack) : let q := gaugeStage charges x p
    let g := countedGauge p x.current
    (restCounted charges x p < 1800000 → q.rest = restCounted charges x p
        ∧ q.gauge = if p.record.isNone then gaugeFromOcv p (x.vpack / p.count) else min g.toNat (fullCharge p))
      ∧ (1800000 ≤ restCounted charges x p → q.rest = 0 ∧ q.gauge = gaugeFromOcv p (x.vpack / p.count))
      ∧ q.clip = (p.clip || (p.record.isSome && (decide (g < 0) || decide ((fullCharge p : Int) < g)))) := by
  obtain ⟨b, hb⟩ : ∃ b, b = (p.clip || (p.record.isSome && (decide (countedGauge p x.current < 0)
    || decide ((fullCharge p : Int) < countedGauge p x.current)))) := ⟨_, rfl⟩
  have hstage : gaugeStage charges x p = if 1800000 ≤ restCounted charges x p then
        { p with gauge := gaugeFromOcv p (x.vpack / p.count), rest := 0, clip := b }
      else { p with
        gauge := if p.record.isNone then gaugeFromOcv p (x.vpack / p.count)
          else min (countedGauge p x.current).toNat (fullCharge p)
        rest := restCounted charges x p, clip := b } := by
    rw [hb]
    rfl
  dsimp only
  rw [hstage, ← hb]
  refine ⟨fun h => ?_, fun h => ?_, ?_⟩
  · rw [if_neg (by omega)]
    exact ⟨rfl, rfl⟩
  · rw [if_pos h]
    exact ⟨rfl, rfl⟩
  · split <;> rfl

theorem roundPeriod_of_powered (hs : s.powered) : roundPeriod s.pack.power = if s.pack.power = .standby then 1000 else 10 := by
  cases h : s.pack.power with
  | active => rfl
  | standby => rfl
  | shutdown => exact absurd h hs

theorem restCounted_of_powered {charges : Bool} (x : PackRecord) (hs : s.powered) : restCounted charges x s.pack
    = if -50 < x.current ∧ x.current < 50 ∧ charges = false then
        s.pack.rest + (if s.pack.power = .standby then 1000 else 10) else 0 := by
  unfold restCounted
  rw [roundPeriod_of_powered hs]
  refine if_congr ?_ rfl rfl
  simp [isRestRound, and_assoc]

/-- The gauge, the rest timer and the clip flag after a round are those of its gauge stage. -/
theorem roundPack_gauge (r : Readings) (s : State) : let p := roundPack r s
    let q := gaugeStage s.dock.state.charges (roundRecord r s) (guarded r s)
    p.gauge = q.gauge ∧ p.rest = q.rest ∧ p.clip = q.clip := ⟨rfl, rfl, rfl⟩

theorem packRound_clips (r : Readings) (s : State) (h : (roundPack r s).clip = true) (h' : s.pack.clip = false) :
    hasEvent .gaugeClipped (packRound r s) = true :=
  packRound_keeps r s _ (raiseIf_keeps _ _ _ _ (hasEvent_raiseIf .gaugeClipped _ (by rw [h, h']; rfl)))

/-- Settles O10: the gauge counted, looked up and corrected. -/
theorem theGaugeIsCountedLookedUpAndCorrected : Obligations.TheGaugeIsCountedLookedUpAndCorrected := by
  refine ⟨fun r s hs hrecord hless => ?_, fun table v hlen h => ocvLookup_facts v hlen h,
    fun p s hs hrecord hrest => ?_, fun r s hs => ?_⟩
  · obtain ⟨hexec, hpack⟩ := exec_packRound r hs
    obtain ⟨hgauge, hrest, hclip⟩ := roundPack_gauge r s
    obtain ⟨hcounted, -, hclipped⟩ := gaugeStage_facts s.dock.state.charges (roundRecord r s) (guarded r s)
    have htime : restCounted s.dock.state.charges (roundRecord r s) (guarded r s) = _ :=
      restCounted_of_powered (roundRecord r s) hs
    have hbelow : restCounted s.dock.state.charges (roundRecord r s) (guarded r s) < 1800000 := by
      rw [htime]
      split <;> omega
    obtain ⟨hrest', hgauge'⟩ := hcounted hbelow
    have hsome : (guarded r s).record.isNone = false := by
      change s.pack.record.isNone = false
      rw [Option.isNone_eq_false_iff]
      exact hrecord
    rw [hsome, if_neg (by decide)] at hgauge'
    refine ⟨_, _, hexec, by rw [hpack]; exact roundPack_record r s, ⟨?_, ?_, fun h h' => ?_⟩, ?_⟩
    · rw [hpack, hgauge, hgauge']
      have hheld (g : Int) (n : Nat) : ((min g.toNat n : Nat) : Int) = max 0 (min (n : Int) g) := by omega
      refine (hheld (countedGauge s.pack (roundRecord r s).current) (fullCharge s.pack)).trans ?_
      rw [fullCharge, Nat.cast_mul]
      rfl
    · rw [hpack, hclip, hclipped]
      change (s.pack.clip || (s.pack.record.isSome && _)) = _
      rw [hrecord, Bool.true_and, Bool.or_assoc]
      unfold countedGauge fullCharge
      simp
      rfl
    · rw [hpack] at h
      exact conclude_keeps _ _ (packRound_clips r s h h')
    · rw [hpack, hrest, hrest', htime]
  · have hcorrected : ocvCorrect s = { s with pack := { s.pack with
        gauge := gaugeFromOcv s.pack (p.vpack / s.pack.count), rest := 0 } } := by
      unfold ocvCorrect
      rw [hrecord]
      exact if_pos hrest
    have hexec := event_of_powered ocvCorrect s hs
    rw [hcorrected] at hexec
    exact hexec
  · obtain ⟨hexec, hpack⟩ := exec_packRound r hs
    obtain ⟨hgauge, hrest, hclip⟩ := roundPack_gauge r s
    obtain ⟨hcounted, hcorrected, hclipped⟩ := gaugeStage_facts s.dock.state.charges (roundRecord r s) (guarded r s)
    have htime : restCounted s.dock.state.charges (roundRecord r s) (guarded r s) = _ :=
      restCounted_of_powered (roundRecord r s) hs
    refine ⟨_, _, hexec, by rw [hpack]; exact roundPack_record r s, fun hnone => ?_, fun hrests hlong => ?_⟩
    · have hfirst : (guarded r s).record = none := hnone
      rw [hpack, hgauge, hclip, hclipped, hfirst]
      refine ⟨?_, by simp; rfl⟩
      rcases Nat.lt_or_ge (restCounted s.dock.state.charges (roundRecord r s) (guarded r s)) 1800000 with hlt | hge
      · rw [(hcounted hlt).2, hfirst]
        rfl
      · exact (hcorrected hge).2
    · have hcond : -50 < (roundRecord r s).current ∧ (roundRecord r s).current < 50 ∧ s.dock.state.charges = false := hrests
      rw [if_pos hcond] at htime
      obtain ⟨hrest', hgauge'⟩ := hcorrected (htime ▸ hlong)
      rw [hpack, hgauge, hrest]
      exact ⟨hgauge', hrest'⟩

end Sys2Proof.Machine
end

section
namespace Sys2Proof.Machine

variable {s t u : State} {a : Arb} {sl : Slot}

/-! ## The discharge limit (R5 to R8) -/

theorem tempFactor_facts (x : Int) : (x ≤ 50 → tempFactor (some x) = 100) ∧ (65 ≤ x → tempFactor (some x) = 0)
    ∧ (51 ≤ x → x ≤ 64 → (tempFactor (some x) : Int) = (65 - x) * 100 / 15) := by
  unfold tempFactor
  dsimp only
  refine ⟨fun h => if_pos h, fun h => ?_, fun h h' => ?_⟩
  · rw [if_neg (by omega), if_neg (by omega)]
  · rw [if_neg (by omega), if_pos h']
    omega

theorem voltFactor_facts (v : Int) : (3300 ≤ v → voltFactor v = 100) ∧ (v < 3000 → voltFactor v = 0)
    ∧ (3000 ≤ v → v < 3300 → (voltFactor v : Int) = 20 + (v - 3000) * 80 / 300) := by
  unfold voltFactor
  refine ⟨fun h => if_pos h, fun h => ?_, fun h h' => ?_⟩
  · rw [if_neg (by omega), if_neg (by omega)]
  · rw [if_neg (by omega), if_pos h]
    omega

/-- What a round publishes (R6, R7). -/
theorem roundPack_limit (r : Readings) (s : State) : let p := roundPack r s
    let fT := tempFactor (roundRecord r s).tmax
    let fV := voltFactor (p.vf.getD 0)
    p.computed = (if p.cutoff then 0 else s.pack.inom * fT * fV / 10000 / 50 * 50)
      ∧ p.published = (if s.pack.record = none ∨ p.computed < s.pack.published ∨ s.pack.published + 250 ≤ p.computed
          then p.computed else s.pack.published)
      ∧ p.hadTemp = (roundRecord r s).tmax.isSome ∧ p.lastFT = fT := by
  obtain ⟨g, rest, clip, h⟩ := roundPack_writes r s
  dsimp only
  rw [h]
  refine ⟨rfl, ?_, rfl, rfl⟩
  refine if_congr (or_congr ?_ Iff.rfl) rfl rfl
  exact Option.isNone_iff_eq_none

/-- The events of the temperature in a round (R3, R5). -/
theorem packRound_temperature (r : Readings) (s : State) :
    ((roundRecord r s).tmax = none → s.pack.hadTemp = true → hasEvent .tempSensor (packRound r s) = true)
      ∧ (tempLimitRaised s.pack (roundRecord r s).tmax = true → hasEvent .tempLimit (packRound r s) = true) := by
  refine ⟨fun h h' => packRound_keeps r s _ ?_, fun h => packRound_keeps r s _ ?_⟩
  · exact raiseIf_keeps _ _ _ _ (raiseIf_keeps _ _ _ _ (raiseIf_keeps _ _ _ _ (raiseIf_keeps _ _ _ _
      (hasEvent_raiseIf .tempSensor _ (by rw [h, h']; rfl)))))
  · exact raiseIf_keeps _ _ _ _ (raiseIf_keeps _ _ _ _ (raiseIf_keeps _ _ _ _ (hasEvent_raiseIf .tempLimit _ h)))

theorem report_some (v : Int) : report (some v) = BitVec.ofInt 16 (max (-32767) (min 32767 v)) := by
  have hclamp : (if v < -32767 then -32767 else if 32767 < v then 32767 else v) = max (-32767) (min 32767 v) := by
    split_ifs <;> omega
  exact congrArg (BitVec.ofInt 16) hclamp

theorem roundSupervised_recompute (r : Readings) (s : State)
    (h : s.pack.record = none ∨ (roundPack r s).published ≠ s.pack.published) :
    .recompute ∈ (roundSupervised r s).signals := by
  have hasks : (roundPack r s).published ≠ s.pack.published ∨ s.pack.record.isNone := by
    rcases h with h | h
    · exact .inr (by rw [h]; rfl)
    · exact .inl h
  obtain ⟨sigs, hasked, hmem⟩ := askRecompute_asks (supervise (roundRecord r s).itool (roundCut r s))
  have hsupervised : roundSupervised r s = askRecompute (supervise (roundRecord r s).itool (roundCut r s)) := if_pos hasks
  rw [hsupervised, hasked]
  exact hmem

/-- Settles O11: the limit of a round, its publication, and what the round hands on. -/
theorem aRoundPublishesTheLimit : Obligations.ARoundPublishesTheLimit := by
  refine ⟨fun r s hs => ?_, fun r s hs => ?_⟩
  · obtain ⟨hexec, hpack⟩ := exec_packRound r hs
    obtain ⟨hvf, -⟩ := roundPack_guarded r s
    obtain ⟨hcomputed, hpublished, hhad, hlast⟩ := roundPack_limit r s
    obtain ⟨hsensor, hlimit⟩ := packRound_temperature r s
    obtain ⟨vf, hvalue⟩ : ∃ vf, (roundPack r s).vf = some vf := ⟨_, hvf⟩
    obtain ⟨hfV1, hfV2, hfV3⟩ := voltFactor_facts vf
    have hrecord := roundPack_record r s
    rw [hvalue] at hcomputed hrecord
    refine ⟨_, _, vf, hexec, by rw [hpack]; exact hrecord, by rw [hpack]; exact hvalue, fun hnone => ?_, fun x hx => ?_, ?_⟩
    · exact (congrArg tempFactor hnone :)
    · obtain ⟨h1, h2, h3⟩ := tempFactor_facts x
      have hfactor : tempFactor (roundRecord r s).tmax = tempFactor (some x) := congrArg tempFactor hx
      dsimp only
      rw [hfactor]
      exact ⟨h1, h2, h3⟩
    · rw [hpack]
      refine ⟨hhad, hlast, fun h h' => conclude_keeps _ _ (hsensor h h'), fun x hx h => conclude_keeps _ _ (hlimit ?_),
        hfV1, hfV2, hfV3, hcomputed, hpublished⟩
      have hsome : (roundRecord r s).tmax.isSome = true := (congrArg Option.isSome hx :)
      unfold tempLimitRaised
      rw [hsome]
      simpa using h
  · obtain ⟨hexec, -⟩ := exec_packRound r hs
    have hpack := packRound_pack r s
    obtain ⟨after, hsignals⟩ := packRound_signals r s
    dsimp only
    rw [hpack, hsignals]
    refine ⟨_, hexec, roundPack_record r s, fun h => ?_, (roundSupervised r s).signals, after, ?_⟩
    · exact List.mem_append_left _ (List.mem_append_left _ (roundSupervised_recompute r s h))
    · congr 2
      simp only [packUpdates, List.map_cons, List.map_nil, reportNat, Option.map_some, report_some]
      cases (roundRecord r s).tmax with
      | none => rfl
      | some x =>
        rw [report_some]
        rfl

end Sys2Proof.Machine
end

section
namespace Sys2Proof.Machine

variable {s t u : State} {a : Arb} {sl : Slot}

/-! ## What falls due in a bit period and in a millisecond (R110, R190) -/

theorem nextFrame_isSome (q : List TxFrame) : (nextFrame q).isSome = true ↔ q ≠ [] := by
  cases q with
  | nil => simp [nextFrame]
  | cons f fs =>
    refine ⟨fun _ => List.cons_ne_nil f fs, fun _ => ?_⟩
    unfold nextFrame
    cases nextFrame fs with
    | none => rfl
    | some g =>
      dsimp only
      split <;> rfl

theorem dueFrame_isSome (l : ToolLine) : (dueFrame l).isSome = true ↔ l.lost.isSome = true ∨ l.queue ≠ [] := by
  unfold dueFrame
  cases l.lost with
  | none => simp [nextFrame_isSome]
  | some f => simp

/-- The work a bit period brings on the tool line. -/
theorem mem_dueLine {l : ToolLine} {c : Instr} : c ∈ dueLine l ↔ (l.resetting = some 1 ∧ c = .lineResetEnd)
    ∨ (l.tpwr ≠ .off ∧ l.resetting = none ∧ l.wire.isSome ∧ l.bits.length ≤ 1 ∧ c = .toolMasterFrameEnd)
    ∨ (l.tpwr ≠ .off ∧ l.resetting = none ∧ l.wire = none ∧ l.await.isSome ∧ 6 ≤ l.idle ∧ c = .replyWindowClose)
    ∨ (l.tpwr ≠ .off ∧ l.resetting = none ∧ l.wire = none ∧ l.await = none ∧ 7 ≤ l.idle
        ∧ (l.lost.isSome ∨ l.queue ≠ []) ∧ c = .toolMasterSend) := by
  have hite {p : Prop} [Decidable p] (i : Instr) : (c ∈ if p then [i] else []) ↔ p ∧ c = i := by
    split
    · rename_i hp
      simp [hp]
    · rename_i hp
      simp [hp]
  unfold dueLine
  cases hreset : l.resetting with
  | some n => simp [mem_expiry]
  | none =>
    by_cases hoff : l.tpwr = .off
    · simp [hoff]
    · cases hwire : l.wire with
      | some f => simp [hoff, hite]
      | none =>
        cases hawait : l.await with
        | some w => simp [hoff, hite]
        | none => simp [hoff, hite, dueFrame_isSome, and_assoc]

theorem mem_dueBit {c : Instr} : c ∈ dueBit s ↔ c ∈ dueLine s.line ∨ (s.host.resetDue = true ∧ c = .softReset) := by
  unfold dueBit
  rw [List.mem_append]
  cases s.host.resetDue <;> simp

theorem mem_duePower {c : Instr} : c ∈ duePower s ↔
    (∃ k, (s.arb.tool k).settleDl = some 1 ∧ c = .settleDeadlineExpiry k)
      ∨ (∃ k, (s.arb.tool k).offerDl = some 1 ∧ c = .offerDeadlineExpiry k)
      ∨ (s.arb.holdoff = some 1 ∧ c = .toolHoldoffExpiry) ∨ (s.pack.shutdown = some 1 ∧ c = .shutdownEntry) := by
  have hslots (k : ToolSlot) : k ∈ toolSlots := by cases k <;> decide
  simp only [duePower, List.mem_append, List.mem_flatMap, mem_expiry, hslots, true_and, or_assoc]

theorem mem_dueDrive {d : Drive} {c : Instr} : c ∈ dueDrive d ↔ (d.debounce = some 1 ∧ c = .triggerDebounceExpiry)
    ∨ (d.armTimer = some 1 ∧ c = .armingTimerExpiry) ∨ (d.alignTimer = some 1 ∧ c = .alignTimerExpiry)
    ∨ (d.rampTimer = some 1 ∧ c = .openLoopRampStep) ∨ (d.spinTimer = some 1 ∧ c = .startFail)
    ∨ (d.stallTimer = some 1 ∧ c = .stallTimerExpiry) ∨ (d.coastTimer = some 1 ∧ c = .coastTimerExpiry)
    ∨ (d.faultTimer = some 1 ∧ c = .faultTimerExpiry) := by
  simp only [dueDrive, List.mem_append, mem_expiry, or_assoc]

theorem mem_dueMonitors {c : Instr} : c ∈ dueMonitors s ↔
    (s.load.timer = some 1 ∧ c = if s.load.phase = .pulse then .pulseTimerExpiry else .waitTimerExpiry)
      ∨ (s.dirt.echo = some 1 ∧ c = .echoTimerExpiry)
      ∨ (∃ w, s.dirt.window = some w ∧ w.timer = 1 ∧ c = .windowEnd) := by
  simp only [dueMonitors, List.mem_append, mem_expiry, or_assoc, Option.map_eq_some_iff]
  simp only [← and_assoc, exists_and_right]

theorem mem_dueNodes {l : ToolLine} {c : Instr} : c ∈ dueNodes l ↔
    (∃ n ∈ l.nodes, n.poll = 1 ∧ c = .pollTimerExpiry n.addr)
      ∨ (∃ q ∈ l.quarantine, q.timer = 1 ∧ c = .quarantineExpiry q.addr) := by
  simp only [dueNodes, List.mem_append, List.mem_flatMap, mem_expiry, Option.some.injEq]

theorem mem_dueLinks {c : Instr} : c ∈ dueLinks s ↔ (s.dock.drop = some 1 ∧ c = .detach)
    ∨ (∃ e, s.dock.exch = some e ∧ e.deadline = some 1 ∧ c = .dockDeadlineExpiry)
    ∨ (s.evac.timer = some 1 ∧ c = .evacCompletionExpiry)
    ∨ (∃ f, s.host.fence = some f ∧ f.timer = 1 ∧ c = .fenceTimeout) := by
  simp only [dueLinks, List.mem_append, mem_expiry, or_assoc, Option.map_eq_some_iff, Option.bind_eq_some_iff]
  simp only [← and_assoc, exists_and_right]

theorem mem_due {c : Instr} : c ∈ due s ↔ c ∈ duePower s ∨ c ∈ dueDrive s.drive ∨ c ∈ dueMonitors s ∨ c ∈ dueNodes s.line
    ∨ c ∈ dueLinks s := by
  simp only [due, List.mem_append, or_assoc]

theorem sample_eq (l : ToolLine) : l.sample = { l with
    idle := if l.resetting = none ∧ l.bits.head? ≠ some false then l.idle + 1 else 0
    bits := l.bits.tail, resetting := l.resetting.map (· - 1) } := by
  have hlevel : l.level = true ↔ l.resetting = none ∧ l.bits.head? ≠ some false := by
    unfold ToolLine.level
    cases l.resetting <;> cases l.bits <;> simp
  unfold ToolLine.sample
  rw [if_congr hlevel rfl rfl]

theorem step_of_idle (h : s.pending = []) : step s = .next (tick s) := by
  unfold step
  rw [h]

/-- A bit period that does not end the millisecond. -/
theorem tick_early (hs : s.powered) (h : s.beat < 19) : tick s
    = { s with line := s.line.sample, beat := s.beat + 1, pending := s.pending ++ dueBit s } :=
  (if_neg hs).trans (if_pos h)

/-- The bit period that ends the millisecond. -/
theorem tick_late (hs : s.powered) (h : 19 ≤ s.beat) : tick s
    = { elapse { s with line := s.line.sample } with beat := 0, pending := s.pending ++ dueBit s ++ due s } :=
  (if_neg hs).trans (if_neg (by omega))

/-- Settles O3: a step on an empty queue, in and at the end of a millisecond. -/
theorem anIdleStepRunsTheTimers : Obligations.AnIdleStepRunsTheTimers := by
  intro s hidle
  dsimp only
  refine ⟨fun hs h => ⟨_, (step_of_idle hidle).trans (congrArg _ (tick_early hs h)), ?_, fun c => ?_⟩,
    fun hs h => ⟨_, (step_of_idle hidle).trans (congrArg _ (tick_late hs h)), rfl, rfl, rfl, rfl, ?_, rfl, rfl, ?_, rfl, rfl,
      rfl, rfl, rfl, rfl, rfl, rfl, fun c => ?_⟩, fun hs => (step_of_idle hidle).trans (congrArg _ (if_pos hs))⟩
  · rw [sample_eq]
  · dsimp only
    rw [hidle, List.nil_append, mem_dueBit, mem_dueLine]
    simp only [or_assoc]
  · unfold elapse Drive.elapse
    dsimp only
    by_cases hspin : s.drive.state = .spinup
    · simp only [if_pos hspin]
      rfl
    · simp only [if_neg hspin]
      rfl
  · exact congrArg (fun l : ToolLine => l.elapse) (sample_eq s.line)
  · dsimp only
    rw [hidle, List.nil_append, List.mem_append, mem_dueBit, mem_dueLine, mem_due, mem_duePower, mem_dueDrive,
      mem_dueMonitors, mem_dueNodes, mem_dueLinks]
    simp only [or_assoc]

end Sys2Proof.Machine
end

section
namespace Sys2Proof.Machine

variable {s t u : State} {a : Arb} {sl : Slot}

/-! ## SHUTDOWN (R16, R20) -/

/-- The shutdown timer's end with no supply at CHGIN: every piece of state is lost. -/
theorem exec_shutdownEntry_lost (h : s.pack.shutdown.isSome = true) (hc : s.pins.chgin = false) :
    exec .shutdownEntry s = .next (shutdownState s) := by
  have hlost : shutDown s = shutdownState s := if_neg (by rw [hc]; decide)
  exact (if_pos h).trans (congrArg _ hlost)

theorem shutdownState_facts (s : State) : let t := shutdownState s
    t.pack.power = .shutdown ∧ t.drive.bridge = .off ∧ t.line.tpwr = .off ∧ t.dock.csw = false
      ∧ t.dock.bleed = [] ∧ t.host.replies = [] ∧ t.host.requests = [] ∧ t.host.events = 0
      ∧ t.line.nodes = [] ∧ (∀ i : Fin 8, t.tools.slots[i] = none)
      ∧ (∀ i : Fin 8, t.watch.recs[i] = none) ∧ t.pack.round = none ∧ attnLow t = false := by
  have hslots : ∀ i : Fin 8, State.reset.tools.slots[i] = none := by decide
  have hrecs : ∀ i : Fin 8, State.reset.watch.recs[i] = none := by decide
  exact ⟨rfl, rfl, rfl, rfl, rfl, rfl, rfl, rfl, rfl, hslots, hrecs, rfl, rfl⟩

/-- With a supply at CHGIN the power-on reset follows at once. -/
theorem exec_shutdownEntry_supplied (h : s.pack.shutdown.isSome = true) (hc : s.pins.chgin = true) :
    exec .shutdownEntry s = exec .powerOnReset s := by
  have hreset : shutDown s = powerOn s := if_pos hc
  exact (if_pos h).trans (congrArg _ hreset)

/-- In SHUTDOWN a command that cannot act there changes nothing. -/
theorem exec_of_shutdown (c : Instr) (h : s.pack.power = .shutdown) (hc : reachesShutdown c = false) :
    exec c s = .next s := by
  cases c with
  | powerOnReset => exact nomatch hc
  | shutdownEntry => exact nomatch hc
  | trigEdge b => exact nomatch hc
  | chginRise => exact nomatch hc
  | chginDrop => exact nomatch hc
  | _ => exact event_of_shutdown _ s h

/-! ## The wake from STANDBY (R19, R126) -/

/-- The state woken, before TPWR is released. -/
def awakened (s : State) : State :=
  { s with
    pack := { s.pack with power := .active, round := some 10 }
    gov := { s.gov with step := some 10 } }

theorem wake_of_standby (h : s.pack.power = .standby) : wake s = releasePower (awakened s) := if_pos h

theorem wake_of_awake (h : s.pack.power ≠ .standby) : wake s = s := if_neg h

/-- A woken part: the periods start again, and the dock, the drive and the records are as they were. -/
theorem wake_facts (h : s.pack.power = .standby) : (wake s).pack = { s.pack with power := .active, round := some 10 }
    ∧ (wake s).gov.step = some 10 ∧ (wake s).tools.slots = s.tools.slots ∧ (wake s).drive = s.drive
    ∧ (wake s).dock = s.dock ∧ (wake s).pins = s.pins := by
  have hside : besideTools (wake s) = besideTools (awakened s) := by
    rw [wake_of_standby h]
    exact releasePower_besideTools _
  have hkeeps : Keeps [] [] s (wake s) := keeps_wake s
  exact ⟨pack_of_besideTools hside, (congrArg (·.gov.step) hside :), hkeeps.same .records (by simp),
    (drive_of_besideTools hside :), (dock_of_besideTools hside :), (congrArg State.pins hside :)⟩

theorem wake_line (h : s.pack.power = .standby) :
    (s.pack.cutoff = false → s.line.tpwr = .off → (wake s).line.tpwr = .signal
        ∧ (wake s).line.resetting = some 40 ∧ (wake s).line.nodes = [] ∧ (wake s).line.queue = [])
      ∧ (s.pack.cutoff = true → (wake s).line = s.line) := by
  rw [wake_of_standby h]
  refine ⟨fun hcut hoff => ?_, fun hcut => ?_⟩
  · have hfree : powerHeld (awakened s) = false := (powerHeld_eq_false_iff _).mpr ⟨hcut, rfl⟩
    obtain ⟨hlevel, hresetting, hnodes, hqueue, -⟩ := releasePower_facts hfree hoff
    exact ⟨hlevel, hresetting, hnodes, hqueue⟩
  · have hheld : powerHeld (awakened s) = true := by
      have hpack : (awakened s).pack.cutoff = true := hcut
      rw [powerHeld, hpack]
      rfl
    rw [releasePower, hheld]
    rfl

theorem powered_of_standby (h : s.pack.power = .standby) : s.powered := by
  unfold State.powered
  rw [h]
  decide

/-- A change of level on TRIG wakes the part, and starts the debounce as in ACTIVE. -/
theorem exec_trigEdge_standby {b : Bool} (h : s.pack.power = .standby) (hb : b ≠ s.pins.trig) :
    let w := wake { s with pins := { s.pins with trig := b } }
    exec (.trigEdge b) s = .next (conclude { w with drive := { w.drive with debounce := some 20 } }) := by
  have hchanged : trigChanged b s = { wake { s with pins := { s.pins with trig := b } } with drive :=
      { (wake { s with pins := { s.pins with trig := b } }).drive with debounce := some 20 } } := if_neg hb
  have hexec : exec (.trigEdge b) s = event (trigChanged b) s := if_neg (powered_of_standby h)
  dsimp only
  rw [hexec, event_of_powered _ s (powered_of_standby h), hchanged]

/-- A rise of CHGIN wakes the part, and acts as in ACTIVE. -/
theorem exec_chginRise_standby (h : s.pack.power = .standby) :
    exec .chginRise s = exec .chginRise (wake { s with pins := { s.pins with chgin := true } }) := by
  obtain ⟨w, hw⟩ : ∃ w, w = wake { s with pins := { s.pins with chgin := true } } := ⟨_, rfl⟩
  obtain ⟨hpack, -, -, -, -, hpins⟩ := wake_facts (s := { s with pins := { s.pins with chgin := true } }) h
  rw [← hw] at hpack hpins
  have hactive : w.pack.power = .active := by rw [hpack]
  have hpowered : w.powered := powered_of_active hactive
  have hsame : ({ w with pins := { w.pins with chgin := true } } : State) = w := by
    have hlevel : ({ w.pins with chgin := true } : Pins) = w.pins := by rw [hpins]
    exact congrArg (fun p => { w with pins := p }) hlevel
  have hrose : chginRose w = chginRose s := by
    have hwoken : wake { w with pins := { w.pins with chgin := true } } = wake { s with pins := { s.pins with chgin := true } } := by
      rw [hsame, wake_of_active w hactive, hw]
    unfold chginRose
    rw [hwoken]
  have hexec (v : State) (hv : v.powered) : exec .chginRise v = .next (conclude (chginRose v)) :=
    (if_neg hv).trans (event_of_powered chginRose v hv)
  rw [← hw, hexec s (powered_of_standby h), hexec w hpowered, hrose]

/-- Settles O6: the end of the shutdown timer, the part in SHUTDOWN, and the wake from STANDBY. -/
theorem shutdownLosesAllAndStandbyIsLeft : Obligations.ShutdownLosesAllAndStandbyIsLeft := by
  refine ⟨fun s h => ⟨fun hc => ⟨_, exec_shutdownEntry_lost h hc, shutdownState_facts s⟩, exec_shutdownEntry_supplied h⟩,
    fun s h => ⟨fun c => exec_of_shutdown c h, if_pos h, if_pos h, fun b => if_pos h⟩,
    fun s => ⟨wake_of_awake, fun h => ?_⟩⟩
  obtain ⟨hpack, hstep, hslots, hdrive, hdock, -⟩ := wake_facts h
  obtain ⟨hreleased, hheld⟩ := wake_line h
  exact ⟨hpack, hstep, hreleased, hheld, hslots, hdrive, hdock, fun b => exec_trigEdge_standby h, exec_chginRise_standby h⟩

end Sys2Proof.Machine
end

section
namespace Sys2Proof.Machine

/-! ## A soft reset with two entries of one address (R190, R121, R115)

The removal of the nodes at the line reset takes the entries address by address, and looks at the first entry of an
address. Where an address has a second entry, the entry looked at may not have completed assignment while the other
has; the brush member that leaves with it is then not derived again, and the floor class last delivered to the
governor stands. The law of R115, no two entries with one address, is not a hypothesis of the statement. -/

/-- A record that declares a brush. -/
def brushRecord : ToolRecord := ⟨0, .unknown, 100, .openInlet, 500, 0, false, 0, false⟩

/-- A node on carpet. -/
def carpetNode (x : Addr) (completed : Bool) : Node where
  addr := x
  serial := 0
  descs := []
  state := .active
  completed := completed
  missed := 0
  seq := 0
  pending := none
  ackLimit := 0
  jam := false
  lamp := false
  fault := false
  floor := .carpet
  brushMa := none
  poll := 5
  applied := .default brushRecord
  mismatch := false

/-- A part whose soft reset is due, with two entries of address 2, the first of which is still being assigned. -/
def doubledEntry : State :=
  { State.reset with
    line := { ToolLine.reset with nodes := [carpetNode 1 true, carpetNode 2 false, carpetNode 2 true] }
    host := { HostLink.reset with resetDue := true } }

/-- The governor's floor class after a command. -/
def floorAfter (c : Instr) (s : State) : Option FloorClass :=
  match exec c s with
  | .next t => some t.gov.floor
  | _ => none

theorem floorAfter_of_next {c : Instr} {s t : State} (h : exec c s = .next t) : floorAfter c s = some t.gov.floor := by
  unfold floorAfter
  rw [h]

theorem floorAfter_doubledEntry : floorAfter .softReset doubledEntry = some .carpet := by decide

/-- Refutes O7: with two entries of one address the governor keeps the floor class CARPET over a soft reset. -/
theorem not_softResetKeepsAndRestarts : ¬ Obligations.SoftResetKeepsAndRestarts := by
  intro h
  obtain ⟨t, hexec, -, -, -, -, -, -, -, -, -, -, -, -, -, -, -, hgov⟩ := h doubledEntry (by decide) rfl
  obtain ⟨⟨hfloor, -⟩, -⟩ := hgov rfl
  have hafter := floorAfter_of_next hexec
  rw [floorAfter_doubledEntry, hfloor] at hafter
  exact nomatch Option.some.inj hafter

end Sys2Proof.Machine
end

section
namespace Sys2Proof.Machine

variable {s t u : State} {a : Arb} {sl : Slot}

/-! ## The entry of an address, changed -/

theorem nodeAt_setNode {x : Addr} {f : Node → Node} {n : Node} (hf : ∀ m, (f m).addr = m.addr) (h : nodeAt s x = some n) :
    nodeAt (setNode x f s) x = some (f n) := by
  have hfold (l : List Node) (hl : l.find? (·.addr == x) = some n) :
      (l.map fun m => if m.addr == x then f m else m).find? (·.addr == x) = some (f n) := by
    induction l with
    | nil => exact nomatch hl
    | cons m l ih =>
      rw [List.map_cons]
      cases hm : m.addr == x with
      | true =>
        rw [List.find?_cons_of_pos (by simpa using hm)] at hl
        obtain rfl := Option.some.inj hl
        rw [if_pos rfl]
        exact List.find?_cons_of_pos (by simpa [hf] using hm)
      | false =>
        rw [List.find?_cons_of_neg (by simp [hm])] at hl
        rw [if_neg (by decide), List.find?_cons_of_neg (by simp [hm])]
        exact ih hl
  exact hfold s.line.nodes h

theorem conclude_line_quiet (h : s.signals = []) : (conclude s).line = s.line := by
  rw [conclude_of_no_signals h, finish_line]

/-! ## The order of the queue (R114) -/

/-- The place of a frame in the order of the queue. -/
def TxFrame.key (f : TxFrame) : Nat := f.rank * 16 + f.addr.toNat

theorem before_iff (f g : TxFrame) : f.before g = true ↔ f.key < g.key := by
  have hf := f.addr.isLt
  have hg := g.addr.isLt
  unfold TxFrame.before TxFrame.key
  simp only [Bool.or_eq_true, Bool.and_eq_true, decide_eq_true_eq, beq_iff_eq]
  omega

theorem before_eq_false_iff (f g : TxFrame) : f.before g = false ↔ g.key ≤ f.key := by
  rw [← Bool.not_eq_true, before_iff, Nat.not_lt]

/-- The frame sent next stands in the queue, and none goes before it. -/
theorem nextFrame_facts {q : List TxFrame} {f : TxFrame} (h : nextFrame q = some f) :
    f ∈ q ∧ ∀ g ∈ q, g.before f = false := by
  induction q generalizing f with
  | nil => exact nomatch h
  | cons x q ih =>
    have hself : x.before x = false := (before_eq_false_iff x x).mpr (Nat.le_refl _)
    have hcons : nextFrame (x :: q) = (nextFrame q).elim (some x) (fun g => if g.before x then some g else some x) := by
      rw [nextFrame]
      cases nextFrame q <;> rfl
    rw [hcons] at h
    cases hq : nextFrame q with
    | none =>
      rw [hq] at h
      obtain rfl := Option.some.inj h
      have hempty : q = [] := Classical.byContradiction fun hne => by
        have hsome := (nextFrame_isSome q).mpr hne
        rw [hq] at hsome
        exact nomatch hsome
      rw [hempty]
      simpa using hself
    | some g =>
      obtain ⟨hmem, hfirst⟩ := ih hq
      rw [hq] at h
      dsimp only [Option.elim] at h
      split at h
      · rename_i hb
        obtain rfl := Option.some.inj h
        refine ⟨List.mem_cons_of_mem _ hmem, fun y hy => ?_⟩
        rcases List.mem_cons.mp hy with rfl | hin
        · rw [before_eq_false_iff]
          exact Nat.le_of_lt ((before_iff _ _).mp hb)
        · exact hfirst y hin
      · rename_i hb
        obtain rfl := Option.some.inj h
        refine ⟨List.mem_cons_self, fun y hy => ?_⟩
        rcases List.mem_cons.mp hy with rfl | hin
        · exact hself
        · have hxg := (before_eq_false_iff g x).mp (Bool.not_eq_true _ ▸ hb)
          have hgy := (before_eq_false_iff y g).mp (hfirst y hin)
          rw [before_eq_false_iff]
          omega

/-! ## The master's own frames (R111, R113, R123) -/

theorem frameEnded_of_wire {f : TxFrame} (h : s.line.wire = some f) : frameEnded s = { s with line := { s.line with
    wire := none, bits := [], losses := 0, idle := 0, await := windowOf f } } := by
  unfold frameEnded
  rw [h]

/-- The state after a frame has lost the line, before it is kept or counted. -/
def lineLost (s : State) : State :=
  { s with line := { s.line with wire := none, bits := [], losses := s.line.losses + 1, idle := 0 } }

/-- A frame that loses the line is kept, unless a newer one of its kind and address is due. -/
theorem frameLost_eq {f : TxFrame} (h : s.line.wire = some f) : frameLost s
    = if s.line.queue.any (fun g => g.sameSlot f) then (match f with
        | .poll x => pollMissed x (lineLost s)
        | _ => lineLost s)
      else { lineLost s with line := { (lineLost s).line with lost := some f } } := by
  unfold frameLost
  split
  · rename_i g hg
    obtain rfl := Option.some.inj (hg.symm.trans h)
    refine if_congr Iff.rfl ?_ rfl
    cases g <;> rfl
  · rename_i hg
    exact nomatch hg.symm.trans h

theorem pollMissed_of_few {x : Addr} {n : Node} (h : nodeAt s x = some n) (hfew : n.missed < 2) : pollMissed x s
    = setNode x (fun m => { m with
        missed := m.missed + 1, state := if m.state = .assigning then .assigning else .silent }) s := by
  unfold pollMissed
  rw [h]
  exact if_neg (by omega)

theorem masterSend_of_free (hp : s.pack.power = .active) (hl : s.line.tpwr ≠ .off) (hr : s.line.resetting = none)
    (hw : s.line.wire = none) (ha : s.line.await = none) (hfew : s.line.losses < 8) : masterSend s
      = if 8 ≤ s.line.idle then (dueFrame s.line).elim s (fun f => putOnLine f (if s.line.lost.isSome
          then { s with line := { s.line with lost := none } } else { s with line := unqueue f s.line })) else s := by
  have hup : lineUp s = true := by simp [lineUp, hl, hr, hp]
  have hcond : (lineUp s = true ∧ 8 ≤ s.line.idle ∧ s.line.wire.isNone = true ∧ s.line.await.isNone = true) ↔ 8 ≤ s.line.idle := by
    simp [hup, hw, ha]
  unfold masterSend
  rw [if_congr hcond rfl rfl, if_neg (show ¬ 8 ≤ s.line.losses by omega)]
  refine if_congr Iff.rfl ?_ rfl
  cases dueFrame s.line with
  | none => rfl
  | some f => cases s.line.lost <;> rfl

/-- A frame that carries its contents goes on the line as it is. -/
theorem putOnLine_of_ready {f : TxFrame} (s : State) (h : ∀ x b, f ≠ .cap x b none) : putOnLine f s
    = { s with line := { s.line with wire := some f, bits := f.bits, idle := 0 } } := by
  match f, h with
  | .assign x n, _ => rfl
  | .poll x, _ => rfl
  | .cap x b (some n), _ => rfl
  | .cap x b none, h => exact absurd rfl (h x b)

/-- A CAP without a number is given the node's next one, and becomes its pending cap. -/
theorem putOnLine_of_cap {x : Addr} {b : CapBody} {m : Node} (h : nodeAt s x = some m) : putOnLine (.cap x b none) s
    = setNode x (fun n => { n with seq := m.seq + 1, pending := some ⟨b, m.seq + 1⟩ })
      { s with line := { s.line with
          wire := some (.cap x b (some (m.seq + 1))), bits := TxFrame.bits (.cap x b (some (m.seq + 1))), idle := 0 } } := by
  unfold putOnLine
  dsimp only
  rw [h]
  rfl

/-- A frame put on the line: its bits follow, and the idle count starts again. -/
theorem putOnLine_line (f : TxFrame) (s : State) : let t := putOnLine f s
    t.line.idle = 0 ∧ t.line.wire.map TxFrame.bits = some t.line.bits ∧ t.line.queue = s.line.queue
      ∧ t.signals = s.signals := by
  match f with
  | .assign x n => exact ⟨rfl, rfl, rfl, rfl⟩
  | .poll x => exact ⟨rfl, rfl, rfl, rfl⟩
  | .cap x b (some n) => exact ⟨rfl, rfl, rfl, rfl⟩
  | .cap x b none => exact ⟨rfl, rfl, rfl, rfl⟩

/-- The frame on the line and what a silent line keeps stand through the hand-overs. -/
theorem conclude_wire (s : State) : (conclude s).line.idle = s.line.idle ∧ (conclude s).line.wire = s.line.wire
    ∧ (conclude s).line.bits = s.line.bits ∧ (conclude s).line.losses = s.line.losses
    ∧ (conclude s).line.resetting = s.line.resetting ∧ (conclude s).line.quarantine = s.line.quarantine
    ∧ (conclude s).line.await = s.line.await := by
  have hkept := conclude_line_lasting s
  exact ⟨(congrArg ToolLine.idle hkept :), (congrArg ToolLine.wire hkept :), (congrArg ToolLine.bits hkept :),
    (congrArg ToolLine.losses hkept :), (congrArg ToolLine.resetting hkept :), (congrArg ToolLine.quarantine hkept :),
    (congrArg ToolLine.await hkept :)⟩

end Sys2Proof.Machine
end

section
namespace Sys2Proof.Machine

variable {s t u : State} {a : Arb} {sl : Slot}

/-- What a frame's end, a lost frame and a drive's end leave (R111, R113). -/
theorem exec_masterFrames (hs : s.powered) :
    (s.line.resetting.isSome → exec .lineResetEnd s
      = .next (conclude { s with line := { s.line with resetting := none, idle := 0 } }))
    ∧ (∀ f, s.line.wire = some f → exec .toolMasterFrameEnd s
      = .next (conclude { s with line := { s.line with
          wire := none, bits := [], losses := 0, idle := 0, await := windowOf f } }))
    ∧ ∀ f, s.line.wire = some f → exec .arbitrationLoss s = .next (conclude (frameLost s)) := by
  refine ⟨fun h => ?_, fun f h => ?_, fun f h => event_of_powered frameLost s hs⟩
  · have hended : lineResetEnded s = { s with line := { s.line with resetting := none, idle := 0 } } := if_pos h
    exact hended ▸ event_of_powered lineResetEnded s hs
  · exact frameEnded_of_wire h ▸ event_of_powered frameEnded s hs

/-- TOOL_MASTER_SEND on a free line. -/
theorem exec_toolMasterSend (hp : s.pack.power = .active) :
    exec .toolMasterSend s = .next (conclude (masterSend s)) := event_of_powered masterSend s (powered_of_active hp)

/-- A lost frame goes first. -/
theorem masterSend_of_lost {f : TxFrame} (hp : s.pack.power = .active) (hl : s.line.tpwr ≠ .off)
    (hr : s.line.resetting = none) (hw : s.line.wire = none) (ha : s.line.await = none) (hfew : s.line.losses < 8)
    (hidle : 8 ≤ s.line.idle) (h : s.line.lost = some f) :
    masterSend s = putOnLine f { s with line := { s.line with lost := none } } := by
  have hdue : dueFrame s.line = some f := by
    rw [dueFrame, h]
    rfl
  rw [masterSend_of_free hp hl hr hw ha hfew, if_pos hidle, hdue, h]
  rfl

/-- With none lost the next of the queue goes. -/
theorem masterSend_of_queued (hp : s.pack.power = .active) (hl : s.line.tpwr ≠ .off)
    (hr : s.line.resetting = none) (hw : s.line.wire = none) (ha : s.line.await = none) (hfew : s.line.losses < 8)
    (hidle : 8 ≤ s.line.idle) (h : s.line.lost = none) (hq : s.line.queue ≠ []) :
    ∃ f, nextFrame s.line.queue = some f ∧ masterSend s = putOnLine f { s with line := unqueue f s.line } := by
  obtain ⟨f, hf⟩ := Option.isSome_iff_exists.mp ((nextFrame_isSome s.line.queue).mpr hq)
  have hdue : dueFrame s.line = some f := by
    rw [dueFrame, h]
    exact hf
  refine ⟨f, hf, ?_⟩
  rw [masterSend_of_free hp hl hr hw ha hfew, if_pos hidle, hdue, h]
  rfl

/-- What the frame sent next leaves of the line. -/
theorem conclude_sent {f : TxFrame} (s : State) : let t := conclude (putOnLine f { s with line := unqueue f s.line })
    (s.signals = [] → t.line.queue = s.line.queue.filter (fun g => !g.sameSlot f))
      ∧ t.line.idle = 0 ∧ t.line.wire.map TxFrame.bits = some t.line.bits
      ∧ (∀ x n, f = .poll x ∨ f = .assign x n → t.line.wire = some f)
      ∧ (∀ x b n, f = .cap x b (some n) → t.line.wire = some f ∧ (s.signals = [] → t.line.nodes = s.line.nodes))
      ∧ (∀ x b m, f = .cap x b none → nodeAt s x = some m → t.line.wire = some (.cap x b (some (m.seq + 1)))
          ∧ (s.signals = [] → ∃ m', nodeAt t x = some m' ∧ m'.seq = m.seq + 1 ∧ m'.pending = some ⟨b, m.seq + 1⟩)) := by
  obtain ⟨v, hv⟩ : ∃ v : State, v = { s with line := unqueue f s.line } := ⟨_, rfl⟩
  obtain ⟨hidle, hwire, hbits, -⟩ := conclude_wire (putOnLine f v)
  obtain ⟨hidle', hbits', hqueue, hsignals⟩ := putOnLine_line f v
  have hquiet (h : s.signals = []) : (putOnLine f v).signals = [] := by
    rw [hsignals, hv]
    exact h
  have hready (h : ∀ x b, f ≠ .cap x b none) : (putOnLine f v).line.wire = some f := by rw [putOnLine_of_ready v h]
  dsimp only
  rw [← hv, hidle, hwire, hbits]
  refine ⟨fun h => ?_, hidle', hbits', fun x n h => hready ?_, fun x b n h => ⟨hready ?_, fun hsig => ?_⟩,
    fun x b m h hm => ?_⟩
  · rw [conclude_line_quiet (hquiet h), hqueue, hv]
    rfl
  · rintro y c rfl
    exact h.elim nofun nofun
  · rintro y c rfl
    exact nomatch h
  · rw [conclude_line_quiet (hquiet hsig), putOnLine_of_ready v (by rintro y c rfl; exact nomatch h), hv]
    rfl
  · have hnode : nodeAt v x = some m := by
      rw [hv]
      exact hm
    have hput := putOnLine_of_cap (b := b) hnode
    rw [← h] at hput
    refine ⟨by rw [hput]; rfl, fun hsig => ⟨{ m with seq := m.seq + 1, pending := some ⟨b, m.seq + 1⟩ }, ?_, rfl, rfl⟩⟩
    have hline := conclude_line_quiet (hquiet hsig)
    have hsame : nodeAt (conclude (putOnLine f v)) x = nodeAt (putOnLine f v) x :=
      congrArg (fun l : ToolLine => l.nodes.find? fun n : Node => n.addr == x) hline
    rw [hsame, hput]
    exact nodeAt_setNode (fun _ => rfl) (hnode :)

end Sys2Proof.Machine
end

section
namespace Sys2Proof.Machine

variable {s t u : State} {a : Arb} {sl : Slot}

/-! ## Tools that are granted nothing stay so below FULL (R35, R36) -/

/-- No tool slot is granted current. -/
def ungranted (a : Arb) : Prop := ∀ k, (a.tool k).grant = 0

theorem ungranted_of_arb (h : t.arb = s.arb) (hs : ungranted s.arb) : ungranted t.arb := by
  rw [h]
  exact hs

theorem ungranted_ite {c : Prop} [Decidable c] (ht : ungranted t.arb) (hu : ungranted u.arb) :
    ungranted (if c then t else u).arb := by
  split
  · exact ht
  · exact hu

theorem askRecompute_ungranted (h : ungranted s.arb) : ungranted (askRecompute s).arb := ungranted_ite h h

theorem queueCaps_arb (l : List Addr) (s : State) : (queueCaps l s).arb = s.arb := by
  obtain ⟨q, w, hq⟩ := queueCaps_writes l s
  rw [hq]

theorem mapTools_ungranted {f : Slot → Slot} (hf : ∀ sl : Slot, sl.grant = 0 → (f sl).grant = 0) (h : ungranted a) :
    ungranted (a.mapTools f) := fun k => by
  rw [tool_mapTools]
  exact hf _ (h k)

theorem reseat_ungranted {old : Slot} (oldM newM : Option Addr) (departs full : Bool) {from? : Option Slot}
    (h : ∀ c, from? = some c → c.grant = 0) : (old.reseat oldM newM departs from? full).grant = 0 := by
  unfold Slot.reseat
  cases newM with
  | none => rfl
  | some y =>
    cases from? with
    | none => rfl
    | some c => exact h c rfl

theorem reseatBrushes_ungranted (newH newA : Option Addr) (listed : List Addr) (full : Bool) (h : ungranted a) :
    ungranted (a.reseatBrushes newH newA listed full) := by
  have hslot (m : Option Addr) (c : Slot) (hc : m.bind a.brushSlotOf = some c) : c.grant = 0 := by
    cases m with
    | none => exact nomatch hc
    | some y =>
      rw [brushSlotOf_eq] at hc
      have hc : slotOfMember a y = some c := hc
      unfold slotOfMember at hc
      split at hc
      · obtain rfl := Option.some.inj hc
        exact h .head
      · split at hc
        · obtain rfl := Option.some.inj hc
          exact h .aux
        · exact nomatch hc
  have hite {c : Prop} [Decidable c] {x y : Slot} (hx : x.grant = 0) (hy : y.grant = 0) : (if c then x else y).grant = 0 := by
    split
    · exact hx
    · exact hy
  intro k
  cases k with
  | head => exact hite (h .head) (reseat_ungranted _ _ _ _ (hslot newH))
  | lamp => exact h .lamp
  | aux => exact hite (h .aux) (reseat_ungranted _ _ _ _ (hslot newA))

theorem refreshTools_ungranted (h : ungranted s.arb) : ungranted (refreshTools s).arb := by
  have hmembers (u : State) (hu : ungranted u.arb) : ungranted (deriveMembers u).arb := by
    refine ungranted_ite hu (askRecompute_ungranted (ungranted_of_arb (queueCaps_arb _ _) ?_))
    have hseated := reseatBrushes_ungranted (brushNodes u)[0]? (brushNodes u)[1]? ((attachedNodes u).map (·.addr))
      (u.line.tpwr == .full) hu
    intro k
    cases k with
    | head => exact hseated .head
    | lamp => exact hseated .lamp
    | aux => exact hseated .aux
  have hfloor (u : State) (hu : ungranted u.arb) : ungranted (deriveFloor u).arb := ungranted_ite hu hu
  have hclaims (u : State) (hu : ungranted u.arb) : ungranted (deliverClaims u).arb := by
    refine ungranted_ite hu (askRecompute_ungranted ?_)
    intro k
    cases k with
    | head => exact hu .head
    | lamp => exact hu .lamp
    | aux => exact hu .aux
  exact hclaims _ (hfloor _ (hmembers _ h))

theorem toolDeparted_ungranted (x : Addr) (h : ungranted s.arb) : ungranted (toolDeparted x s).arb := by
  have hdepart (sl : Slot) (hsl : sl.grant = 0) : (sl.depart x).grant = 0 := by
    unfold Slot.depart
    dsimp only
    split
    · dsimp only
      split
      · rfl
      · exact hsl
    · exact hsl
  have hnozzle (u : State) (hu : ungranted u.arb) : ungranted (deriveNozzle u).arb := ungranted_ite hu hu
  exact refreshTools_ungranted (hnozzle _ (askRecompute_ungranted (mapTools_ungranted hdepart h)))

theorem nodeGone_ungranted (quiet : Bool) (x : Addr) (h : ungranted s.arb) : ungranted (nodeGone quiet x s).arb := by
  have hdeparted : ungranted (toolDeparted x (entryRemoved x s)).arb := toolDeparted_ungranted x h
  rw [nodeGone_eq]
  cases nodeAt s x with
  | none => exact h
  | some n => exact ungranted_ite (ungranted_of_arb (raiseIf_arb _ _ _) (ungranted_ite hdeparted hdeparted)) h

theorem removeNodes_ungranted (quiet : Bool) (h : ungranted s.arb) : ungranted (removeNodes quiet s).arb := by
  unfold removeNodes
  generalize s.line.nodes.map (·.addr) = l
  induction l generalizing s with
  | nil => exact h
  | cons x l ih => exact ih (nodeGone_ungranted quiet x h)

theorem raise_ungranted (x : Nat × SlotState) (mayOffer : Bool) (old free : Nat) (h : sl.grant = 0) :
    (((sl.aim x).lowerTool false).raiseTool false mayOffer old free).grant = 0 := by
  have hlower : (sl.aim x).lowerTool false = sl.aim x := if_neg (by change ¬ x.1 < sl.grant; omega)
  rw [hlower]
  unfold Slot.raiseTool
  dsimp only
  rw [if_neg (by decide)]
  change (match (sl.aim x).offer with
    | some o => if (sl.aim x).target = old ∧ o ≤ (sl.aim x).target then sl.aim x else (sl.aim x).replaceOffer o _
    | none => if mayOffer && !(sl.aim x).settling && (sl.aim x).grant == 0 && decide (0 < _) then (sl.aim x).makeOffer _
        else sl.aim x : Slot).grant = 0
  split
  · split <;> exact h
  · split <;> exact h

theorem recompute_ungranted (limit : Nat) (mayOffer : Bool) (h : ungranted a) :
    ungranted (a.recompute limit false mayOffer) := by
  obtain ⟨th, tl, tx, tu, hd, -⟩ := lowered_eq a limit false
  have hb : a.recompute limit false mayOffer = ((a.aimAll limit).lowerAll false).raiseAll a limit false mayOffer := rfl
  intro k
  rw [hb, hd]
  cases k with
  | head => exact raise_ungranted th _ _ _ (h .head)
  | lamp => exact raise_ungranted tl _ _ _ (h .lamp)
  | aux => exact raise_ungranted tx _ _ _ (h .aux)

theorem not_granted_of_ungranted (h : ungranted a) : ¬granted a := by
  have hhead : a.head.grant = 0 := h .head
  have hlamp : a.lamp.grant = 0 := h .lamp
  have haux : a.aux.grant = 0 := h .aux
  unfold granted
  omega

/-- TPWR at SIGNAL with nothing granted to the tools. -/
def signalOnly (s : State) : Prop := s.line.tpwr = .signal ∧ ungranted s.arb

theorem handTools_signalOnly (h : signalOnly s) : signalOnly (handTools s) := by
  obtain ⟨hlevel, hnone⟩ := h
  obtain ⟨q, w, hq⟩ := queueCaps_writes (handedNodes s.arb) (newsMarked s)
  have hmarked : ungranted (newsMarked s).arb := mapTools_ungranted (fun _ hsl => hsl) hnone
  have hno : ¬granted (queueCaps (handedNodes s.arb) (newsMarked s)).arb := by
    rw [hq]
    exact not_granted_of_ungranted hmarked
  have hsignal : (queueCaps (handedNodes s.arb) (newsMarked s)).line.tpwr = .signal := by
    rw [hq]
    exact hlevel
  have hrule : handTools s = queueCaps (handedNodes s.arb) (newsMarked s) := by
    rw [handTools_eq]
    refine (if_neg fun hc => ?_).trans (if_neg fun hc => hno hc.2.1)
    exact Tpwr.noConfusion (hsignal.symm.trans hc.1)
  rw [hrule]
  exact ⟨hsignal, by rw [hq]; exact hmarked⟩

theorem signalOnly_of_tableSide (h : tableSide t = tableSide s) (hs : signalOnly s) : signalOnly t :=
  ⟨(congrArg Prod.snd h).trans hs.1, fun k => by rw [tool_of_tableSide h k]; exact hs.2 k⟩

theorem recomputeNow_signalOnly (h : signalOnly s) : signalOnly (recomputeNow s) := by
  refine signalOnly_of_tableSide (recomputeNow_tableSide s) (handTools_signalOnly ?_)
  have hfull : (s.line.tpwr == .full) = false := by
    rw [h.1]
    rfl
  refine ⟨?_, ?_⟩
  · rw [tableFormed, raiseIf_line]
    exact h.1
  · rw [tableFormed, raiseIf_arb, hfull]
    exact recompute_ungranted _ _ h.2

/-- Without a grant TPWR stays at SIGNAL to the end of the event. -/
theorem conclude_signalOnly (h : signalOnly s) : signalOnly (conclude s) :=
  conclude_of_tableSide (p := signalOnly) (fun _ _ hside hv => signalOnly_of_tableSide hside hv)
    (fun _ hv => recomputeNow_signalOnly hv) h

end Sys2Proof.Machine
end

section
namespace Sys2Proof.Machine

variable {s t u : State} {a : Arb} {sl : Slot}

/-! ## A line reset (R113, R111, R118) -/

/-- The state a line reset removes the nodes from. -/
def resetLevel (s : State) : State := if s.line.tpwr = .full then setTpwr .signal .power s else s

theorem lineReset_eq (quiet : Bool) (s : State) : lineReset quiet s
    = { clearTraffic (removeNodes quiet (resetLevel s)) with line :=
        { (clearTraffic (removeNodes quiet (resetLevel s))).line with quarantine := [], resetting := some 40, idle := 0 } } :=
  rfl

/-- A line reset from FULL leaves TPWR at SIGNAL with nothing granted. -/
theorem lineReset_signalOnly (quiet : Bool) (h : s.line.tpwr = .full) : signalOnly (lineReset quiet s) := by
  have hreset : resetLevel s = setTpwr .signal .power s := if_pos h
  obtain ⟨harb, -⟩ := setTpwr_signal_of_full .power h
  have hnone : ungranted (resetLevel s).arb := by
    rw [hreset, harb]
    intro k
    rw [tableReleased_tool]
    exact (release_facts _).1.1
  obtain ⟨hlevel, -⟩ := lineReset_line quiet s
  refine ⟨hlevel.trans (if_pos h), ?_⟩
  rw [lineReset_eq]
  exact removeNodes_ungranted quiet hnone

/-- A completed node that leaves raises TOOL_DETACH. -/
theorem nodeGone_detaches {x : Addr} {n : Node} (h : nodeAt s x = some n) (hc : n.completed = true) :
    hasEvent .toolDetach (nodeGone false x s) = true := by
  rw [nodeGone_eq, h]
  dsimp only
  rw [if_pos hc]
  exact hasEvent_raiseIf .toolDetach _ rfl

theorem nodeAt_isSome {x : Addr} {n : Node} (hn : n ∈ s.line.nodes) (hx : n.addr = x) : ∃ m, nodeAt s x = some m := by
  refine Option.isSome_iff_exists.mp (List.find?_isSome.mpr ⟨n, hn, ?_⟩)
  simpa using hx

/-- The removal of every node raises TOOL_DETACH where an address stands for completed entries only. -/
theorem removeNodes_detaches {n : Node} (hn : n ∈ s.line.nodes)
    (hall : ∀ m ∈ s.line.nodes, m.addr = n.addr → m.completed = true) : hasEvent .toolDetach (removeNodes false s) = true := by
  have hfold (l : List Addr) (u : State) (hl : n.addr ∈ l) (hu : n ∈ u.line.nodes)
      (hsub : ∀ m ∈ u.line.nodes, m.addr = n.addr → m.completed = true) :
      hasEvent .toolDetach (l.foldl (fun s x => nodeGone false x s) u) = true := by
    induction l generalizing u with
    | nil => exact absurd hl List.not_mem_nil
    | cons x l ih =>
      rw [List.foldl_cons]
      by_cases hx : n.addr = x
      · obtain ⟨m, hm⟩ := nodeAt_isSome hu hx
        obtain ⟨hmem, haddr⟩ := mem_of_nodeAt hm
        have hevent := nodeGone_detaches hm (hsub m hmem (haddr.trans hx.symm))
        have hkept (l : List Addr) (v : State) (hv : hasEvent .toolDetach v = true) :
            hasEvent .toolDetach (l.foldl (fun s x => nodeGone false x s) v) = true := by
          induction l generalizing v with
          | nil => exact hv
          | cons y l ih => exact ih _ (nodeGone_keeps false y v _ hv)
        exact hkept l _ hevent
      · have hnodes := nodeGone_nodes false x u
        have hin : n ∈ (nodeGone false x u).line.nodes := by
          rw [hnodes]
          exact List.mem_filter.mpr ⟨hu, by simpa using hx⟩
        refine ih _ ((List.mem_cons.mp hl).resolve_left hx) hin fun m hm haddr => ?_
        rw [hnodes] at hm
        exact hsub m (List.mem_filter.mp hm).1 haddr
  exact hfold _ s (List.mem_map_of_mem hn) hn hall

theorem discardCaps_completed (s : State) : ∀ m ∈ (discardCaps s).line.nodes, ∃ n ∈ s.line.nodes,
    n.addr = m.addr ∧ n.completed = m.completed := by
  intro m hm
  obtain ⟨n, hn, rfl⟩ := List.mem_map.mp hm
  exact ⟨n, hn, rfl, rfl⟩

/-- A change of TPWR leaves the entries but for their pending caps. -/
theorem setTpwr_nodes (l : Tpwr) (c : ReleaseCause) (s : State) : (setTpwr l c s).line.nodes = s.line.nodes
    ∨ (setTpwr l c s).line.nodes = s.line.nodes.map fun n => { n with pending := none } := by
  have hreleased (u : State) : (forcedRelease c u).line = u.line := askRecompute_line _
  unfold setTpwr
  split
  · exact .inl rfl
  · refine .inr ?_
    dsimp only
    rw [askRecompute_line]
    split <;> split
    · change (forcedRelease c _).line.nodes = _
      rw [hreleased]
      rfl
    · rfl
    · rw [hreleased]
      rfl
    · rfl

/-- A line reset of a list with a completed node raises TOOL_DETACH. -/
theorem lineReset_detaches (hlaw : nodeLaw s) (h : s.line.nodes.any (·.completed) = true) :
    hasEvent .toolDetach (lineReset false s) = true := by
  obtain ⟨n, hn, hc⟩ := List.any_eq_true.mp h
  have hall (m : Node) (hm : m ∈ s.line.nodes) (haddr : m.addr = n.addr) : m.completed = true :=
    node_unique_of_addr hlaw hm hn haddr ▸ hc
  obtain ⟨f, hf, hnodes⟩ : ∃ f : Node → Node, (∀ m, (f m).addr = m.addr ∧ (f m).completed = m.completed)
      ∧ (resetLevel s).line.nodes = s.line.nodes.map f := by
    unfold resetLevel
    split
    · rcases setTpwr_nodes .signal .power s with hsame | hdiscarded
      · exact ⟨id, fun _ => ⟨rfl, rfl⟩, by rw [hsame, List.map_id]⟩
      · exact ⟨fun n => { n with pending := none }, fun _ => ⟨rfl, rfl⟩, hdiscarded⟩
    · exact ⟨id, fun _ => ⟨rfl, rfl⟩, by rw [List.map_id]⟩
  have hin : f n ∈ (resetLevel s).line.nodes := by
    rw [hnodes]
    exact List.mem_map_of_mem hn
  have hcompleted (m : Node) (hm : m ∈ (resetLevel s).line.nodes) (haddr : m.addr = (f n).addr) : m.completed = true := by
    rw [hnodes] at hm
    obtain ⟨k, hk, rfl⟩ := List.mem_map.mp hm
    rw [(hf k).2]
    exact hall k hk ((hf k).1.symm.trans (haddr.trans (hf n).1))
  rw [lineReset_eq]
  exact removeNodes_detaches hin hcompleted

/-- A line reset leaves the records and their order, and drops what is on the line. -/
theorem lineReset_rest (quiet : Bool) (s : State) : let t := lineReset quiet s
    t.tools.slots = s.tools.slots ∧ t.tools.order = s.tools.order ∧ t.line.wire = none ∧ t.pack = s.pack := by
  have htools : (resetLevel s).tools = s.tools := by
    unfold resetLevel
    split
    · exact setTpwr_tools _ _ _
    · rfl
  obtain ⟨q, hgone⟩ := removeNodes_line quiet (resetLevel s)
  dsimp only
  refine ⟨?_, ?_, rfl, pack_of_besideTools (lineReset_besideTools quiet s)⟩
  · rw [lineReset_eq, ← htools]
    exact (congrArg (·.2.slots) hgone :)
  · rw [lineReset_eq, ← htools]
    exact (congrArg (·.2.order) hgone :)

/-- MASTER_LOSS_LIMIT at a loss count of 8. -/
theorem exec_masterLossLimit (hs : s.powered) (hlaw : nodeLaw s) (h : 8 ≤ s.line.losses) :
    ∃ t, exec .masterLossLimit s = .next t
      ∧ t.line.nodes = [] ∧ t.line.queue = [] ∧ t.line.wire = none ∧ t.line.quarantine = []
      ∧ t.line.losses = 0 ∧ t.line.resetting = some 40 ∧ t.line.idle = 0
      ∧ (s.line.tpwr = .full → t.line.tpwr = .signal)
      ∧ (s.line.nodes.any (·.completed) = true → hasEvent .toolDetach t = true)
      ∧ t.tools.slots = s.tools.slots ∧ t.tools.order = s.tools.order ∧ t.pack = s.pack := by
  have hlimit : lossLimit s = lossReset s := if_pos h
  have hexec : exec .masterLossLimit s = .next (conclude (lossReset s)) :=
    hlimit ▸ event_of_powered lossLimit s hs
  obtain ⟨-, hnodes, hqueue, hquarantine, hresetting, hidle⟩ := lineReset_line false s
  obtain ⟨hslots, horder, hwire, hpack⟩ := lineReset_rest false s
  obtain ⟨hidle', hwire', -, hlosses', hresetting', hquarantine', -⟩ := conclude_wire (lossReset s)
  have hbare : bareLine (lossReset s).line := ⟨hnodes, hqueue⟩
  obtain ⟨hnodes', hqueue'⟩ := handLaw_bareLine.conclude hbare
  refine ⟨_, hexec, hnodes', hqueue', hwire'.trans hwire, hquarantine'.trans hquarantine, hlosses',
    hresetting'.trans hresetting, hidle'.trans hidle, fun hfull => ?_, fun hany => ?_, ?_, ?_, ?_⟩
  · have hsignal : signalOnly (lossReset s) := lineReset_signalOnly false hfull
    exact (conclude_signalOnly hsignal).1
  · exact conclude_keeps _ _ (lineReset_detaches hlaw hany)
  · rw [conclude_tools]
    exact hslots
  · rw [conclude_tools]
    exact horder
  · rw [conclude_pack]
    exact hpack

/-- Settles O25: the master's frames to their ends, the frame it sends next, and the line reset at the loss limit. -/
theorem theMasterSendsAndKeepsTheLine : Obligations.TheMasterSendsAndKeepsTheLine := by
  refine ⟨fun s hs => ?_, fun s hp hl hr hw ha hfew => ⟨fun hidle => ?_, fun hidle => ⟨fun f h hready => ?_,
    fun x b m h hm => ?_, fun h hq => ?_⟩⟩, fun s hs hlaw h => exec_masterLossLimit hs hlaw h⟩
  · obtain ⟨hended, hsent, hlost⟩ := exec_masterFrames hs
    refine ⟨hended, fun f h => ?_, fun f h hq => ?_, fun f h hq hpoll => ?_, fun x n h hq hn hfew => ?_⟩
    · rw [hsent f h]
      cases f <;> rfl
    · rw [hlost f h, frameLost_eq h, if_neg (by rw [hq]; decide)]
      rfl
    · rw [hlost f h, frameLost_eq h, if_pos hq]
      cases f with
      | poll x => exact absurd rfl (hpoll x)
      | assign x n => rfl
      | cap x b n => rfl
    · have hany : s.line.queue.any (fun g => g.sameSlot (.poll x)) = true :=
        List.any_eq_true.mpr ⟨_, hq, by simp [TxFrame.sameSlot]⟩
      have hmissed := pollMissed_of_few (s := lineLost s) (x := x) hn hfew
      rw [hlost _ h, frameLost_eq h, if_pos hany]
      exact congrArg (fun v => Host.Outcome.next (conclude v)) hmissed
  · rw [exec_toolMasterSend hp, masterSend_of_free hp hl hr hw ha hfew, if_neg (by omega)]
  · rw [exec_toolMasterSend hp, masterSend_of_lost hp hl hr hw ha hfew hidle h, putOnLine_of_ready _ hready]
  · rw [exec_toolMasterSend hp, masterSend_of_lost hp hl hr hw ha hfew hidle h,
      putOnLine_of_cap (s := { s with line := { s.line with lost := none } }) hm]
  · obtain ⟨f, hf, hsend⟩ := masterSend_of_queued hp hl hr hw ha hfew hidle h hq
    obtain ⟨hmem, hfirst⟩ := nextFrame_facts hf
    exact ⟨_, f, hsend ▸ exec_toolMasterSend hp, hmem, hfirst, conclude_sent s⟩

end Sys2Proof.Machine
end

section
namespace Sys2Proof.Machine

variable {s t u : State} {a : Arb} {sl : Slot}

/-! ## The ASSIGN and the POLL of an entry (R114, R115, R117) -/

theorem putFrame_of_up (f : TxFrame) (hl : s.line.tpwr ≠ .off) : putFrame f s = { s with line := { s.line with
    queue := s.line.queue.filter (fun g => !g.sameSlot f) ++ [f]
    lost := s.line.lost.filter (fun g => !g.sameSlot f) } } := by
  have hlost : (if s.line.lost.any (·.sameSlot f) then none else s.line.lost) = s.line.lost.filter (fun g => !g.sameSlot f) := by
    cases s.line.lost with
    | none => rfl
    | some g => cases h : g.sameSlot f <;> simp [h, Option.filter]
  unfold putFrame
  rw [if_neg hl, hlost]

theorem sameSlot_trans {f g h : TxFrame} (hr : g.rank ≠ h.rank) (hf : f.sameSlot g = true) : f.sameSlot h = false := by
  simp only [TxFrame.sameSlot, Bool.and_eq_true, beq_iff_eq] at hf
  simp [TxFrame.sameSlot, hf.1, hr]

/-- A frame that becomes due leaves the unsent frames of other kinds. -/
theorem queued_putFrame {f g : TxFrame} (hr : f.rank ≠ g.rank) (hl : s.line.tpwr ≠ .off) :
    queued g (putFrame f s) = queued g s := by
  have hother (x : TxFrame) : (x.sameSlot g && !x.sameSlot f) = x.sameSlot g := by
    cases hx : x.sameSlot f with
    | false => simp
    | true => simp [sameSlot_trans hr hx]
  have hself : f.sameSlot g = false := by simp [TxFrame.sameSlot, hr]
  have hqueue : (fun x : TxFrame => !x.sameSlot f && x.sameSlot g) = fun x => x.sameSlot g :=
    funext fun x => (Bool.and_comm _ _).trans (hother x)
  have hlost : (s.line.lost.filter (fun x => !x.sameSlot f)).any (·.sameSlot g) = s.line.lost.any (·.sameSlot g) := by
    cases s.line.lost with
    | none => rfl
    | some x =>
      have hx := hother x
      cases hf : x.sameSlot f with
      | false => simp [hf, Option.filter]
      | true =>
        have hg := sameSlot_trans hr hf
        simp [hf, hg, Option.filter]
  unfold queued
  rw [putFrame_of_up f hl]
  dsimp only
  rw [hlost, List.any_append, List.any_filter, hqueue]
  simp only [List.any_cons, List.any_nil, hself, Bool.or_false]

/-- An entry with a replaced POLL counted as missed. -/
def missedOnce (queued : Bool) (n : Node) : Node :=
  if queued then { n with missed := n.missed + 1, state := if n.state = .assigning then .assigning else .silent } else n

/-- The ASSIGN and the POLL of an entry put in the places of unsent ones. -/
def assignFrames (x : Addr) (serial : Serial) (s : State) : State :=
  { s with line := { s.line with
      queue := s.line.queue.filter (fun g => !(g.sameSlot (.assign x serial) || g.sameSlot (.poll x)))
        ++ [.assign x serial, .poll x]
      lost := s.line.lost.filter (fun g => !(g.sameSlot (.assign x serial) || g.sameSlot (.poll x))) } }

theorem setNode_self (x : Addr) (s : State) : setNode x (fun n => n) s = s := by
  have hmap : (s.line.nodes.map fun n => if n.addr == x then n else n) = s.line.nodes := by
    simp only [ite_self, List.map_id']
  unfold setNode
  rw [hmap]

theorem missedOnce_addr (b : Bool) (n : Node) : (missedOnce b n).addr = n.addr := by
  cases b <;> rfl

/-- A POLL that becomes due, with a replaced one counted. -/
theorem queuePoll_eq {x : Addr} {n : Node} (h : nodeAt s x = some n) (hfew : queued (.poll x) s = true → n.missed < 2) :
    queuePoll x s = putFrame (.poll x) (setNode x (missedOnce (queued (.poll x) s)) s) := by
  have hcounted : (if queued (.poll x) s then pollMissed x s else s) = setNode x (missedOnce (queued (.poll x) s)) s := by
    cases hq : queued (.poll x) s with
    | false => exact (setNode_self x s).symm
    | true => exact pollMissed_of_few h (hfew hq)
  have hnode : (nodeAt (setNode x (missedOnce (queued (.poll x) s)) s) x).isSome = true := by
    rw [nodeAt_setNode (missedOnce_addr _) h]
    rfl
  unfold queuePoll
  dsimp only
  rw [hcounted, if_pos hnode]

theorem assign_eq {x : Addr} {serial : Serial} {n : Node} (hl : s.line.tpwr ≠ .off) (h : nodeAt s x = some n)
    (hfew : queued (.poll x) s = true → n.missed < 2) :
    assign x serial s = assignFrames x serial (setNode x (missedOnce (queued (.poll x) s)) s) := by
  have hqueued : queued (.poll x) (putFrame (.assign x serial) s) = queued (.poll x) s :=
    queued_putFrame (show (0 : Nat) ≠ 2 by decide) hl
  have hput := putFrame_of_up (.assign x serial) hl
  have hnode : nodeAt (putFrame (.assign x serial) s) x = some n := by
    rw [hput]
    exact h
  have hself : (TxFrame.assign x serial).sameSlot (.poll x) = false := by simp [TxFrame.sameSlot, TxFrame.rank]
  unfold assign
  rw [queuePoll_eq hnode (by rw [hqueued]; exact hfew), hqueued, putFrame_of_up (.poll x) (by rw [hput]; exact hl), hput]
  unfold assignFrames setNode
  dsimp only
  rw [List.filter_append, List.filter_filter, List.filter_cons_of_pos (by simp [hself]), List.filter_nil, List.append_assoc]
  simp only [Bool.not_or, Bool.and_comm, Option.filter_filter]
  rfl

/-! ## The place of a new entry (R115) -/

theorem insertNode_find {n : Node} {l : List Node} (h : ∀ m ∈ l, m.addr ≠ n.addr) :
    (insertNode n l).find? (·.addr == n.addr) = some n := by
  induction l with
  | nil => simp [insertNode]
  | cons m l ih =>
    have hm : m.addr ≠ n.addr := h m List.mem_cons_self
    unfold insertNode
    split
    · simp
    · rw [List.find?_cons_of_neg (by simpa using hm)]
      exact ih fun k hk => h k (List.mem_cons_of_mem _ hk)

theorem insertNode_others {n : Node} {l : List Node} (h : ∀ m ∈ l, m.addr ≠ n.addr) :
    (insertNode n l).filter (fun m => m.addr != n.addr) = l := by
  induction l with
  | nil => simp [insertNode]
  | cons m l ih =>
    have hm : m.addr ≠ n.addr := h m List.mem_cons_self
    have hrest : ∀ k ∈ l, k.addr ≠ n.addr := fun k hk => h k (List.mem_cons_of_mem _ hk)
    have hself : l.filter (fun m => m.addr != n.addr) = l :=
      List.filter_eq_self.mpr fun k hk => by simpa using hrest k hk
    unfold insertNode
    split
    · rw [List.filter_cons_of_neg (by simp), List.filter_cons_of_pos (by simpa using hm), hself]
    · rw [List.filter_cons_of_pos (by simpa using hm), ih hrest]

/-- The lowest free address. -/
theorem freeAddr_of_lowest {l : ToolLine} {x : Addr} (h1 : 1 ≤ x.toNat) (h4 : x.toNat ≤ 4) (hfree : addrFree l x = true)
    (hlower : ∀ b : Addr, 1 ≤ b.toNat → b.toNat < x.toNat → addrFree l b = false) : freeAddr l = some x := by
  have hbelow (b : Addr) (hb : 1 ≤ b.toNat) (hx : b.toNat < x.toNat) : ¬ addrFree l b = true := by
    rw [hlower b hb hx]
    decide
  unfold freeAddr
  have hcases : x = 1 ∨ x = 2 ∨ x = 3 ∨ x = 4 := by
    have hx : x.toNat = 1 ∨ x.toNat = 2 ∨ x.toNat = 3 ∨ x.toNat = 4 := by omega
    rcases hx with hx | hx | hx | hx
    · exact .inl (BitVec.eq_of_toNat_eq hx)
    · exact .inr (.inl (BitVec.eq_of_toNat_eq hx))
    · exact .inr (.inr (.inl (BitVec.eq_of_toNat_eq hx)))
    · exact .inr (.inr (.inr (BitVec.eq_of_toNat_eq hx)))
  rcases hcases with rfl | rfl | rfl | rfl
  · exact List.find?_cons_of_pos hfree
  · rw [List.find?_cons_of_neg (hbelow 1 (by decide) (by decide))]
    exact List.find?_cons_of_pos hfree
  · rw [List.find?_cons_of_neg (hbelow 1 (by decide) (by decide)), List.find?_cons_of_neg (hbelow 2 (by decide) (by decide))]
    exact List.find?_cons_of_pos hfree
  · rw [List.find?_cons_of_neg (hbelow 1 (by decide) (by decide)), List.find?_cons_of_neg (hbelow 2 (by decide) (by decide)),
      List.find?_cons_of_neg (hbelow 3 (by decide) (by decide))]
    exact List.find?_cons_of_pos hfree

theorem addrFree_iff (l : ToolLine) (x : Addr) : addrFree l x = true
    ↔ (∀ n ∈ l.nodes, n.addr ≠ x) ∧ ∀ q ∈ l.quarantine, q.addr ≠ x := by
  simp [addrFree]

end Sys2Proof.Machine
end

section
namespace Sys2Proof.Machine

variable {s t u : State} {a : Arb} {sl : Slot}

/-! ## ANNOUNCE (R112, R115) -/

theorem lineUp_of_up (hp : s.pack.power = .active) (hl : s.line.tpwr ≠ .off) (hr : s.line.resetting = none) :
    lineUp s = true := by simp [lineUp, hl, hr, hp]

/-- An ANNOUNCE of address 15 with 1 to 4 descriptors is taken. -/
theorem takeAnnounce_of_taken {serial : Serial} {descs : List Byte} (hup : lineUp s = true) (h1 : 1 ≤ descs.length)
    (h4 : descs.length ≤ 4) : takeAnnounce 15 serial descs s = announced serial descs (frameHeard s) :=
  (if_pos hup).trans (if_pos ⟨rfl, h1, h4⟩)

theorem takeAnnounce_of_discarded {x : Addr} {serial : Serial} {descs : List Byte} (hup : lineUp s = true)
    (h : x ≠ 15 ∨ descs.length = 0 ∨ 4 < descs.length) : takeAnnounce x serial descs s = frameHeard s := by
  refine (if_pos hup).trans (if_neg fun ⟨hx, h1, h4⟩ => ?_)
  rcases h with h | h | h
  · exact h hx
  · omega
  · omega

theorem serialNode_of_new {serial : Serial} (h : ∀ n ∈ s.line.nodes, n.serial ≠ serial) : serialNode s serial = none :=
  List.find?_eq_none.mpr fun n hn => by simpa using h n hn

/-- The entry of a serial is the one that holds it (R115). -/
theorem serialNode_of_known {n : Node} (hn : n ∈ s.line.nodes) (hlaw : nodeLaw s) : serialNode s n.serial = some n := by
  have hsome : (serialNode s n.serial).isSome = true := List.find?_isSome.mpr ⟨n, hn, beq_self_eq_true n.serial⟩
  obtain ⟨m, hm⟩ := Option.isSome_iff_exists.mp hsome
  have hmem : m ∈ s.line.nodes := List.mem_of_find?_eq_some hm
  have hserial : m.serial = n.serial := by simpa using List.find?_some hm
  rw [hm, List.inj_on_of_nodup_map hlaw.2.2 hmem hn hserial]

theorem announced_of_new {serial : Serial} {descs : List Byte} (h : ∀ n ∈ s.line.nodes, n.serial ≠ serial) :
    announced serial descs s = if 4 ≤ s.line.nodes.length then s
      else (freeAddr s.line).elim s fun x => assign x serial
        { s with line := { s.line with nodes := insertNode (newNode x serial descs) s.line.nodes } } := by
  unfold announced
  rw [serialNode_of_new h]
  refine if_congr Iff.rfl rfl ?_
  cases freeAddr s.line <;> rfl

/-- A new serial with a free address is assigned the lowest. -/
theorem announced_of_free {serial : Serial} {descs : List Byte} {x : Addr} (hl : s.line.tpwr ≠ .off)
    (h : ∀ n ∈ s.line.nodes, n.serial ≠ serial) (hroom : s.line.nodes.length < 4) (hfree : freeAddr s.line = some x)
    (hnew : ∀ m ∈ s.line.nodes, m.addr ≠ x) (hq : queued (.poll x) s = false) :
    announced serial descs s = assignFrames x serial
      { s with line := { s.line with nodes := insertNode (newNode x serial descs) s.line.nodes } } := by
  obtain ⟨v, hv⟩ : ∃ v : State, v = { s with line := { s.line with
    nodes := insertNode (newNode x serial descs) s.line.nodes } } := ⟨_, rfl⟩
  have hnode : nodeAt v x = some (newNode x serial descs) := by
    rw [hv]
    exact insertNode_find (n := newNode x serial descs) hnew
  have hqueued : queued (.poll x) v = false := by
    rw [hv]
    exact hq
  have hassign := assign_eq (serial := serial) (by rw [hv]; exact hl : v.line.tpwr ≠ .off) hnode
    (fun hc => nomatch hqueued.symm.trans hc)
  rw [hqueued] at hassign
  have hself : setNode x (missedOnce false) v = v := setNode_self x v
  rw [announced_of_new h, if_neg (by omega), hfree]
  change assign x serial _ = _
  rw [← hv, hassign, hself]

/-- The entry of a known serial is assigned anew. -/
theorem announced_of_known {n : Node} {descs : List Byte} (hn : n ∈ s.line.nodes) (hlaw : nodeLaw s) :
    announced n.serial descs s = if n.state = .assigning then assign n.addr n.serial s
      else assign n.addr n.serial (setNode n.addr (fun m => { m with state := .assigning, missed := 0 }) s) := by
  unfold announced
  rw [serialNode_of_known hn hlaw]

theorem nodeAt_of_mem {n : Node} (hn : n ∈ s.line.nodes) (hlaw : nodeLaw s) : nodeAt s n.addr = some n := by
  obtain ⟨m, hm⟩ := nodeAt_isSome hn rfl
  obtain ⟨hmem, haddr⟩ := mem_of_nodeAt hm
  rw [hm, node_unique_of_addr hlaw hmem hn haddr]

theorem nodes_of_announced {n : Node} {f : Node → Node} (hn : n ∈ s.line.nodes) (hlaw : nodeLaw s) (g : Node → Node)
    (h : f n = g n) : (s.line.nodes.map fun m => if m.addr == n.addr then f m else m)
      = s.line.nodes.map fun m => if m.addr = n.addr then g m else m := by
  refine List.map_congr_left fun m hm => ?_
  by_cases haddr : m.addr = n.addr
  · rw [if_pos (by simpa using haddr), if_pos haddr, node_unique_of_addr hlaw hm hn haddr, h]
  · rw [if_neg (by simpa using haddr), if_neg haddr]

/-- The list, the queue and the lost frame after an entry is assigned anew (R115, R117). -/
theorem announced_known_line {n : Node} {descs : List Byte} (hl : s.line.tpwr ≠ .off) (hn : n ∈ s.line.nodes)
    (hlaw : nodeLaw s) (hfew : n.state = .assigning → n.missed + (if queued (.poll n.addr) s then 1 else 0) < 3) :
    announced n.serial descs s = assignFrames n.addr n.serial { s with line := { s.line with
      nodes := s.line.nodes.map (fun m => if m.addr = n.addr then { m with
        state := .assigning
        missed := (if n.state = .assigning then m.missed else 0) + (if queued (.poll n.addr) s then 1 else 0) } else m) } } := by
  have hnode := nodeAt_of_mem hn hlaw
  rw [announced_of_known hn hlaw]
  by_cases hstate : n.state = .assigning
  · rw [if_pos hstate, assign_eq hl hnode (fun hq => by have := hfew hstate; rw [if_pos hq] at this; omega)]
    refine congrArg (assignFrames n.addr n.serial) (congrArg (fun l => { s with line := { s.line with nodes := l } }) ?_)
    refine nodes_of_announced hn hlaw _ ?_
    rw [if_pos hstate]
    cases queued (.poll n.addr) s with
    | true => simp [missedOnce, hstate]
    | false => simp [missedOnce, ← hstate]
  · obtain ⟨v, hv⟩ : ∃ v, v = setNode n.addr (fun m => { m with state := .assigning, missed := 0 }) s := ⟨_, rfl⟩
    have hnode' : nodeAt v n.addr = some { n with state := .assigning, missed := 0 } := by
      rw [hv]
      exact nodeAt_setNode (f := fun m => { m with state := .assigning, missed := 0 }) (fun _ => rfl) hnode
    have hqueued : queued (.poll n.addr) v = queued (.poll n.addr) s := by
      rw [hv]
      rfl
    have hset : setNode n.addr (missedOnce (queued (.poll n.addr) s)) v
        = setNode n.addr (fun m => missedOnce (queued (.poll n.addr) s) { m with state := .assigning, missed := 0 }) s := by
      rw [hv]
      exact setNode_setNode n.addr (fun m => { m with state := .assigning, missed := 0 }) _ (fun _ => rfl) s
    rw [if_neg hstate, ← hv, assign_eq (by rw [hv]; exact hl) hnode' (fun _ => Nat.zero_lt_two), hqueued, hset]
    refine congrArg (assignFrames n.addr n.serial) (congrArg (fun l => { s with line := { s.line with nodes := l } }) ?_)
    refine nodes_of_announced hn hlaw _ ?_
    rw [if_neg hstate]
    cases queued (.poll n.addr) s <;> rfl

theorem exec_announce {x : Addr} {serial : Serial} {descs : List Byte} (hp : s.pack.power = .active) :
    exec (.announce x serial descs) s = .next (conclude (takeAnnounce x serial descs s)) :=
  event_of_powered _ s (powered_of_active hp)

/-- A new serial's entry, and what else an ANNOUNCE leaves (R115). -/
theorem exec_announce_new {x : Addr} {serial : Serial} {descs : List Byte} (hp : s.pack.power = .active)
    (hl : s.line.tpwr ≠ .off) (hr : s.line.resetting = none) (h1 : 1 ≤ descs.length) (h4 : descs.length ≤ 4)
    (hsig : s.signals = []) (hserial : ∀ n ∈ s.line.nodes, n.serial ≠ serial) (hroom : s.line.nodes.length < 4)
    (hx1 : 1 ≤ x.toNat) (hx4 : x.toNat ≤ 4)
    (hlowest : ∀ b : Addr, (b = x ∨ (1 ≤ b.toNat ∧ b.toNat < x.toNat)) →
      (b = x ↔ (∀ n ∈ s.line.nodes, n.addr ≠ b) ∧ (∀ q ∈ s.line.quarantine, q.addr ≠ b)))
    (hq : queued (.poll x) s = false) :
    ∃ t n, exec (.announce 15 serial descs) s = .next t ∧ nodeAt t x = some n ∧ n = newNode x serial descs
      ∧ .assign x serial ∈ t.line.queue ∧ .poll x ∈ t.line.queue
      ∧ t.line.nodes.length = s.line.nodes.length + 1 ∧ t.tools = s.tools ∧ t.arb = s.arb
      ∧ t.line.nodes.filter (fun m => m.addr != x) = s.line.nodes ∧ (nodeLaw s → nodeLaw t) := by
  obtain ⟨hnew, hquarantine⟩ := (hlowest x (.inl rfl)).mp rfl
  have hfree : freeAddr s.line = some x := by
    refine freeAddr_of_lowest hx1 hx4 ((addrFree_iff _ _).mpr ⟨hnew, hquarantine⟩) fun b hb hlt => ?_
    refine Bool.eq_false_iff.mpr fun hc => ?_
    have heq := (hlowest b (.inr ⟨hb, hlt⟩)).mpr ((addrFree_iff _ _).mp hc)
    rw [heq] at hlt
    omega
  obtain ⟨w, hw⟩ : ∃ w : State, w = assignFrames x serial { frameHeard s with line := { (frameHeard s).line with
    nodes := insertNode (newNode x serial descs) s.line.nodes } } := ⟨_, rfl⟩
  have htaken : takeAnnounce 15 serial descs s = w := by
    rw [takeAnnounce_of_taken (lineUp_of_up hp hl hr) h1 h4, hw]
    exact announced_of_free (s := frameHeard s) hl hserial hroom hfree hnew hq
  have hexec := exec_announce (x := 15) (serial := serial) (descs := descs) hp
  rw [htaken] at hexec
  have hquiet : w.signals = [] := by
    rw [hw]
    exact hsig
  have hline := conclude_line_quiet hquiet
  have hnodes : (conclude w).line.nodes = insertNode (newNode x serial descs) s.line.nodes := by rw [hline, hw]; rfl
  have hqueue : (conclude w).line.queue = s.line.queue.filter (fun g => !(g.sameSlot (.assign x serial) || g.sameSlot (.poll x)))
      ++ [.assign x serial, .poll x] := by rw [hline, hw]; rfl
  refine ⟨_, _, hexec, ?_, rfl, ?_, ?_, ?_, ?_, ?_, ?_, fun hlaw => (keeps_of_exec _ hexec).laws .node (by decide) hlaw⟩
  · rw [nodeAt, hnodes]
    exact insertNode_find (n := newNode x serial descs) hnew
  · rw [hqueue]
    simp
  · rw [hqueue]
    simp
  · rw [hnodes, insertNode_length]
  · rw [conclude_tools, hw]
    rfl
  · rw [conclude_of_no_signals hquiet, finish_arb, hw]
    rfl
  · rw [hnodes]
    exact insertNode_others (n := newNode x serial descs) hnew

/-- Settles O26: an ANNOUNCE of a new serial, of a known one, with no room, and one that is not taken. -/
theorem anAnnounceIsAssigned : Obligations.AnAnnounceIsAssigned := by
  intro x serial descs s hp hl hr
  have hup := lineUp_of_up hp hl hr
  refine ⟨fun h1 h4 hsig hserial hroom hx1 hx4 hlowest hq => ?_, fun hserial hfull h1 h4 => ?_,
    fun n hn hserial hlaw h1 h4 => ?_, fun hserial h1 h4 hall => ?_, fun h => ?_⟩
  · exact exec_announce_new hp hl hr h1 h4 hsig hserial hroom hx1 hx4 hlowest hq
  · have hannounced : announced serial descs (frameHeard s) = frameHeard s :=
      (announced_of_new (s := frameHeard s) hserial).trans (if_pos hfull)
    rw [exec_announce hp, takeAnnounce_of_taken hup h1 h4, hannounced]
    rfl
  · subst hserial
    intro missed again hfew
    have hannounced := announced_known_line (s := frameHeard s) (descs := descs) hl hn hlaw hfew
    rw [exec_announce hp, takeAnnounce_of_taken hup h1 h4, hannounced]
    rfl
  · have hfree : freeAddr s.line = none := by
      refine List.find?_eq_none.mpr fun b hb hc => ?_
      have hrange : 1 ≤ b.toNat ∧ b.toNat ≤ 4 := by
        simp only [List.mem_cons, List.not_mem_nil, or_false] at hb
        rcases hb with rfl | rfl | rfl | rfl <;> decide
      obtain ⟨hnodes, hquarantine⟩ := (addrFree_iff _ _).mp hc
      rcases hall b hrange.1 hrange.2 with ⟨n, hn, haddr⟩ | ⟨q, hq, haddr⟩
      · exact hnodes n hn haddr
      · exact hquarantine q hq haddr
    have hannounced : announced serial descs (frameHeard s) = frameHeard s := by
      rw [announced_of_new (s := frameHeard s) hserial]
      have hfree' : freeAddr (frameHeard s).line = none := hfree
      rw [hfree', Option.elim_none, ite_self]
    rw [exec_announce hp, takeAnnounce_of_taken hup h1 h4, hannounced]
    rfl
  · rw [exec_announce hp, takeAnnounce_of_discarded hup h]
    rfl

end Sys2Proof.Machine
end

section
namespace Sys2Proof.Machine

variable {s t u : State} {a : Arb} {sl : Slot}

/-! ## Entries and polls through the hand-overs -/

/-- A property of the list that the discarding of its pending caps leaves standing, the hand-overs leave standing. -/
theorem handLaw_nodes {p : List Node → Prop} (hp : ∀ l, p l → p (l.map fun n => { n with pending := none })) :
    HandLaw fun l => p l.nodes where
  caps l s h := by
    obtain ⟨q, w, hq⟩ := queueCaps_writes l s
    rw [hq]
    exact h
  brush _ _ h := h
  level _ _ h := hp _ h

/-- No POLL for an address is due. -/
def noPoll (x : Addr) (l : ToolLine) : Prop := .poll x ∉ l.queue ∧ l.lost ≠ some (.poll x)

theorem noPoll_putFrame {x y : Addr} {b : CapBody} {n : Option Byte} (h : noPoll x s.line) :
    noPoll x (putFrame (.cap y b n) s).line := by
  obtain ⟨hqueue, hlost⟩ := h
  unfold putFrame
  split
  · exact ⟨hqueue, hlost⟩
  · refine ⟨fun hmem => ?_, fun hsome => ?_⟩
    · rcases List.mem_append.mp hmem with hin | hin
      · exact hqueue (List.mem_filter.mp hin).1
      · simp at hin
    · split at hsome
      · exact nomatch hsome
      · exact hlost hsome

theorem noPoll_queueCaps (x : Addr) (l : List Addr) (s : State) (h : noPoll x s.line) : noPoll x (queueCaps l s).line := by
  have hone (y : Addr) (u : State) (hu : noPoll x u.line) : noPoll x (queueCap y u).line := by
    unfold queueCap
    split
    · exact noPoll_putFrame hu
    · exact hu
  unfold queueCaps
  induction l generalizing s with
  | nil => exact h
  | cons y l ih => exact ih _ (hone y s h)

theorem handLaw_noPoll (x : Addr) : HandLaw (noPoll x) where
  caps l s h := noPoll_queueCaps x l s h
  brush _ _ h := h
  level s l h := by
    obtain ⟨hqueue, hlost⟩ := h
    refine ⟨fun hmem => hqueue (List.mem_filter.mp hmem).1, fun hsome => hlost ?_⟩
    have hfiltered : s.line.lost.filter (fun f => f.rank != 1) = some (.poll x) := hsome
    exact (Option.filter_eq_some_iff.mp hfiltered).1

/-! ## A node that leaves (R117, R118) -/

theorem noPoll_refreshTools (x : Addr) (h : noPoll x s.line) : noPoll x (refreshTools s).line := by
  have hmembers (u : State) (hu : noPoll x u.line) : noPoll x (deriveMembers u).line :=
    line_ite hu (line_askRecompute (noPoll_queueCaps x _ _ hu))
  have hfloor (u : State) (hu : noPoll x u.line) : noPoll x (deriveFloor u).line := line_ite hu hu
  have hclaims (u : State) (hu : noPoll x u.line) : noPoll x (deliverClaims u).line := line_ite hu (line_askRecompute hu)
  exact hclaims _ (hfloor _ (hmembers _ h))

theorem noPoll_entryRemoved (x : Addr) (s : State) : noPoll x (entryRemoved x s).line := by
  refine ⟨fun hmem => ?_, fun hsome => ?_⟩
  · have hkept := (List.mem_filter.mp hmem).2
    simp [TxFrame.addr] at hkept
  · have hfiltered : s.line.lost.filter (fun f => f.addr != x) = some (.poll x) := hsome
    have hkept := (Option.filter_eq_some_iff.mp hfiltered).2
    simp [TxFrame.addr] at hkept

theorem noPoll_toolDeparted (x y : Addr) (h : noPoll x s.line) : noPoll x (toolDeparted y s).line := by
  have hnozzle (u : State) (hu : noPoll x u.line) : noPoll x (deriveNozzle u).line := line_ite hu hu
  exact noPoll_refreshTools x (hnozzle _ (line_askRecompute h))

/-- A node that leaves: its entry, its frames, its quarantine, and TOOL_DETACH where it was a tool. -/
theorem nodeGone_facts {x : Addr} {n : Node} (h : nodeAt s x = some n) : let t := nodeGone false x s
    nodeAt t x = none ∧ (⟨x, 250⟩ : Quarantined) ∈ t.line.quarantine ∧ noPoll x t.line
      ∧ (n.completed = true → hasEvent .toolDetach t = true)
      ∧ t.tools.slots = s.tools.slots ∧ t.tools.miss = s.tools.miss := by
  have hkept := nodeGone_lineAndRecords (quiet := false) h
  have hgone := noPoll_entryRemoved x s
  have hdeparted := noPoll_toolDeparted x x hgone
  refine ⟨?_, ?_, ?_, nodeGone_detaches h, (congrArg (·.2.slots) hkept :), (congrArg (·.2.miss) hkept :)⟩
  · rw [nodeAt, nodeGone_nodes, List.find?_eq_none]
    intro m hm
    have haddr := (List.mem_filter.mp hm).2
    simpa using haddr
  · have hquarantine : (nodeGone false x s).line.quarantine = s.line.quarantine ++ [⟨x, 250⟩] :=
      (congrArg (·.1.quarantine) hkept :)
    rw [hquarantine]
    simp
  · rw [nodeGone_eq, h]
    dsimp only
    split
    · refine line_of_eq (raiseIf_line _ _ _) ?_
      split
      · exact hdeparted
      · exact hdeparted
    · exact hgone

/-- What a node's departure left stands at the event's end. -/
theorem conclude_gone {x : Addr} {n : Node} (h : nodeAt s x = some n) : let t := conclude (nodeGone false x s)
    nodeAt t x = none ∧ (⟨x, 250⟩ : Quarantined) ∈ t.line.quarantine ∧ noPoll x t.line
      ∧ (n.completed = true → hasEvent .toolDetach t = true)
      ∧ t.tools.slots = s.tools.slots ∧ t.tools.miss = s.tools.miss := by
  obtain ⟨hnone, hquarantine, hpoll, hevent, hslots, hmiss⟩ := nodeGone_facts h
  obtain ⟨-, -, -, -, -, hquarantine', -⟩ := conclude_wire (nodeGone false x s)
  have hclear (l : List Node) (hl : l.find? (·.addr == x) = none) :
      (l.map fun n => { n with pending := none }).find? (·.addr == x) = none := by
    rw [List.find?_map]
    exact Option.map_eq_none_iff.mpr hl
  dsimp only
  rw [hquarantine', conclude_tools]
  exact ⟨(handLaw_nodes (p := fun l => l.find? (·.addr == x) = none) hclear).conclude hnone, hquarantine,
    (handLaw_noPoll x).conclude hpoll, fun hc => conclude_keeps _ _ (hevent hc), hslots, hmiss⟩

/-! ## The windows and the timers of the line (R111, R117, R118, R124) -/

theorem exec_replyWindowClose (hs : s.powered) : exec .replyWindowClose s = .next (conclude (windowClosed s)) :=
  event_of_powered windowClosed s hs

/-- The state with the reply window closed. -/
def awaitEnded (s : State) : State := { s with line := { s.line with await := none } }

theorem windowClosed_of_none (h : s.line.await = none) : windowClosed s = s := by
  unfold windowClosed
  dsimp only
  rw [h]

theorem windowClosed_of_cap {x : Addr} (h : s.line.await = some (.cap x)) : windowClosed s = requeueCap x (awaitEnded s) := by
  unfold windowClosed
  dsimp only
  rw [h]
  rfl

theorem windowClosed_of_poll {x : Addr} (h : s.line.await = some (.poll x)) : windowClosed s = pollMissed x (awaitEnded s) := by
  unfold windowClosed
  dsimp only
  rw [h]
  rfl

theorem requeueCap_of_pending {x : Addr} {n : Node} {c : Cap} (h : nodeAt s x = some n) (hc : n.pending = some c) :
    requeueCap x s = if queued (.cap x c.body none) s then s else putFrame (.cap x c.body (some c.seq)) s := by
  have hbind : (nodeAt s x).bind (·.pending) = some c := by
    rw [h]
    exact hc
  unfold requeueCap
  rw [hbind]
  rfl

/-- A frame of a kind and address that is not due is put at the queue's end. -/
theorem putFrame_of_absent {f g : TxFrame} (hl : s.line.tpwr ≠ .off) (hsame : ∀ x : TxFrame, x.sameSlot f = x.sameSlot g)
    (h : queued g s = false) : putFrame f s = { s with line := { s.line with queue := s.line.queue ++ [f] } } := by
  obtain ⟨hqueue, hlost⟩ := Bool.or_eq_false_iff.mp h
  have hfilter : s.line.queue.filter (fun x => !x.sameSlot f) = s.line.queue := by
    rw [List.filter_eq_self]
    intro x hx
    have hno := List.any_eq_false.mp hqueue x hx
    simpa [hsame] using hno
  have hlost' : s.line.lost.filter (fun x => !x.sameSlot f) = s.line.lost := by
    cases hsome : s.line.lost with
    | none => rfl
    | some x =>
      rw [hsome] at hlost
      have hno : x.sameSlot g = false := by simpa using hlost
      simp [Option.filter, hsame, hno]
  rw [putFrame_of_up f hl, hfilter, hlost']

theorem pollMissed_of_third {x : Addr} {n : Node} (h : nodeAt s x = some n) (hmany : 2 ≤ n.missed) :
    pollMissed x s = nodeGone false x s := by
  unfold pollMissed
  rw [h]
  exact if_pos (by omega)

/-- The state with a poll timer restarted. -/
def pollRestarted (x : Addr) (s : State) : State := setNode x (fun n => { n with poll := 40 }) s

theorem pollDue_of_node {x : Addr} {n : Node} (h : nodeAt s x = some n) : pollDue x s = queuePoll x (pollRestarted x s) :=
  if_pos (by rw [h]; rfl)

theorem nodeAt_pollRestarted {x : Addr} {n : Node} (h : nodeAt s x = some n) :
    nodeAt (pollRestarted x s) x = some { n with poll := 40 } :=
  nodeAt_setNode (f := fun n => { n with poll := 40 }) (fun _ => rfl) h

theorem queuePoll_of_third {x : Addr} {n : Node} (h : nodeAt s x = some n) (hq : queued (.poll x) s = true)
    (hmany : 2 ≤ n.missed) : queuePoll x s = nodeGone false x s := by
  have hnone : (nodeAt (nodeGone false x s) x).isSome = false := by
    rw [(nodeGone_facts h).1]
    rfl
  unfold queuePoll
  rw [if_pos hq, pollMissed_of_third h hmany]
  exact if_neg (by rw [hnone]; decide)

/-- Settles O29: the close of a reply window, the expiry of a poll timer, and the end of a quarantine. -/
theorem theLineTimersAct : Obligations.TheLineTimersAct := by
  intro x n s hs
  refine ⟨fun h => ?_, fun c hn hw hc => ⟨fun hq => ?_, fun hq hl => ?_⟩, fun hn hw hfew => ?_, fun hn hw hmany => ?_,
    fun hn hl hq => ⟨fun hfew => ?_, fun hmany => ?_⟩, fun hn hl hq => ?_, event_of_powered (quarantineOver x) s hs⟩
  · rw [exec_replyWindowClose hs, windowClosed_of_none h]
  · rw [exec_replyWindowClose hs, windowClosed_of_cap hw, requeueCap_of_pending (s := awaitEnded s) hn hc]
    exact congrArg (fun v => Host.Outcome.next (conclude v)) (if_pos hq)
  · have hput := putFrame_of_absent (s := awaitEnded s) (f := .cap x c.body (some c.seq)) hl (fun _ => rfl) hq
    rw [exec_replyWindowClose hs, windowClosed_of_cap hw, requeueCap_of_pending (s := awaitEnded s) hn hc]
    have hqueued : ¬ queued (.cap x c.body none) (awaitEnded s) = true := by
      rw [show queued (.cap x c.body none) (awaitEnded s) = false from hq]
      decide
    exact congrArg (fun v => Host.Outcome.next (conclude v)) ((if_neg hqueued).trans hput)
  · rw [exec_replyWindowClose hs, windowClosed_of_poll hw, pollMissed_of_few (s := awaitEnded s) hn hfew]
    rfl
  · obtain ⟨hnone, hquarantine, -, hrest⟩ := conclude_gone (s := awaitEnded s) hn
    refine ⟨_, ?_, hnone, hquarantine, hrest⟩
    rw [exec_replyWindowClose hs, windowClosed_of_poll hw, pollMissed_of_third (s := awaitEnded s) hn hmany]
  · have hnode := nodeAt_pollRestarted hn
    have hdue : pollDue x s = putFrame (.poll x) (setNode x (missedOnce true) (pollRestarted x s)) := by
      rw [pollDue_of_node hn, queuePoll_eq hnode (fun _ => hfew)]
      exact congrArg (fun b => putFrame (.poll x) (setNode x (missedOnce b) (pollRestarted x s))) hq
    have hset : setNode x (missedOnce true) (pollRestarted x s) = setNode x (fun m => { m with
        poll := 40, missed := m.missed + 1, state := if m.state = .assigning then .assigning else .silent }) s :=
      setNode_setNode x (fun n => { n with poll := 40 }) (missedOnce true) (fun _ => rfl) s
    have hexec := event_of_powered (pollDue x) s hs
    rw [hdue, hset] at hexec
    exact hexec.trans (congrArg (fun v => Host.Outcome.next (conclude v)) (putFrame_of_up (.poll x) hl))
  · obtain ⟨hnone, hquarantine, ⟨hpoll, hlost⟩, hrest⟩ := conclude_gone (s := pollRestarted x s) (nodeAt_pollRestarted hn)
    have hdue : pollDue x s = nodeGone false x (pollRestarted x s) := by
      rw [pollDue_of_node hn, queuePoll_of_third (nodeAt_pollRestarted hn) hq hmany]
    have hexec := event_of_powered (pollDue x) s hs
    rw [hdue] at hexec
    exact ⟨_, hexec, hnone, hquarantine, hpoll, hlost, hrest⟩
  · have hnode := nodeAt_pollRestarted hn
    have hqueued : queued (.poll x) (pollRestarted x s) = false := hq
    have hdue : pollDue x s = putFrame (.poll x) (setNode x (missedOnce false) (pollRestarted x s)) := by
      rw [pollDue_of_node hn, queuePoll_eq hnode (fun hc => nomatch hqueued.symm.trans hc), hqueued]
    have hset : setNode x (missedOnce false) (pollRestarted x s) = pollRestarted x s := setNode_self x _
    have hlost : s.line.lost.filter (fun g => !g.sameSlot (.poll x)) = s.line.lost := by
      have hput := putFrame_of_absent (s := s) (f := .poll x) hl (fun _ => rfl) hq
      rw [putFrame_of_up (.poll x) hl] at hput
      exact (congrArg (·.line.lost) hput :)
    have hexec := event_of_powered (pollDue x) s hs
    rw [hdue, hset, putFrame_of_up (s := pollRestarted x s) (.poll x) hl] at hexec
    refine hexec.trans ?_
    change Host.Outcome.next (conclude { pollRestarted x s with line := { (pollRestarted x s).line with
      queue := s.line.queue.filter (fun g => !g.sameSlot (.poll x)) ++ [.poll x]
      lost := s.line.lost.filter (fun g => !g.sameSlot (.poll x)) } }) = _
    rw [hlost]
    rfl

end Sys2Proof.Machine
end

section
namespace Sys2Proof.Machine

variable {s t u : State} {a : Arb} {sl : Slot}

/-! ## An entry at the event's end -/

/-- What holds of an entry whatever cap is pending, holds of it at the event's end. -/
theorem conclude_nodeAt {x : Addr} {n : Node} {q : Node → Prop} (hq : ∀ m, q m → q { m with pending := none })
    (h : nodeAt s x = some n) (hn : q n) : ∃ m, nodeAt (conclude s) x = some m ∧ q m := by
  have hclear (l : List Node) (hl : ∃ m, l.find? (·.addr == x) = some m ∧ q m) :
      ∃ m, (l.map fun n => { n with pending := none }).find? (·.addr == x) = some m ∧ q m := by
    obtain ⟨m, hm, hqm⟩ := hl
    refine ⟨{ m with pending := none }, ?_, hq m hqm⟩
    rw [List.find?_map]
    exact Option.map_eq_some_iff.mpr ⟨m, hm, rfl⟩
  exact (handLaw_nodes (p := fun l => ∃ m, l.find? (·.addr == x) = some m ∧ q m) hclear).conclude ⟨n, h, hn⟩

theorem nodeAt_of_line {x : Addr} (h : t.line.nodes = s.line.nodes) : nodeAt t x = nodeAt s x := by
  rw [nodeAt, h, nodeAt]

theorem refreshTools_nodes (s : State) : (refreshTools s).line.nodes = s.line.nodes :=
  (congrArg (·.1.nodes) (refreshTools_lineAndRecords s) :)

/-! ## ACK (R124) -/

theorem exec_ack {x : Addr} {seq limit : Byte} (hp : s.pack.power = .active) :
    exec (.ack x seq limit) s = .next (conclude (takeAck x seq limit s)) := event_of_powered _ s (powered_of_active hp)

theorem takeAck_of_other {x : Addr} {seq limit : Byte} (hup : lineUp s = true)
    (h : s.line.await ≠ some (.cap x) ∨ 6 < s.line.idle ∨ ∃ n c, nodeAt s x = some n ∧ n.pending = some c ∧ c.seq ≠ seq) :
    takeAck x seq limit s = windowClosed (frameHeard s) := by
  unfold takeAck
  rw [if_pos hup]
  split
  · rename_i hw
    rcases h with h | h | ⟨n, c, hn, hc, hne⟩
    · exact absurd hw.1 h
    · omega
    · have hpending : (nodeAt s x).bind (·.pending) = some c := by
        rw [hn]
        exact hc
      rw [hpending]
      exact if_neg hne
  · rfl

/-- The state in which an ACK is compared: its window closed, the idle count restarted, the limit stored. -/
def ackStored (x : Addr) (limit : Byte) (s : State) : State :=
  setNode x (fun n => { n with ackLimit := limit.toNat }) (frameHeard (awaitEnded s))

theorem ackTaken_eq (x : Addr) (c : Cap) (limit : Byte) (s : State) : ackTaken x c limit s
    = if limit.toNat ≤ c.body.limit then
        if queued (.cap x c.body none) s then setNode x (fun n => { n with pending := none }) (ackStored x limit s)
        else reportAck x (setNode x (fun n => { n with pending := none }) (ackStored x limit s))
      else requeueCap x (ackStored x limit s) := rfl

theorem reportAck_line (x : Addr) (s : State) : (reportAck x s).line = s.line := by
  rw [reportAck_eq]
  split
  · exact askRecompute_line _
  · rfl

/-- A cap queued again changes what is due alone. -/
theorem requeueCap_writes (x : Addr) (s : State) :
    ∃ q w, requeueCap x s = { s with line := { s.line with queue := q, lost := w } } := by
  unfold requeueCap
  split
  · dsimp only
    split
    · exact ⟨s.line.queue, s.line.lost, rfl⟩
    · exact putFrame_writes _ s
  · exact ⟨s.line.queue, s.line.lost, rfl⟩

/-- The entry, the window and the table after an ACK of the pending cap. -/
theorem ackTaken_facts {x : Addr} {c : Cap} {n : Node} (limit : Byte) (h : nodeAt s x = some n) (hc : n.pending = some c) :
    let t := ackTaken x c limit s
    (∃ m, nodeAt t x = some m ∧ m.ackLimit = limit.toNat ∧ (limit.toNat ≤ c.body.limit → m.pending = none)
        ∧ (c.body.limit < limit.toNat → m.pending = some c))
      ∧ t.line.await = none
      ∧ (c.body.limit < limit.toNat ∨ queued (.cap x c.body none) s = true → t.arb = s.arb ∧ t.signals = s.signals) := by
  have hstored : nodeAt (ackStored x limit s) x = some { n with ackLimit := limit.toNat } :=
    nodeAt_setNode (s := frameHeard (awaitEnded s)) (f := fun n => { n with ackLimit := limit.toNat }) (fun _ => rfl) h
  have hcleared := nodeAt_setNode (f := fun n => { n with pending := none }) (fun _ => rfl) hstored
  dsimp only
  rw [ackTaken_eq]
  by_cases hle : limit.toNat ≤ c.body.limit
  · have hno (h' : c.body.limit < limit.toNat) : False := by omega
    rw [if_pos hle]
    split
    · exact ⟨⟨_, hcleared, rfl, fun _ => rfl, fun h' => (hno h').elim⟩, rfl, fun _ => ⟨rfl, rfl⟩⟩
    · rename_i hq
      have hline := reportAck_line x (setNode x (fun n => { n with pending := none }) (ackStored x limit s))
      refine ⟨⟨_, (nodeAt_of_line (congrArg ToolLine.nodes hline)).trans hcleared, rfl, fun _ => rfl, fun h' => (hno h').elim⟩,
        (congrArg ToolLine.await hline).trans rfl, fun h' => ?_⟩
      rcases h' with h' | h'
      · exact (hno h').elim
      · exact absurd h' hq
  · obtain ⟨q, w, hrequeued⟩ := requeueCap_writes x (ackStored x limit s)
    rw [if_neg hle, hrequeued]
    exact ⟨⟨_, hstored, rfl, fun h' => absurd h' hle, fun _ => hc⟩, rfl, fun _ => ⟨rfl, rfl⟩⟩

/-- An ACK of the pending cap, to the event's end. -/
theorem exec_ack_of_window {x : Addr} {seq limit : Byte} {n : Node} {c : Cap} (hp : s.pack.power = .active)
    (hl : s.line.tpwr ≠ .off) (hr : s.line.resetting = none) (hn : nodeAt s x = some n) (hc : n.pending = some c)
    (hw : s.line.await = some (.cap x)) (hi : s.line.idle ≤ 6) (hseq : c.seq = seq) :
    ∃ t m, exec (.ack x seq limit) s = .next t ∧ nodeAt t x = some m
      ∧ m.ackLimit = limit.toNat ∧ t.line.await = none
      ∧ (limit.toNat ≤ c.body.limit → m.pending = none
          ∧ (queued (.cap x c.body none) s = true → s.signals = [] → t.arb = s.arb))
      ∧ (c.body.limit < limit.toNat → s.signals = [] → m.pending = some c ∧ t.arb = s.arb) := by
  obtain ⟨⟨k, hk, hlimit, hnone, hkept⟩, hawait, hsame⟩ := ackTaken_facts limit hn hc
  have hexec := exec_ack (x := x) (seq := seq) (limit := limit) hp
  rw [takeAck_of_window hp hl hr hn hc hw hi hseq] at hexec
  obtain ⟨m, hm, hlimit', hnone'⟩ := conclude_nodeAt
    (q := fun m => m.ackLimit = limit.toNat ∧ (limit.toNat ≤ c.body.limit → m.pending = none))
    (fun m hm => ⟨hm.1, fun _ => rfl⟩) hk ⟨hlimit, hnone⟩
  obtain ⟨-, -, -, -, -, -, hawait'⟩ := conclude_wire (ackTaken x c limit s)
  have hquiet (h : c.body.limit < limit.toNat ∨ queued (.cap x c.body none) s = true) (hsig : s.signals = []) :
      (conclude (ackTaken x c limit s)).arb = s.arb ∧ nodeAt (conclude (ackTaken x c limit s)) x = some k := by
    obtain ⟨harb, hsignals⟩ := hsame h
    rw [hsig] at hsignals
    refine ⟨?_, (nodeAt_of_line (congrArg ToolLine.nodes (conclude_line_quiet hsignals))).trans hk⟩
    rw [conclude_of_no_signals hsignals, finish_arb, harb]
  refine ⟨_, m, hexec, hm, hlimit', hawait'.trans hawait, fun hle => ⟨hnone' hle, fun hq hsig => (hquiet (.inr hq) hsig).1⟩,
    fun hlt hsig => ?_⟩
  obtain ⟨harb, hnode⟩ := hquiet (.inl hlt) hsig
  obtain rfl := Option.some.inj (hm.symm.trans hnode)
  exact ⟨hkept hlt, harb⟩

/-! ## NOTICE (R120) -/

theorem exec_notice {x : Addr} {jam : Bool} {floor : BitVec 2} (hp : s.pack.power = .active) :
    exec (.notice x jam floor) s = .next (conclude (takeNotice x jam (floorClass floor) s)) :=
  event_of_powered _ s (powered_of_active hp)

/-- A NOTICE of an entry that is not being assigned is taken. -/
theorem takeNotice_of_node {x : Addr} {n : Node} (jam : Bool) (floor : FloorClass) (hup : lineUp s = true)
    (h : nodeAt s x = some n) : takeNotice x jam floor s
      = if n.state = .assigning then frameHeard s else noticeTaken n jam floor (frameHeard s) := by
  unfold takeNotice
  rw [if_pos hup, h]

/-- The entry after a NOTICE, and its event. -/
theorem noticeTaken_facts {x : Addr} {n : Node} (jam : Bool) (floor : FloorClass) (h : nodeAt s x = some n) :
    let t := noticeTaken n jam floor s
    nodeAt t x = some { n with floor := floor, jam := n.jam || (jam && declaresBrush s n) }
      ∧ (jam = true → declaresBrush s n = true → n.jam = false → hasEvent .brushJam t = true) := by
  obtain ⟨-, rfl⟩ := mem_of_nodeAt h
  have hset := nodeAt_setNode (f := fun m => { m with floor := floor, jam := m.jam || (jam && declaresBrush s n) })
    (fun _ => rfl) h
  refine ⟨?_, fun hj hb hn => refreshTools_keeps _ _ ?_⟩
  · exact (nodeAt_of_line ((refreshTools_nodes _).trans (congrArg ToolLine.nodes (raiseIf_line _ _ _)))).trans hset
  · exact hasEvent_raiseIf .brushJam _ (by rw [hj, hb, hn]; rfl)

/-- Settles O28: an ACK inside its window and any other, and a NOTICE. -/
theorem anAckAndANoticeAreTaken : Obligations.AnAckAndANoticeAreTaken := by
  refine ⟨fun x seq limit n c s hp hl hr => ?_, fun x jam floor n s hp hl hr hn => ⟨fun hstate => ?_, fun hstate => ?_⟩⟩
  · have hother (h : s.line.await ≠ some (.cap x) ∨ 6 < s.line.idle
        ∨ ∃ n c, nodeAt s x = some n ∧ n.pending = some c ∧ c.seq ≠ seq) :
        exec (.ack x seq limit) s = exec .replyWindowClose { s with line := { s.line with idle := 0 } } := by
      rw [exec_ack hp, takeAck_of_other (lineUp_of_up hp hl hr) h,
        exec_replyWindowClose (s := { s with line := { s.line with idle := 0 } }) (powered_of_active hp)]
      rfl
    exact ⟨exec_ack_of_window hp hl hr, fun hn hc hne => hother (.inr (.inr ⟨n, c, hn, hc, hne⟩)),
      fun h => hother (h.imp_right .inl)⟩
  · have hexec := exec_notice (x := x) (jam := jam) (floor := floor) hp
    rw [takeNotice_of_node jam _ (lineUp_of_up hp hl hr) hn, if_neg hstate] at hexec
    obtain ⟨hnode, hevent⟩ := noticeTaken_facts (s := frameHeard s) jam (floorClass floor) hn
    obtain ⟨m, hm, hfields⟩ := conclude_nodeAt (q := fun m => m.floor = floorClass floor
        ∧ m.jam = (n.jam || (jam && declaresBrush s n)) ∧ m.missed = n.missed ∧ m.state = n.state ∧ m.fault = n.fault
        ∧ m.lamp = n.lamp) (fun _ hm => hm) hnode ⟨rfl, rfl, rfl, rfl, rfl, rfl⟩
    obtain ⟨hfloor, hjam, hmissed, hstate', hfault, hlamp⟩ := hfields
    exact ⟨_, m, hexec, hm, hfloor, hjam, hmissed, hstate', hfault, hlamp,
      fun hj hb hc => conclude_keeps _ _ (hevent hj hb hc)⟩
  · rw [exec_notice hp, takeNotice_of_node jam _ (lineUp_of_up hp hl hr) hn, if_pos hstate]
    rfl

end Sys2Proof.Machine
end

section
namespace Sys2Proof.Machine

variable {s t u : State} {a : Arb} {sl : Slot}

/-! ## Hand-overs that ask for a recompute alone -/

/-- Nothing but a recompute is handed on. -/
def asksOnly (s t : State) : Prop := ∀ g ∈ t.signals, g ∈ s.signals ∨ g = .recompute

theorem asksOnly_of_eq (h : t.signals = s.signals) : asksOnly s t := fun g hg => .inl (h ▸ hg)

theorem asksOnly.trans (h : asksOnly s t) (h' : asksOnly t u) : asksOnly s u := fun g hg =>
  (h' g hg).elim (h g) .inr

theorem asksOnly_ite {c : Prop} [Decidable c] (ht : asksOnly s t) (hu : asksOnly s u) : asksOnly s (if c then t else u) := by
  split
  · exact ht
  · exact hu

theorem asksOnly_askRecompute (s : State) : asksOnly s (askRecompute s) := by
  refine asksOnly_ite (asksOnly_of_eq rfl) fun g hg => ?_
  rcases List.mem_append.mp hg with hin | hin
  · exact .inl hin
  · exact .inr (List.mem_singleton.mp hin)

theorem queueCaps_signals (l : List Addr) (s : State) : (queueCaps l s).signals = s.signals := by
  obtain ⟨q, w, hq⟩ := queueCaps_writes l s
  rw [hq]

theorem asksOnly_refreshTools (s : State) : asksOnly s (refreshTools s) := by
  have hmembers (u : State) : asksOnly u (deriveMembers u) := by
    refine asksOnly_ite (asksOnly_of_eq rfl) (asksOnly.trans (asksOnly_of_eq ?_) (asksOnly_askRecompute _))
    exact queueCaps_signals _ _
  have hfloor (u : State) : asksOnly u (deriveFloor u) := asksOnly_ite (asksOnly_of_eq rfl) (asksOnly_of_eq rfl)
  have hclaims (u : State) : asksOnly u (deliverClaims u) :=
    asksOnly_ite (asksOnly_of_eq rfl) (asksOnly_askRecompute { u with arb := claimsEntered u })
  exact (hmembers s).trans ((hfloor _).trans (hclaims _))

theorem tools_ite {c : Prop} [Decidable c] (ht : t.tools = s.tools) (hu : u.tools = s.tools) :
    (if c then t else u).tools = s.tools := by
  split
  · exact ht
  · exact hu

theorem refreshTools_tools (s : State) : (refreshTools s).tools = s.tools := by
  have hasked (u : State) : (askRecompute u).tools = u.tools := tools_ite rfl rfl
  have hmembers (u : State) : (deriveMembers u).tools = u.tools := by
    refine tools_ite rfl ((hasked _).trans ?_)
    obtain ⟨q, w, hq⟩ := queueCaps_writes _ _
    rw [hq]
  have hfloor (u : State) : (deriveFloor u).tools = u.tools := tools_ite rfl rfl
  have hclaims (u : State) : (deliverClaims u).tools = u.tools := tools_ite rfl (hasked _)
  exact (hclaims _).trans ((hfloor _).trans (hmembers s))

/-! ## The fields of a STATUS (R119, R120) -/

theorem appliedRecord_of_slots (h : t.tools.slots = s.tools.slots) (n : Node) : appliedRecord t n = appliedRecord s n := by
  unfold appliedRecord
  rw [h]

theorem declares_of_slots (h : t.tools.slots = s.tools.slots) (n : Node) :
    declaresBrush t n = declaresBrush s n ∧ declaresLamp t n = declaresLamp s n := by
  rw [declaresBrush_eq, declaresBrush_eq, declaresLamp_eq, declaresLamp_eq, appliedRecord_of_slots h n]
  exact ⟨rfl, rfl⟩

/-- An entry with the fields of a STATUS. -/
def Node.reported (f : StatusFields) (brush lamp : Bool) (n : Node) : Node :=
  { n with
    brushMa := some f.brush, floor := f.floor, jam := f.jam && brush, lamp := f.lamp && lamp, fault := f.fault }

theorem storeStatus_of_node {x : Addr} {n : Node} (f : StatusFields) (h : nodeAt s x = some n) : storeStatus x f s
    = raiseIf (f.jam && declaresBrush s n && !n.jam) .brushJam
        (setNode x (Node.reported f (declaresBrush s n) (declaresLamp s n)) s) := by
  unfold storeStatus
  rw [h]
  rfl

theorem deliverBrushMa_line (x : Addr) (b : Nat) (s : State) : (deliverBrushMa x b s).line = s.line
    ∧ (deliverBrushMa x b s).arb = s.arb ∧ (deliverBrushMa x b s).tools = s.tools ∧ (deliverBrushMa x b s).host = s.host := by
  unfold deliverBrushMa
  split <;> exact ⟨rfl, rfl, rfl, rfl⟩

/-- What the fields of a STATUS lead to. -/
theorem takeFields_facts {x : Addr} {n : Node} (f : StatusFields) (h : nodeAt s x = some n) : let t := takeFields x f s
    nodeAt t x = some (n.reported f (declaresBrush s n) (declaresLamp s n))
      ∧ ((f.jam && declaresBrush s n) = true → n.jam = false → hasEvent .brushJam t = true)
      ∧ (∀ i, s.host.events.getLsbD i = true → t.host.events.getLsbD i = true)
      ∧ t.line.await = s.line.await ∧ t.line.tpwr = s.line.tpwr ∧ t.tools = s.tools
      ∧ (x ∈ t.arb.head.members → .update .brushMa (reportNat (some f.brush)) ∈ t.signals)
      ∧ (x ∉ t.arb.head.members → ∀ v, .update .brushMa v ∈ t.signals → .update .brushMa v ∈ s.signals) := by
  obtain ⟨v, hv⟩ : ∃ v, v = storeStatus x f s := ⟨_, rfl⟩
  have hvset := hv.trans (storeStatus_of_node f h)
  have hvline : v.line = (setNode x (Node.reported f (declaresBrush s n) (declaresLamp s n)) s).line := by
    rw [hvset, raiseIf_line]
  have hvtools : v.tools = s.tools := by
    rw [hvset, raiseIf_tools]
    rfl
  have hvsignals : v.signals = s.signals := by
    rw [hvset, raiseIf_signals]
    rfl
  have hvevents (i : Nat) (hi : s.host.events.getLsbD i = true) : v.host.events.getLsbD i = true := by
    rw [hvset]
    exact raiseIf_keeps _ _ _ _ hi
  obtain ⟨w, hw⟩ : ∃ w, w = refreshTools v := ⟨_, rfl⟩
  have hwkept : lineAndRecords w = lineAndRecords v := hw ▸ refreshTools_lineAndRecords v
  have hwtools : w.tools = v.tools := hw ▸ refreshTools_tools v
  have htaken : takeFields x f s = deliverBrushMa x f.brush w := by rw [hw, hv]; rfl
  obtain ⟨hline, harb, htools, hhost⟩ := deliverBrushMa_line x f.brush w
  dsimp only
  rw [htaken, hline, htools, harb, hhost]
  refine ⟨?_, fun hjam hn => ?_, fun i hi => ?_, ?_, ?_, hwtools.trans hvtools, fun hmem => ?_, fun hno u hu => ?_⟩
  · have hset := nodeAt_setNode (f := Node.reported f (declaresBrush s n) (declaresLamp s n)) (fun _ => rfl) h
    refine (nodeAt_of_line ?_).trans hset
    rw [hline]
    have hnodes : w.line.nodes = v.line.nodes := (congrArg (·.1.nodes) hwkept :)
    rw [hnodes, hvline]
  · have hraised : hasEvent .brushJam v = true := by
      rw [hvset]
      exact hasEvent_raiseIf .brushJam _ (by rw [hjam, hn]; rfl)
    have hkept : hasEvent .brushJam w = true := hw ▸ refreshTools_keeps v _ hraised
    rw [hasEvent, hhost]
    exact hkept
  · rw [hw]
    exact refreshTools_keeps v _ (hvevents i hi)
  · have hawait : w.line.await = v.line.await := (congrArg (·.1.await) hwkept :)
    rw [hawait, hvline]
    rfl
  · have htpwr : w.line.tpwr = v.line.tpwr := (congrArg (·.1.tpwr) hwkept :)
    rw [htpwr, hvline]
    rfl
  · have hdeliver : deliverBrushMa x f.brush w = deliver .brushMa (reportNat (some f.brush)) w :=
      if_pos (by simpa using hmem)
    rw [hdeliver]
    exact List.mem_append_right _ (List.mem_singleton.mpr rfl)
  · have hdeliver : deliverBrushMa x f.brush w = w := if_neg (by simpa using hno)
    rw [hdeliver, hw] at hu
    rcases asksOnly_refreshTools v _ hu with hin | heq
    · rw [← hvsignals]
      exact hin
    · exact nomatch heq

/-! ## The lookup at a first completion (R130, R131) -/

theorem find_some {tt : ToolTable} {serial : Serial} {i : Fin 8} (h : tt.find serial = some i) :
    ∃ r, tt.slots[i] = some r ∧ r.serial = serial := by
  have hholds : tt.holds serial i = true := List.find?_some h
  unfold ToolTable.holds at hholds
  cases hr : tt.slots[i] with
  | none =>
    rw [hr] at hholds
    exact nomatch hholds
  | some r =>
    rw [hr] at hholds
    exact ⟨r, rfl, by simpa using hholds⟩

theorem lookupRecord_of_found {x : Addr} {serial : Serial} {i : Fin 8} {r : ToolRecord} (h : s.tools.find serial = some i)
    (hr : s.tools.slots[i] = some r) : lookupRecord x serial s
      = applySlot x i r { s with tools := { s.tools with order := touch i s.tools.order } } := by
  unfold lookupRecord
  rw [h]
  dsimp only
  rw [hr]

theorem lookupRecord_of_missed {x : Addr} {serial : Serial} (h : s.tools.find serial = none) :
    lookupRecord x serial s = recordMiss serial (applyDefault x s) := by
  unfold lookupRecord
  rw [h]

/-- The record an entry of a serial is given: its table record, or a default record. -/
def givenApplied (tt : ToolTable) (n : Node) : Applied × Bool :=
  match tt.find n.serial with
  | some i => (.slot i, (tt.slots[i]).any fun r => kindMismatch r n.descs)
  | none => (.default (defaultRecord n.serial n.descs), false)

/-- The entry and the record table after the lookup. -/
theorem lookupRecord_facts {x : Addr} {n : Node} (h : nodeAt s x = some n) : let t := lookupRecord x n.serial s
    nodeAt t x = some { n with applied := (givenApplied s.tools n).1, mismatch := (givenApplied s.tools n).2 }
      ∧ t.tools.slots = s.tools.slots ∧ t.signals = s.signals ∧ t.line.await = s.line.await ∧ t.line.tpwr = s.line.tpwr
      ∧ (∀ i, s.tools.find n.serial = some i → t.tools.order = touch i s.tools.order ∧ t.tools.miss = s.tools.miss)
      ∧ (s.tools.find n.serial = none → t.tools.order = s.tools.order ∧ t.tools.miss = addMiss n.serial s.tools.miss
          ∧ hasEvent .toolMiss t = true) := by
  dsimp only
  cases hfind : s.tools.find n.serial with
  | some i =>
    obtain ⟨r, hr, -⟩ := find_some hfind
    rw [lookupRecord_of_found hfind hr]
    refine ⟨?_, rfl, rfl, rfl, rfl, fun j hj => ?_, nofun⟩
    · have hgiven : givenApplied s.tools n = (.slot i, kindMismatch r n.descs) := by
        unfold givenApplied
        rw [hfind]
        dsimp only
        rw [hr]
        rfl
      rw [hgiven]
      exact nodeAt_setNode (s := { s with tools := { s.tools with order := touch i s.tools.order } })
        (f := fun n => { n with applied := .slot i, mismatch := kindMismatch r n.descs }) (fun _ => rfl) h
    · obtain rfl := Option.some.inj hj
      exact ⟨rfl, rfl⟩
  | none =>
    rw [lookupRecord_of_missed hfind]
    refine ⟨?_, rfl, rfl, rfl, rfl, nofun, fun _ => ⟨rfl, rfl, hasEvent_raise _ _⟩⟩
    have hgiven : givenApplied s.tools n = (.default (defaultRecord n.serial n.descs), false) := by
      unfold givenApplied
      rw [hfind]
    rw [hgiven]
    exact nodeAt_setNode (f := fun n => { n with applied := .default (defaultRecord n.serial n.descs), mismatch := false })
      (fun _ => rfl) h

end Sys2Proof.Machine
end

section
namespace Sys2Proof.Machine

variable {s t u : State} {a : Arb} {sl : Slot}

/-! ## A STATUS that is taken (R116, R119, R130) -/

/-- An entry that has answered. -/
def Node.answered (n : Node) : Node := { n with state := .active, missed := 0, completed := true }

/-- The entry completes its first assignment. -/
def firstTime (n : Node) : Prop := n.state = .assigning ∧ n.completed = false

/-- The applied record an entry has after a STATUS: at a first completion the one the lookup gives. -/
def recordAfter (s : State) (n : Node) (rec : Option ToolRecord) : Prop :=
  (¬firstTime n → rec = appliedRecord s n)
    ∧ (firstTime n → (∀ i, s.tools.find n.serial = some i → rec = s.tools.slots[i])
        ∧ (s.tools.find n.serial = none → rec = some (defaultRecord n.serial n.descs)))

/-- The state at a first completion before the fields are taken: answered, looked up, the nozzle source derived. -/
def attached (n : Node) (s : State) : State :=
  deriveNozzle (raise .toolAttach (lookupRecord n.addr n.serial (nodeAnswered n.addr s)))

theorem nodeAt_nodeAnswered {x : Addr} {n : Node} (h : nodeAt s x = some n) : nodeAt (nodeAnswered x s) x = some n.answered :=
  nodeAt_setNode (f := Node.answered) (fun _ => rfl) h

/-- The entry, the table and the events at a first completion. -/
theorem attached_facts {n : Node} (h : nodeAt s n.addr = some n) : let t := attached n s
    nodeAt t n.addr = some { n.answered with applied := (givenApplied s.tools n).1, mismatch := (givenApplied s.tools n).2 }
      ∧ t.tools.slots = s.tools.slots ∧ t.signals = s.signals ∧ t.line.await = s.line.await ∧ t.line.tpwr = s.line.tpwr
      ∧ hasEvent .toolAttach t = true
      ∧ (∀ i, s.tools.find n.serial = some i → t.tools.order = touch i s.tools.order ∧ t.tools.miss = s.tools.miss)
      ∧ (s.tools.find n.serial = none → t.tools.order = s.tools.order ∧ t.tools.miss = addMiss n.serial s.tools.miss
          ∧ hasEvent .toolMiss t = true) := by
  obtain ⟨hnode, hslots, hsignals, hawait, htpwr, hfound, hmissed⟩ :=
    lookupRecord_facts (s := nodeAnswered n.addr s) (nodeAt_nodeAnswered h)
  obtain ⟨w, hw⟩ : ∃ w, w = lookupRecord n.addr n.serial (nodeAnswered n.addr s) := ⟨_, rfl⟩
  have hlookup : lookupRecord n.addr n.answered.serial (nodeAnswered n.addr s) = w := hw.symm
  rw [hlookup] at hnode hslots hsignals hawait htpwr hfound hmissed
  obtain ⟨v, hv⟩ : ∃ v, v = raise .toolAttach w := ⟨_, rfl⟩
  have hkept := deriveNozzle_lineAndRecords v
  have hattached : attached n s = deriveNozzle v := by rw [hv, hw]; rfl
  have hsig : (deriveNozzle v).signals = v.signals := by
    unfold deriveNozzle
    dsimp only
    split <;> rfl
  have hline : (deriveNozzle v).line.nodes = v.line.nodes := (congrArg (·.1.nodes) hkept :)
  have hslots' : (deriveNozzle v).tools.slots = v.tools.slots := (congrArg (·.2.slots) hkept :)
  have horder : (deriveNozzle v).tools.order = v.tools.order := (congrArg (·.2.order) hkept :)
  have hmiss : (deriveNozzle v).tools.miss = v.tools.miss := (congrArg (·.2.miss) hkept :)
  have hawait' : (deriveNozzle v).line.await = v.line.await := (congrArg (·.1.await) hkept :)
  have htpwr' : (deriveNozzle v).line.tpwr = v.line.tpwr := (congrArg (·.1.tpwr) hkept :)
  dsimp only
  rw [hattached, hslots', hsig, horder, hmiss, hawait', htpwr', nodeAt_of_line hline, hv]
  refine ⟨hnode, hslots, hsignals, hawait, htpwr, deriveNozzle_keeps _ _ (hasEvent_raise _ _), hfound, fun hnone => ?_⟩
  obtain ⟨horder', hmiss', hevent⟩ := hmissed hnone
  exact ⟨horder', hmiss', deriveNozzle_keeps _ _ (raise_keeps _ _ _ hevent)⟩

/-- The record given at a first completion is the one that applies then. -/
theorem appliedRecord_attached {n : Node} {rec : Option ToolRecord} (hfirst : firstTime n) (hrec : recordAfter s n rec)
    (hslots : t.tools.slots = s.tools.slots) (m : Node) (hm : m.applied = (givenApplied s.tools n).1) :
    appliedRecord t m = rec := by
  obtain ⟨hfound, hmissed⟩ := hrec.2 hfirst
  unfold appliedRecord
  rw [hm]
  unfold givenApplied
  cases hfind : s.tools.find n.serial with
  | some i =>
    rw [hfound i hfind]
    change t.tools.slots[i] = _
    rw [hslots]
  | none =>
    rw [hmissed hfind]

/-- A CAP queued for an entry. -/
theorem queueCap_facts {x : Addr} {m : Node} (hl : s.line.tpwr ≠ .off) (h : nodeAt s x = some m) : let t := queueCap x s
    nodeAt t x = some m ∧ .cap x (capBody t m) none ∈ t.line.queue ∧ t.arb = s.arb ∧ t.signals = s.signals
      ∧ t.line.await = s.line.await ∧ t.tools = s.tools ∧ t.host = s.host := by
  obtain ⟨q, w, hq⟩ := queueCap_writes x s
  have hmem := mem_queueCap x m s hl h
  have hbody : capBody (queueCap x s) m = capBody s m := by
    rw [hq]
    rfl
  dsimp only
  rw [hbody]
  refine ⟨?_, hmem, ?_⟩
  · rw [hq]
    exact h
  · rw [hq]
    exact ⟨rfl, rfl, rfl, rfl, rfl⟩

/-- The entry after a STATUS. -/
def statusEntry (s : State) (f : StatusFields) (n : Node) (rec : Option ToolRecord) (first : Bool) : Node :=
  Node.reported f (rec.any fun r => decide (0 < r.brush)) (rec.any fun r => decide (0 < r.lamp))
    (if first then { n.answered with applied := (givenApplied s.tools n).1, mismatch := (givenApplied s.tools n).2 }
      else n.answered)

/-- What a taken STATUS leaves: the entry, the events, the window, and what is handed on. -/
def statusOutcome (s : State) (f : StatusFields) (n : Node) (rec : Option ToolRecord) (first : Bool) (t : State) : Prop :=
  nodeAt t n.addr = some (statusEntry s f n rec first)
    ∧ ((f.jam && rec.any fun r => decide (0 < r.brush)) = true → n.jam = false → hasEvent .brushJam t = true)
    ∧ t.line.await = s.line.await
    ∧ (n.addr ∈ t.arb.head.members → .update .brushMa (reportNat (some f.brush)) ∈ t.signals)
    ∧ (n.addr ∉ t.arb.head.members → ∀ v, .update .brushMa v ∈ t.signals → .update .brushMa v ∈ s.signals)

theorem declares_of_record {n : Node} {rec : Option ToolRecord} (h : appliedRecord s n = rec) :
    declaresBrush s n = rec.any (fun r => decide (0 < r.brush)) ∧ declaresLamp s n = rec.any (fun r => decide (0 < r.lamp)) := by
  rw [declaresBrush_eq, declaresLamp_eq, h]
  exact ⟨rfl, rfl⟩

/-- A further STATUS, the fields taken. -/
theorem takeFields_outcome {n : Node} {rec : Option ToolRecord} (f : StatusFields) (h : nodeAt s n.addr = some n)
    (hrec : rec = appliedRecord s n) : let t := takeFields n.addr f (nodeAnswered n.addr s)
    statusOutcome s f n rec false t ∧ t.line.tpwr = s.line.tpwr := by
  obtain ⟨hbrush, hlamp⟩ := declares_of_record (s := nodeAnswered n.addr s) (n := n.answered) (rec := rec) hrec.symm
  obtain ⟨hnode, hjam, -, hawait, htpwr, -, hdrawn, hquiet⟩ := takeFields_facts f (nodeAt_nodeAnswered h)
  rw [hbrush, hlamp] at hnode
  rw [hbrush] at hjam
  exact ⟨⟨hnode, hjam, hawait, hdrawn, hquiet⟩, htpwr⟩

/-- The first STATUS of an entry, the fields taken. -/
theorem takeFields_attached {n : Node} {rec : Option ToolRecord} (f : StatusFields) (h : nodeAt s n.addr = some n)
    (hfirst : firstTime n) (hrec : recordAfter s n rec) : let t := takeFields n.addr f (attached n s)
    statusOutcome s f n rec true t ∧ t.line.tpwr = s.line.tpwr ∧ t.tools = (attached n s).tools
      ∧ ∀ i, (attached n s).host.events.getLsbD i = true → t.host.events.getLsbD i = true := by
  obtain ⟨hnode, hslots, hsignals, hawait, htpwr, -⟩ := attached_facts h
  obtain ⟨hbrush, hlamp⟩ := declares_of_record (appliedRecord_attached (t := attached n s) hfirst hrec hslots
    { n.answered with applied := (givenApplied s.tools n).1, mismatch := (givenApplied s.tools n).2 } rfl)
  obtain ⟨hnode', hjam, hevents, hawait', htpwr', htools, hdrawn, hquiet⟩ := takeFields_facts f hnode
  rw [hbrush, hlamp] at hnode'
  rw [hbrush] at hjam
  rw [hsignals] at hquiet
  exact ⟨⟨hnode', hjam, hawait'.trans hawait, hdrawn, hquiet⟩, htpwr'.trans htpwr, htools, hevents⟩

/-- A CAP queued after a STATUS leaves its outcome. -/
theorem statusOutcome.queueCap {f : StatusFields} {n : Node} {rec : Option ToolRecord} {first : Bool}
    (h : statusOutcome s f n rec first t) (hl : t.line.tpwr ≠ .off) :
    statusOutcome s f n rec first (queueCap n.addr t) := by
  obtain ⟨hnode, hjam, hawait, hdrawn, hquiet⟩ := h
  obtain ⟨hnode', -, harb, hsignals, hawait', -, hhost⟩ := queueCap_facts hl hnode
  unfold statusOutcome hasEvent
  rw [harb, hsignals, hhost]
  exact ⟨hnode', hjam, hawait'.trans hawait, hdrawn, hquiet⟩

/-- The initial CAP of an entry that declares a brush or a lamp. -/
def initialCap (x : Addr) (s : State) : State :=
  (nodeAt s x).elim s fun m => if declaresBrush s m || declaresLamp s m then queueCap x s else s

theorem firstCompletion_eq (n : Node) (f : StatusFields) (s : State) :
    firstCompletion n f s = initialCap n.addr (takeFields n.addr f (attached n s)) := by
  unfold firstCompletion initialCap attached
  dsimp only
  generalize takeFields n.addr f _ = v
  cases nodeAt v n.addr <;> rfl

/-- A first completion. -/
theorem firstCompletion_facts {n : Node} {rec : Option ToolRecord} (f : StatusFields) (hl : s.line.tpwr ≠ .off)
    (h : nodeAt s n.addr = some n) (hfirst : firstTime n) (hrec : recordAfter s n rec) : let t := firstCompletion n f s
    statusOutcome s f n rec true t
      ∧ (declaresBrush t (statusEntry s f n rec true) = true ∨ declaresLamp t (statusEntry s f n rec true) = true →
          .cap n.addr (capBody t (statusEntry s f n rec true)) none ∈ t.line.queue)
      ∧ t.tools = (attached n s).tools
      ∧ ∀ i, (attached n s).host.events.getLsbD i = true → t.host.events.getLsbD i = true := by
  obtain ⟨v, hv⟩ : ∃ v, v = takeFields n.addr f (attached n s) := ⟨_, rfl⟩
  obtain ⟨houtcome, htpwr, htools, hevents⟩ := takeFields_attached f h hfirst hrec
  rw [← hv] at houtcome htpwr htools hevents
  have hnode := houtcome.1
  have htaken : firstCompletion n f s = if declaresBrush v (statusEntry s f n rec true)
      || declaresLamp v (statusEntry s f n rec true) then queueCap n.addr v else v := by
    rw [firstCompletion_eq, ← hv, initialCap, hnode]
    rfl
  have hup : v.line.tpwr ≠ .off := htpwr ▸ hl
  obtain ⟨-, hcap, -, -, -, htools', hhost⟩ := queueCap_facts hup hnode
  dsimp only
  rw [htaken]
  split
  · rw [htools', hhost]
    exact ⟨houtcome.queueCap hup, fun _ => hcap, htools, hevents⟩
  · rename_i hno
    exact ⟨houtcome, fun hd => absurd ((Bool.or_eq_true _ _).mpr hd) hno, htools, hevents⟩

end Sys2Proof.Machine
end

section
namespace Sys2Proof.Machine

variable {s t u : State} {a : Arb} {sl : Slot}

/-! ## STATUS (R112, R116, R119) -/

theorem recordAfter_exists (s : State) (n : Node) : ∃ rec, recordAfter s n rec := by
  by_cases hfirst : firstTime n
  · cases hfind : s.tools.find n.serial with
    | some i =>
      refine ⟨s.tools.slots[i], fun h => absurd hfirst h, fun _ => ⟨fun j hj => ?_, fun h => ?_⟩⟩
      · obtain rfl := Option.some.inj (hfind.symm.trans hj)
        rfl
      · exact nomatch hfind.symm.trans h
    | none =>
      refine ⟨some (defaultRecord n.serial n.descs), fun h => absurd hfirst h, fun _ => ⟨fun j hj => ?_, fun _ => rfl⟩⟩
      exact nomatch hfind.symm.trans hj
  · exact ⟨appliedRecord s n, fun _ => rfl, fun h => absurd h hfirst⟩

theorem recordAfter_unique {n : Node} {rec rec' : Option ToolRecord} (h : recordAfter s n rec) (h' : recordAfter s n rec') :
    rec = rec' := by
  by_cases hfirst : firstTime n
  · obtain ⟨hfound, hmissed⟩ := h.2 hfirst
    obtain ⟨hfound', hmissed'⟩ := h'.2 hfirst
    cases hfind : s.tools.find n.serial with
    | some i => rw [hfound i hfind, hfound' i hfind]
    | none => rw [hmissed hfind, hmissed' hfind]
  · rw [h.1 hfirst, h'.1 hfirst]

/-- What a taken STATUS leaves, by the entry's state before. -/
theorem statusTaken_facts {n : Node} {rec : Option ToolRecord} (f : StatusFields) (hl : s.line.tpwr ≠ .off)
    (h : nodeAt s n.addr = some n) (hrec : recordAfter s n rec) : let t := statusTaken n f s
    ∃ first : Bool, (first = true ↔ firstTime n) ∧ statusOutcome s f n rec first t
      ∧ (n.state = .assigning → n.completed = true → .cap n.addr (capBody t (statusEntry s f n rec first)) none ∈ t.line.queue)
      ∧ (firstTime n → declaresBrush t (statusEntry s f n rec first) = true ∨ declaresLamp t (statusEntry s f n rec first) = true →
          .cap n.addr (capBody t (statusEntry s f n rec first)) none ∈ t.line.queue)
      ∧ (firstTime n → t.tools = (attached n s).tools
          ∧ ∀ i, (attached n s).host.events.getLsbD i = true → t.host.events.getLsbD i = true) := by
  have htaken : statusTaken n f s = if n.state = .assigning then
      if n.completed then queueCap n.addr (takeFields n.addr f (nodeAnswered n.addr s)) else firstCompletion n f s
      else takeFields n.addr f (nodeAnswered n.addr s) := rfl
  dsimp only
  rw [htaken]
  by_cases hstate : n.state = .assigning
  · rw [if_pos hstate]
    cases hcompleted : n.completed with
    | true =>
      have hnot : ¬firstTime n := fun hfirst => nomatch hcompleted.symm.trans hfirst.2
      obtain ⟨houtcome, htpwr⟩ := takeFields_outcome f h (hrec.1 hnot)
      have hup : (takeFields n.addr f (nodeAnswered n.addr s)).line.tpwr ≠ .off := htpwr ▸ hl
      obtain ⟨-, hcap, -⟩ := queueCap_facts hup houtcome.1
      rw [if_pos rfl]
      exact ⟨false, ⟨nofun, fun hfirst => absurd hfirst hnot⟩, houtcome.queueCap hup, fun _ _ => hcap,
        fun hfirst => absurd hfirst hnot, fun hfirst => absurd hfirst hnot⟩
    | false =>
      have hfirst : firstTime n := ⟨hstate, hcompleted⟩
      obtain ⟨houtcome, hcap, hrest⟩ := firstCompletion_facts f hl h hfirst hrec
      rw [if_neg (by decide)]
      exact ⟨true, ⟨fun _ => hfirst, fun _ => rfl⟩, houtcome, fun _ => nofun, fun _ => hcap, fun _ => hrest⟩
  · have hnot : ¬firstTime n := fun hfirst => hstate hfirst.1
    obtain ⟨houtcome, -⟩ := takeFields_outcome f h (hrec.1 hnot)
    rw [if_neg hstate]
    exact ⟨false, ⟨nofun, fun hfirst => absurd hfirst hnot⟩, houtcome, fun hs => absurd hs hstate,
      fun hfirst => absurd hfirst hnot, fun hfirst => absurd hfirst hnot⟩

theorem exec_status {x : Addr} {brush : Half} {floor : BitVec 2} {jam lamp fault : Bool} (hp : s.pack.power = .active) :
    exec (.status x brush floor jam lamp fault) s
      = .next (conclude (takeStatus x ⟨brush.toNat, floorClass floor, jam, lamp, fault⟩ s)) :=
  event_of_powered _ s (powered_of_active hp)

theorem takeStatus_of_window {x : Addr} {n : Node} (f : StatusFields) (hup : lineUp s = true) (h : nodeAt s x = some n)
    (hw : s.line.await = some (.poll x)) (hi : s.line.idle ≤ 6) :
    takeStatus x f s = statusTaken n f (frameHeard (awaitEnded s)) := by
  unfold takeStatus
  rw [if_pos hup, if_pos ⟨hw, hi⟩, h]
  rfl

theorem takeStatus_of_other {x : Addr} (f : StatusFields) (hup : lineUp s = true)
    (h : s.line.await ≠ some (.poll x) ∨ 6 < s.line.idle) : takeStatus x f s = windowClosed (frameHeard s) := by
  refine (if_pos hup).trans (if_neg fun ⟨hw, hi⟩ => ?_)
  rcases h with h | h
  · exact h hw
  · omega

/-- The entry at the end of a STATUS is the one it left, but for a pending cap. -/
theorem conclude_entry {x : Addr} {e : Node} (h : nodeAt s x = some e) :
    ∃ m, nodeAt (conclude s) x = some m ∧ ({ m with pending := none } : Node) = { e with pending := none } :=
  conclude_nodeAt (q := fun m => ({ m with pending := none } : Node) = { e with pending := none }) (fun _ hm => hm) h rfl

theorem reportNat_some (n : Nat) : reportNat (some n) = BitVec.ofNat 16 (min 32767 n) := by
  have hclamp : max (-32767) (min 32767 (Int.ofNat n)) = ((min 32767 n : Nat) : Int) := by
    rw [Int.ofNat_eq_natCast]
    omega
  have hreport : reportNat (some n) = report (some (Int.ofNat n)) := rfl
  rw [hreport, report_some, hclamp, BitVec.ofInt_natCast]

/-- Settles O27: a STATUS inside its window, what it stores and hands on, and any other. -/
theorem aStatusIsStored : Obligations.AStatusIsStored := by
  intro x brush floor jam lamp fault n s hp hl hr
  have hup := lineUp_of_up hp hl hr
  refine ⟨fun hn hw hi => ?_, fun h => ?_, fun hn hw hi => ?_⟩
  · obtain ⟨-, rfl⟩ := mem_of_nodeAt hn
    obtain ⟨rec, hrec⟩ := recordAfter_exists s n
    obtain ⟨first, hfirst, ⟨hnode, hjam, hawait, -⟩, -, -, hattached⟩ := statusTaken_facts (s := frameHeard (awaitEnded s))
      ⟨brush.toNat, floorClass floor, jam, lamp, fault⟩ hl hn hrec
    have hexec := exec_status (x := n.addr) (brush := brush) (floor := floor) (jam := jam) (lamp := lamp) (fault := fault) hp
    rw [takeStatus_of_window _ hup hn hw hi] at hexec
    obtain ⟨m, hm, hentry⟩ := conclude_entry hnode
    obtain ⟨-, -, -, -, -, -, hawait'⟩ := conclude_wire
      (statusTaken n ⟨brush.toNat, floorClass floor, jam, lamp, fault⟩ (frameHeard (awaitEnded s)))
    have hbase : m.serial = n.serial ∧ m.descs = n.descs ∧ m.state = .active ∧ m.missed = 0 ∧ m.completed = true := by
      have hfields := fun (g : Node → Serial × List Byte × NodeState × Nat × Bool) => congrArg g hentry
      have h5 := hfields fun e => (e.serial, e.descs, e.state, e.missed, e.completed)
      cases first <;> simpa [statusEntry, Node.reported, Node.answered] using h5
    obtain ⟨hserial, hdescs, hstate, hmissed, hcompleted⟩ := hbase
    refine ⟨_, m, hexec, hm, hserial, hdescs, hstate, hmissed, hcompleted, (congrArg Node.brushMa hentry :),
      (congrArg Node.fault hentry :), (congrArg Node.floor hentry :), fun rec' hlater hnow => ?_, hawait'.trans hawait,
      fun hc hs => conclude_keeps _ _ ?_⟩
    · have hrec' : recordAfter s n rec' := by
        refine ⟨fun hno => hlater ?_, fun hf => hnow hf.2 hf.1⟩
        by_cases hs : n.state = .assigning
        · exact .inl (by simpa using fun hc => hno ⟨hs, hc⟩)
        · exact .inr hs
      obtain rfl := recordAfter_unique hrec hrec'
      have hmjam : m.jam = (jam && rec.any (fun r => decide (0 < r.brush))) := (congrArg Node.jam hentry :)
      exact ⟨hmjam, (congrArg Node.lamp hentry :), fun hset hclear => conclude_keeps _ _ (hjam (hmjam ▸ hset) hclear)⟩
    · obtain ⟨-, -, -, -, -, hevent, -⟩ := attached_facts (s := frameHeard (awaitEnded s)) hn
      exact (hattached ⟨hs, hc⟩).2 _ hevent
  · rw [exec_status hp, takeStatus_of_other _ hup h,
      exec_replyWindowClose (s := { s with line := { s.line with idle := 0 } }) (powered_of_active hp)]
    rfl
  · obtain ⟨-, rfl⟩ := mem_of_nodeAt hn
    obtain ⟨rec, hrec⟩ := recordAfter_exists s n
    obtain ⟨first, -, ⟨hnode, -, -, hdrawn, hquiet⟩, hcap, hcap', -⟩ := statusTaken_facts (s := frameHeard (awaitEnded s))
      ⟨brush.toNat, floorClass floor, jam, lamp, fault⟩ hl hn hrec
    have htaken := takeStatus_of_window (x := n.addr) ⟨brush.toNat, floorClass floor, jam, lamp, fault⟩ hup hn hw hi
    rw [← htaken] at hnode hdrawn hquiet hcap hcap'
    rw [reportNat_some] at hdrawn
    exact ⟨exec_status hp, hdrawn, hquiet, _, hnode, hcap, fun hs hc => hcap' ⟨hs, hc⟩⟩

end Sys2Proof.Machine
end

section
namespace Sys2Proof.Machine

variable {s t u : State} {a : Arb} {sl : Slot}

/-! ## Where a record is placed (R130, R135) -/

theorem slotIndices_split (i : Fin 8) : slotIndices = slotIndices.filter (· < i) ++ i :: slotIndices.filter (i < ·) := by
  revert i
  decide

/-- The first slot with a property. -/
theorem slotIndices_find {p : Fin 8 → Bool} {i : Fin 8} (h : p i = true) (hlow : ∀ j, j < i → p j = false) :
    slotIndices.find? p = some i := by
  rw [List.find?_eq_some_iff_append]
  refine ⟨h, _, _, slotIndices_split i, fun j hj => ?_⟩
  have hji : j < i := by simpa using (List.mem_filter.mp hj).2
  rw [hlow j hji]
  rfl

theorem find_none_iff (tt : ToolTable) (serial : Serial) : tt.find serial = none
    ↔ ∀ (i : Fin 8) (r : ToolRecord), tt.slots[i] = some r → r.serial ≠ serial := by
  have hholds (i : Fin 8) : tt.holds serial i = true ↔ ∃ r, tt.slots[i] = some r ∧ r.serial = serial := by
    unfold ToolTable.holds
    cases hr : tt.slots[i] with
    | none => simp
    | some r => simp
  unfold ToolTable.find
  rw [List.find?_eq_none]
  refine ⟨fun h i r hr hserial => h i (mem_slotIndices i) ((hholds i).mpr ⟨r, hr, hserial⟩), fun h i _ hi => ?_⟩
  obtain ⟨r, hr, hserial⟩ := (hholds i).mp hi
  exact h i r hr hserial

theorem place_of_found {tt : ToolTable} {serial : Serial} {i : Fin 8} (h : tt.find serial = some i) :
    tt.place serial = some ⟨i, 1, false⟩ := by
  unfold ToolTable.place
  rw [h]

/-- The place of a serial that no record holds: a free slot, or the victim's. -/
theorem place_of_new {tt : ToolTable} {serial : Serial} (h : tt.find serial = none) : tt.place serial
    = (slotIndices.find? fun i => (tt.slots[i]).isNone).elim (tt.victim.map fun i => ⟨i, 3, true⟩) fun i => some ⟨i, 2, false⟩ := by
  unfold ToolTable.place
  rw [h]
  dsimp only
  cases slotIndices.find? fun i => (tt.slots[i]).isNone with
  | some i => rfl
  | none =>
    dsimp only [Option.elim]
    cases tt.victim <;> rfl

theorem freeSlot_none {tt : ToolTable} (h : ∀ j : Fin 8, tt.slots[j] ≠ none) :
    slotIndices.find? (fun i => (tt.slots[i]).isNone) = none := by
  rw [List.find?_eq_none]
  intro i _ hi
  exact h i (Option.isNone_iff_eq_none.mp hi)

/-- The victim: the least recent record that is not pinned. -/
theorem victim_of_last {tt : ToolTable} {i : Fin 8} {r : ToolRecord} {pre post : List (Fin 8)} (h : tt.order = pre ++ i :: post)
    (hr : tt.slots[i] = some r) (hp : r.pinned = false)
    (hpost : ∀ j ∈ post, ∀ q, tt.slots[j] = some q → q.pinned = true) : tt.victim = some i := by
  unfold ToolTable.victim
  rw [List.find?_eq_some_iff_append]
  refine ⟨by rw [hr]; simp [hp], post.reverse, pre.reverse, by rw [h]; simp, fun j hj => ?_⟩
  have hmem : j ∈ post := List.mem_reverse.mp hj
  cases hq : tt.slots[j] with
  | none => rfl
  | some q =>
    have hpinned := hpost j hmem q hq
    simp [hpinned]

theorem victim_none {tt : ToolTable} (h : ∀ i : Fin 8, ∃ q, tt.slots[i] = some q ∧ q.pinned = true) : tt.victim = none := by
  unfold ToolTable.victim
  rw [List.find?_eq_none]
  intro i _
  obtain ⟨q, hq, hp⟩ := h i
  rw [hq]
  simp [hp]

/-- The place of a serial, by the rows of R135. -/
theorem place_facts (tt : ToolTable) (serial : Serial) :
    (∀ i, tt.find serial = some i → tt.place serial = some ⟨i, 1, false⟩
        ∧ ∃ r, tt.slots[i] = some r ∧ r.serial = serial)
    ∧ (tt.find serial = none ↔ ∀ (i : Fin 8) (r : ToolRecord), tt.slots[i] = some r → r.serial ≠ serial)
    ∧ (∀ i : Fin 8, tt.find serial = none → tt.slots[i] = none → (∀ j, j < i → tt.slots[j] ≠ none) →
        tt.place serial = some ⟨i, 2, false⟩)
    ∧ (∀ (i : Fin 8) (r : ToolRecord) (pre post : List (Fin 8)), tt.find serial = none →
        (∀ j : Fin 8, tt.slots[j] ≠ none) → tt.order = pre ++ i :: post → tt.slots[i] = some r →
        r.pinned = false → (∀ j ∈ post, ∀ q, tt.slots[j] = some q → q.pinned = true) →
        tt.place serial = some ⟨i, 3, true⟩) := by
  refine ⟨fun i h => ⟨place_of_found h, find_some h⟩, find_none_iff tt serial, fun i h hi hlow => ?_,
    fun i r pre post h hall horder hr hp hpost => ?_⟩
  · have hfree : slotIndices.find? (fun j => (tt.slots[j]).isNone) = some i :=
      slotIndices_find (by rw [hi]; rfl) fun j hj => Option.isNone_eq_false_iff.mpr (Option.isSome_iff_ne_none.mpr (hlow j hj))
    rw [place_of_new h, hfree]
    rfl
  · rw [place_of_new h, freeSlot_none hall, victim_of_last horder hr hp hpost]
    rfl

/-! ## What a loaded record holds (R128, R135) -/

theorem clampHalf_int {lo hi : Nat} (h : lo ≤ hi) (b : Half) : (clampHalf lo hi b : Int) = max (lo : Int) (min (hi : Int) b.toInt) := by
  rw [clampHalf_eq h]
  omega

theorem loadedRecord_of_unknown {f : ToolFields} (h : 5 ≤ f.kind.toNat) : loadedRecord f = none := by
  have hnone : toolKinds[f.kind.toNat]? = none := List.getElem?_eq_none h
  unfold loadedRecord
  rw [hnone]
  rfl

theorem loadedRecord_of_kind {f : ToolFields} (h : f.kind.toNat < 5) : ∃ r, loadedRecord f = some r
    ∧ r.serial = f.serial ∧ r.pinned = f.pinned ∧ r.yielding = f.yielding
    ∧ r.airflow = max 50 (min 150 f.airflow.toNat)
    ∧ (r.brush : Int) = max 0 (min 4000 f.brush.toInt)
    ∧ (r.floor : Int) = max 0 (min (r.brush : Int) f.floor.toInt)
    ∧ (r.lamp : Int) = max 0 (min 1000 f.lamp.toInt)
    ∧ (r.curve.s1 : Int) = max 100 (min 2000 f.s1.toInt)
    ∧ (r.curve.s2 : Int) = max 100 (min 2000 f.s2.toInt)
    ∧ (r.curve.s3 : Int) = max 100 (min 2000 f.s3.toInt)
    ∧ (r.curve.s4 : Int) = max 100 (min 2000 f.s4.toInt)
    ∧ toolKinds[f.kind.toNat]? = some r.kind := by
  have hkind : toolKinds[f.kind.toNat]? = some (toolKinds[f.kind.toNat]'h) := List.getElem?_eq_getElem h
  have hspeed (b : Half) : (clampHalf 100 2000 b : Int) = max 100 (min 2000 b.toInt) := clampHalf_int (by decide) b
  have hbrush : (clampHalf 0 4000 f.brush : Int) = max 0 (min 4000 f.brush.toInt) := clampHalf_int (by decide) _
  have hlamp : (clampHalf 0 1000 f.lamp : Int) = max 0 (min 1000 f.lamp.toInt) := clampHalf_int (by decide) _
  have hfloor (b : Nat) : (clampHalf 0 b f.floor : Int) = max 0 (min (b : Int) f.floor.toInt) := clampHalf_int (Nat.zero_le _) _
  have hair : clampByte 50 150 f.airflow = max 50 (min 150 f.airflow.toNat) := clampByte_eq (by decide) _
  exact ⟨_, by unfold loadedRecord; rw [hkind]; rfl, rfl, rfl, rfl, hair, hbrush, hfloor _, hlamp, hspeed _, hspeed _, hspeed _, hspeed _, hkind⟩

/-! ## The table after a TOOL_LOAD and a TOOL_DROP (R135, R137) -/

/-- Writing one slot leaves the others. -/
theorem slots_set_ne (v : Vector (Option ToolRecord) 8) {i j : Fin 8} (h : j ≠ i) (x : Option ToolRecord) :
    (v.set i x)[j] = v[j] :=
  (slots_set_get v i j x).trans (if_neg h.symm)

theorem handRecord_tools (x : Addr) (s : State) : (handRecord x s).tools = s.tools := by
  have hcleared : (clearStaleFlags x s).tools = s.tools := rfl
  refine (refreshTools_tools _).trans ?_
  exact tools_ite hcleared hcleared

theorem placeRecord_tools (i : Fin 8) (r : ToolRecord) (s : State) : (placeRecord i r s).tools = s.tools.write i r := by
  unfold placeRecord
  dsimp only
  split
  · exact handRecord_tools _ _
  · rfl

theorem placeRecord_besideTools (i : Fin 8) (r : ToolRecord) (s : State) : besideTools (placeRecord i r s) = besideTools s := by
  unfold placeRecord
  dsimp only
  split
  · exact handRecord_besideTools _ _
  · rfl

theorem dropRecord_tools (i : Fin 8) (s : State) : (dropRecord i s).tools = { s.tools.invalidate i with
    miss := (userOf s i).elim s.tools.miss fun n => addMiss n.serial s.tools.miss } := by
  unfold dropRecord
  dsimp only
  cases userOf s i with
  | some n => exact handRecord_tools _ _
  | none => rfl

theorem dropRecord_besideTools (i : Fin 8) (s : State) : besideTools (dropRecord i s) = besideTools s := by
  unfold dropRecord
  dsimp only
  cases userOf s i with
  | some n => exact handRecord_besideTools _ _
  | none => rfl

/-- The state after a record is loaded at its place. -/
def loaded (p : Placement) (r : ToolRecord) (s : State) : State :=
  placeRecord p.slot r (if p.evict then dropRecord p.slot s else s)

theorem exec_toolLoad {tag : Byte} {f : ToolFields} {r : ToolRecord} {p : Placement} (hs : s.serves)
    (hr : loadedRecord f = some r) (hp : s.tools.place r.serial = some p) :
    exec (.toolLoad tag f) s = .next (conclude (replied 0x38 tag .ok (toolLoadPayload p r s) (loaded p r s))) := by
  have hanswer : serveToolLoad f s = accept (loaded p r s) (toolLoadPayload p r s) := by
    unfold serveToolLoad
    rw [hr]
    dsimp only
    rw [hp]
    rfl
  exact ask_of_answer _ _ hs hanswer

/-- A loaded record stands in its slot, most recent and no longer missed, and the other slots stand as they were. -/
theorem loaded_tools (p : Placement) (r : ToolRecord) (s : State) : let t := loaded p r s
    t.tools.slots[p.slot] = some r ∧ t.tools.order.head? = some p.slot ∧ r.serial ∉ t.tools.miss
      ∧ (∀ j : Fin 8, j ≠ p.slot → t.tools.slots[j] = s.tools.slots[j]) ∧ t.pack = s.pack := by
  obtain ⟨v, hv⟩ : ∃ v, v = if p.evict then dropRecord p.slot s else s := ⟨_, rfl⟩
  have hother (j : Fin 8) (hj : j ≠ p.slot) : v.tools.slots[j] = s.tools.slots[j] := by
    rw [hv]
    split
    · exact (congrArg (fun tt : ToolTable => tt.slots[j]) (dropRecord_tools p.slot s)).trans
        (slots_set_ne _ hj _)
    · rfl
  have hpack : v.pack = s.pack := by
    rw [hv]
    split
    · exact pack_of_besideTools (dropRecord_besideTools _ _)
    · rfl
  have htools : (loaded p r s).tools = v.tools.write p.slot r := by
    rw [hv]
    exact placeRecord_tools _ _ _
  dsimp only
  rw [htools]
  refine ⟨Vector.getElem_set_self _, rfl, ?_, fun j hj => ?_, ?_⟩
  · intro hmem
    have hkept := (List.mem_filter.mp hmem).2
    simp at hkept
  · exact (slots_set_ne _ hj _).trans (hother j hj)
  · rw [loaded, ← hv, pack_of_besideTools (placeRecord_besideTools _ _ _), hpack]

theorem exec_toolDrop {tag : Byte} {serial : Serial} {i : Fin 8} (hs : s.serves) (h : s.tools.find serial = some i) :
    exec (.toolDrop tag serial) s = .next (conclude (replied 0x39 tag .ok
      (u8 i.val ++ optAddr ((userOf s i).map (·.addr))) (dropRecord i s))) := by
  have hanswer : serveToolDrop serial s = accept (dropRecord i s) (u8 i.val ++ optAddr ((userOf s i).map (·.addr))) := by
    unfold serveToolDrop
    rw [h]
  exact ask_of_answer _ _ hs hanswer

/-- The profiles after a command that does not write them. -/
theorem profiles_of_exec {c : Instr} (h : exec c s = .next t) (hc : .profiles ∉ mayChange c) : t.gov.profiles = s.gov.profiles :=
  (keeps_of_exec c h).same .profiles hc

/-- Settles O30: a TOOL_LOAD at its place, the places, the loaded record, and a TOOL_DROP. -/
theorem recordsAreLoadedAndDropped : Obligations.RecordsAreLoadedAndDropped := by
  refine ⟨fun tag f r s hs hr => ⟨fun p hp => ?_, fun hfind hall => ?_⟩, place_facts,
    fun f => ⟨loadedRecord_of_unknown, loadedRecord_of_kind⟩, fun tag serial s hs => ⟨fun hfind => ?_, fun i hfind => ?_⟩⟩
  · have hexec := exec_toolLoad (tag := tag) hs hr hp
    obtain ⟨hslot, horder, hmiss, hother, hpack⟩ := loaded_tools p r s
    refine ⟨_, hexec, ?_⟩
    rw [profiles_of_exec hexec (show Kept.profiles ∉ [Kept.records] by decide), conclude_tools, replied_tools, conclude_pack, replied_pack]
    exact ⟨hslot, horder, hmiss, hother, rfl, hpack⟩
  · have hplace : s.tools.place r.serial = none := by
      rw [place_of_new hfind, freeSlot_none fun j hj => ?_, victim_none hall]
      · rfl
      · obtain ⟨q, hq, -⟩ := hall j
        exact nomatch hj.symm.trans hq
    have hanswer : serveToolLoad f s = refuse .full s := by
      unfold serveToolLoad
      rw [hr]
      dsimp only
      rw [hplace]
    exact ask_of_answer _ _ hs hanswer
  · have hanswer : serveToolDrop serial s = refuse .notFound s := by
      unfold serveToolDrop
      rw [hfind]
    exact ask_of_answer _ _ hs hanswer
  · have hexec := exec_toolDrop (tag := tag) hs hfind
    refine ⟨_, hexec, ?_⟩
    rw [profiles_of_exec hexec (show Kept.profiles ∉ [Kept.records] by decide), conclude_tools, replied_tools, conclude_pack, replied_pack, dropRecord_tools,
      pack_of_besideTools (dropRecord_besideTools i s)]
    refine ⟨Vector.getElem_set_self _, fun hmem => ?_, fun j hj => ?_, fun hnone => ?_, rfl, rfl⟩
    · have hkept := (List.mem_filter.mp hmem).2
      simp at hkept
    · exact slots_set_ne _ hj _
    · dsimp only
      rw [hnone]
      rfl

end Sys2Proof.Machine
end

section
namespace Sys2Proof.Machine

variable {s t u : State} {a : Arb} {sl : Slot}

/-! ## What the descriptors declare (R131) -/

theorem brushCode_some {c : Byte} (h : 0x11 ≤ c.toNat ∧ c.toNat ≤ 0x18) : brushCode c = some ((c.toNat - 0x10) * 500) :=
  if_pos h

theorem brushCode_none {c : Byte} : brushCode c = none ↔ c.toNat < 0x11 ∨ 0x18 < c.toNat := by
  unfold brushCode
  split
  · rename_i h
    exact ⟨nofun, fun h' => by omega⟩
  · rename_i h
    exact ⟨fun _ => by omega, fun _ => rfl⟩

theorem nozzleCode_none {c : Byte} : nozzleCode c = none ↔ c ≠ 0x41 ∧ c ≠ 0x42 := by
  unfold nozzleCode
  split_ifs with hnarrow hwide
  · exact ⟨nofun, fun h => absurd hnarrow h.1⟩
  · exact ⟨nofun, fun h => absurd hwide h.2⟩
  · exact ⟨fun _ => ⟨hnarrow, hwide⟩, fun _ => rfl⟩

/-- The first code that has a meaning decides. -/
theorem findSome?_of_first {α β : Type} {f : α → Option β} {pre post : List α} {c : α} (hpre : ∀ d ∈ pre, f d = none)
    {v : β} (hc : f c = some v) : (pre ++ c :: post).findSome? f = some v := by
  rw [List.findSome?_append, List.findSome?_eq_none_iff.mpr hpre]
  simp [hc]

theorem ratedBrush_of_first {pre post : List Byte} {c : Byte} (h : 0x11 ≤ c.toNat ∧ c.toNat ≤ 0x18)
    (hpre : ∀ d ∈ pre, d.toNat < 0x11 ∨ 0x18 < d.toNat) : ratedBrush (pre ++ c :: post) = some ((c.toNat - 0x10) * 500) :=
  findSome?_of_first (fun d hd => brushCode_none.mpr (hpre d hd)) (brushCode_some h)

theorem ratedBrush_none {descs : List Byte} : ratedBrush descs = none ↔ ∀ d ∈ descs, d.toNat < 0x11 ∨ 0x18 < d.toNat := by
  unfold ratedBrush
  rw [List.findSome?_eq_none_iff]
  exact forall₂_congr fun _ _ => brushCode_none

theorem ratedBrush_isSome {descs : List Byte} :
    (∃ b, ratedBrush descs = some b) ↔ ∃ d ∈ descs, 0x11 ≤ d.toNat ∧ d.toNat ≤ 0x18 := by
  rw [← Option.isSome_iff_exists, ← Option.ne_none_iff_isSome, Ne, ratedBrush_none]
  push Not
  rfl

theorem nozzleOf_none {descs : List Byte} : nozzleOf descs = none ↔ ∀ d ∈ descs, d ≠ 0x41 ∧ d ≠ 0x42 := by
  unfold nozzleOf
  rw [List.findSome?_eq_none_iff]
  exact forall₂_congr fun _ _ => nozzleCode_none

theorem nozzleOf_of_first {pre post : List Byte} {c : Byte} {z : Nozzle} (hc : nozzleCode c = some z)
    (hpre : ∀ d ∈ pre, d ≠ 0x41 ∧ d ≠ 0x42) : nozzleOf (pre ++ c :: post) = some z :=
  findSome?_of_first (fun d hd => nozzleCode_none.mpr (hpre d hd)) hc

theorem nozzleCode_narrow {c : Byte} : nozzleCode c = some .narrow ↔ c = 0x41 := by
  unfold nozzleCode
  split_ifs with hnarrow hwide
  · exact ⟨fun _ => hnarrow, fun _ => rfl⟩
  · exact ⟨nofun, fun h => absurd h hnarrow⟩
  · exact ⟨nofun, fun h => absurd h hnarrow⟩

theorem nozzleCode_wide {c : Byte} : nozzleCode c = some .wide ↔ c = 0x42 := by
  unfold nozzleCode
  split_ifs with hnarrow hwide
  · exact ⟨nofun, fun h => absurd (hnarrow.symm.trans h) (by decide)⟩
  · exact ⟨fun _ => hwide, fun _ => rfl⟩
  · exact ⟨nofun, fun h => absurd h hwide⟩

/-- The deciding nozzle is that of a code before which no other nozzle's code stands. -/
theorem nozzleOf_iff {descs : List Byte} {z w : Nozzle} {c d : Byte} (hc : ∀ b, nozzleCode b = some z ↔ b = c)
    (hd : ∀ b, nozzleCode b = some w ↔ b = d) (hzw : z ≠ w) (hall : ∀ y : Nozzle, y = z ∨ y = w) :
    nozzleOf descs = some z ↔ ∃ pre post, descs = pre ++ c :: post ∧ d ∉ pre := by
  unfold nozzleOf
  induction descs with
  | nil => simp
  | cons b bs ih =>
    rw [List.findSome?_cons]
    cases hb : nozzleCode b with
    | none =>
      rw [ih]
      have hbc : b ≠ c := fun h => nomatch hb.symm.trans ((hc b).mpr h)
      have hbd : d ≠ b := fun h => nomatch hb.symm.trans ((hd b).mpr h.symm)
      refine ⟨fun ⟨pre, post, hbs, hno⟩ => ⟨b :: pre, post, by rw [hbs]; rfl, ?_⟩, fun ⟨pre, post, hbs, hno⟩ => ?_⟩
      · exact List.not_mem_cons_of_ne_of_not_mem hbd hno
      · cases pre with
        | nil => exact absurd (List.cons.inj hbs).1 hbc
        | cons p ps => exact ⟨ps, post, (List.cons.inj hbs).2, List.not_mem_of_not_mem_cons hno⟩
    | some y =>
      refine ⟨fun h => ⟨[], bs, ?_, List.not_mem_nil⟩, fun ⟨pre, post, hbs, hno⟩ => ?_⟩
      · rw [(hc b).mp (hb.trans h)]
        rfl
      · rcases hall y with rfl | rfl
        · rfl
        · have hbd : b = d := (hd b).mp hb
          cases pre with
          | nil =>
            have hbc : b = c := (List.cons.inj hbs).1
            exact absurd (Option.some.inj (((hc b).mpr hbc).symm.trans hb)) hzw
          | cons p ps => exact absurd ((List.cons.inj hbs).1.symm.trans hbd).symm (List.ne_of_not_mem_cons hno)

theorem nozzleOf_narrow {descs : List Byte} :
    nozzleOf descs = some .narrow ↔ ∃ pre post, descs = pre ++ (0x41 : Byte) :: post ∧ (0x42 : Byte) ∉ pre :=
  nozzleOf_iff (fun _ => nozzleCode_narrow) (fun _ => nozzleCode_wide) nofun fun y => by cases y <;> simp

theorem nozzleOf_wide {descs : List Byte} :
    nozzleOf descs = some .wide ↔ ∃ pre post, descs = pre ++ (0x42 : Byte) :: post ∧ (0x41 : Byte) ∉ pre :=
  nozzleOf_iff (fun _ => nozzleCode_wide) (fun _ => nozzleCode_narrow) nofun fun y => by cases y <;> simp

theorem lampCode_iff {descs : List Byte} : lampCode descs = true ↔ (0x21 : Byte) ∈ descs := List.contains_iff_mem

/-! ## The default record (R131) -/

/-- The kind by the brush, the deciding nozzle and the lamp. -/
theorem derivedKind_facts (descs : List Byte) :
    let brush := ∃ b, ratedBrush descs = some b
    let narrow := nozzleOf descs = some .narrow
    let wide := nozzleOf descs = some .wide
    let lamp := (0x21 : Byte) ∈ descs
    (brush → wide → derivedKind descs = .floorHead) ∧ (brush → narrow → derivedKind descs = .miniHead)
      ∧ (¬brush → narrow → derivedKind descs = .crevice)
      ∧ (¬brush → ¬narrow → ¬wide → lamp → derivedKind descs = .lightWand)
      ∧ (¬brush → ¬narrow → ¬wide → ¬lamp → derivedKind descs = .unknown)
      ∧ (¬brush → wide → derivedKind descs = .unknown) ∧ (brush → ¬narrow → ¬wide → derivedKind descs = .unknown) := by
  dsimp only
  rw [← lampCode_iff]
  unfold derivedKind
  cases ratedBrush descs with
  | none =>
    cases nozzleOf descs with
    | none => cases lampCode descs <;> simp
    | some z => cases z <;> simp
  | some b =>
    cases nozzleOf descs with
    | none => simp
    | some z => cases z <;> simp

theorem defaultRecord_airflow {serial : Serial} {pre post : List Byte} {c : Byte} (hc : c = 0x41 ∨ c = 0x42)
    (hpre : ∀ d ∈ pre, d ≠ 0x41 ∧ d ≠ 0x42) :
    (defaultRecord serial (pre ++ c :: post)).airflow = if c = 0x41 then 70 else 100 := by
  unfold defaultRecord
  dsimp only
  rcases hc with rfl | rfl
  · rw [nozzleOf_of_first (z := .narrow) rfl hpre]
    rfl
  · rw [nozzleOf_of_first (z := .wide) rfl hpre]
    rfl

/-- The default record of a node, from the table of R131. -/
theorem defaultRecord_facts (serial : Serial) (descs : List Byte) :
    let r := defaultRecord serial descs
    r.serial = serial ∧ r.curve = ⟨900, 1080, 1190, 1270⟩ ∧ r.yielding = true ∧ r.pinned = false
      ∧ r.floor = r.brush
      ∧ (∀ pre c post, descs = pre ++ c :: post → 0x11 ≤ c.toNat → c.toNat ≤ 0x18 →
          (∀ d ∈ pre, d.toNat < 0x11 ∨ 0x18 < d.toNat) → r.brush = (c.toNat - 0x10) * 500 / 2)
      ∧ ((∀ d ∈ descs, d.toNat < 0x11 ∨ 0x18 < d.toNat) → r.brush = 0)
      ∧ r.lamp = (if (0x21 : Byte) ∈ descs then 150 else 0)
      ∧ (∀ pre c post, descs = pre ++ c :: post → c = 0x41 ∨ c = 0x42 →
          (∀ d ∈ pre, d ≠ 0x41 ∧ d ≠ 0x42) → r.airflow = if c = 0x41 then 70 else 100)
      ∧ ((∀ d ∈ descs, d ≠ 0x41 ∧ d ≠ 0x42) → r.airflow = 100)
      ∧ (let brush := ∃ d ∈ descs, 0x11 ≤ d.toNat ∧ d.toNat ≤ 0x18
         let narrow := ∃ pre post, descs = pre ++ (0x41 : Byte) :: post ∧ (0x42 : Byte) ∉ pre
         let wide := ∃ pre post, descs = pre ++ (0x42 : Byte) :: post ∧ (0x41 : Byte) ∉ pre
         (brush → wide → r.kind = .floorHead) ∧ (brush → narrow → r.kind = .miniHead)
           ∧ (¬brush → narrow → r.kind = .crevice)
           ∧ (¬brush → ¬narrow → ¬wide → (0x21 : Byte) ∈ descs → r.kind = .lightWand)
           ∧ (¬brush → ¬narrow → ¬wide → (0x21 : Byte) ∉ descs → r.kind = .unknown)
           ∧ (¬brush → wide → r.kind = .unknown) ∧ (brush → ¬narrow → ¬wide → r.kind = .unknown)) := by
  have hkind := derivedKind_facts descs
  rw [ratedBrush_isSome, nozzleOf_narrow, nozzleOf_wide] at hkind
  refine ⟨rfl, rfl, rfl, rfl, rfl, fun pre c post h hlo hhi hpre => ?_, fun h => ?_, ?_, fun pre c post h hc hpre => ?_,
    fun h => ?_, hkind⟩
  · subst h
    unfold defaultRecord
    rw [ratedBrush_of_first ⟨hlo, hhi⟩ hpre]
    rfl
  · unfold defaultRecord
    rw [ratedBrush_none.mpr h]
    rfl
  · exact if_congr lampCode_iff rfl rfl
  · subst h
    exact defaultRecord_airflow hc hpre
  · unfold defaultRecord
    rw [nozzleOf_none.mpr h]
    rfl

end Sys2Proof.Machine
end

section
namespace Sys2Proof.Machine

variable {s t u : State} {a : Arb} {sl : Slot}

/-! ## The nozzle source (R134, R91) -/

theorem nozzleOf_isSome (descs : List Byte) : (nozzleOf descs).isSome = descs.any (fun d => d == 0x41 || d == 0x42) := by
  rw [Bool.eq_iff_iff, ← Option.ne_none_iff_isSome, Ne, nozzleOf_none, List.any_eq_true]
  push Not
  refine exists_congr fun d => and_congr_right fun _ => ?_
  rw [Bool.or_eq_true, beq_iff_eq, beq_iff_eq]
  tauto

theorem nozzleSource_eq (s : State) : nozzleSource s = ((s.line.nodes.filter (·.completed)).find?
    (fun n => n.descs.any (fun d => d == 0x41 || d == 0x42))).map (·.addr) := by
  unfold nozzleSource attachedNodes
  simp only [nozzleOf_isSome]

/-- The record of the source decides the airflow factor and the curve; without one the inlet is open. -/
theorem nozzleInputs_eq {s : State} {r : Option ToolRecord} (h : (s.tools.nozzle.bind (nodeAt s)).bind (appliedRecord s) = r) :
    nozzleInputs s = ((r.map (·.airflow)).getD 100, (r.map (·.curve)).getD ⟨900, 1080, 1190, 1270⟩) := by
  unfold nozzleInputs
  rw [h]
  cases r <;> rfl

/-- The nozzle inputs delivered, and the sustain counts at 0. -/
theorem deliverNozzle_eq {s : State} {r : Option ToolRecord} (h : (s.tools.nozzle.bind (nodeAt s)).bind (appliedRecord s) = r) :
    deliverNozzle s = { s with
      gov := { s.gov with
        factor := (r.map (·.airflow)).getD 100, curve := (r.map (·.curve)).getD ⟨900, 1080, 1190, 1270⟩ }
      load := { s.load with rise := 0, block := 0, release := 0 } } := by
  unfold deliverNozzle
  rw [nozzleInputs_eq h]
  rfl

theorem deriveNozzle_eq (s : State) :
    let source := ((s.line.nodes.filter (·.completed)).find?
      (fun n => n.descs.any (fun d => d == 0x41 || d == 0x42))).map (·.addr)
    let r := (source.bind (nodeAt s)).bind (appliedRecord s)
    deriveNozzle s = (if source = s.tools.nozzle then s
      else { s with
        tools := { s.tools with nozzle := source }
        gov := { s.gov with
          factor := (r.map (·.airflow)).getD 100, curve := (r.map (·.curve)).getD ⟨900, 1080, 1190, 1270⟩ }
        load := { s.load with rise := 0, block := 0, release := 0 } }) := by
  obtain ⟨source, hsource⟩ : ∃ source, source = nozzleSource s := ⟨_, rfl⟩
  dsimp only
  rw [← nozzleSource_eq, ← hsource]
  unfold deriveNozzle
  dsimp only
  rw [← hsource]
  split
  · rfl
  · exact deliverNozzle_eq (s := { s with tools := { s.tools with nozzle := source } }) rfl

/-! ## The record given at a first completion (R116, R130, R132) -/

theorem kindMismatch_eq (r : ToolRecord) (serial : Serial) (descs : List Byte) :
    kindMismatch r descs = decide (r.kind ≠ .unknown ∧ r.kind ≠ (defaultRecord serial descs).kind) := by
  have hkind : (defaultRecord serial descs).kind = derivedKind descs := rfl
  rw [hkind, Bool.eq_iff_iff, decide_eq_true_iff]
  unfold kindMismatch
  rw [Bool.and_eq_true, bne_iff_ne, bne_iff_ne]

theorem givenApplied_of_found {tt : ToolTable} {n : Node} {i : Fin 8} {r : ToolRecord} (h : tt.find n.serial = some i)
    (hr : tt.slots[i] = some r) : givenApplied tt n = (.slot i, kindMismatch r n.descs) := by
  unfold givenApplied
  rw [h]
  dsimp only
  rw [hr]
  rfl

theorem givenApplied_of_missed {tt : ToolTable} {n : Node} (h : tt.find n.serial = none) :
    givenApplied tt n = (.default (defaultRecord n.serial n.descs), false) := by
  unfold givenApplied
  rw [h]

theorem addMiss_eq (serial : Serial) (l : List Serial) : addMiss serial l
    = if serial ∈ l then l else (if l.length < 4 then l else l.tail) ++ [serial] := by
  unfold addMiss
  simp only [List.contains_iff_mem]
  refine if_congr Iff.rfl rfl ?_
  by_cases hlen : l.length < 4
  · rw [if_pos hlen, if_neg (by omega)]
  · rw [if_neg hlen, if_pos (by omega)]

/-- A node at its first completion, by a STATUS: the record it is given, and what is raised. -/
theorem status_attaches {n : Node} {brush : Half} {floor : BitVec 2} {jam lamp fault : Bool}
    (hp : s.pack.power = .active) (hl : s.line.tpwr ≠ .off) (hr : s.line.resetting = none) (hn : nodeAt s n.addr = some n)
    (hw : s.line.await = some (.poll n.addr)) (hi : s.line.idle ≤ 6) (hfirst : firstTime n) :
    ∃ t m, exec (.status n.addr brush floor jam lamp fault) s = .next t ∧ nodeAt t n.addr = some m
      ∧ m.applied = (givenApplied s.tools n).1 ∧ m.mismatch = (givenApplied s.tools n).2
      ∧ hasEvent .toolAttach t = true ∧ t.tools.slots = s.tools.slots
      ∧ (∀ i, s.tools.find n.serial = some i → t.tools.order = touch i s.tools.order ∧ t.tools.miss = s.tools.miss)
      ∧ (s.tools.find n.serial = none → t.tools.order = s.tools.order ∧ t.tools.miss = addMiss n.serial s.tools.miss
          ∧ hasEvent .toolMiss t = true) := by
  obtain ⟨rec, hrec⟩ := recordAfter_exists s n
  obtain ⟨first, hiff, ⟨hnode, -⟩, -, -, hattached⟩ := statusTaken_facts (s := frameHeard (awaitEnded s))
    ⟨brush.toNat, floorClass floor, jam, lamp, fault⟩ hl hn hrec
  obtain rfl : first = true := hiff.mpr hfirst
  obtain ⟨htools, hevents⟩ := hattached hfirst
  obtain ⟨-, hslots, -, -, -, hattach, hfound, hmissed⟩ := attached_facts (s := frameHeard (awaitEnded s)) hn
  have hexec := exec_status (x := n.addr) (brush := brush) (floor := floor) (jam := jam) (lamp := lamp) (fault := fault) hp
  rw [takeStatus_of_window _ (lineUp_of_up hp hl hr) hn hw hi] at hexec
  obtain ⟨m, hm, hentry⟩ := conclude_entry hnode
  refine ⟨_, m, hexec, hm, (congrArg Node.applied hentry :), (congrArg Node.mismatch hentry :),
    conclude_keeps _ _ (hevents _ hattach), ?_⟩
  rw [conclude_tools, htools]
  refine ⟨hslots, hfound, fun hnone => ?_⟩
  obtain ⟨horder, hmiss, hevent⟩ := hmissed hnone
  exact ⟨horder, hmiss, conclude_keeps _ _ (hevents _ hevent)⟩

end Sys2Proof.Machine
end

section
namespace Sys2Proof.Machine

variable {s t u : State} {a : Arb} {sl : Slot}

/-! ## Sustain counts at 0 through the hand-overs (R90, R91) -/

/-- The sustain counts of the load monitor are at 0. -/
def countsAtZero (s : State) : Prop := s.load.rise = 0 ∧ s.load.block = 0 ∧ s.load.release = 0

theorem countsAtZero_of_load (h : t.load = s.load) (hs : countsAtZero s) : countsAtZero t := by
  unfold countsAtZero
  rw [h]
  exact hs

theorem countsAtZero_ite {c : Prop} [Decidable c] (ht : countsAtZero t) (hu : countsAtZero u) :
    countsAtZero (if c then t else u) := by
  split
  · exact ht
  · exact hu

theorem countsAtZero_leaveRun (s : State) : countsAtZero (leaveRun s) := by
  obtain ⟨-, -, -, hload⟩ := dirtRunExit_facts (loadRest s)
  exact countsAtZero_of_load (s := loadRest s) hload ⟨rfl, rfl, rfl⟩

theorem countsAtZero_changeState (new : MotorState) (h : countsAtZero s) : countsAtZero (changeState new s) :=
  countsAtZero_ite (countsAtZero_leaveRun _) h

theorem countsAtZero_askRecompute (h : countsAtZero s) : countsAtZero (askRecompute s) := countsAtZero_ite h h

theorem countsAtZero_setActive (b : Bool) (h : countsAtZero s) : countsAtZero (setActive b s) :=
  countsAtZero_ite h (countsAtZero_askRecompute h)

theorem countsAtZero_enterRest (new : MotorState) (h : countsAtZero s) : countsAtZero (enterRest new s) := by
  have hleft (u : State) (hu : countsAtZero u) : countsAtZero (leaveAttachWait u) :=
    countsAtZero_of_load (congrArg State.load (leaveAttachWait_besideDock u) :) hu
  exact hleft _ (countsAtZero_setActive false (countsAtZero_changeState new h))

theorem countsAtZero_reachOff (h : countsAtZero s) : countsAtZero (reachOff s) :=
  countsAtZero_ite (countsAtZero_enterRest .off h) (countsAtZero_enterRest .off h)

theorem countsAtZero_stopOrder (c : StopCause) (h : countsAtZero s) : countsAtZero (stopOrder c s) := by
  have hchange : countsAtZero (zeroSetPoint (changeState .stopping { s with drive := { s.drive with stopCause := c } })) :=
    countsAtZero_changeState .stopping (s := { s with drive := { s.drive with stopCause := c } }) h
  exact countsAtZero_ite (countsAtZero_ite (countsAtZero_reachOff hchange) hchange) h

theorem countsAtZero_limitSetPoint (h : countsAtZero s) : countsAtZero (limitSetPoint s) := by
  unfold limitSetPoint
  split
  · exact h
  · exact h

theorem countsAtZero_grantArrives (g : Nat) (h : countsAtZero s) : countsAtZero (grantArrives g s) := by
  have hheld : countsAtZero (grantHeld g s) := countsAtZero_ite h h
  rw [grantArrives_eq]
  exact countsAtZero_ite (countsAtZero_stopOrder _ hheld) (countsAtZero_limitSetPoint hheld)

theorem countsAtZero_handWatch (h : countsAtZero s) : countsAtZero (handWatch s) := by
  obtain ⟨v, w, hv, hw, hhanded⟩ := handWatch_eq s
  have hlimited : countsAtZero w := by
    rw [hw, hv]
    exact countsAtZero_ite h (countsAtZero_limitSetPoint h)
  rw [hhanded]
  exact countsAtZero_ite hlimited (countsAtZero_of_load (congrArg State.load (pauseOrderChanged_besideDock _ w) :) hlimited)

theorem countsAtZero_queueCaps (l : List Addr) (h : countsAtZero s) : countsAtZero (queueCaps l s) := by
  obtain ⟨q, w, hq⟩ := queueCaps_writes l s
  exact countsAtZero_of_load (congrArg State.load hq) h

theorem countsAtZero_setTpwr (l : Tpwr) (c : ReleaseCause) (h : countsAtZero s) : countsAtZero (setTpwr l c s) := by
  have hdiscarded : countsAtZero (discardCaps { s with line := { s.line with tpwr := l } }) := h
  unfold setTpwr
  split
  · exact h
  · have hreleased (v : State) (hv : countsAtZero v) : countsAtZero (forcedRelease c v) := countsAtZero_askRecompute hv
    have hinner : countsAtZero (if s.line.tpwr = .full then
        forcedRelease c { discardCaps { s with line := { s.line with tpwr := l } } with
          arb := { s.arb with supCount := 0 } }
        else discardCaps { s with line := { s.line with tpwr := l } }) := countsAtZero_ite (hreleased _ hdiscarded) hdiscarded
    exact countsAtZero_askRecompute (countsAtZero_ite hinner hinner)

theorem countsAtZero_handTools (h : countsAtZero s) : countsAtZero (handTools s) := by
  have hqueued : countsAtZero (queueCaps (handedNodes s.arb) (newsMarked s)) := countsAtZero_queueCaps _ h
  rw [handTools_eq]
  exact countsAtZero_ite (countsAtZero_setTpwr _ _ hqueued)
    (countsAtZero_ite (countsAtZero_setTpwr _ _ hqueued) hqueued)

theorem countsAtZero_take (g : Signal) (h : countsAtZero s) : countsAtZero (take g s) := by
  have hraised (b : Bool) (e : Event) (v : State) (hv : countsAtZero v) : countsAtZero (raiseIf b e v) :=
    countsAtZero_of_load (raiseIf_load _ _ _) hv
  cases g with
  | recompute =>
    have hformed : countsAtZero (handTools (tableFormed s)) := countsAtZero_handTools (hraised _ _ _ h)
    exact countsAtZero_ite hformed (countsAtZero_grantArrives _ hformed)
  | update q v =>
    change countsAtZero (watchUpdate q v s)
    unfold watchUpdate
    dsimp only
    refine countsAtZero_handWatch ?_
    have hwatched (b : Bool) (w : WatchUnit) : countsAtZero (raiseIf b .watchFired { s with watch := w }) := hraised _ _ _ h
    exact countsAtZero_ite (countsAtZero_stopOrder _ (hwatched _ _)) (hwatched _ _)
  | stop c => exact countsAtZero_stopOrder c h
  | cutoffStop =>
    have hfree : countsAtZero { s with free := s.free + 1 } := h
    exact countsAtZero_ite (countsAtZero_ite (countsAtZero_stopOrder _ hfree) (countsAtZero_grantArrives _ hfree))
      (countsAtZero_stopOrder _ h)
  | startCheck =>
    have harming : countsAtZero (enterArming s) := countsAtZero_setActive true
      (countsAtZero_changeState .arming (s := { s with drive := { s.drive with startPending := false } }) h)
    exact countsAtZero_ite (countsAtZero_ite harming (countsAtZero_ite h h)) h

theorem countsAtZero_drain (n : Nat) (h : countsAtZero s) : countsAtZero (drain n s) := by
  induction n generalizing s with
  | zero => exact h
  | succ n ih =>
    unfold drain
    split
    · exact h
    · exact ih (countsAtZero_take _ h)

theorem countsAtZero_conclude (h : countsAtZero s) : countsAtZero (conclude s) :=
  countsAtZero_of_load (finish_load _) (countsAtZero_drain 400 h)

/-! ## The figures of a record delivered to the governor (R134, R91) -/

/-- The governor holds the figures of a record, and the sustain counts are at 0. -/
def figuresDelivered (r : ToolRecord) (s : State) : Prop :=
  s.gov.factor = r.airflow ∧ s.gov.curve = r.curve ∧ countsAtZero s

theorem figuresDelivered_of_eq {r : ToolRecord} (hfactor : t.gov.factor = s.gov.factor) (hcurve : t.gov.curve = s.gov.curve)
    (hload : t.load = s.load) (h : figuresDelivered r s) : figuresDelivered r t :=
  ⟨hfactor.trans h.1, hcurve.trans h.2.1, countsAtZero_of_load hload h.2.2⟩

theorem figuresDelivered_ite {c : Prop} [Decidable c] {r : ToolRecord} (ht : figuresDelivered r t) (hu : figuresDelivered r u) :
    figuresDelivered r (if c then t else u) := by
  split
  · exact ht
  · exact hu

theorem figuresDelivered_conclude {r : ToolRecord} (h : figuresDelivered r s) : figuresDelivered r (conclude s) :=
  ⟨(conclude_gov Gov.factor (fun _ => rfl) s).trans h.1, (conclude_gov Gov.curve (fun _ => rfl) s).trans h.2.1,
    countsAtZero_conclude h.2.2⟩

theorem figuresDelivered_refreshTools {r : ToolRecord} (h : figuresDelivered r s) : figuresDelivered r (refreshTools s) := by
  have hasked (u : State) (hu : figuresDelivered r u) : figuresDelivered r (askRecompute u) := figuresDelivered_ite hu hu
  have hqueued (l : List Addr) (u : State) (hu : figuresDelivered r u) : figuresDelivered r (queueCaps l u) := by
    obtain ⟨q, w, hq⟩ := queueCaps_writes l u
    rw [hq]
    exact hu
  have hmembers (u : State) (hu : figuresDelivered r u) : figuresDelivered r (deriveMembers u) :=
    figuresDelivered_ite hu (hasked _ (hqueued _ _ hu))
  have hfloor (u : State) (hu : figuresDelivered r u) : figuresDelivered r (deriveFloor u) := figuresDelivered_ite hu hu
  have hclaims (u : State) (hu : figuresDelivered r u) : figuresDelivered r (deliverClaims u) :=
    figuresDelivered_ite hu (hasked { u with arb := claimsEntered u } hu)
  exact hclaims _ (hfloor _ (hmembers s h))

theorem figuresDelivered_deliverNozzle {x : Addr} {n : Node} {r : ToolRecord} (hz : s.tools.nozzle = some x)
    (hn : nodeAt s x = some n) (hr : appliedRecord s n = some r) : figuresDelivered r (deliverNozzle s) := by
  have hsource : (s.tools.nozzle.bind (nodeAt s)).bind (appliedRecord s) = some r := by
    rw [hz, Option.bind_some, hn, Option.bind_some, hr]
  rw [deliverNozzle_eq hsource]
  exact ⟨rfl, rfl, rfl, rfl, rfl⟩

end Sys2Proof.Machine
end

section
namespace Sys2Proof.Machine

variable {s t u : State} {a : Arb} {sl : Slot}

/-! ## A record handed to its entry (R133, R134) -/

/-- A change of one entry leaves the others. -/
theorem nodeAt_setNode_ne {x y : Addr} {f : Node → Node} (hf : ∀ m, (f m).addr = m.addr) (h : y ≠ x) :
    nodeAt (setNode x f s) y = nodeAt s y := by
  have hlist (l : List Node) : (l.map fun m => if m.addr == x then f m else m).find? (·.addr == y) = l.find? (·.addr == y) := by
    induction l with
    | nil => rfl
    | cons m ms ih =>
      rw [List.map_cons, List.find?_cons, List.find?_cons, ih]
      by_cases hm : m.addr = x
      · have hne : (m.addr == y) = false := by simpa using fun hy => h (hy.symm.trans hm)
        rw [if_pos (by simpa using hm), hf, hne]
      · rw [if_neg (by simpa using hm)]
  exact hlist s.line.nodes

/-- The entry with the flags a record does not declare cleared. -/
def Node.keepFlags (r : ToolRecord) (n : Node) : Node :=
  { n with jam := n.jam && decide (0 < r.brush), lamp := n.lamp && decide (0 < r.lamp) }

theorem nodeAt_clearStaleFlags {x : Addr} {n : Node} {r : ToolRecord} (h : nodeAt s x = some n) (hr : appliedRecord s n = some r) :
    nodeAt (clearStaleFlags x s) x = some (n.keepFlags r) := by
  obtain ⟨hbrush, hlamp⟩ := declares_of_record hr
  have hset := nodeAt_setNode (f := fun n => { n with jam := n.jam && declaresBrush s n, lamp := n.lamp && declaresLamp s n })
    (fun _ => rfl) h
  rw [hbrush, hlamp] at hset
  exact hset

/-- The state at a hand-over of a record before the tool claims are formed again. -/
def recordTaken (x : Addr) (s : State) : State :=
  if s.tools.nozzle = some x then deliverNozzle (clearStaleFlags x s) else clearStaleFlags x s

theorem handRecord_eq (x : Addr) (s : State) : handRecord x s = refreshTools (recordTaken x s) := rfl

theorem recordTaken_nodes (x : Addr) (s : State) : (recordTaken x s).line.nodes = (clearStaleFlags x s).line.nodes := by
  unfold recordTaken
  split
  · rfl
  · rfl

theorem nodeAt_handRecord (x y : Addr) (s : State) : nodeAt (handRecord x s) y = nodeAt (clearStaleFlags x s) y := by
  rw [handRecord_eq]
  exact nodeAt_of_line ((refreshTools_nodes _).trans (recordTaken_nodes x s))

theorem nodeAt_handRecord_ne {x y : Addr} (h : y ≠ x) : nodeAt (handRecord x s) y = nodeAt s y :=
  (nodeAt_handRecord x y s).trans (nodeAt_setNode_ne (fun _ => rfl) h)

/-- Where the entry is the nozzle source, its record's figures are delivered. -/
theorem handRecord_delivers {x : Addr} {n : Node} {r : ToolRecord} (h : nodeAt s x = some n) (hr : appliedRecord s n = some r)
    (hz : s.tools.nozzle = some x) : figuresDelivered r (handRecord x s) := by
  have htaken : recordTaken x s = deliverNozzle (clearStaleFlags x s) := if_pos hz
  rw [handRecord_eq, htaken]
  exact figuresDelivered_refreshTools (figuresDelivered_deliverNozzle (s := clearStaleFlags x s) hz (nodeAt_clearStaleFlags h hr) hr)

theorem handRecord_event (x : Addr) (s : State) (i : Nat) (h : s.host.events.getLsbD i = true) :
    (handRecord x s).host.events.getLsbD i = true := by
  rw [handRecord_eq]
  refine refreshTools_keeps _ _ ?_
  unfold recordTaken
  split
  · exact h
  · exact h

/-! ## The entries a record concerns -/

theorem find?_of_only {α : Type} {l : List α} {p : α → Bool} {x : α} (hx : x ∈ l) (hp : p x = true)
    (honly : ∀ y ∈ l, p y = true → y = x) : l.find? p = some x := by
  obtain ⟨y, hy⟩ := Option.isSome_iff_exists.mp (List.find?_isSome.mpr ⟨x, hx, hp⟩)
  rw [hy, honly y (List.mem_of_find?_eq_some hy) (List.find?_some hy)]

theorem attachedSerial_of_mem {n : Node} (hlaw : nodeLaw s) (hn : n ∈ s.line.nodes) (hc : n.completed = true) :
    attachedSerial s n.serial = some n :=
  find?_of_only (mem_attachedNodes.mpr ⟨hn, hc⟩) (beq_self_eq_true n.serial) fun m hm hserial =>
    node_unique_of_serial hlaw (mem_attachedNodes.mp hm).1 hn (by simpa using hserial)

/-- The record an entry follows is of its serial, and the entry is the only one that follows it. -/
theorem userOf_of_applied {n : Node} {i : Fin 8} (hlaw : nodeLaw s) (htable : tableLaw s) (hn : n ∈ s.line.nodes)
    (happ : n.applied = .slot i) : userOf s i = some n := by
  obtain ⟨-, -, -, -, hfollow⟩ := htable
  obtain ⟨hc, r, hr, hserial⟩ := hfollow n hn i happ
  refine find?_of_only (mem_attachedNodes.mpr ⟨hn, hc⟩) (by rw [happ]; exact beq_self_eq_true _) fun m hm hm' => ?_
  have hmem := (mem_attachedNodes.mp hm).1
  obtain ⟨-, q, hq, hserial'⟩ := hfollow m hmem i (by simpa using hm')
  obtain rfl := Option.some.inj (hr.symm.trans hq)
  exact node_unique_of_serial hlaw hmem hn (hserial'.symm.trans hserial)

theorem find_of_applied {n : Node} {i : Fin 8} (htable : tableLaw s) (hn : n ∈ s.line.nodes) (happ : n.applied = .slot i) :
    s.tools.find n.serial = some i := by
  obtain ⟨hone, -, -, -, hfollow⟩ := htable
  obtain ⟨-, r, hr, hserial⟩ := hfollow n hn i happ
  refine find?_of_only (mem_slotIndices i) (holds_iff.mpr ⟨r, hr, hserial⟩) fun j _ hj => ?_
  obtain ⟨q, hq, hserial'⟩ := holds_iff.mp hj
  exact hone j i q r hq hr (hserial'.trans hserial.symm)

/-! ## A record dropped (R137) -/

/-- A dropped record of another serial leaves the entry and the nozzle source. -/
theorem dropRecord_of_other {n : Node} {i : Fin 8} (hlaw : nodeLaw s) (hn : n ∈ s.line.nodes) (happ : n.applied ≠ .slot i) :
    nodeAt (dropRecord i s) n.addr = some n := by
  unfold dropRecord
  dsimp only
  cases huser : userOf s i with
  | none => exact nodeAt_of_mem hn hlaw
  | some m =>
    obtain ⟨hm, happ'⟩ := mem_of_userOf huser
    have hne : n.addr ≠ m.addr := fun h => happ (node_unique_of_addr hlaw hn hm h ▸ happ')
    refine (nodeAt_handRecord_ne hne).trans ?_
    exact (nodeAt_setNode_ne (s := { s with tools := s.tools.invalidate i })
      (f := fun m => { m with applied := .default (defaultRecord m.serial m.descs), mismatch := false }) (fun _ => rfl)
      hne).trans (nodeAt_of_mem hn hlaw)

/-- The state in which a default record is handed to the entry of a dropped record. -/
theorem dropRecord_of_user {n : Node} {i : Fin 8} (h : userOf s i = some n) :
    dropRecord i s = handRecord n.addr (turnToDefault i n s) := by
  unfold dropRecord turnToDefault
  rw [h]

theorem mem_addMiss_self (serial : Serial) (l : List Serial) : serial ∈ addMiss serial l := by
  rw [addMiss_eq]
  split
  · assumption
  · exact List.mem_append_right _ (List.mem_singleton.mpr rfl)

/-- A dropped record in use: its entry turns to a default record, the figures follow, and a miss is recorded. -/
theorem dropRecord_facts {n : Node} {i : Fin 8} (hlaw : nodeLaw s) (hn : n ∈ s.line.nodes) (h : userOf s i = some n) :
    let t := dropRecord i s
    let r := defaultRecord n.serial n.descs
    nodeAt t n.addr = some (({ n with applied := .default r, mismatch := false } : Node).keepFlags r)
      ∧ (s.tools.nozzle = some n.addr → figuresDelivered r t)
      ∧ hasEvent .toolMiss t = true ∧ n.serial ∈ t.tools.miss ∧ t.tools.slots[i] = none := by
  obtain ⟨r, hr⟩ : ∃ r, r = defaultRecord n.serial n.descs := ⟨_, rfl⟩
  have hnode : nodeAt (turnToDefault i n s) n.addr = some { n with applied := .default r, mismatch := false } := by
    rw [hr]
    exact nodeAt_setNode (s := { s with tools := s.tools.invalidate i })
      (f := fun n => { n with applied := .default (defaultRecord n.serial n.descs), mismatch := false }) (fun _ => rfl)
      (nodeAt_of_mem hn hlaw)
  have hrec : appliedRecord (turnToDefault i n s) { n with applied := .default r, mismatch := false } = some r := rfl
  have hmissed : hasEvent .toolMiss (turnToDefault i n s) = true := hasEvent_raise _ _
  dsimp only
  rw [← hr, dropRecord_of_user h, nodeAt_handRecord, handRecord_tools]
  exact ⟨nodeAt_clearStaleFlags hnode hrec, fun hz => handRecord_delivers hnode hrec hz,
    handRecord_event _ _ _ hmissed, mem_addMiss_self _ _, Vector.getElem_set_self _⟩

/-! ## A record placed (R135, R136) -/

/-- A record placed for the serial of an attached entry becomes its applied record. -/
theorem placeRecord_facts {n : Node} {i : Fin 8} {r : ToolRecord} (hlaw : nodeLaw s) (hn : nodeAt s n.addr = some n)
    (hc : n.completed = true) (hserial : r.serial = n.serial) : let t := placeRecord i r s
    nodeAt t n.addr = some (({ n with applied := .slot i, mismatch := kindMismatch r n.descs } : Node).keepFlags r)
      ∧ (s.tools.nozzle = some n.addr → figuresDelivered r t) := by
  obtain ⟨v, hv⟩ : ∃ v, v = { s with tools := s.tools.write i r } := ⟨_, rfl⟩
  have hvn : nodeAt v n.addr = some n := hv ▸ hn
  have hnozzle : v.tools.nozzle = s.tools.nozzle := hv ▸ rfl
  have hslot : v.tools.slots[i] = some r := by
    rw [hv]
    exact Vector.getElem_set_self _
  have hattached : attachedSerial v r.serial = some n := by
    rw [hserial]
    exact attachedSerial_of_mem (hv ▸ hlaw) (mem_of_nodeAt hvn).1 hc
  have hplaced : placeRecord i r s = handRecord n.addr (applySlot n.addr i r v) := by
    unfold placeRecord
    rw [← hv]
    dsimp only
    rw [hattached]
  have hnode : nodeAt (applySlot n.addr i r v) n.addr = some { n with applied := .slot i, mismatch := kindMismatch r n.descs } :=
    nodeAt_setNode (f := fun n => { n with applied := .slot i, mismatch := kindMismatch r n.descs }) (fun _ => rfl) hvn
  dsimp only
  rw [hplaced, nodeAt_handRecord, ← hnozzle]
  exact ⟨nodeAt_clearStaleFlags hnode hslot, fun hz => handRecord_delivers hnode hslot hz⟩

/-- A loaded record of the serial of an attached entry, with an eviction or without. -/
theorem loaded_facts {n : Node} {r : ToolRecord} {p : Placement} (hlaw : nodeLaw s) (htable : tableLaw s)
    (hn : n ∈ s.line.nodes) (hc : n.completed = true) (hserial : r.serial = n.serial)
    (hp : s.tools.place r.serial = some p) : let t := loaded p r s
    nodeAt t n.addr = some (({ n with applied := .slot p.slot, mismatch := kindMismatch r n.descs } : Node).keepFlags r)
      ∧ (s.tools.nozzle = some n.addr → figuresDelivered r t) := by
  have hkeeps : Keeps [.records] [] s (dropRecord p.slot s) := keeps_dropRecord (List.mem_singleton.mpr rfl)
  have hlaw' : nodeLaw (dropRecord p.slot s) := hkeeps.laws .node List.not_mem_nil hlaw
  have hnozzle : (dropRecord p.slot s).tools.nozzle = s.tools.nozzle := by
    rw [dropRecord_tools]
    rfl
  unfold loaded
  split
  · rename_i hevict
    have hfind : s.tools.find r.serial = none := by
      rcases place_eq_some hp with ⟨he, -⟩ | ⟨he, -⟩ | ⟨-, hfind⟩
      · exact nomatch hevict.symm.trans he
      · exact nomatch hevict.symm.trans he
      · exact hfind
    rw [hserial] at hfind
    have happ : n.applied ≠ .slot p.slot := fun happ => nomatch hfind.symm.trans (find_of_applied htable hn happ)
    rw [← hnozzle]
    exact placeRecord_facts hlaw' (dropRecord_of_other hlaw hn happ) hc hserial
  · exact placeRecord_facts hlaw (nodeAt_of_mem hn hlaw) hc hserial

/-! ## The record of a node -/

/-- The figures at the end of a served request. -/
theorem figuresDelivered_served {r : ToolRecord} {kind tag : Byte} {st : Status} {b : List Byte} (h : figuresDelivered r s) :
    let t := conclude (replied kind tag st b s)
    t.gov.factor = r.airflow ∧ t.gov.curve = r.curve ∧ t.load.rise = 0 ∧ t.load.block = 0 ∧ t.load.release = 0 :=
  figuresDelivered_conclude (s := replied kind tag st b s) h

/-- Settles O31: the default record, the record a node is given, the nozzle source, and a record in use. -/
theorem aNodeIsGivenItsRecord : Obligations.ANodeIsGivenItsRecord := by
  refine ⟨defaultRecord_facts, fun x brush floor jam lamp fault n s hp hl hr hn hw hi hc hs => ?_, deriveNozzle_eq,
    fun tag s n hs hlaw htable hn hc => ⟨fun f r p hr hserial hp => ?_, fun i happ => ?_⟩⟩
  · obtain ⟨-, rfl⟩ := mem_of_nodeAt hn
    obtain ⟨t, m, hexec, hm, happlied, hmismatch, hattach, hslots, hfound, hmissed⟩ :=
      status_attaches (brush := brush) (floor := floor) (jam := jam) (lamp := lamp) (fault := fault) hp hl hr hn hw hi ⟨hs, hc⟩
    refine ⟨t, m, hexec, hm, hattach, hslots, fun i r hfind hr => ?_, fun hnone => ?_⟩
    · obtain ⟨horder, hmiss⟩ := hfound i hfind
      rw [givenApplied_of_found hfind hr] at happlied hmismatch
      exact ⟨happlied, horder, hmismatch.trans (kindMismatch_eq r n.serial n.descs), hmiss⟩
    · obtain ⟨horder, hmiss, hevent⟩ := hmissed hnone
      rw [givenApplied_of_missed hnone] at happlied hmismatch
      exact ⟨happlied, hmismatch, hevent, horder, hmiss.trans (addMiss_eq n.serial s.tools.miss)⟩
  · obtain ⟨hnode, hfigures⟩ := loaded_facts hlaw htable hn hc hserial hp
    obtain ⟨m, hm, hentry⟩ := conclude_entry (s := replied 0x38 tag .ok (toolLoadPayload p r s) (loaded p r s)) hnode
    have hmismatch : m.mismatch = kindMismatch r n.descs := (congrArg Node.mismatch hentry :)
    exact ⟨_, m, exec_toolLoad hs hr hp, hm, (congrArg Node.applied hentry :),
      hmismatch.trans (kindMismatch_eq r n.serial n.descs), (congrArg Node.jam hentry :), (congrArg Node.lamp hentry :),
      (congrArg Node.descs hentry :), (congrArg Node.state hentry :), fun hz => figuresDelivered_served (hfigures hz)⟩
  · obtain ⟨hnode, hfigures, hevent, hmiss, hslot⟩ := dropRecord_facts hlaw hn (userOf_of_applied hlaw htable hn happ)
    obtain ⟨m, hm, hentry⟩ := conclude_entry (s := replied 0x39 tag .ok
      (u8 i.val ++ optAddr ((userOf s i).map (·.addr))) (dropRecord i s)) hnode
    refine ⟨_, m, exec_toolDrop hs (find_of_applied htable hn happ), hm, ?_, ⟨(congrArg Node.applied hentry :),
      (congrArg Node.mismatch hentry :), (congrArg Node.jam hentry :), (congrArg Node.lamp hentry :),
      fun hz => figuresDelivered_served (hfigures hz)⟩, conclude_keeps _ _ hevent, ?_⟩
    · rw [conclude_tools, replied_tools]
      exact hslot
    · rw [conclude_tools, replied_tools]
      exact hmiss

end Sys2Proof.Machine
end

end
